-- ==== Sys2Proof/Word.lean ====
section
/-! DEFINITION. The word types of the ZD96 and the shape of every sparse table of the model.
A register is 32 bits wide (R9), the Wheel 64 (R25), the short wheel 48 (R26). -/

namespace Sys2Proof

/-- One byte of a descriptor, packet, frame or record. -/
abbrev Byte := BitVec 8

/-- One BAR0 set-up register (R9). -/
abbrev Word := BitVec 32

/-- A Wheel value (R25). -/
abbrev Wheel := BitVec 64

/-- A short-wheel value, Wheel[47:0] (R26). -/
abbrev Short := BitVec 48

/-- A sparse table: keys strictly rising, and no entry equal to what an unlisted key reads as
(`Tab.wf` in Machine/Ops.lean states both). -/
abbrev Tab (α : Type) := List (Nat × α)

end Sys2Proof
end

