-- ==== Sys2Proof/Syntax.lean ====
section
/-! DEFINITION. The commands that the ZD96 takes from outside, one constructor of `Instr` for each row of the
spec's table of operations and events, with the plain data that a command carries.
A descriptor row carries the ring it is taken from and the descriptor; a received frame, packet or reading carries the
bytes or the measured values, so that everything the environment decides is an operand. -/

namespace Sys2Proof

/-- The two memory BARs of the endpoint (R104). -/
inductive Bar where
  | bar0
  | bar2
deriving DecidableEq, Repr

/-- Where the ring engine takes a descriptor from: a host curd ring 0 to 7 (R108), or local ring LH or LR (R129). -/
inductive Src where
  | ring (n : Fin 8)
  | lh
  | lr
deriving DecidableEq, Repr

/-- A curd descriptor, Table DSC-1: OPCODE, FLAGS, SEQ, TARGET, AT and the twenty payload bytes 12 to 31. -/
structure Desc where
  op : Byte
  flags : Byte
  seq : BitVec 16
  target : BitVec 16
  at48 : Short
  payload : List Byte
deriving DecidableEq, Repr

/-- How a read of host memory fails (R132). -/
inductive RdErr where
  | ur
  | ca
  | poison
deriving DecidableEq, Repr

/-- The end of a read of one 8-byte host word: its value, or the failure (R110, R132). -/
inductive Rd where
  | ok (w : BitVec 64)
  | err (e : RdErr)
deriving DecidableEq, Repr

/-- Which outstanding ring read a command is about (R110, R115). -/
inductive RdKind where
  | doorbell (n : Fin 8)
  | head (m : Fin 4)
  | fetch (n : Fin 8)
deriving DecidableEq, Repr

/-- A ring read that times out, with the descriptors of its burst that arrived before the part that did not (R132). -/
structure LateRead where
  kind : RdKind
  got : List Desc
deriving DecidableEq, Repr

/-- A BAR0 read of any size and alignment (R9). -/
structure BarRead where
  off : Nat
  size : Nat
deriving DecidableEq, Repr

/-- What a host clears or sets of the MSI-X masks: a vector's own mask bit cleared, or the function mask as given (R123). -/
inductive MaskWrite where
  | vector (v : Fin 8)
  | function (on : Bool)
deriving DecidableEq, Repr

/-- A reading at a stage: mA of its current, or mV at VOS or of its bootstrap, as the row says (R176). -/
structure StageReading where
  n : Fin 16
  value : Nat
deriving DecidableEq, Repr

/-- The level that a trip input's ball shows (R293). -/
structure TripLevel where
  trip : Fin 4
  level : Bool
deriving DecidableEq, Repr

/-- COMMAs found on a port's line, by their symbol positions modulo 10 bits (R309). -/
structure CommaRx where
  port : Fin 3
  commas : List (Fin 10)
deriving DecidableEq, Repr

/-- Code groups received at a port, and whether the running disparity before them is positive (R308, R309). -/
structure LineRx where
  port : Fin 3
  groups : List (BitVec 10)
  rd : Bool
deriving DecidableEq, Repr

/-- What a power-on reset finds: whether V3 is out of lockout, and whether there is a crystal on WX_IN and WX_OUT (R54, R79). -/
structure PowerUp where
  v3 : Bool
  wx : Bool
deriving DecidableEq, Repr

/-- A symbol of the Hoop's line code: a data byte, a special code group (its byte in the K.x.y numbering), or an invalid code group (R308). -/
inductive Sym where
  | data (b : Byte)
  | special (b : Byte)
  | bad
deriving DecidableEq, Repr

/-- A captured SYNC ordered set or twin heartbeat (R313, R343): its 48 code groups, the running disparity before them (true for
positive), and the sixteenths of a tick of the capture of symbol 0 after the current tick. -/
structure SyncRx where
  groups : List (BitVec 10)
  rd : Bool
  frac16 : BitVec 4
deriving DecidableEq, Repr

/-- A shift section as it arrived (R312, R320): its code groups from symbol 48 of the frame on, and the running disparity before them. -/
structure ShiftRx where
  groups : List (BitVec 10)
  rd : Bool
deriving DecidableEq, Repr

/-- A routed packet, Table HOOP-6, without its framing symbols. -/
structure Packet where
  type : Byte
  dmode : Byte
  dest : BitVec 12
  src : BitVec 12
  tag : BitVec 16
  payload : List Byte
  crc : BitVec 32
deriving DecidableEq, Repr

/-- A routed packet as it arrived (R324): its code groups, /PS/ to /PE/, and the running disparity before them. -/
structure PktRx where
  groups : List (BitVec 10)
  rd : Bool
deriving DecidableEq, Repr

/-- A received radio frame (R362): its network access word, the PSDU, its CRC-24 field, the local Wheel tick at which its preamble began,
and the measured RSSI in dBm (R363). -/
structure RadioRx where
  access : Word
  psdu : List Byte
  crc : BitVec 24
  start : Nat
  rssi : Int
deriving DecidableEq, Repr

/-- What the Rind's converters and counters hold at a window end (R404, R405, R407): the means of the raw samples u (nV) and w (mV) and of
their products u × w, the tick count C, whether a sample met the converter's limit, each stage's mean raw product (µW), and whether the core
left the result with the hardware (R419). -/
structure RindWindow where
  rawNv : Int
  rawMv : Int
  rawProd : Int
  c : Nat
  overrange : Bool
  strUw : List Nat
  held : Bool
deriving DecidableEq, Repr

/-- The unit of a culture's duration register T (R245, TIME). -/
inductive TUnit where
  | steps
  | subs
deriving DecidableEq, Repr

/-- The kinds of timed culture instructions (R248). -/
inductive TimedKind where
  | ramp
  | hold
  | breathe
  | wave
deriving DecidableEq, Repr

/-- A timed instruction in progress (R248): its kind, resume mode, curve, target, cycle count, spacing, the WAVE limits,
T0, E, the length of one duration D, and the elapsed time at a preemption (R252). -/
structure Timed where
  kind : TimedKind
  res : Nat
  curve : Nat
  target : Nat
  cyc : Nat
  spacing : Nat
  lo : Nat
  hi : Nat
  t0 : Int
  e : Int
  dur : Nat
  ep : Nat
  subs : Bool
deriving DecidableEq, Repr

/-- A culture context (R244, R252): PC, the selection as first position and count, T, the anchor, the timed
instruction in progress, the start levels, and the WAIT in progress with its event count. -/
structure Ctx where
  pc : Nat
  selFirst : Nat
  selCount : Nat
  tUnit : TUnit
  tVal : Nat
  anchor : Option Int
  timed : Option Timed
  starts : Tab Nat
  waiting : Bool
  waitCnt : Nat
  waitFrom : Int
deriving DecidableEq, Repr

/-- A mirrored Ripener snapshot (RIP_SNAP of Table TWN-2): the step tick, whether it runs, its host pause, the latched triggers, the
registers, the context, the resume frame, the handler, the mask, the group, and per position the output with its fraction and the fade
rate. -/
structure RipSnap where
  n : Fin 12
  tick : Nat
  run : Bool
  hostPause : Bool
  latch : Tab (Option Word)
  regs : List Word
  ctx : Ctx
  frame : Option Ctx
  handler : Option (Fin 4)
  mask : BitVec 4
  group : List Nat
  outs : Tab Nat
  fades : Tab Nat
deriving DecidableEq, Repr

/-- One colour class as a CLR record carries it (Table TWN-2). `trim` is the loop trim in 1/65,536 of an LSB. -/
structure ClrRec where
  lamp : Nat
  trim : Nat
  target : Nat
  state : Nat
  returning : Bool
  hold : Nat
  good : Nat
  lastGood : Nat
deriving DecidableEq, Repr

/-- A neighbour of the radio (R382, R392, R395): its EUI-64, SESSION and role, the highest counters accepted under the key index in
force and under the one before, the drift estimate and the tick of the last exchange. -/
structure Nbr where
  eui : BitVec 64 := 0
  session : Word := 0
  role : Nat := 0
  known : Bool := false
  fcNow : Option Nat := none
  fcOld : Option Nat := none
  delta : Int := 0
  lastEx : Option Nat := none
deriving DecidableEq, Repr

/-- A routing entry of the Ozhild table (R387). -/
structure OzRoute where
  lo : BitVec 16
  hi : BitVec 16
  next : BitVec 16
  owner : BitVec 16
  valid : Bool
  drop : Bool
  auto : Bool
deriving DecidableEq, Repr

/-- A node of the coordinator's address table (R385). -/
structure Node where
  eui : BitVec 64
  short : BitVec 16
  session : Word
  role : Nat
  via : BitVec 16
deriving DecidableEq, Repr

/-- The Ozhild network state that a coordinator holds, as OZH_SNAP records carry it (R346, R355). -/
structure OzhNet where
  st : Nat
  asnOfs : Int
  nk : Option (BitVec 128)
  jk : Option (BitVec 128)
  keyIdx : Word
  session : Word
  short : BitVec 16
  depth : BitVec 8
  parent : BitVec 16
  meshId : BitVec 16
  sfLen : Nat
  block : BitVec 40
  sessionCtr : Word
  nbrs : Tab Nbr
  nodes : List Node
  routes : Tab OzRoute
deriving DecidableEq, Repr

/-- The records of a mirror frame, Table TWN-2 (END is the row itself). `swap` is the SETUP-class delta of R356. -/
inductive MirRec where
  | sec (fc : Word) (key : Byte)
  | tempo (a : Short) (pq : BitVec 48) (beat : Word) (s l st : Byte)
  | clr (cs : List ClrRec)
  | setup (off : Nat) (staged : Bool) (val : Word)
  | cult (off : Nat) (ws : List Word)
  | chan (first : Nat) (cs : List (BitVec 16 × Byte × BitVec 16))
  | cueAdd (idx : Nat) (origin : Byte) (acc : Short) (d : Desc)
  | cueDone (idx : Nat) (status : Byte)
  | ripSnap (r : RipSnap)
  | harpSnap (n : Fin 8) (pocket tx : List Word)
  | ozhSnap (net : OzhNet)
  | swap (b : Nat)
deriving DecidableEq, Repr

/-- The commands of the ZD96: one constructor for each row of the table of operations and events, in the table's order but for the rows of
the supplies, the wake sequence and the debug halt that carry no operand, which stand last. -/
inductive Instr where
  /-- REGISTER_WRITE (R10): A set-up register write to a register with no row of its own, from BAR0 or a Hoop routed packet, is handled by the access class of each field. -/
  | registerWrite (src : BitVec 16) (bar : Bar) (off size : Nat) (val : BitVec 64)
  /-- WHL_NOW_LO_READ (R45): A read of WHL_NOW_LO returns Wheel[31:0] and latches Wheel[63:32] into WHL_NOW_HI. -/
  | whlNowLoRead (r : BarRead)
  /-- OZH_ASN_LO_READ (R401): A read of OZH_ASN_LO latches OZH_ASN_HI. -/
  | ozhAsnLoRead (r : BarRead)
  /-- RND_E_IN_LO_READ (R422): A read of RND_E_IN_LO latches RND_E_IN_HI. -/
  | rndEInLoRead (r : BarRead)
  /-- RND_RTIME_LO_READ (R422): A read of RND_RTIME_LO latches RND_RTIME_HI. -/
  | rndRtimeLoRead (r : BarRead)
  /-- NUDGE (R112): A write to NUDGE requests an immediate read of the doorbell words and whey head words whose bits are set. -/
  | nudge (val : BitVec 32)
  /-- RING_ABI_HOST_WRITE (R126): A write of the host ABI is judged at once and sets RING_ABI to ACCEPTED or REJECTED. -/
  | ringAbiHostWrite (src : BitVec 16) (val : BitVec 32)
  /-- PWR_MODE_REQ (R82): A write to PWR_MODE_REQ requests the coded mode, which is judged under R82. -/
  | pwrModeReq (src : BitVec 16) (val : BitVec 32)
  /-- RESTART (R94): PWR_CMD.RESTART performs a warm reset and then a wake sequence with cause RESTART. -/
  | restart (src : BitVec 16)
  /-- STR_COMMIT (R196): The STR_ COMMIT strobe applies the staged string fields at the next dimming period. -/
  | strCommit (src : BitVec 16)
  /-- MTX_COMMIT (R213): The MTX_ COMMIT strobe applies the staged matrix fields at the next scan frame. -/
  | mtxCommit (src : BitVec 16)
  /-- CLR_COMMIT (R235): The CLR_CMD COMMIT strobe applies the staged colour tables at the next evaluation. -/
  | clrCommit (src : BitVec 16)
  /-- CLR_ARM (R228): A CLR_CMD ARM strobe lets an open light loop close after 8 good samples. -/
  | clrArm (src : BitVec 16) (bits : BitVec 8)
  /-- RIP_COMMIT (R259): The RIP_CMD COMMIT strobe applies the staged user curves at the next Ripener step. -/
  | ripCommit (src : BitVec 16)
  /-- HOOP_COMMIT (R341): The HOOP_CMD COMMIT strobe applies the staged slice fields. -/
  | hoopCommit (src : BitVec 16)
  /-- OZH_COMMIT (R400): The OZH_CMD COMMIT strobe installs the staged key and block mask and clears OZH_KEY_0 to OZH_KEY_3. -/
  | ozhCommit (src : BitVec 16)
  /-- FLUSH_TX (R273): HRP_CMD.FLUSH_TX empties a Harp's TX queue at once. -/
  | flushTx (src : BitVec 16) (bits : BitVec 8)
  /-- FLUSH_RX (R273): HRP_CMD.FLUSH_RX empties a Harp's RX queue at once. -/
  | flushRx (src : BitVec 16) (bits : BitVec 8)
  /-- ADC_START (R298): ADC_CMD.START makes a SOFT sequence pending. -/
  | adcStart (src : BitVec 16) (bits : BitVec 8)
  /-- HOOP_ENUM (R329): HOOP_CMD.ENUM on the root starts an enumeration. -/
  | hoopEnum (src : BitVec 16)
  /-- RSW_GO (R328): HOOP_CMD.RSW_GO sends one SETW packet with the HOOP_RSW fields at the next press. -/
  | rswGo (src : BitVec 16)
  /-- OZH_JOIN (R385): OZH_CMD.JOIN starts the Steward's join procedure. -/
  | ozhJoin (src : BitVec 16)
  /-- OZH_LEAVE (R368): OZH_CMD.LEAVE makes the node leave the mesh with a LEAVE command. -/
  | ozhLeave (src : BitVec 16)
  /-- OZH_REKEY (R396): OZH_CMD.REKEY on the coordinator announces a mesh-wide switch to the next key index. -/
  | ozhRekey (src : BitVec 16)
  /-- STAT_CLR (R401): OZH_CMD.STAT_CLR clears the Ozhild counters. -/
  | statClr (src : BitVec 16)
  /-- STR_FLT_CLEAR (R189): Clearing a string fault bit lets the string restart at its next dimming-period boundary with both counts at 0. -/
  | strFltClear (src : BitVec 16) (short : Bool) (bits : BitVec 16)
  /-- STR_PH_CLEAR (R194): Clearing a bit in STR_PH_OPEN or STR_PH_SENSE starts the phase self-test. -/
  | strPhClear (src : BitVec 16) (sense : Bool) (bits : BitVec 16)
  /-- MTX_FLT_CLEAR (R208): Clearing a position fault bit returns the position at its next row slot with its count at 0. -/
  | mtxFltClear (src : BitVec 16) (short : Bool) (w : Fin 32) (bits : BitVec 32)
  /-- CAR_LATCH_CLEAR (R295): Clearing a LATCH bit releases the pair at its next period start with its cut count at 0. -/
  | carLatchClear (src : BitVec 16) (bits : BitVec 6)
  /-- FLT_DEV_CLEAR (R433): Writing 1 to a FLT_DEV bit clears the device fault when its condition allows. -/
  | fltDevClear (src : BitVec 16) (bits : BitVec 2)
  /-- HRP_PIN_OWN_WRITE (R264): A change of pin owner is accepted only while both Harps are idle, and the pin becomes a high-Z input of its new owner. -/
  | hrpPinOwnWrite (src : BitVec 16) (r : Fin 4) (val : BitVec 32)
  /-- RIP_OWN_WRITE (R237): A write of a RIP_OWN byte acts as an OWNER with HANDOFF 0 at the channel's next boundary. -/
  | ripOwnWrite (src : BitVec 16) (q : Fin 260) (val : BitVec 32)
  /-- MSIX_UNMASK (R123): Unmasking an MSI-X vector sends a message that the mask withheld. -/
  | msixUnmask (w : MaskWrite)
  /-- PRESS_BOUNDARY (R11): At each press the device applies RW-live fields, performs staged commits and PRESS latches, and runs press-grid work. -/
  | pressBoundary
  /-- NOP (R151): NOP has no effect and can give a whey entry at a chosen Wheel time. -/
  | nop (o : Src) (d : Desc)
  /-- LEVEL (R152): LEVEL writes the stepwise values of up to four channels, applied at each channel's next boundary. -/
  | level (o : Src) (d : Desc)
  /-- LEVEL_BLOCK (R152): LEVEL_BLOCK writes the stepwise values of up to eight evenly spaced channels. -/
  | levelBlock (o : Src) (d : Desc)
  /-- OWNER (R153): OWNER sets the level source of a range of channels at each channel's next boundary. -/
  | owner (o : Src) (d : Desc)
  /-- PRESS (R154): PRESS commits every staged field and latches shift data at the first press at or after execution, fabric-wide with FABRIC set. -/
  | press (o : Src) (d : Desc)
  /-- RIPEN_START (R255): RIPEN START begins a culture at the Ripener's next step. -/
  | ripenStart (o : Src) (d : Desc)
  /-- RIPEN_STOP (R255): RIPEN STOP puts the Ripener into state 0 with outputs held and latches cleared. -/
  | ripenStop (o : Src) (d : Desc)
  /-- RIPEN_PAUSE (R255): RIPEN PAUSE sets the host pause of a Ripener. -/
  | ripenPause (o : Src) (d : Desc)
  /-- RIPEN_RESUME (R255): RIPEN RESUME clears the host pause of a Ripener. -/
  | ripenResume (o : Src) (d : Desc)
  /-- RIPEN_TRIGGER (R252): RIPEN TRIGGER latches a host trigger in a handler, or completes FULL when the latch is occupied. -/
  | ripenTrigger (o : Src) (d : Desc)
  /-- CULTURE_LOAD (R156): CULTURE_LOAD writes up to four culture words between two Ripener steps. -/
  | cultureLoad (o : Src) (d : Desc)
  /-- HARP_LOAD (R157): HARP_LOAD writes Harp instructions into an idle Harp, or completes LOCKED. -/
  | harpLoad (o : Src) (d : Desc)
  /-- HARP_QUEUE (R157): HARP_QUEUE pushes all its words into a Harp's TX queue, or none with status FULL. -/
  | harpQueue (o : Src) (d : Desc)
  /-- CARRIER_SET (R158): CARRIER_SET writes period, compares and phase of a pair together for its next carrier update. -/
  | carrierSet (o : Src) (d : Desc)
  /-- READ_SETUP (R159): READ with SPACE 0 returns a set-up register as a BAR0 read would, without clearing W1C bits. -/
  | readSetup (o : Src) (d : Desc)
  /-- READ_CHANNEL (R159): READ with SPACE 1 returns a channel's level and drive value at its last boundary. -/
  | readChannel (o : Src) (d : Desc)
  /-- READ_CULTURE (R159): READ with SPACE 2 returns a culture word. -/
  | readCulture (o : Src) (d : Desc)
  /-- READ_HARP_RX (R159): READ with SPACE 3 pops one word from a Harp's RX queue, or completes STATE when it is empty. -/
  | readHarpRx (o : Src) (d : Desc)
  /-- ROUTE_HOOP (R327): ROUTE with TABLE 0 writes one Hoop routing-table entry. -/
  | routeHoop (o : Src) (d : Desc)
  /-- ROUTE_OZHILD (R160): ROUTE with TABLE 1 writes one Ozhild routing entry on the coordinator, or completes STATE elsewhere. -/
  | routeOzhild (o : Src) (d : Desc)
  /-- RADIO_SEND (R161): RADIO_SEND queues a DATA frame of up to four bytes for a short address. -/
  | radioSend (o : Src) (d : Desc)
  /-- RIND_REQUEST (R162): RIND_REQUEST passes a request to the Rind mailbox and completes with the Rind's reply. -/
  | rindRequest (o : Src) (d : Desc)
  /-- RIND_REQUEST_TIMEOUT (R162): A RIND_REQUEST that the Rind has not answered within 100 ms completes with TIMEOUT. -/
  | rindRequestTimeout
  /-- TEMPO (R163): TEMPO sets the Tempo anchor, beat index or BPM in host mode. -/
  | tempo (o : Src) (d : Desc)
  /-- FENCE (R164): FENCE stalls its ring until the descriptors accepted before it on the named rings complete. -/
  | fence (o : Src) (d : Desc)
  /-- FENCE_SATISFIED (R164): A waiting FENCE completes when its last awaited descriptor completes. -/
  | fenceSatisfied (o : Src)
  /-- MODE (R82): MODE requests a mode change, judged under R82. -/
  | mode (o : Src) (d : Desc)
  /-- SLEEP_LINK_READY (R82): When the link reaches L2 or L3 or PERST_N asserts, the device stores the Wheel and retention and removes power. -/
  | sleepLinkReady
  /-- SLEEP_ABORT (R82): When the link does not rest within 2 s, the device stays in its mode, restarts outputs in RUN and sends SLEEP_ABORT. -/
  | sleepAbort
  /-- SETUP_WRITE (R166): SETUP_WRITE performs a masked read-modify-write of one register under its access classes. -/
  | setupWrite (o : Src) (d : Desc)
  /-- IMAGE_BEGIN (R443): IMAGE_UPDATE BEGIN opens a sequence and starts erasing the inactive slot. -/
  | imageBegin (o : Src) (d : Desc)
  /-- IMAGE_ERASE_DONE (R443): The erase of the slot ends, the slot reads WRITING and BEGIN completes. -/
  | imageEraseDone (rind : Bool)
  /-- IMAGE_DATA (R443): IMAGE_UPDATE DATA places 16 bytes in the page buffer. -/
  | imageData (o : Src) (d : Desc)
  /-- IMAGE_PAGE_PROGRAMMED (R443): Programming of a full or last page ends, and the next DATA may execute. -/
  | imagePageProgrammed (rind good : Bool)
  /-- IMAGE_VERIFY (R443): IMAGE_UPDATE VERIFY checks the written image and marks the slot VALID on a pass. -/
  | imageVerify (o : Src) (d : Desc)
  /-- IMAGE_ACTIVATE (R443): IMAGE_UPDATE ACTIVATE marks a Steward slot PENDING, or hands a Rind slot to the Rind. -/
  | imageActivate (o : Src) (d : Desc)
  /-- IMAGE_ABORT (R443): IMAGE_UPDATE ABORT closes the sequence and marks the slot EMPTY. -/
  | imageAbort (o : Src) (d : Desc)
  /-- DISCOVER_ENUMERATE (R165): DISCOVER ENUMERATE on the root runs a Hoop enumeration and completes with its results. -/
  | discoverEnumerate (o : Src) (d : Desc)
  /-- DISCOVER_ENTRY (R165): DISCOVER ENTRY returns one entry of the last enumeration list. -/
  | discoverEntry (o : Src) (d : Desc)
  /-- TWIN_PAIR_ACTIVE (R351): TWIN_CTL PAIR_ACTIVE makes the unit the active twin with a raised EPOCH. -/
  | twinPairActive (o : Src) (d : Desc)
  /-- TWIN_PAIR_SHADOW (R351): TWIN_CTL PAIR_SHADOW makes the unit the shadow of an active partner. -/
  | twinPairShadow (o : Src) (d : Desc)
  /-- TWIN_UNPAIR (R351): TWIN_CTL UNPAIR ends the unit's pairing. -/
  | twinUnpair (o : Src) (d : Desc)
  /-- TWIN_SWAP (R356): TWIN_CTL SWAP fixes a swap press at least 4 presses ahead. -/
  | twinSwap (o : Src) (d : Desc)
  /-- TWIN_STATUS (R351): TWIN_CTL STATUS returns the unit's EPOCH and role. -/
  | twinStatus (o : Src) (d : Desc)
  /-- UNKNOWN_OPCODE (R145): A descriptor with an opcode above 0x14, or of an absent option, completes with status OPCODE. -/
  | unknownOpcode (o : Src) (d : Desc)
  /-- CUE_RELEASE (R38): A stored cue releases and executes on the tick at which the Wheel reaches its time. -/
  | cueRelease
  /-- DOORBELL_READ_DONE (R110): A doorbell read returns, is checked, and sets the ring's pending count or halts it. -/
  | doorbellReadDone (n : Fin 8) (r : Rd)
  /-- WHEY_HEAD_READ_DONE (R110): A whey head word read returns and frees the consumed entries, so that waiting entries are written. -/
  | wheyHeadReadDone (m : Fin 4) (r : Rd)
  /-- DESCRIPTOR_FETCH_DONE (R115): A fetch burst returns, and its descriptors become ready for acceptance. -/
  | descriptorFetchDone (n : Fin 8) (ds : List Desc) (err : Option RdErr)
  /-- RING_READ_TIMEOUT (R132): A ring read that times out halts the ring with ERR RD_TIMEOUT. -/
  | ringReadTimeout (r : LateRead)
  /-- RING_STALL_RETRY (R120): A cue stalled by a full store is tried again when a cue-store entry frees. -/
  | ringStallRetry (o : Src)
  /-- REMOTE_TIMEOUT (R119): A remote descriptor whose completion has not returned within RING_REMOTE_TMO completes with TIMEOUT. -/
  | remoteTimeout
  /-- MSIX_MODERATION_TIMER (R123): MOD_TIME presses after a first entry, an MSI-X interrupt becomes due. -/
  | msixModerationTimer (m : Fin 4)
  /-- BUS_MASTER_DISABLE (R135): When Bus Master Enable clears or the function leaves D0, the ring engine stops issuing requests. -/
  | busMasterDisable (d3 pme : Bool)
  /-- BUS_MASTER_ENABLE (R135): When D0 with Bus Master Enable returns, the ring engine continues. -/
  | busMasterEnable
  /-- PERST_N_ASSERT (R136): PERST_N asserted resets the PCIe endpoint, the ring engine and every RING_ register. -/
  | perstNAssert
  /-- LINK_DOWN (R136): A PCIe link-down resets the ring engine and its registers. -/
  | linkDown
  /-- FUNCTION_LEVEL_RESET (R136): A Function Level Reset resets the ring engine and its registers. -/
  | functionLevelReset
  /-- WORD_CLOCK_EDGE (R24): A word-clock edge on REFIN steers the PLL and advances the follower's states. -/
  | wordClockEdge (falling : Bool) (ppm : Int)
  /-- WORD_RANGE (R24): After 1 s in ACQUIRE at full steering the device sets WORD_RANGE and sends its event. -/
  | wordRange
  /-- WORD_LOST (R24): After 8 expected periods with no word-clock edge the follower freezes steering and enters HOLDOVER. -/
  | wordLost
  /-- WOSC_CAL_DONE (R36): A measurement of 1,024 wake-oscillator periods ends and updates WHL_WOSC_CAL. -/
  | woscCalDone (ticks : BitVec 32)
  /-- TEMPO_EVENT (R39): At a beat or subdivision time the Tempo unit sends BEAT, SUB and BAR events. -/
  | tempoEvent
  /-- TEMPO_LOST (R42): With no MIDI clock for 3 × Pq / 24 the Tempo unit enters HOLD and sends TEMPO_LOST. -/
  | tempoLost
  /-- VIO_H_LOCKOUT_EXIT (R278): VIO_H leaving lockout restores driven pins and counts rising edges. -/
  | vioHLockoutExit (ext : List (Fin 32 × Option Bool))
  /-- WAKE_PIN_EDGE (R83): A selected HP pin edge wakes the device from DOZE when enabled. -/
  | wakePinEdge (pin : Fin 32) (rising : Bool)
  /-- REFERENCE_MEASURED (R22): The REFIN measurement ends and selects REFCLK or XTAL. -/
  | referenceMeasured (hz : Nat)
  /-- WHEEL_SET (R35): At the next wake-oscillator edge the Wheel is set to 0 or re-derived. -/
  | wheelSet (periods : BitVec 48)
  /-- STEWARD_BOOT_DONE (R85): The Steward's boot checks or resume end, and the device enters its target mode and sends WAKE. -/
  | stewardBootDone (intact : Bool)
  /-- THERMAL_SHUTDOWN (R232): A die sensor above 150 °C sets HOLD cause THERMAL with outputs off and sends THERM_SHUTDOWN. -/
  | thermalShutdown (sensor : Fin 4)
  /-- DIMMING_PERIOD_BOUNDARY (R177): At a string's dimming-period boundary the stage samples D, chooses its dimmer mode and places its pulse. -/
  | dimmingPeriodBoundary (n : Fin 16)
  /-- CONVERTER_CYCLE (R173): At each converter cycle the stage's PI loop updates its duty. -/
  | converterCycle (n : Fin 16) (iMa : Nat)
  /-- PEAK_CURRENT_LIMIT (R176): Phase current at 2.2 A ends the high-side on-time for that cycle. -/
  | peakCurrentLimit (r : StageReading)
  /-- OVP_HIT (R176): VOS at the OVP level stops switching until the next dimming period. -/
  | ovpHit (r : StageReading)
  /-- BOOTSTRAP_UNDERVOLTAGE (R176): A low bootstrap voltage inserts a 16-tick low-side refresh in the next cycle. -/
  | bootstrapUndervoltage (r : StageReading)
  /-- DETECTION_SAMPLE (R186): A string detection sample is classed and updates the open and short counts. -/
  | detectionSample (n : Fin 16) (vosMv iMa : Nat)
  /-- PHASE_OPEN (R191): The eighth consecutive counting cycle disables the phase, re-phases the group and sends PHASE_OPEN. -/
  | phaseOpen (n : Fin 16)
  /-- PHASE_SENSE (R192): Four consecutive zero-check counts disable the phase and send PHASE_SENSE. -/
  | phaseSense (n : Fin 16) (iMa : Nat)
  /-- XCHK_WINDOW (R192): At the end of a 16-press window each phase current is compared with the Rind's, and a second mismatch makes a sense fault. -/
  | xchkWindow (own : List Nat)
  /-- SELF_TEST_END (R194): After 16 cycles a returning phase passes and the clamp is recomputed, or fails and is disabled again. -/
  | selfTestEnd (n : Fin 16) (iMa : Nat)
  /-- SCAN_FRAME_START (R197): At each scan-frame start the matrix begins a frame and the colour stage evaluates temperatures and factors. -/
  | scanFrameStart (die : List Int)
  /-- LOOP_HOLD_TIMER (R228): An open loop's hold timer reaching HOLD_T starts the return to unity. -/
  | loopHoldTimer (k : Fin 8)
  /-- DITHER_PROBE (R229): Every PROBE_INT seconds a closed loop starts a dither probe on its class. -/
  | ditherProbe (k : Fin 8)
  /-- ROW_SLOT_START (R198): A row slot runs discharge, precharge, row switch-on and the column pulses. -/
  | rowSlotStart
  /-- MATRIX_SAMPLE (R207): A position sample at pulse end is classed and updates the position's evidence count. -/
  | matrixSample (p : Fin 1024) (vcolMv isUa rowMv vrowMv : Nat)
  /-- ROW_OVER_CURRENT (R200): A row switch above 2.6 A ends the slot's pulses and sets ROW_OC. -/
  | rowOverCurrent
  /-- RIPENER_STEP (R241): At each 512-tick step a running Ripener completes timed work, preempts, executes and advances fades. -/
  | ripenerStep (n : Fin 12)
  /-- RIP_NOP (R245): Culture NOP does nothing. -/
  | ripNop (n : Fin 12)
  /-- RIP_STOP (R245): Culture STOP stops the Ripener as RIPEN STOP does. -/
  | ripStop (n : Fin 12)
  /-- RIP_JMP (R245): Culture JMP sets PC. -/
  | ripJmp (n : Fin 12)
  /-- RIP_DJNZ (R245): Culture DJNZ decrements a register and jumps if it is not 0. -/
  | ripDjnz (n : Fin 12)
  /-- RIP_JZ (R245): Culture JZ jumps if a register is 0. -/
  | ripJz (n : Fin 12)
  /-- RIP_LDI (R245): Culture LDI loads an immediate into a register half. -/
  | ripLdi (n : Fin 12)
  /-- RIP_ADDI (R245): Culture ADDI adds a sign-extended immediate. -/
  | ripAddi (n : Fin 12)
  /-- RIP_MULI (R245): Culture MULI multiplies by an immediate with saturation. -/
  | ripMuli (n : Fin 12)
  /-- RIP_EXT (R245): Culture EXT extracts a bit field. -/
  | ripExt (n : Fin 12)
  /-- RIP_SEL (R245): Culture SEL sets the selection of positions. -/
  | ripSel (n : Fin 12)
  /-- RIP_SET (R245): Culture SET sets every selected position to a level and ends its fades. -/
  | ripSet (n : Fin 12)
  /-- RIP_SETR (R245): Culture SETR sets every selected position to a register's value. -/
  | ripSetr (n : Fin 12)
  /-- RIP_FADE (R247): Culture FADE starts or ends fades on the selected positions. -/
  | ripFade (n : Fin 12)
  /-- RIP_TIME (R245): Culture TIME sets the duration register T. -/
  | ripTime (n : Fin 12)
  /-- RIP_RAMP (R248): Culture RAMP moves the selected positions along a curve toward a target. -/
  | ripRamp (n : Fin 12)
  /-- RIP_HOLD (R248): Culture HOLD keeps the selected positions for a duration. -/
  | ripHold (n : Fin 12)
  /-- RIP_BREATHE (R248): Culture BREATHE cycles the selected positions to a target and back. -/
  | ripBreathe (n : Fin 12)
  /-- RIP_WAVE (R248): Culture WAVE runs a travelling wave across the selection. -/
  | ripWave (n : Fin 12)
  /-- RIP_WAIT (R249): Culture WAIT waits for a count of Tempo events and sets the anchor. -/
  | ripWait (n : Fin 12)
  /-- RIP_EMIT (R245): Culture EMIT sends event RIP_EVENT with a register value. -/
  | ripEmit (n : Fin 12)
  /-- RIP_MASK (R251): Culture MASK sets the culture's handler mask. -/
  | ripMask (n : Fin 12)
  /-- RIP_RET (R253): Culture RET ends a handler and resumes the frame under its resume mode. -/
  | ripRet (n : Fin 12)
  /-- HRP_DLY (R268): Harp DLY waits N further clocks. -/
  | hrpDly (n : Fin 8)
  /-- HRP_WAIT (R271): Harp WAIT waits for a pin level or a latched edge. -/
  | hrpWait (n : Fin 8)
  /-- HARP_WAIT_DONE (R271): A waiting Harp WAIT completes on its edge or level and restarts the Harp clock. -/
  | harpWaitDone (n : Fin 8)
  /-- HRP_SHIN (R270): Harp SHIN reads window pins into S. -/
  | hrpShin (n : Fin 8)
  /-- HRP_SHOUT (R270): Harp SHOUT drives window pins from a register. -/
  | hrpShout (n : Fin 8)
  /-- HRP_PINS (R268): Harp PINS drives masked pins 0 or 1, or makes them high-Z inputs. -/
  | hrpPins (n : Fin 8)
  /-- HRP_GET (R273): Harp GET pops the TX queue into a register, blocking or not. -/
  | hrpGet (n : Fin 8)
  /-- HRP_PUT (R273): Harp PUT pushes a register onto the RX queue, blocking or discarding on overflow. -/
  | hrpPut (n : Fin 8)
  /-- QUEUE_UNBLOCK (R273): A blocked GET or PUT completes when its queue allows it. -/
  | queueUnblock (n : Fin 8)
  /-- HRP_MARK (R275): Harp MARK emits a MARK to Ripeners, the Tempo unit, colour loops, the fast radio and optionally the whey ring. -/
  | hrpMark (n : Fin 8)
  /-- HRP_ADDI (R268): Harp ADDI adds a sign-extended immediate. -/
  | hrpAddi (n : Fin 8)
  /-- HRP_ALU (R268): Harp ALU performs an arithmetic, logic, shift or min operation. -/
  | hrpAlu (n : Fin 8)
  /-- HRP_LDI (R268): Harp LDI loads a zero-extended immediate. -/
  | hrpLdi (n : Fin 8)
  /-- HRP_BR (R269): Harp BR jumps when its condition holds. -/
  | hrpBr (n : Fin 8)
  /-- HRP_PKT (R268): Harp PKT loads or stores a pocket word. -/
  | hrpPkt (n : Fin 8)
  /-- HRP_ATW (R272): Harp ATW waits until the Wheel reaches a register's time. -/
  | hrpAtw (n : Fin 8)
  /-- ATW_DONE (R272): A waiting ATW completes on its tick and restarts the Harp clock. -/
  | atwDone (n : Fin 8)
  /-- HRP_STAMP (R272): Harp STAMP writes Wheel[31:0] to a register. -/
  | hrpStamp (n : Fin 8)
  /-- HRP_CLRS (R268): Harp SYS CLRS clears S. -/
  | hrpClrs (n : Fin 8)
  /-- HRP_HALT (R267): Harp SYS HALT halts the Harp until EN is cleared. -/
  | hrpHalt (n : Fin 8)
  /-- HRP_ARM (R271): Harp SYS ARM clears both edge latches of a pin. -/
  | hrpArm (n : Fin 8)
  /-- HP_PIN_EDGE (R271): A filtered edge on an owned Harp pin sets its edge latch. -/
  | hpPinEdge (pin : Fin 32) (level : Option Bool)
  /-- CARRIER_PERIOD_START (R285): At a pair's period start the ideal signal is formed, with updates, refresh and cut handling. -/
  | carrierPeriodStart (n : Fin 6)
  /-- SYNC_IN_EDGE (R283): A rising SYNC_IN edge starts a new period of each SYNC-aligned pair after PHASE. -/
  | syncInEdge
  /-- TRIP_ACTIVE (R293): A trip input going active outside blanking cuts the masked pairs within 2 ticks. -/
  | tripActive (l : TripLevel)
  /-- TRIGGER_COMPARE (R296): A trigger compare fires in the period and makes its ADC sequence pending. -/
  | triggerCompare (n : Fin 6) (x : Bool)
  /-- ADC_RUN_END (R300): An ADC sequence run ends and writes results, STAMP and RUNS together. -/
  | adcRunEnd (q : Fin 8) (res : List (BitVec 12))
  /-- LINK_ALIGNED (R309): A Hoop receiver aligns on three COMMAs and the port enters TRAIN. -/
  | linkAligned (c : CommaRx)
  /-- ALIGNMENT_LOST (R309): 4 invalid of 16 code groups lose alignment and the port goes DOWN. -/
  | alignmentLost (c : LineRx)
  /-- LINK_SIGNAL_LOSS (R311): No signal for 64 ticks puts the port DOWN. -/
  | linkSignalLoss (k : Fin 3)
  /-- SYNC_MISSING (R311): An expected SYNC missing for 3 consecutive frames puts the port DOWN. -/
  | syncMissing (k : Fin 3)
  /-- FRAME_SEND (R314): The root or a cut-off unit sends a downstream frame at press + 24. -/
  | frameSend
  /-- HOOP_SYNC_CAPTURE (R316): A downstream SYNC captured on UP trains the link, relays the frame, corrects the Wheel and records PRESS boundaries. -/
  | hoopSyncCapture (k : Fin 3) (c : SyncRx)
  /-- UPSTREAM_SYNC_CAPTURE (R315): An upstream SYNC on DN or BR gives a delay sample that updates LINK_DLY. -/
  | upstreamSyncCapture (k : Fin 3) (c : SyncRx)
  /-- SHIFT_SECTION_END (R320): A shift section ends, and a good CRC copies the unit's slice into its hold buffer. -/
  | shiftSectionEnd (sec : ShiftRx)
  /-- SHIFT_HEADER_READ_DONE (R319): The root's read of the shift header returns and starts an image read when GEN changed. -/
  | shiftHeaderReadDone (r : Rd)
  /-- SHIFT_IMAGE_READ_DONE (R319): The root's read of a new shift image completes and the image takes effect from its next page 0. -/
  | shiftImageReadDone (img : List Byte) (err : Option RdErr)
  /-- PKT_DESC (R328): A routed DESC packet is consumed into ring LH, or forwarded. -/
  | pktDesc (k : Fin 3) (p : PktRx)
  /-- PKT_CPL (R328): A routed CPL packet is matched by TAG and written, or forwarded. -/
  | pktCpl (k : Fin 3) (p : PktRx)
  /-- PKT_EVT (R328): A routed EVT packet is written into the root's event ring, or forwarded. -/
  | pktEvt (k : Fin 3) (p : PktRx)
  /-- PKT_SETW (R328): A routed SETW packet acts as a SETUP_WRITE without completion. -/
  | pktSetw (k : Fin 3) (p : PktRx)
  /-- ENUM_START (R329): ENUM_START clears AUTO entries and propagates counting down the tree. -/
  | enumStart (k : Fin 3) (p : PktRx)
  /-- ENUM_COUNT (R329): ENUM_COUNT returns a subtree's unit count to its parent. -/
  | enumCount (k : Fin 3) (p : PktRx)
  /-- ENUM_ASSIGN (R330): ENUM_ASSIGN gives a unit its ID base and installs AUTO routes. -/
  | enumAssign (k : Fin 3) (p : PktRx)
  /-- ENUM_REC (R330): ENUM_REC carries a unit's record to the root and teaches relays its route. -/
  | enumRec (k : Fin 3) (p : PktRx)
  /-- ENUM_END (R331): ENUM_END ends the enumeration and lists duplicate IDs. -/
  | enumEnd (k : Fin 3) (p : PktRx)
  /-- ENUM_REQ (R329): ENUM_REQ asks the root for an enumeration. -/
  | enumReq (k : Fin 3) (p : PktRx)
  /-- ENUM_TIMEOUT (R331): An enumeration not finished within HOOP_ENUM_TMO ends with ENUM_TMO. -/
  | enumTimeout
  /-- HOOP_HOLD_EXPIRED (R334): A unit still cut off at the HOOP_HOLD-th press raises the Hoop isolation fault. -/
  | hoopHoldExpired
  /-- HEARTBEAT (R344): A valid twin heartbeat is received, corrects the shadow's Wheel and settles splits. -/
  | heartbeat (c : SyncRx)
  /-- HEARTBEAT_MISSED (R344): A missed heartbeat is counted, and the third can cause takeover or LINK_LOST. -/
  | heartbeatMissed
  /-- PFLT_LOW (R352): The partner-fault pin low for 32 ticks causes takeover. -/
  | pfltLow
  /-- MIRROR_FRAME_END (R348): At a mirror frame's END the shadow applies or discards its records. -/
  | mirrorFrameEnd (recs : List MirRec) (mseq : BitVec 32) (queueEmpty fullDone good : Bool)
  /-- SLOT_START (R370): At each Ozhild slot the unit chooses its cell action, hops and transmits or listens. -/
  | slotStart
  /-- BEACON (R367): A received beacon gives time, ASN, mesh settings and tempo. -/
  | beacon (rx : RadioRx)
  /-- DATA (R390): A received DATA frame is acknowledged and consumed as RADIO_RX or relayed. -/
  | data (rx : RadioRx)
  /-- ACK (R375): A received ACK completes an attempt and gives a timing correction. -/
  | ack (rx : RadioRx)
  /-- ACK_WINDOW_CLOSE (R375): An ACK window closing without a valid ACK fails the attempt. -/
  | ackWindowClose
  /-- JOIN_REQ (R385): A JOIN_REQ is checked, relayed or answered by the coordinator. -/
  | joinReq (rx : RadioRx)
  /-- JOIN_RSP (R385): A JOIN_RSP gives the joiner its address, session and network key. -/
  | joinRsp (rx : RadioRx)
  /-- POLL (R386): A POLL from a sleepy child is acknowledged with PEND when frames are held. -/
  | poll (rx : RadioRx)
  /-- CHILD_INFO (R368): CHILD_INFO tells a router about a node on its path. -/
  | childInfo (rx : RadioRx)
  /-- ROUTE_SET (R387): ROUTE_SET writes a routing entry into a router's table. -/
  | routeSet (rx : RadioRx)
  /-- LEAVE (R387): A LEAVE command removes the node's AUTO routes. -/
  | leave (rx : RadioRx)
  /-- REKEY_REQ (R396): A REKEY_REQ asks the coordinator to move to the next key index. -/
  | rekeyReq (rx : RadioRx)
  /-- OZH_CPL (R389): A CPL command returns a remote completion to its originator. -/
  | ozhCpl (rx : RadioRx)
  /-- DESC_FRAME (R389): A DESC frame is rebuilt into a descriptor for ring LR, or relayed. -/
  | descFrame (rx : RadioRx)
  /-- FAST (R379): A FAST frame delivers a MARK on the parent. -/
  | fast (rx : RadioRx)
  /-- FAST_ACK (R378): A FAST_ACK dequeues acknowledged fast frames and gives timing. -/
  | fastAck (rx : RadioRx)
  /-- PARENT_TIMEOUT (R384): No timing exchange for PARENT_TMO × 64 slots loses the time parent. -/
  | parentTimeout
  /-- JOIN_RETRY (R385): An unanswered join request is repeated after a random wait. -/
  | joinRetry
  /-- JOIN_RESCAN (R385): After a refusal the joiner scans again after 65,536 slots. -/
  | joinRescan
  /-- HELD_FRAME_EXPIRY (R386): A held frame not collected in 16,384 slots completes as not delivered. -/
  | heldFrameExpiry
  /-- KEY_SWITCH (R396): At the announced ASN every unit switches key index or block mask. -/
  | keySwitch
  /-- RIND_WINDOW_END (R406): At each window end the Rind classes and registers the window and may write a record. -/
  | rindWindowEnd (w : RindWindow)
  /-- RND_RECORD (R412): A signed record is complete in the ledger and RND_RECORD is sent. -/
  | rndRecord
  /-- RIND_STAGE_CURRENT (R408): Every 65,536 ticks the Rind passes stage currents to STR_. -/
  | rindStageCurrent (ma : List Nat)
  /-- STATUS (R420): Mailbox STATUS returns the next record number. -/
  | status
  /-- FETCH (R420): Mailbox FETCH loads a record into RND_REC. -/
  | fetch
  /-- FETCH_EVENT (R420): Mailbox FETCH_EVENT loads an event entry into RND_EVT. -/
  | fetchEvent
  /-- RIND_ACK (R415): Mailbox ACK marks records as collected. -/
  | rindAck
  /-- CLOSE_PERIOD (R412): Mailbox CLOSE_PERIOD asks for a PERIOD record at the window end. -/
  | closePeriod
  /-- CAL_SET (R417): Mailbox CAL_SET stores a calibration parameter while OPEN. -/
  | calSet
  /-- SEAL_PREPARE (R417): Mailbox SEAL_PREPARE returns a sealing nonce. -/
  | sealPrepare
  /-- SEAL_COMMIT (R417): Mailbox SEAL_COMMIT seals the Rind at the next window end. -/
  | sealCommit
  /-- TAMPER_OPEN (R418): RTAMP open for 10 ms logs TAMPER_OPEN. -/
  | tamperOpen
  /-- TAMPER_CLOSED (R418): RTAMP closing logs TAMPER_CLOSED. -/
  | tamperClosed
  /-- POWER_ON_RESET (R79): VBAT rising above its lockout ends the power-on reset, and the device starts a wake sequence with cause POR, or enters VAULT when V3 is in lockout. -/
  | powerOnReset (p : PowerUp)
  /-- RST_N_RELEASE (R79): RST_N released after a reset starts the wake sequence with cause RST_N, or enters VAULT when V3 is in lockout. -/
  | rstNRelease
  /-- SYNC_IN_FALL (R297): With OUT_SEL = 2, SYNC_OUT falls one tick after SYNC_IN's synchronised fall. -/
  | syncInFall
  /-- NTC_CONVERSIONS_END (R299): When ADC1's NTC conversions end, the NTC readings are complete and ADC1 chooses its next work, beginning a held sequence. -/
  | ntcConversionsEnd (codes : List Nat)
  /-- DRIFT_COMPENSATION (R382): When the per-tick accumulator of the drift estimate passes 10^9, the Ozhild follower's Wheel advances by 2 or holds for one tick. -/
  | driftCompensation
  /-- VIN_LOCKOUT (R60): VIN entering lockout stops the stages, reports STR_SUPPLY and suspends detection. -/
  | vinLockout
  /-- VIN_LOCKOUT_EXIT (R60): VIN leaving lockout starts the 8,192-tick suspension end. -/
  | vinLockoutExit
  /-- SUPPLY_SUSPENSION_END (R60): 8,192 ticks after VIN leaves lockout, detection resumes and strings restart at their next dimming period. -/
  | supplySuspensionEnd
  /-- VROW_LOCKOUT (R61): VROW entering lockout turns rows off at once and sinks off at the next row slot. -/
  | vrowLockout
  /-- VROW_LOCKOUT_EXIT (R61): VROW leaving lockout starts the 8,192-tick suspension end. -/
  | vrowLockoutExit
  /-- VROW_SUSPENSION_END (R61): 8,192 ticks after VROW leaves lockout, position diagnosis resumes after blanking. -/
  | vrowSuspensionEnd
  /-- VIO_H_LOCKOUT (R278): VIO_H entering lockout makes Harp pins high-Z and read 0 and raises HARP_VIO. -/
  | vioHLockout
  /-- V3_LOCKOUT (R58): V3 entering lockout turns outputs off, resets IO3 and CORE and enters VAULT. -/
  | v3Lockout
  /-- V3_LOCKOUT_EXIT (R83): V3 leaving lockout starts the wake sequence with cause 2. -/
  | v3LockoutExit
  /-- VCORE_PGOOD_LOSS (R52): VCORE falling below 0.810 V resets the CORE domain and enters VAULT. -/
  | vcorePgoodLoss
  /-- VBAT_LOW (R53): VBAT below 1.65 V performs a power-on reset of every domain but the Rind. -/
  | vbatLow
  /-- VRIND_LOSS (R424): Loss of VRIND stops the Rind and closes the mailbox. -/
  | vrindLoss
  /-- VRIND_RISE (R403): VRIND rising above 2.90 V starts the Rind from its chosen slot. -/
  | vrindRise
  /-- WAKE_EDGE (R83): A rising edge on WAKE wakes the device when enabled. -/
  | wakeEdge
  /-- VAULT_ALARM (R83): Expiry of the VAULT alarm wakes the device from VAULT. -/
  | vaultAlarm
  /-- PERST_N_DEASSERT (R83): PERST_N deasserted wakes the device from DOZE when enabled. -/
  | perstNDeassert
  /-- HOOP_SIGNAL_DETECT (R83): A signal detected on Hoop UP or BR wakes the device from DOZE when enabled. -/
  | hoopSignalDetect
  /-- RST_N (R94): RST_N held low for 2 wake-oscillator periods resets the device as a power-on reset does. -/
  | rstN
  /-- VCORE_PGOOD (R85): VCORE PGOOD ends wake step 2, and the device releases the CORE reset and measures REFIN. -/
  | vcorePgood
  /-- PGOOD_TIMEOUT (R87): PGOOD missing within 2 ms turns the buck off, counts the failure and returns to VAULT. -/
  | pgoodTimeout
  /-- VAULT_LOCK_RELEASE (R88): WAKE high for 65,536 consecutive periods clears the VAULT lock and starts a wake with cause 9. -/
  | vaultLockRelease
  /-- CRYSTAL_AMPLITUDE_GOOD (R85): The crystal reaches good amplitude, and the PLL starts. -/
  | crystalAmplitudeGood
  /-- CLOCK_STEP_TIMEOUT (R89): A crystal or PLL step timing out stops both and keeps them off for 1 ms. -/
  | clockStepTimeout
  /-- CLOCK_RETRY_PAUSE_END (R89): After the 1 ms off time the sequence repeats from step 4, or after four attempts moves to the limp clock. -/
  | clockRetryPauseEnd
  /-- PLL_LOCK (R85): PLL lock ends wake step 5. -/
  | pllLock
  /-- LIMP_CLOCK_LOCK (R89): The PLL locks to the RC oscillator, and the device continues to HOLD with cause LIMP. -/
  | limpClockLock
  /-- DOZE_TIMER (R91): Expiry of the DOZE timer runs a DOZE event. -/
  | dozeTimer
  /-- DOZE_EVENT_SLEEP (R91): The Steward ends a DOZE event with sleep and the device returns to DOZE. -/
  | dozeEventSleep
  /-- DOZE_EVENT_STAY_AWAKE (R91): The Steward ends a DOZE event with stay awake and the device enters READY or RUN. -/
  | dozeEventStayAwake
  /-- DOZE_OVERRUN (R91): A DOZE event that lasts beyond DOZE_MAX enters READY and sends DOZE_OVERRUN. -/
  | dozeOverrun
  /-- THERMAL_RELEASE (R232): All die sensors below 130 °C clear HOLD cause THERMAL. -/
  | thermalRelease
  /-- WATCHDOG_EXPIRY (R434): Expiry of the Steward watchdog resets the Steward and may set WDOG_REPEAT. -/
  | watchdogExpiry
  /-- PLL_LOCK_LOSS (R435): Loss of PLL lock while running performs a RESTART reset. -/
  | pllLockLoss
  /-- DEBUG_HALT (R437): A debugger halt of the Steward pauses the Steward, the watchdog and, where enabled, Harps and Ripeners. -/
  | debugHalt
  /-- DEBUG_HALT_END (R437): The end of a debug halt resumes the Steward and paused engines. -/
  | debugHaltEnd
  /-- TRIAL_PASS (R444): A trial image that runs 2 s without watchdog expiry becomes VALID and ACTIVE. -/
  | trialPass
deriving DecidableEq, Repr

end Sys2Proof
end

