-- ==== Sys2Proof/Machine/Bits.lean ====
section
/-! DEFINITION. Bit fields, sign extension, saturation, rounding and little-endian bytes (R6). -/

namespace Sys2Proof.Machine

/-- Bits [hi:lo] of a natural number. -/
def bits (v hi lo : Nat) : Nat := v / 2 ^ lo % 2 ^ (hi + 1 - lo)

/-- Bit `i` of a natural number. -/
def bitOf (v i : Nat) : Bool := v / 2 ^ i % 2 = 1

/-- 1 for true. -/
def b2n (b : Bool) : Nat := if b then 1 else 0

/-- The mask of bits [hi:lo] of a word. -/
def maskW (hi lo : Nat) : Word := BitVec.ofNat 32 ((2 ^ (hi + 1 - lo) - 1) * 2 ^ lo)

/-- Bits [hi:lo] of a word. -/
def fieldOf (w : Word) (hi lo : Nat) : Nat := bits w.toNat hi lo

/-- The word with bits [hi:lo] set to `v`. -/
def setField (w : Word) (hi lo v : Nat) : Word :=
  (w &&& ~~~ maskW hi lo) ||| (BitVec.ofNat 32 (v * 2 ^ lo) &&& maskW hi lo)

/-- The value `v` placed at bit `lo`. -/
def at_ (v lo : Nat) : Word := BitVec.ofNat 32 (v * 2 ^ lo)

/-- A flag placed at bit `lo`. -/
def bitAt (b : Bool) (lo : Nat) : Word := if b then BitVec.ofNat 32 (2 ^ lo) else 0

/-- The two's complement reading of the low `n` bits. -/
def signed (v n : Nat) : Int :=
  let u := v % 2 ^ n
  if u < 2 ^ (n - 1) then (u : Int) else (u : Int) - (2 ^ n : Nat)

/-- The low `n` bits of an integer in two's complement. -/
def unsignedBits (v : Int) (n : Nat) : Nat := (v % ((2 ^ n : Nat) : Int)).toNat

/-- `v` held within lo to hi. -/
def clampI (lo hi v : Int) : Int := if v < lo then lo else if hi < v then hi else v

/-- `v` held within lo to hi. -/
def clampN (lo hi v : Nat) : Nat := if v < lo then lo else if hi < v then hi else v

/-- `v` held at the top of an `n`-bit counter. -/
def satN (n v : Nat) : Nat := min v (2 ^ n - 1)

/-- One more, saturating at the width of the counter. -/
def satInc {n : Nat} (v : BitVec n) : BitVec n := if v = BitVec.allOnes n then v else v + 1

/-- a / b rounded to nearest, halves up. -/
def roundDiv (a b : Nat) : Nat := (2 * a + b) / (2 * b)

/-- a / b rounded up. -/
def ceilDiv (a b : Nat) : Nat := (a + b - 1) / b

/-- a / b rounded to nearest, halves toward plus infinity. -/
def roundDivI (a : Int) (b : Nat) : Int := Int.fdiv (2 * a + b) (2 * b)

/-- a / b rounded toward zero. -/
def truncDiv (a : Int) (b : Nat) : Int := Int.tdiv a b

/-- Byte `i` of a byte list; bytes past the end read 0. -/
def byteAt (bs : List Byte) (i : Nat) : Nat := (bs.getD i 0).toNat

/-- The little-endian value of `n` bytes from byte `i` (R6). -/
def leAt (bs : List Byte) (i : Nat) : Nat → Nat
  | 0 => 0
  | n + 1 => byteAt bs i + 256 * leAt bs (i + 1) n

/-- The low `n` bytes of a value, least significant first (R6). -/
def leBytes (v : Nat) : Nat → List Byte
  | 0 => []
  | n + 1 => BitVec.ofNat 8 v :: leBytes (v / 256) n

/-- Byte list `bs` with the bytes `ws` in place from byte `i` on. -/
def putBytes (bs : List Byte) (i : Nat) (ws : List Byte) : List Byte :=
  bs.take i ++ ws ++ bs.drop (i + ws.length)

/-- How many bits of the low `n` bits are 1. -/
def popCount (v : Nat) : Nat → Nat
  | 0 => 0
  | n + 1 => v % 2 + popCount (v / 2) n

/-- The lowest set bit among the low `n` bits. -/
def lowestSet (v : Nat) (n : Nat) : Option Nat := (List.range n).find? (fun i => bitOf v i)

end Sys2Proof.Machine
end

