-- ==== Sys2Proof/Machine/Crc.lean ====
section
/-! DEFINITION. The cyclic redundancy checks of the Hoop (R312, R313) and the radio (R362). -/

namespace Sys2Proof.Machine

/-- `k` steps of a reflected CRC over `w` bits: the register shifts right. -/
def crcRight (w poly : Nat) : Nat → Nat → Nat
  | 0, c => c
  | k + 1, c => crcRight w poly k (if c % 2 = 1 then (c / 2) ^^^ poly else c / 2)

/-- `k` steps of an unreflected CRC over `w` bits: the register shifts left. -/
def crcLeft (w poly : Nat) : Nat → Nat → Nat
  | 0, c => c
  | k + 1, c =>
    crcLeft w poly k (if c / 2 ^ (w - 1) % 2 = 1 then ((2 * c) % 2 ^ w) ^^^ poly else (2 * c) % 2 ^ w)

/-- CRC-32 of IEEE 802.3 (R312): polynomial 0x04C1_1DB7, reflected, initial value and final XOR all ones. -/
def crc32 (bs : List Byte) : BitVec 32 :=
  BitVec.ofNat 32 (bs.foldl (fun c b => crcRight 32 0xEDB88320 8 (c ^^^ b.toNat)) 0xFFFFFFFF ^^^ 0xFFFFFFFF)

/-- CRC-16 of the SYNC (R313): polynomial 0x1021, initial value 0xFFFF, no reflection or final XOR. -/
def crc16 (bs : List Byte) : BitVec 16 :=
  BitVec.ofNat 16 (bs.foldl (fun c b => crcLeft 16 0x1021 8 (c ^^^ (b.toNat * 256))) 0xFFFF)

/-- CRC-24 of RFC 4880 (R362): polynomial 0x86_4CFB, initial value 0xB7_04CE, over the PSDU. -/
def crc24 (bs : List Byte) : BitVec 24 :=
  BitVec.ofNat 24 (bs.foldl (fun c b => crcLeft 24 0x864CFB 8 (c ^^^ (b.toNat * 65536))) 0xB704CE)

end Sys2Proof.Machine
end

