-- ==== Sys2Proof/Machine/CodeGroup.lean ====
section
/-! DEFINITION. The 8b/10b line code of the Hoop (R308) and what a receiver reads from code groups: SYNCs, shift sections and packets as
their symbols. A code group is written abcdei fghj, the first bit on the line being the most significant; `true` is positive running
disparity. The tables of IEEE 802.3 clause 36, which R308 names and the spec does not print, are PRESUMED (log entry 66). -/

namespace Sys2Proof.Machine

/-- The 5b/6b column of each data value x of Dx.y: with negative and with positive running disparity. -/
def sixBits : List (Nat × Nat) :=
  [(0b100111, 0b011000), (0b011101, 0b100010), (0b101101, 0b010010), (0b110001, 0b110001),
   (0b110101, 0b001010), (0b101001, 0b101001), (0b011001, 0b011001), (0b111000, 0b000111),
   (0b111001, 0b000110), (0b100101, 0b100101), (0b010101, 0b010101), (0b110100, 0b110100),
   (0b001101, 0b001101), (0b101100, 0b101100), (0b011100, 0b011100), (0b010111, 0b101000),
   (0b011011, 0b100100), (0b100011, 0b100011), (0b010011, 0b010011), (0b110010, 0b110010),
   (0b001011, 0b001011), (0b101010, 0b101010), (0b011010, 0b011010), (0b111010, 0b000101),
   (0b110011, 0b001100), (0b100110, 0b100110), (0b010110, 0b010110), (0b110110, 0b001001),
   (0b001110, 0b001110), (0b101110, 0b010001), (0b011110, 0b100001), (0b101011, 0b010100)]

/-- The 3b/4b column of each y of Dx.y; the last row is the alternate code of y = 7. -/
def fourBits : List (Nat × Nat) :=
  [(0b1011, 0b0100), (0b1001, 0b1001), (0b0101, 0b0101), (0b1100, 0b0011), (0b1101, 0b0010), (0b1010, 0b1010), (0b0110, 0b0110),
   (0b1110, 0b0001), (0b0111, 0b1000)]

/-- The 3b/4b column of K28.2 and K28.5, the special code groups of Table HOOP-1 with x = 28. -/
def fourSpecial : List (Nat × (Nat × Nat)) := [(2, (0b1010, 0b0101)), (5, (0b0101, 0b1010))]

/-- The column of a running disparity. -/
def column (plus : Bool) (e : Nat × Nat) : Nat := if plus then e.2 else e.1

/-- The running disparity after a sub-block of `n` bits: by its count of ones, or by the two balanced codes that fix it. -/
def disparityAfter (n : Nat) (plus : Bool) (g : Nat) : Bool :=
  let ones := popCount g n
  if n < 2 * ones || g = 2 ^ (n / 2) - 1 then true
  else if 2 * ones < n || g = 2 ^ n - 2 ^ (n / 2) then false
  else plus

/-- The running disparity after a code group, valid or not. -/
def groupDisparity (plus : Bool) (g : BitVec 10) : Bool :=
  disparityAfter 4 (disparityAfter 6 plus (g.toNat / 16)) (g.toNat % 16)

/-- Whether Dx.7 takes the alternate code. -/
def alternate7 (plus : Bool) (x : Nat) : Bool := if plus then [11, 13, 14].contains x else [17, 18, 20].contains x

/-- The symbol that a code group carries in the current running disparity (R308, Table HOOP-1). -/
def symbolOf (plus : Bool) (g : BitVec 10) : Sym :=
  let six := g.toNat / 16
  let four := g.toNat % 16
  let mid := disparityAfter 6 plus six
  if six = column plus (0b001111, 0b110000) then
    match fourSpecial.find? (fun e => column mid e.2 = four) with
    | some e => .special (BitVec.ofNat 8 (28 + 32 * e.1))
    | none => .bad
  else match sixBits.findIdx? (fun e => column plus e = six), fourBits.findIdx? (fun e => column mid e = four) with
    | some x, some y =>
      if y < 7 then .data (BitVec.ofNat 8 (x + 32 * y))
      else if y = 7 then (if alternate7 mid x then .bad else .data (BitVec.ofNat 8 (x + 224)))
      else if alternate7 mid x then .data (BitVec.ofNat 8 (x + 224))
      else if [23, 27, 29, 30].contains x then .special (BitVec.ofNat 8 (x + 224))
      else .bad
    | _, _ => .bad

/-- The symbols of consecutive code groups from a running disparity on. -/
def symbolsOf (plus : Bool) : List (BitVec 10) → List Sym
  | [] => []
  | g :: gs => symbolOf plus g :: symbolsOf (groupDisparity plus g) gs

/-- The code group that a transmitter sends for a symbol (R308). An invalid symbol has none; it is sent as /ER/ (R314). -/
def groupOf (plus : Bool) : Sym → BitVec 10
  | .data b =>
    let x := b.toNat % 32
    let six := column plus (sixBits.getD x (0, 0))
    let mid := disparityAfter 6 plus six
    let y := if b.toNat / 32 = 7 && alternate7 mid x then 8 else b.toNat / 32
    BitVec.ofNat 10 (16 * six + column mid (fourBits.getD y (0, 0)))
  | .special b =>
    let x := b.toNat % 32
    let six := column plus (if x = 28 then (0b001111, 0b110000) else sixBits.getD x (0, 0))
    let mid := disparityAfter 6 plus six
    let four := if x = 28 then ((fourSpecial.find? (fun e => e.1 = b.toNat / 32)).getD (0, (0, 0))).2 else fourBits.getD 8 (0, 0)
    BitVec.ofNat 10 (16 * six + column mid four)
  | .bad => BitVec.ofNat 10 (if plus then 0b1000010111 else 0b0111101000)

/-- The code groups of consecutive symbols from a running disparity on. -/
def groupsOf (plus : Bool) : List Sym → List (BitVec 10)
  | [] => []
  | y :: ys => groupOf plus y :: groupsOf (groupDisparity plus (groupOf plus y)) ys

/-- Table HOOP-1. -/
def symComma : Sym := .special 0xBC
def symShift : Sym := .special 0xFB
def symShiftEnd : List Sym := [.special 0xFD, .data 0xC5]
def symPacket : Sym := .special 0x5C
def symPacketEnd : Sym := .special 0xF7
def symError : Sym := .special 0xFE

end Sys2Proof.Machine

namespace Sys2Proof

open Sys2Proof.Machine

/-- The byte of a symbol, 0 for an invalid code group. -/
def Sym.byte : Sym → Byte
  | .data b => b
  | .special b => b
  | .bad => 0

/-- Whether a symbol is a data code group. -/
def Sym.isData : Sym → Bool
  | .data _ => true
  | _ => false

/-- The symbols of a received SYNC or heartbeat. -/
def SyncRx.syms (c : SyncRx) : List Sym := symbolsOf c.rd c.groups

/-- Its 48 bytes (Table HOOP-4, Table TWN-1). -/
def SyncRx.bytes (c : SyncRx) : List Byte := c.syms.map Sym.byte

/-- Whether its 48 code groups are valid: a COMMA, and data behind it (R313). -/
def SyncRx.codesOk (c : SyncRx) : Bool := c.syms.head? = some symComma && (c.syms.drop 1).all Sym.isData

/-- The symbols of a received shift section, from /SS/ on. -/
def ShiftRx.syms (c : ShiftRx) : List Sym := symbolsOf c.rd c.groups

/-- Its PAGE, LEN, shift data and CRC-32 (Table HOOP-3). -/
def ShiftRx.page (c : ShiftRx) : Byte := (c.syms.getD 1 .bad).byte
def ShiftRx.len (c : ShiftRx) : Nat := leAt (c.syms.map Sym.byte) 2 2
def ShiftRx.data (c : ShiftRx) : List Byte := ((c.syms.drop 4).take c.len).map Sym.byte
def ShiftRx.crc (c : ShiftRx) : BitVec 32 := BitVec.ofNat 32 (leAt (c.syms.map Sym.byte) (4 + c.len) 4)

/-- Whether it is whole: /SS/, nothing but data to the end of its CRC, and /SE/ (R320). -/
def ShiftRx.closed (c : ShiftRx) : Bool :=
  c.syms.head? = some symShift && ((c.syms.drop 1).take (7 + c.len)).all Sym.isData && (c.syms.drop (8 + c.len)).take 2 = symShiftEnd

/-- The symbols as a unit passes them on: /ER/ in place of every invalid code group (R314). -/
def ShiftRx.relayed (c : ShiftRx) : List Sym := c.syms.map (fun y => if y = .bad then symError else y)

/-- The symbols of a received packet, /PS/ to /PE/. -/
def PktRx.syms (r : PktRx) : List Sym := symbolsOf r.rd r.groups

/-- The bytes between /PS/ and /PE/. -/
def PktRx.body (r : PktRx) : List Byte := ((r.syms.drop 1).take (r.syms.length - 2)).map Sym.byte

/-- The packet that they spell (Table HOOP-6). -/
def PktRx.packet (r : PktRx) : Packet :=
  let b := r.body
  ⟨b.getD 0 0, b.getD 1 0, BitVec.ofNat 12 (leAt b 2 2), BitVec.ofNat 12 (leAt b 4 2), BitVec.ofNat 16 (leAt b 6 2),
    (b.drop 8).take (b.length - 12), BitVec.ofNat 32 (leAt b (b.length - 4) 4)⟩

/-- Whether it came whole: framed by /PS/ and /PE/, with data between them whose CRC-32 is right (R324). -/
def PktRx.whole (r : PktRx) : Bool :=
  r.syms.head? = some symPacket && r.syms.getLast? = some symPacketEnd && decide (14 ≤ r.syms.length) &&
    ((r.syms.drop 1).take (r.syms.length - 2)).all Sym.isData &&
    BitVec.ofNat 32 (leAt r.body (r.body.length - 4) 4) = crc32 (r.body.take (r.body.length - 4))

end Sys2Proof
end

