-- ==== Sys2Proof/Config.lean ====
section
/-! DEFINITION. What one device fixes and the spec leaves open: identity, keys, delivered flash contents, control laws the
spec gives no formula for, and free values. All are constants with no body, but for the queue's depth, which is one such constant and 1. -/

namespace Sys2Proof.Config

/-- A free value: the spec states no value here, and nothing constrains it. Each draw uses the next number. -/
opaque free : Nat → BitVec 64

/-- ID_DEVICE.VENDOR, fixed at manufacture (R102, Table FLT-3). -/
opaque vendor : BitVec 16

/-- The device's EUI-64 (Table FLT-3). -/
opaque eui : BitVec 64

/-- The boot ROM's version (Table FLT-3). -/
opaque romVer : BitVec 16

/-- Byte `off` of flash slot `slot` as delivered (R438): slots 0 and 1 are the Steward's, 2 and 3 the Rind's. -/
opaque flashByte (slot off : Nat) : Byte

/-- Urlyn's public key in the boot ROM, a point of P-256 (R439). -/
opaque vendorKey : Nat × Nat

/-- The Rind's own ECDSA P-256 signature over a message, 64 bytes, by the number of the record (R414). -/
opaque rindSign (recno : Nat) (msg : List Byte) : List Byte

/-- The Rind's public key, 64 bytes (Table RND, PUBKEY). -/
opaque rindPubkey : List Byte

/-- The legally relevant part of a Rind image, whose bounds within the image the spec does not give (Table RND-10); the boot
ROM's own for an empty image. -/
opaque lrPart (image : List Byte) : List Byte

/-- The word-clock follower's steering law (R23): the next steering in 0.01 ppm, before its limit of ±5,000, from the present
steering and the measured phase error in ticks. -/
opaque wordLaw (steer : Int) (err : Int) : Int

/-- The stage's PI law (R173): the next duty in 1/65,536, before its limit, from the present duty, the demanded current in µA
and the measured current in mA. -/
opaque piLaw (duty demandUa iMa : Nat) : Nat

/-- Whether PE_REFCLKP and PE_REFCLKN carry the host's reference clock, by the tick (R93): a wire that no row drives. -/
opaque peRefclk : Nat → Bool

/-- How many frames the radio's transmit queue holds beyond one: the spec names the queue and gives no number (R161). -/
opaque ozhQueueMore : Nat

/-- How many frames the radio's transmit queue holds; it holds at least one. -/
def ozhQueueDepth : Nat := ozhQueueMore + 1

end Sys2Proof.Config
end

