-- ==== Sys2Proof/Machine/Tab.lean ====
section
/-! DEFINITION. Sparse tables in one canonical form: keys strictly rising, and no entry equal to what an unlisted key
reads as. Culture memory, image slots, register files and every numbered group of units are held so. -/

namespace Sys2Proof.Machine

/-- The value at key `k`; an unlisted key reads as `d`. -/
def tabGet {α : Type} (d : α) : Tab α → Nat → α
  | [], _ => d
  | (j, v) :: m, k => if j = k then v else tabGet d m k

/-- The table without an entry for key `k`. -/
def tabDel {α : Type} : Tab α → Nat → Tab α
  | [], _ => []
  | (j, w) :: m, k => if j = k then tabDel m k else (j, w) :: tabDel m k

/-- The table with an entry for key `k`, which it does not hold, put in its place. -/
def tabIns {α : Type} : Tab α → Nat → α → Tab α
  | [], k, v => [(k, v)]
  | (j, w) :: m, k, v => if j < k then (j, w) :: tabIns m k v else (k, v) :: (j, w) :: m

/-- The table with `v` at key `k`; a value equal to `d` is not listed. -/
def tabSet {α : Type} [DecidableEq α] (d : α) (m : Tab α) (k : Nat) (v : α) : Tab α :=
  if v = d then tabDel m k else tabIns (tabDel m k) k v

/-- The table with `f` applied to the value at key `k`. -/
def tabMod {α : Type} [DecidableEq α] (d : α) (m : Tab α) (k : Nat) (f : α → α) : Tab α :=
  tabSet d m k (f (tabGet d m k))

/-- Every key of the table lies above `lo` and the keys rise strictly. -/
def tabSorted {α : Type} (lo : Nat) : Tab α → Bool
  | [] => true
  | (j, _) :: m => decide (lo ≤ j) && tabSorted (j + 1) m

/-- The canonical form, for tables whose unlisted key `k` reads as `d k`. -/
def tabWf {α : Type} [DecidableEq α] (d : Nat → α) (m : Tab α) : Bool :=
  tabSorted 0 m && m.all (fun e => decide (e.2 ≠ d e.1))

/-- The numbers `0` to `n - 1`. -/
def upTo (n : Nat) : List Nat := List.range n

end Sys2Proof.Machine
end

