-- ==== Sys2Proof/Machine/Crypto.lean ====
section
/-! DEFINITION. The published algorithms that the spec names: AES-128 (FIPS 197) with AES-CMAC (NIST SP 800-38B) and CCM* (R391, R392), SHA-256
(FIPS 180-4) and the verification of an ECDSA P-256 signature (FIPS 186-5; R414, R439, Table FLT-2). -/

namespace Sys2Proof.Machine

/-- The `n` bytes of a value, most significant first. -/
def beBytes (v n : Nat) : List Byte := (leBytes v n).reverse

/-- The value of bytes, most significant first. -/
def beVal (bs : List Byte) : Nat := bs.foldl (fun n b => 256 * n + b.toNat) 0

/-- Byte lists combined by exclusive or, as long as the shorter one. -/
def xorBytes (a b : List Byte) : List Byte := List.zipWith (· ^^^ ·) a b

/-! ### AES-128 -/

/-- The substitution box of FIPS 197, one row of sixteen bytes per number, the first byte most significant. -/
def aesRows : List Nat := [
  0x637C777BF26B6FC53001672BFED7AB76, 0xCA82C97DFA5947F0ADD4A2AF9CA472C0, 0xB7FD9326363FF7CC34A5E5F171D83115,
  0x04C723C31896059A071280E2EB27B275, 0x09832C1A1B6E5AA0523BD6B329E32F84, 0x53D100ED20FCB15B6ACBBE394A4C58CF,
  0xD0EFAAFB434D338545F9027F503C9FA8, 0x51A3408F929D38F5BCB6DA2110FFF3D2, 0xCD0C13EC5F974417C4A77E3D645D1973,
  0x60814FDC222A908846EEB814DE5E0BDB, 0xE0323A0A4906245CC2D3AC629195E479, 0xE7C8376D8DD54EA96C56F4EA657AAE08,
  0xBA78252E1CA6B4C6E8DD741F4BBD8B8A, 0x703EB5664803F60E613557B986C11D9E, 0xE1F8981169D98E949B1E87E9CE5528DF,
  0x8CA1890DBFE6426841992D0FB054BB16]

/-- SubBytes of one byte. -/
def aesSub (b : Byte) : Byte := BitVec.ofNat 8 (aesRows.getD (b.toNat / 16) 0 / 256 ^ (15 - b.toNat % 16))

/-- Doubling in the field of AES. -/
def aesDouble (b : Byte) : Byte := if b.getLsbD 7 then (b <<< 1) ^^^ 0x1B else b <<< 1

/-- MixColumns of one column. -/
def aesMix (c : List Byte) : List Byte :=
  let x (i : Nat) : Byte := c.getD (i % 4) 0
  (upTo 4).map (fun i => aesDouble (x i ^^^ x (i + 1)) ^^^ x (i + 1) ^^^ x (i + 2) ^^^ x (i + 3))

/-- SubBytes and ShiftRows of the sixteen bytes of a state, column by column. -/
def aesShift (s : List Byte) : List Byte := (upTo 16).map (fun i => aesSub (s.getD (5 * i % 16) 0))

/-- The next round key, by the round's constant. -/
def aesNextKey (k : List Byte) (rc : Byte) : List Byte :=
  let last := k.drop 12
  let t := xorBytes ((last.drop 1 ++ last.take 1).map aesSub) [rc, 0, 0, 0]
  let a := xorBytes (k.take 4) t
  let b := xorBytes ((k.drop 4).take 4) a
  let c := xorBytes ((k.drop 8).take 4) b
  a ++ b ++ c ++ xorBytes last c

/-- `n` rounds that mix, then the last one, which does not. -/
def aesRounds : Nat → Byte → List Byte → List Byte → List Byte
  | 0, rc, k, s => xorBytes (aesShift s) (aesNextKey k rc)
  | n + 1, rc, k, s =>
    let k := aesNextKey k rc
    let s := aesShift s
    aesRounds n (aesDouble rc) k (xorBytes ((upTo 4).flatMap (fun j => aesMix ((s.drop (4 * j)).take 4))) k)

/-- AES-128 of one block of sixteen bytes. -/
def aesBlock (key : BitVec 128) (block : List Byte) : List Byte :=
  let k := beBytes key.toNat 16
  aesRounds 9 1 k (xorBytes block k)

/-- Bytes in blocks of sixteen, the last one filled with zeros. -/
def blocks16 (bs : List Byte) : List (List Byte) :=
  (upTo (ceilDiv bs.length 16)).map (fun j => ((bs.drop (16 * j) ++ List.replicate 15 0).take 16))

/-- Cipher block chaining over blocks, from an initial value. -/
def cbcMac (key : BitVec 128) (iv : List Byte) (bs : List (List Byte)) : List Byte :=
  bs.foldl (fun x b => aesBlock key (xorBytes x b)) iv

/-- Sixteen bytes of zeros. -/
def zero16 : List Byte := List.replicate 16 0

/-- The next subkey of CMAC. -/
def cmacSub (v : BitVec 128) : BitVec 128 := if v.getLsbD 127 then (v <<< 1) ^^^ 0x87 else v <<< 1

/-- AES-CMAC (R391). -/
def aesCmac (key : BitVec 128) (msg : List Byte) : BitVec 128 :=
  let k1 := cmacSub (BitVec.ofNat 128 (beVal (aesBlock key zero16)))
  let n : Nat := (msg.length - 1) / 16 * 16
  let last := msg.drop n
  let tail := if last.length = 16 then xorBytes last (beBytes k1.toNat 16)
    else xorBytes ((last ++ [0x80] ++ zero16).take 16) (beBytes (cmacSub k1).toNat 16)
  BitVec.ofNat 128 (beVal (cbcMac key zero16 (blocks16 (msg.take n) ++ [tail])))

/-- CCM*'s tag of `mic` bytes before encryption, with a length field of two bytes (R392). -/
def ccmTag (key : BitVec 128) (nonce aad clear : List Byte) (mic : Nat) : List Byte :=
  let b0 : List Byte := [BitVec.ofNat 8 (b2n (!aad.isEmpty) * 64 + (mic - 2) / 2 * 8 + 1)] ++ nonce ++ beBytes clear.length 2
  let a := if aad.isEmpty then [] else blocks16 (beBytes aad.length 2 ++ aad)
  (cbcMac key zero16 ([b0] ++ a ++ blocks16 clear)).take mic

/-- CCM*'s key stream for block `i`. -/
def ccmStream (key : BitVec 128) (nonce : List Byte) (i : Nat) : List Byte := aesBlock key ([1] ++ nonce ++ beBytes i 2)

/-- CCM*'s encryption, which is its own inverse. -/
def ccmCrypt (key : BitVec 128) (nonce bs : List Byte) : List Byte :=
  xorBytes bs ((upTo (ceilDiv bs.length 16)).flatMap (fun i => ccmStream key nonce (i + 1)))

/-- CCM*: the encrypted payload followed by its MIC (R392). -/
def ccmSeal (key : BitVec 128) (nonce aad clear : List Byte) (mic : Nat) : List Byte :=
  ccmCrypt key nonce clear ++ xorBytes (ccmTag key nonce aad clear mic) (ccmStream key nonce 0)

/-- CCM* opened: the clear payload, or none where the MIC does not match (R392). -/
def ccmOpen (key : BitVec 128) (nonce aad body : List Byte) (mic : Nat) : Option (List Byte) :=
  let n := body.length - mic
  let clear := ccmCrypt key nonce (body.take n)
  if mic ≤ body.length ∧ body.drop n = xorBytes (ccmTag key nonce aad clear mic) (ccmStream key nonce 0) then some clear else none

/-! ### SHA-256 -/

/-- The round constants of FIPS 180-4. -/
def shaK : List Word := [
  0x428A2F98, 0x71374491, 0xB5C0FBCF, 0xE9B5DBA5, 0x3956C25B, 0x59F111F1, 0x923F82A4, 0xAB1C5ED5] ++ [
  0xD807AA98, 0x12835B01, 0x243185BE, 0x550C7DC3, 0x72BE5D74, 0x80DEB1FE, 0x9BDC06A7, 0xC19BF174] ++ [
  0xE49B69C1, 0xEFBE4786, 0x0FC19DC6, 0x240CA1CC, 0x2DE92C6F, 0x4A7484AA, 0x5CB0A9DC, 0x76F988DA] ++ [
  0x983E5152, 0xA831C66D, 0xB00327C8, 0xBF597FC7, 0xC6E00BF3, 0xD5A79147, 0x06CA6351, 0x14292967] ++ [
  0x27B70A85, 0x2E1B2138, 0x4D2C6DFC, 0x53380D13, 0x650A7354, 0x766A0ABB, 0x81C2C92E, 0x92722C85] ++ [
  0xA2BFE8A1, 0xA81A664B, 0xC24B8B70, 0xC76C51A3, 0xD192E819, 0xD6990624, 0xF40E3585, 0x106AA070] ++ [
  0x19A4C116, 0x1E376C08, 0x2748774C, 0x34B0BCB5, 0x391C0CB3, 0x4ED8AA4A, 0x5B9CCA4F, 0x682E6FF3] ++ [
  0x748F82EE, 0x78A5636F, 0x84C87814, 0x8CC70208, 0x90BEFFFA, 0xA4506CEB, 0xBEF9A3F7, 0xC67178F2]

/-- The message schedule of one block of 64 bytes. -/
def shaSchedule (block : List Byte) : List Word :=
  (upTo 48).foldl (fun w t =>
    let x := w.getD (t + 14) 0
    let y := w.getD (t + 1) 0
    w ++ [(x.rotateRight 17 ^^^ x.rotateRight 19 ^^^ (x >>> 10)) + w.getD (t + 9) 0 +
      (y.rotateRight 7 ^^^ y.rotateRight 18 ^^^ (y >>> 3)) + w.getD t 0])
    ((upTo 16).map (fun j => BitVec.ofNat 32 (beVal ((block.drop (4 * j)).take 4))))

/-- One round over the eight working words. -/
def shaRound (v : List Word) (kw : Word) : List Word :=
  match v with
  | [a, b, c, d, e, f, g, h] =>
    let t1 := h + (e.rotateRight 6 ^^^ e.rotateRight 11 ^^^ e.rotateRight 25) + ((e &&& f) ^^^ (~~~e &&& g)) + kw
    let t2 := (a.rotateRight 2 ^^^ a.rotateRight 13 ^^^ a.rotateRight 22) + ((a &&& b) ^^^ (a &&& c) ^^^ (b &&& c))
    [t1 + t2, a, b, c, d + t1, e, f, g]
  | _ => v

/-- One block taken into the hash value. -/
def shaBlock (h : List Word) (block : List Byte) : List Word :=
  List.zipWith (· + ·) h ((List.zipWith (· + ·) shaK (shaSchedule block)).foldl shaRound h)

/-- SHA-256 of a byte list (R414, R416, R439). -/
def sha256 (bs : List Byte) : List Byte :=
  let pad := bs ++ [0x80] ++ List.replicate ((119 - bs.length % 64) % 64) 0 ++ beBytes (8 * bs.length) 8
  let h0 : List Word := [0x6A09E667, 0xBB67AE85, 0x3C6EF372, 0xA54FF53A, 0x510E527F, 0x9B05688C, 0x1F83D9AB, 0x5BE0CD19]
  ((upTo (pad.length / 64)).foldl (fun h k => shaBlock h ((pad.drop (64 * k)).take 64)) h0).flatMap (fun w => beBytes w.toNat 4)

/-! ### ECDSA over NIST P-256 -/

/-- The prime of the field, and the order of the base point. -/
def p256P : Nat := 2 ^ 256 - 2 ^ 224 + 2 ^ 192 + 2 ^ 96 - 1
def p256N : Nat := 0xFFFFFFFF00000000FFFFFFFFFFFFFFFFBCE6FAADA7179E84F3B9CAC2FC632551

/-- The base point. -/
def p256G : Nat × Nat :=
  (0x6B17D1F2E12C4247F8BCE6E563A440F277037D812DEB33A0F4A13945D898C296,
   0x4FE342E2FE1A7F9B8EE7EB4A7C0F9E162BCE33576B315ECECBB6406837BF51F5)

/-- A power modulo `m`, over the low `n` bits of the exponent. -/
def powMod (m b e : Nat) : Nat → Nat
  | 0 => 1 % m
  | n + 1 =>
    let h := powMod m b (e / 2) n
    if e % 2 = 1 then h * h % m * b % m else h * h % m

/-- The inverse modulo a prime below 2^256. -/
def invMod (m a : Nat) : Nat := powMod m a (m - 2) 256

/-- The sum of two points of the curve; none is the point at infinity. -/
def p256Add : Option (Nat × Nat) → Option (Nat × Nat) → Option (Nat × Nat)
  | none, b => b
  | a, none => a
  | some (x1, y1), some (x2, y2) =>
    let p := p256P
    if x1 = x2 && (y1 + y2) % p = 0 then none
    else
      let l := if x1 = x2 then (3 * x1 * x1 + p - 3) * invMod p (2 * y1 % p) % p else (y2 + p - y1) * invMod p ((x2 + p - x1) % p) % p
      let x := (l * l + 2 * p - x1 - x2) % p
      some (x, (l * (x1 + p - x) + p - y1) % p)

/-- A multiple of a point, over the low `n` bits of the factor. -/
def p256Mul (q : Nat × Nat) (e : Nat) : Nat → Option (Nat × Nat)
  | 0 => none
  | n + 1 =>
    let h := p256Mul q (e / 2) n
    let d := p256Add h h
    if e % 2 = 1 then p256Add d (some q) else d

/-- Whether a signature of 64 bytes, R then S, over a message verifies under a public key (FIPS 186-5). -/
def ecdsaVerify (key : Nat × Nat) (msg sig : List Byte) : Bool :=
  let r := beVal (sig.take 32)
  let s := beVal ((sig.drop 32).take 32)
  let n := p256N
  if r = 0 || n ≤ r || s = 0 || n ≤ s then false
  else
    let w := invMod n s
    match p256Add (p256Mul p256G (beVal (sha256 msg) * w % n) 256) (p256Mul key (r * w % n) 256) with
    | some (x, _) => x % n = r
    | none => false

end Sys2Proof.Machine
end

