-- ==== Sys2Proof/Machine/RegTable.lean ====
section
/-! DEFINITION. The set-up registers of BAR0: for every register its offset, stride and count, and for every field its bits,
access class (Table SCP-3), application boundary or idle part, reset value and legal encodings, as the register tables of
the chapters give them (R48, R101, R138, R196, R214, R236, R260, R280, R307, R341, R361, R401, R428, R447). -/

namespace Sys2Proof.Machine

/-- The grid at which an RW-live field takes effect (Table SCP-4); which unit of the grid is meant follows from the offset,
and for a field that holds one channel of several, from the channel number within the register. -/
inductive LiveGrid where
  | press
  | dim
  | conv
  | frame
  | rowSlot
  | car
  | adc
  | slot
  | dimClass (j : Nat)
  | owner (j : Nat)
deriving DecidableEq, Repr

/-- The blocks with one shadow copy of staged fields (R128). -/
inductive StagedBlk where
  | str
  | mtx
  | clr
  | rip
  | hoop
  | ozh
deriving DecidableEq, Repr

/-- The part of a block that an RW-idle field is judged against (R12 and each chapter's own rule on parts). -/
inductive Part where
  | whlWord
  | whlTmp
  | ringEng
  | curd
  | whey
  | str
  | strBankA
  | strBankB
  | mtx
  | clr
  | rip
  | hrp
  | hrpMem16
  | hrpMem32
  | pinOwn (j : Nat)
  | car
  | seq
  | hoopFab
  | hoopShift
  | ozh
deriving DecidableEq, Repr

/-- Access classes (Table SCP-3). -/
inductive Acc where
  | ro
  | w1c
  | wo
  | seal
  | live (g : LiveGrid)
  | staged (b : StagedBlk)
  | idle (p : Part)
deriving DecidableEq, Repr

/-- Which encodings of a field are not reserved (R15); the named ones are judged with the state beside them. -/
inductive Legal where
  | any
  | range (lo hi : Nat)
  | oneOf (vs : List Nat)
  | align8
  | beMax
  | beMin
  | ccaThr
  | curdBase
  | curdSize
  | even
  | harpInstr
  | iset
  | joinBank
  | link
  | loopLim
  | ownerCode
  | rebaseThr
  | routeRange
  | shiftLen
  | shortVMtx
  | shortVStr
  | slope
  | srvHi
  | stepThr
  | txpwr
  | wheyBase
  | wheySize
deriving DecidableEq, Repr

/-- A field of a register: its bits, class, reset value and legal encodings. -/
structure Fld where
  hi : Nat
  lo : Nat
  acc : Acc
  reset : Nat
  legal : Legal
deriving DecidableEq, Repr

/-- A register, or an evenly spaced group of like registers. -/
structure RegRow where
  base : Nat
  stride : Nat
  count : Nat
  fields : List Fld
deriving DecidableEq, Repr

/-- The registers of the ID_ block (R447), by first offset, stride and count. -/
def rowsId : List RegRow :=
  [
   -- ID_DEVICE
   ⟨0x0, 4, 1, [⟨15, 0, .ro, 0, .any⟩, ⟨31, 16, .ro, 3478, .any⟩]⟩,
   -- ID_MEMBER
   ⟨0x4, 4, 1, [⟨1, 0, .ro, 3, .any⟩, ⟨10, 8, .ro, 7, .any⟩, ⟨23, 16, .ro, 1, .any⟩]⟩,
   -- ID_REV
   ⟨0x8, 4, 1, [⟨7, 0, .ro, 33, .any⟩]⟩,
   -- ID_EUI_LO
   ⟨0xC, 4, 1, [⟨31, 0, .ro, 0, .any⟩]⟩,
   -- ID_EUI_HI
   ⟨0x10, 4, 1, [⟨31, 0, .ro, 0, .any⟩]⟩,
   -- ID_IMG_VER
   ⟨0x14, 4, 1, [⟨31, 0, .ro, 0, .any⟩]⟩,
   -- ID_IFS
   ⟨0x18, 4, 1, [⟨23, 0, .ro, 0, .any⟩]⟩,
   -- ID_ROM_VER
   ⟨0x1C, 4, 1, [⟨15, 0, .ro, 0, .any⟩]⟩]

/-- The registers of the WHL_ block (R48), by first offset, stride and count. -/
def rowsWhl : List RegRow :=
  [
   -- WHL_NOW_LO
   ⟨0x400, 4, 1, [⟨31, 0, .ro, 0, .any⟩]⟩,
   -- WHL_NOW_HI
   ⟨0x404, 4, 1, [⟨31, 0, .ro, 0, .any⟩]⟩,
   -- WHL_STAT
   ⟨0x408, 4, 1, [⟨2, 0, .ro, 0, .any⟩, ⟨5, 4, .ro, 1, .any⟩, ⟨8, 8, .ro, 0, .any⟩]⟩,
   -- WHL_CLK_CTL
   ⟨0x410, 4, 1, [⟨0, 0, (.live .press), 0, .any⟩, ⟨2, 1, (.idle .whlWord), 0, (.range 0 2)⟩, ⟨3, 3, (.idle .whlWord), 0, .any⟩]⟩,
   -- WHL_CLK_STAT
   ⟨0x414, 4, 1, [⟨1, 0, .ro, 0, .any⟩, ⟨2, 2, .ro, 0, .any⟩, ⟨3, 3, .ro, 0, .any⟩, ⟨5, 4, .ro, 0, .any⟩, ⟨6, 6, .ro, 0, .any⟩, ⟨31, 16, .ro, 0, .any⟩]⟩,
   -- WHL_CUE_LATE_TOL
   ⟨0x418, 4, 1, [⟨23, 0, (.live .press), 8192, .any⟩]⟩,
   -- WHL_STEP_THR
   ⟨0x41C, 4, 1, [⟨23, 0, (.live .press), 4096, .stepThr⟩]⟩,
   -- WHL_REBASE_THR
   ⟨0x420, 4, 1, [⟨31, 0, (.live .press), 1048576, .rebaseThr⟩]⟩,
   -- WHL_ERR
   ⟨0x424, 4, 1, [⟨15, 0, .ro, 0, .any⟩]⟩,
   -- WHL_WOSC_CAL
   ⟨0x428, 4, 1, [⟨31, 0, .ro, 6144000, .any⟩]⟩,
   -- WHL_FLAGS
   ⟨0x42C, 4, 1, [⟨0, 0, .w1c, 0, .any⟩, ⟨1, 1, .w1c, 0, .any⟩, ⟨2, 2, .w1c, 0, .any⟩, ⟨3, 3, .w1c, 0, .any⟩, ⟨4, 4, .w1c, 0, .any⟩, ⟨5, 5, .w1c, 0, .any⟩, ⟨6, 6, .w1c, 0, .any⟩, ⟨31, 31, .w1c, 0, .any⟩]⟩,
   -- WHL_TMP_CTL
   ⟨0x440, 4, 1, [⟨0, 0, (.live .press), 0, .any⟩, ⟨2, 1, (.live .press), 0, .any⟩, ⟨6, 4, (.idle .whlTmp), 0, .any⟩, ⟨7, 7, (.live .press), 0, .any⟩, ⟨15, 8, (.live .press), 4, (.range 1 96)⟩, ⟨19, 16, (.live .press), 4, .any⟩]⟩,
   -- WHL_TMP_BPM
   ⟨0x444, 4, 1, [⟨15, 0, (.live .press), 12000, (.range 2000 40000)⟩]⟩,
   -- WHL_TMP_MIDI_LAT
   ⟨0x448, 4, 1, [⟨23, 0, (.live .press), 0, .any⟩]⟩,
   -- WHL_TMP_PER_INT
   ⟨0x44C, 4, 1, [⟨31, 0, .ro, 0, .any⟩]⟩,
   -- WHL_TMP_PER_FRAC
   ⟨0x450, 4, 1, [⟨15, 0, .ro, 0, .any⟩]⟩,
   -- WHL_TMP_BEAT
   ⟨0x454, 4, 1, [⟨31, 0, .ro, 0, .any⟩]⟩,
   -- WHL_TMP_STAT
   ⟨0x458, 4, 1, [⟨1, 0, .ro, 0, .any⟩, ⟨2, 2, .ro, 0, .any⟩]⟩]

/-- The registers of the PWR_ block (R101), by first offset, stride and count. -/
def rowsPwr : List RegRow :=
  [
   -- PWR_STAT
   ⟨0x800, 4, 1, [⟨2, 0, .ro, 2, .any⟩, ⟨3, 3, .ro, 0, .any⟩, ⟨8, 4, .ro, 0, .any⟩, ⟨9, 9, .ro, 0, .any⟩]⟩,
   -- PWR_MODE_REQ
   ⟨0x804, 4, 1, [⟨2, 0, (.live .press), 2, (.range 0 5)⟩]⟩,
   -- PWR_CMD
   ⟨0x808, 4, 1, [⟨0, 0, .wo, 0, .any⟩]⟩,
   -- PWR_WAKE_EN
   ⟨0x80C, 4, 1, [⟨0, 0, (.live .press), 1, .any⟩, ⟨1, 1, (.live .press), 1, .any⟩, ⟨2, 2, (.live .press), 0, .any⟩, ⟨3, 3, (.live .press), 0, .any⟩]⟩,
   -- PWR_WAKE_PIN
   ⟨0x810, 4, 1, [⟨4, 0, (.live .press), 0, .any⟩, ⟨6, 5, (.live .press), 0, .any⟩, ⟨12, 8, (.live .press), 0, .any⟩, ⟨14, 13, (.live .press), 0, .any⟩, ⟨20, 16, (.live .press), 0, .any⟩, ⟨22, 21, (.live .press), 0, .any⟩, ⟨28, 24, (.live .press), 0, .any⟩, ⟨30, 29, (.live .press), 0, .any⟩]⟩,
   -- PWR_DOZE_INT
   ⟨0x814, 4, 1, [⟨23, 0, (.live .press), 0, .any⟩]⟩,
   -- PWR_VAULT_ALARM
   ⟨0x818, 4, 1, [⟨31, 0, (.live .press), 0, .any⟩]⟩,
   -- PWR_CTL
   ⟨0x81C, 4, 1, [⟨0, 0, (.live .press), 0, .any⟩, ⟨1, 1, (.live .press), 0, .any⟩, ⟨2, 2, (.live .press), 0, .any⟩, ⟨3, 3, (.live .press), 0, .any⟩, ⟨15, 8, (.live .press), 100, (.range 1 255)⟩]⟩,
   -- PWR_WAKE_CAUSE
   ⟨0x820, 4, 1, [⟨3, 0, .ro, 0, .any⟩, ⟨8, 4, .ro, 0, .any⟩, ⟨9, 9, .ro, 0, .any⟩]⟩,
   -- PWR_WAKE_FAIL
   ⟨0x824, 4, 1, [⟨1, 0, .ro, 0, .any⟩, ⟨6, 4, .ro, 0, .any⟩, ⟨9, 8, .ro, 0, .any⟩]⟩,
   -- PWR_WAKE_TIME
   ⟨0x828, 4, 1, [⟨31, 0, .ro, 0, .any⟩]⟩,
   -- PWR_FLAGS
   ⟨0x82C, 4, 1, [⟨0, 0, .w1c, 0, .any⟩, ⟨1, 1, .w1c, 0, .any⟩, ⟨2, 2, .w1c, 0, .any⟩, ⟨3, 3, .w1c, 0, .any⟩, ⟨4, 4, .w1c, 0, .any⟩, ⟨5, 5, .w1c, 0, .any⟩, ⟨31, 31, .w1c, 0, .any⟩]⟩]

/-- Part 0 of the rows below. -/
def rowsRing0 : List RegRow :=
  [
   -- RING_ABI
   ⟨0x1000, 4, 1, [⟨7, 0, .ro, 0, .any⟩, ⟨15, 8, .ro, 0, .any⟩, ⟨23, 16, .ro, 0, .any⟩, ⟨25, 24, .ro, 0, .any⟩]⟩,
   -- RING_ABI_HOST
   ⟨0x1004, 4, 1, [⟨7, 0, (.idle .ringEng), 0, .any⟩, ⟨15, 8, (.idle .ringEng), 0, .any⟩]⟩,
   -- RING_CTL
   ⟨0x1008, 4, 1, [⟨0, 0, (.live .press), 0, .any⟩, ⟨2, 1, (.live .press), 0, .any⟩, ⟨3, 3, (.live .press), 0, .any⟩]⟩,
   -- RING_STAT
   ⟨0x100C, 4, 1, [⟨0, 0, .ro, 0, .any⟩, ⟨28, 16, .ro, 0, .any⟩]⟩,
   -- RING_FLAGS
   ⟨0x1010, 4, 1, [⟨0, 0, .w1c, 0, .any⟩, ⟨1, 1, .w1c, 0, .any⟩, ⟨2, 2, .w1c, 0, .any⟩, ⟨3, 3, .w1c, 0, .any⟩, ⟨4, 4, .w1c, 0, .any⟩, ⟨5, 5, .w1c, 0, .any⟩, ⟨31, 31, .w1c, 0, .any⟩]⟩,
   -- RING_ERR_ADDR_LO
   ⟨0x1014, 4, 1, [⟨31, 0, .ro, 0, .any⟩]⟩,
   -- RING_ERR_ADDR_HI
   ⟨0x1018, 4, 1, [⟨31, 0, .ro, 0, .any⟩]⟩,
   -- RING_LOST
   ⟨0x101C, 4, 1, [⟨15, 0, .ro, 0, .any⟩, ⟨31, 16, .ro, 0, .any⟩]⟩,
   -- RING_REMOTE_TMO
   ⟨0x1020, 4, 1, [⟨15, 0, (.live .press), 4800, (.range 1 65535)⟩]⟩,
   -- CURD_n.BASE_LO
   ⟨0x1100, 32, 8, [⟨31, 0, (.idle .curd), 0, .curdBase⟩]⟩,
   -- CURD_n.BASE_HI
   ⟨0x1104, 32, 8, [⟨31, 0, (.idle .curd), 0, .any⟩]⟩,
   -- CURD_n.DB_ADDR_LO
   ⟨0x1108, 32, 8, [⟨31, 0, (.idle .curd), 0, .align8⟩]⟩,
   -- CURD_n.DB_ADDR_HI
   ⟨0x110C, 32, 8, [⟨31, 0, (.idle .curd), 0, .any⟩]⟩,
   -- CURD_n.SHD_ADDR_LO
   ⟨0x1110, 32, 8, [⟨31, 0, (.idle .curd), 0, .align8⟩]⟩,
   -- CURD_n.SHD_ADDR_HI
   ⟨0x1114, 32, 8, [⟨31, 0, (.idle .curd), 0, .any⟩]⟩,
   -- CURD_n.CTL
   ⟨0x1118, 32, 8, [⟨0, 0, (.live .press), 0, .any⟩, ⟨4, 1, (.idle .curd), 4, .curdSize⟩, ⟨7, 5, (.live .press), 0, .any⟩, ⟨9, 8, (.idle .curd), 0, .any⟩, ⟨10, 10, (.live .press), 0, .any⟩, ⟨17, 16, .ro, 0, .any⟩, ⟨22, 20, .ro, 0, .any⟩]⟩,
   -- CURD_n.CI
   ⟨0x111C, 32, 8, [⟨31, 0, (.idle .curd), 0, .any⟩]⟩,
   -- WHEY_m.BASE_LO
   ⟨0x1200, 32, 4, [⟨31, 0, (.idle .whey), 0, .wheyBase⟩]⟩,
   -- WHEY_m.BASE_HI
   ⟨0x1204, 32, 4, [⟨31, 0, (.idle .whey), 0, .any⟩]⟩,
   -- WHEY_m.HEAD_ADDR_LO
   ⟨0x1208, 32, 4, [⟨31, 0, (.idle .whey), 0, .align8⟩]⟩,
   -- WHEY_m.HEAD_ADDR_HI
   ⟨0x120C, 32, 4, [⟨31, 0, (.idle .whey), 0, .any⟩]⟩,
   -- WHEY_m.SHD_ADDR_LO
   ⟨0x1210, 32, 4, [⟨31, 0, (.idle .whey), 0, .align8⟩]⟩,
   -- WHEY_m.SHD_ADDR_HI
   ⟨0x1214, 32, 4, [⟨31, 0, (.idle .whey), 0, .any⟩]⟩,
   -- WHEY_m.CTL
   ⟨0x1218, 32, 4, [⟨0, 0, (.live .press), 0, .any⟩, ⟨4, 1, (.idle .whey), 4, .wheySize⟩, ⟨7, 5, (.idle .whey), 0, .any⟩, ⟨15, 8, (.live .press), 1, .any⟩, ⟨21, 16, (.live .press), 0, .any⟩, ⟨22, 22, (.live .press), 0, .any⟩, ⟨25, 24, .ro, 0, .any⟩, ⟨30, 28, .ro, 0, .any⟩]⟩]

/-- Part 1 of the rows below. -/
def rowsRing1 : List RegRow :=
  [
   -- WHEY_m.TAIL
   ⟨0x121C, 32, 4, [⟨31, 0, (.idle .whey), 0, .any⟩]⟩]

/-- The registers of the RING_ block (R138), by first offset, stride and count. -/
def rowsRing : List RegRow := rowsRing0 ++ rowsRing1

/-- The registers of the STR_ block (R196), by first offset, stride and count. -/
def rowsStr : List RegRow :=
  [
   -- STR_GANG
   ⟨0x2000, 4, 1, [⟨7, 0, (.idle .strBankA), 0, .joinBank⟩, ⟨15, 8, (.idle .strBankB), 0, .joinBank⟩]⟩,
   -- STR_CMD
   ⟨0x2004, 4, 1, [⟨0, 0, .wo, 0, .any⟩]⟩,
   -- STR_DET
   ⟨0x2008, 4, 1, [⟨7, 0, (.live .press), 8, (.range 1 255)⟩, ⟨8, 8, (.live .press), 1, .any⟩, ⟨9, 9, (.live .press), 1, .any⟩]⟩,
   -- STR_FLT_OPEN
   ⟨0x2010, 4, 1, [⟨15, 0, .w1c, 0, .any⟩]⟩,
   -- STR_FLT_SHORT
   ⟨0x2014, 4, 1, [⟨15, 0, .w1c, 0, .any⟩]⟩,
   -- STR_PH_OPEN
   ⟨0x2018, 4, 1, [⟨15, 0, .w1c, 0, .any⟩]⟩,
   -- STR_PH_SENSE
   ⟨0x201C, 4, 1, [⟨15, 0, .w1c, 0, .any⟩]⟩,
   -- STR_FLAGS
   ⟨0x2020, 4, 1, [⟨0, 0, .w1c, 0, .any⟩, ⟨1, 1, .w1c, 0, .any⟩, ⟨31, 31, .w1c, 0, .any⟩]⟩,
   -- STR_ACTIVE
   ⟨0x2024, 4, 1, [⟨15, 0, .ro, 0, .any⟩]⟩,
   -- STR_n.CTL
   ⟨0x2100, 32, 16, [⟨0, 0, (.live .dim), 0, .any⟩, ⟨3, 1, (.idle .str), 1, (.range 0 4)⟩, ⟨5, 4, (.idle .str), 0, (.range 0 2)⟩, ⟨15, 8, (.live .conv), 200, (.range 16 200)⟩, ⟨23, 16, (.live .dim), 2, .shortVStr⟩]⟩,
   -- STR_n.CUR
   ⟨0x2104, 32, 16, [⟨11, 0, (.staged .str), 0, .iset⟩, ⟨31, 16, (.staged .str), 8192, (.range 2048 32768)⟩]⟩,
   -- STR_n.PHASE
   ⟨0x2108, 32, 16, [⟨15, 0, (.idle .str), 0, .any⟩, ⟨27, 16, (.live .dim), 0, .any⟩]⟩,
   -- STR_n.SAFE
   ⟨0x210C, 32, 16, [⟨15, 0, (.live .dim), 0, .any⟩]⟩,
   -- STR_n.STAT
   ⟨0x2110, 32, 16, [⟨0, 0, .ro, 0, .any⟩, ⟨1, 1, .ro, 0, .any⟩, ⟨2, 2, .ro, 0, .any⟩, ⟨3, 3, .ro, 0, .any⟩, ⟨4, 4, .ro, 0, .any⟩, ⟨5, 5, .ro, 0, .any⟩, ⟨6, 6, .ro, 0, .any⟩, ⟨11, 8, .ro, 0, .any⟩, ⟨31, 12, .ro, 0, .any⟩]⟩,
   -- STR_n.MEAS
   ⟨0x2114, 32, 16, [⟨15, 0, .ro, 0, .any⟩, ⟨31, 16, .ro, 0, .any⟩]⟩]

/-- The registers of the MTX_ block (R214), by first offset, stride and count. -/
def rowsMtx : List RegRow :=
  [
   -- MTX_CTL
   ⟨0x3000, 4, 1, [⟨0, 0, (.live .frame), 0, .any⟩, ⟨1, 1, (.live .frame), 0, .any⟩, ⟨2, 2, (.live .frame), 1, .any⟩, ⟨3, 3, (.live .frame), 1, .any⟩, ⟨4, 4, (.live .press), 1, .any⟩, ⟨5, 5, (.live .frame), 0, .any⟩, ⟨12, 8, (.live .frame), 15, .any⟩]⟩,
   -- MTX_CMD
   ⟨0x3004, 4, 1, [⟨0, 0, .wo, 0, .any⟩]⟩,
   -- MTX_ROW_EN
   ⟨0x3008, 4, 1, [⟨15, 0, (.staged .mtx), 0, .any⟩]⟩,
   -- MTX_DIAG
   ⟨0x300C, 4, 1, [⟨7, 0, (.live .press), 8, (.range 1 255)⟩]⟩,
   -- MTX_HDRM
   ⟨0x3010, 4, 1, [⟨7, 0, (.live .frame), 45, (.range 35 200)⟩, ⟨15, 8, (.live .frame), 5, .any⟩, ⟨23, 16, (.live .frame), 16, (.range 1 255)⟩, ⟨31, 24, (.live .frame), 255, .any⟩]⟩,
   -- MTX_STAT
   ⟨0x3014, 4, 1, [⟨0, 0, .ro, 0, .any⟩, ⟨1, 1, .ro, 0, .any⟩, ⟨5, 4, .ro, 0, .any⟩, ⟨11, 8, .ro, 0, .any⟩, ⟨23, 16, .ro, 0, .any⟩]⟩,
   -- MTX_HDRM_MIN
   ⟨0x3018, 4, 1, [⟨15, 0, .ro, 0, .any⟩, ⟨21, 16, .ro, 0, .any⟩]⟩,
   -- MTX_FLAGS
   ⟨0x301C, 4, 1, [⟨0, 0, .w1c, 0, .any⟩, ⟨1, 1, .w1c, 0, .any⟩, ⟨2, 2, .w1c, 0, .any⟩, ⟨31, 31, .w1c, 0, .any⟩]⟩,
   -- MTX_ROW_OC
   ⟨0x3020, 4, 1, [⟨15, 0, .w1c, 0, .any⟩]⟩,
   -- MTX_CLS_SCALE_n
   ⟨0x3024, 4, 2, [⟨5, 0, (.staged .mtx), 63, .any⟩, ⟨13, 8, (.staged .mtx), 63, .any⟩, ⟨21, 16, (.staged .mtx), 63, .any⟩, ⟨29, 24, (.staged .mtx), 63, .any⟩]⟩,
   -- MTX_COL_c
   ⟨0x3100, 4, 64, [⟨7, 0, (.staged .mtx), 1, (.range 1 255)⟩, ⟨10, 8, (.idle .mtx), 0, .any⟩, ⟨12, 12, (.live .frame), 0, .any⟩, ⟨22, 16, (.live .frame), 0, .shortVMtx⟩]⟩,
   -- MTX_FLT_OPEN_w
   ⟨0x3200, 4, 32, [⟨31, 0, .w1c, 0, .any⟩]⟩,
   -- MTX_FLT_SHORT_w
   ⟨0x3280, 4, 32, [⟨31, 0, .w1c, 0, .any⟩]⟩,
   -- MTX_HDRM_COL_c
   ⟨0x3300, 4, 64, [⟨15, 0, .ro, 0, .any⟩]⟩,
   -- MTX_SAFE_q
   ⟨0x3400, 4, 256, [⟨7, 0, (.live .rowSlot), 0, .any⟩, ⟨15, 8, (.live .rowSlot), 0, .any⟩, ⟨23, 16, (.live .rowSlot), 0, .any⟩, ⟨31, 24, (.live .rowSlot), 0, .any⟩]⟩]

/-- Part 0 of the rows below. -/
def rowsClr0 : List RegRow :=
  [
   -- CLR_CTL
   ⟨0x3800, 4, 1, [⟨0, 0, (.live .frame), 0, .any⟩, ⟨1, 1, (.live .frame), 1, .any⟩, ⟨7, 4, (.live .frame), 0, .any⟩, ⟨23, 16, (.live .frame), 100, (.range 0 150)⟩]⟩,
   -- CLR_CMD
   ⟨0x3804, 4, 1, [⟨7, 0, .wo, 0, .any⟩, ⟨8, 8, .wo, 0, .any⟩]⟩,
   -- CLR_DIE_T_n
   ⟨0x3810, 4, 2, [⟨15, 0, .ro, 0, .any⟩, ⟨31, 16, .ro, 0, .any⟩]⟩,
   -- CLR_NTC_T_n
   ⟨0x3818, 4, 2, [⟨15, 0, .ro, 0, .any⟩, ⟨31, 16, .ro, 0, .any⟩]⟩,
   -- CLR_DIE_DER
   ⟨0x3820, 4, 1, [⟨7, 0, (.live .frame), 110, (.range 0 150)⟩, ⟨15, 8, (.live .frame), 20, .slope⟩, ⟨22, 16, (.live .frame), 50, (.range 5 100)⟩, ⟨27, 24, (.live .frame), 3, .any⟩]⟩,
   -- CLR_DIE_FACT
   ⟨0x3824, 4, 1, [⟨15, 0, .ro, 32768, .any⟩]⟩,
   -- CLR_FLAGS
   ⟨0x3828, 4, 1, [⟨7, 0, .w1c, 0, .any⟩, ⟨15, 8, .w1c, 0, .any⟩, ⟨23, 16, .w1c, 0, .any⟩, ⟨24, 24, .w1c, 0, .any⟩, ⟨28, 25, .w1c, 0, .any⟩, ⟨31, 31, .w1c, 0, .any⟩]⟩,
   -- CLR_STR_CLASS_n
   ⟨0x382C, 4, 2, [⟨2, 0, (.live (.dimClass 0)), 0, .any⟩, ⟨6, 4, (.live (.dimClass 1)), 0, .any⟩, ⟨10, 8, (.live (.dimClass 2)), 0, .any⟩, ⟨14, 12, (.live (.dimClass 3)), 0, .any⟩, ⟨18, 16, (.live (.dimClass 4)), 0, .any⟩, ⟨22, 20, (.live (.dimClass 5)), 0, .any⟩, ⟨26, 24, (.live (.dimClass 6)), 0, .any⟩, ⟨30, 28, (.live (.dimClass 7)), 0, .any⟩]⟩,
   -- CLS_k.CTL
   ⟨0x3840, 64, 8, [⟨2, 0, (.idle .clr), 0, (.range 0 5)⟩, ⟨8, 8, (.live .frame), 0, .any⟩, ⟨11, 9, (.idle .clr), 0, .any⟩, ⟨12, 12, (.live .frame), 0, .any⟩, ⟨13, 13, (.live .frame), 0, .any⟩, ⟨14, 14, (.live .frame), 0, .any⟩, ⟨23, 16, (.live .frame), 0, .any⟩]⟩,
   -- CLS_k.REF
   ⟨0x3844, 64, 8, [⟨10, 0, (.live .frame), 0, (.range 0 1039)⟩, ⟨31, 16, (.live .frame), 0, .any⟩]⟩,
   -- CLS_k.LOOP
   ⟨0x3848, 64, 8, [⟨11, 0, (.live .frame), 30, (.range 1 4095)⟩, ⟨23, 16, (.live .frame), 16, .any⟩, ⟨31, 24, (.live .frame), 20, (.range 1 255)⟩]⟩,
   -- CLS_k.LIM
   ⟨0x384C, 64, 8, [⟨15, 0, (.live .frame), 24576, .loopLim⟩, ⟨31, 16, (.live .frame), 40960, .loopLim⟩]⟩,
   -- CLS_k.HOLD
   ⟨0x3850, 64, 8, [⟨7, 0, (.live .frame), 10, .any⟩, ⟨15, 8, (.live .frame), 10, (.range 1 255)⟩]⟩,
   -- CLS_k.LAMP_DER
   ⟨0x3854, 64, 8, [⟨7, 0, (.live .frame), 85, (.range 0 150)⟩, ⟨15, 8, (.live .frame), 0, .slope⟩, ⟨22, 16, (.live .frame), 50, (.range 5 100)⟩, ⟨27, 24, (.live .frame), 3, .any⟩]⟩,
   -- CLS_k.TT0
   ⟨0x3858, 64, 8, [⟨15, 0, (.staged .clr), 32768, .any⟩, ⟨31, 16, (.staged .clr), 32768, .any⟩]⟩,
   -- CLS_k.TT1
   ⟨0x385C, 64, 8, [⟨15, 0, (.staged .clr), 32768, .any⟩, ⟨31, 16, (.staged .clr), 32768, .any⟩]⟩,
   -- CLS_k.TT2
   ⟨0x3860, 64, 8, [⟨15, 0, (.staged .clr), 32768, .any⟩, ⟨31, 16, (.staged .clr), 32768, .any⟩]⟩,
   -- CLS_k.TT3
   ⟨0x3864, 64, 8, [⟨15, 0, (.staged .clr), 32768, .any⟩, ⟨31, 16, (.staged .clr), 32768, .any⟩]⟩,
   -- CLS_k.TT4
   ⟨0x3868, 64, 8, [⟨15, 0, (.staged .clr), 32768, .any⟩]⟩,
   -- CLS_k.STAT
   ⟨0x3870, 64, 8, [⟨2, 0, .ro, 0, .any⟩, ⟨3, 3, .ro, 0, .any⟩, ⟨4, 4, .ro, 0, .any⟩, ⟨31, 16, .ro, 32768, .any⟩]⟩,
   -- CLS_k.TEMP
   ⟨0x3874, 64, 8, [⟨15, 0, .ro, 0, .any⟩, ⟨31, 16, .ro, 32768, .any⟩]⟩,
   -- CLS_k.FACT
   ⟨0x3878, 64, 8, [⟨15, 0, .ro, 32768, .any⟩, ⟨23, 16, .ro, 0, .any⟩]⟩,
   -- CLS_k.LAST
   ⟨0x387C, 64, 8, [⟨15, 0, .ro, 0, .any⟩, ⟨31, 16, .ro, 32768, .any⟩]⟩,
   -- JCT_n.REF
   ⟨0x3A40, 16, 16, [⟨15, 0, (.live .frame), 0, .any⟩, ⟨31, 16, (.live .frame), 0, .any⟩]⟩]

/-- Part 1 of the rows below. -/
def rowsClr1 : List RegRow :=
  [
   -- JCT_n.COEF
   ⟨0x3A44, 16, 16, [⟨15, 0, (.live .frame), 0, .any⟩, ⟨23, 16, (.live .frame), 0, .any⟩, ⟨31, 24, (.live .frame), 25, .any⟩]⟩,
   -- JCT_n.EST
   ⟨0x3A48, 16, 16, [⟨15, 0, .ro, 400, .any⟩, ⟨31, 16, .ro, 0, .any⟩]⟩,
   -- NTC_a.E0
   ⟨0x3B40, 64, 4, [⟨15, 0, (.staged .clr), 0, .any⟩, ⟨31, 16, (.staged .clr), 0, .any⟩]⟩,
   -- NTC_a.E1
   ⟨0x3B44, 64, 4, [⟨15, 0, (.staged .clr), 0, .any⟩, ⟨31, 16, (.staged .clr), 0, .any⟩]⟩,
   -- NTC_a.E2
   ⟨0x3B48, 64, 4, [⟨15, 0, (.staged .clr), 0, .any⟩, ⟨31, 16, (.staged .clr), 0, .any⟩]⟩,
   -- NTC_a.E3
   ⟨0x3B4C, 64, 4, [⟨15, 0, (.staged .clr), 0, .any⟩, ⟨31, 16, (.staged .clr), 0, .any⟩]⟩,
   -- NTC_a.E4
   ⟨0x3B50, 64, 4, [⟨15, 0, (.staged .clr), 0, .any⟩, ⟨31, 16, (.staged .clr), 0, .any⟩]⟩,
   -- NTC_a.E5
   ⟨0x3B54, 64, 4, [⟨15, 0, (.staged .clr), 0, .any⟩, ⟨31, 16, (.staged .clr), 0, .any⟩]⟩,
   -- NTC_a.E6
   ⟨0x3B58, 64, 4, [⟨15, 0, (.staged .clr), 0, .any⟩, ⟨31, 16, (.staged .clr), 0, .any⟩]⟩,
   -- NTC_a.E7
   ⟨0x3B5C, 64, 4, [⟨15, 0, (.staged .clr), 0, .any⟩, ⟨31, 16, (.staged .clr), 0, .any⟩]⟩,
   -- NTC_a.E8
   ⟨0x3B60, 64, 4, [⟨15, 0, (.staged .clr), 0, .any⟩]⟩]

/-- The registers of the CLR_ block (R236), by first offset, stride and count. -/
def rowsClr : List RegRow := rowsClr0 ++ rowsClr1

/-- Part 0 of the rows below. -/
def rowsRip0 : List RegRow :=
  [
   -- RIP_CTL
   ⟨0x4000, 4, 1, [⟨11, 0, (.live .press), 0, .any⟩]⟩,
   -- RIP_CMD
   ⟨0x4004, 4, 1, [⟨0, 0, .wo, 0, .any⟩]⟩,
   -- RIP_FLAGS
   ⟨0x4008, 4, 1, [⟨11, 0, .w1c, 0, .any⟩, ⟨27, 16, .w1c, 0, .any⟩, ⟨28, 28, .w1c, 0, .any⟩, ⟨31, 31, .w1c, 0, .any⟩]⟩,
   -- RIP_RUN
   ⟨0x4010, 4, 1, [⟨11, 0, .ro, 0, .any⟩]⟩,
   -- RIP_n.GRP
   ⟨0x4100, 64, 12, [⟨12, 0, (.idle .rip), 0, .any⟩, ⟨24, 16, (.idle .rip), 1, (.range 1 256)⟩]⟩,
   -- RIP_n.STAT
   ⟨0x4104, 64, 12, [⟨2, 0, .ro, 0, .any⟩, ⟨3, 3, .ro, 0, .any⟩, ⟨4, 4, .ro, 0, .any⟩, ⟨7, 6, .ro, 0, .any⟩, ⟨11, 8, .ro, 0, .any⟩, ⟨15, 12, .ro, 0, .any⟩, ⟨28, 16, .ro, 0, .any⟩]⟩,
   -- RIP_n.TRIG_OVF
   ⟨0x4108, 64, 12, [⟨31, 0, .ro, 0, .any⟩]⟩,
   -- RIP_n.MASK
   ⟨0x410C, 64, 12, [⟨3, 0, .ro, 0, .any⟩]⟩,
   -- RIP_n.A0
   ⟨0x4110, 64, 12, [⟨31, 0, .ro, 0, .any⟩]⟩,
   -- RIP_n.A1
   ⟨0x4114, 64, 12, [⟨31, 0, .ro, 0, .any⟩]⟩,
   -- RIP_n.A2
   ⟨0x4118, 64, 12, [⟨31, 0, .ro, 0, .any⟩]⟩,
   -- RIP_n.A3
   ⟨0x411C, 64, 12, [⟨31, 0, .ro, 0, .any⟩]⟩,
   -- RIP_n.BIND0
   ⟨0x4120, 64, 12, [⟨0, 0, (.live .press), 0, .any⟩, ⟨2, 1, (.live .press), 0, (.range 0 2)⟩, ⟨5, 4, (.live .press), 0, (.range 0 2)⟩, ⟨15, 8, (.live .press), 0, .any⟩, ⟨23, 16, (.live .press), 0, .any⟩, ⟨31, 24, (.live .press), 0, .any⟩]⟩,
   -- RIP_n.ENTRY0
   ⟨0x4124, 64, 12, [⟨12, 0, (.live .press), 0, .any⟩]⟩,
   -- RIP_n.BIND1
   ⟨0x4128, 64, 12, [⟨0, 0, (.live .press), 0, .any⟩, ⟨2, 1, (.live .press), 0, (.range 0 2)⟩, ⟨5, 4, (.live .press), 0, (.range 0 2)⟩, ⟨15, 8, (.live .press), 0, .any⟩, ⟨23, 16, (.live .press), 0, .any⟩, ⟨31, 24, (.live .press), 0, .any⟩]⟩,
   -- RIP_n.ENTRY1
   ⟨0x412C, 64, 12, [⟨12, 0, (.live .press), 0, .any⟩]⟩,
   -- RIP_n.BIND2
   ⟨0x4130, 64, 12, [⟨0, 0, (.live .press), 0, .any⟩, ⟨2, 1, (.live .press), 0, (.range 0 2)⟩, ⟨5, 4, (.live .press), 0, (.range 0 2)⟩, ⟨15, 8, (.live .press), 0, .any⟩, ⟨23, 16, (.live .press), 0, .any⟩, ⟨31, 24, (.live .press), 0, .any⟩]⟩,
   -- RIP_n.ENTRY2
   ⟨0x4134, 64, 12, [⟨12, 0, (.live .press), 0, .any⟩]⟩,
   -- RIP_n.BIND3
   ⟨0x4138, 64, 12, [⟨0, 0, (.live .press), 0, .any⟩, ⟨2, 1, (.live .press), 0, (.range 0 2)⟩, ⟨5, 4, (.live .press), 0, (.range 0 2)⟩, ⟨15, 8, (.live .press), 0, .any⟩, ⟨23, 16, (.live .press), 0, .any⟩, ⟨31, 24, (.live .press), 0, .any⟩]⟩,
   -- RIP_n.ENTRY3
   ⟨0x413C, 64, 12, [⟨12, 0, (.live .press), 0, .any⟩]⟩,
   -- RIP_OWN_q
   ⟨0x4400, 4, 260, [⟨7, 0, (.live (.owner 0)), 0, .ownerCode⟩, ⟨15, 8, (.live (.owner 1)), 0, .ownerCode⟩, ⟨23, 16, (.live (.owner 2)), 0, .ownerCode⟩, ⟨31, 24, (.live (.owner 3)), 0, .ownerCode⟩]⟩,
   -- RIP_CURVE_u.T0
   ⟨0x4900, 128, 2, [⟨15, 0, (.staged .rip), 0, .any⟩, ⟨31, 16, (.staged .rip), 2048, .any⟩]⟩,
   -- RIP_CURVE_u.T1
   ⟨0x4904, 128, 2, [⟨15, 0, (.staged .rip), 4096, .any⟩, ⟨31, 16, (.staged .rip), 6144, .any⟩]⟩,
   -- RIP_CURVE_u.T2
   ⟨0x4908, 128, 2, [⟨15, 0, (.staged .rip), 8192, .any⟩, ⟨31, 16, (.staged .rip), 10240, .any⟩]⟩]

/-- Part 1 of the rows below. -/
def rowsRip1 : List RegRow :=
  [
   -- RIP_CURVE_u.T3
   ⟨0x490C, 128, 2, [⟨15, 0, (.staged .rip), 12288, .any⟩, ⟨31, 16, (.staged .rip), 14336, .any⟩]⟩,
   -- RIP_CURVE_u.T4
   ⟨0x4910, 128, 2, [⟨15, 0, (.staged .rip), 16384, .any⟩, ⟨31, 16, (.staged .rip), 18432, .any⟩]⟩,
   -- RIP_CURVE_u.T5
   ⟨0x4914, 128, 2, [⟨15, 0, (.staged .rip), 20480, .any⟩, ⟨31, 16, (.staged .rip), 22528, .any⟩]⟩,
   -- RIP_CURVE_u.T6
   ⟨0x4918, 128, 2, [⟨15, 0, (.staged .rip), 24576, .any⟩, ⟨31, 16, (.staged .rip), 26624, .any⟩]⟩,
   -- RIP_CURVE_u.T7
   ⟨0x491C, 128, 2, [⟨15, 0, (.staged .rip), 28672, .any⟩, ⟨31, 16, (.staged .rip), 30720, .any⟩]⟩,
   -- RIP_CURVE_u.T8
   ⟨0x4920, 128, 2, [⟨15, 0, (.staged .rip), 32768, .any⟩, ⟨31, 16, (.staged .rip), 34815, .any⟩]⟩,
   -- RIP_CURVE_u.T9
   ⟨0x4924, 128, 2, [⟨15, 0, (.staged .rip), 36863, .any⟩, ⟨31, 16, (.staged .rip), 38911, .any⟩]⟩,
   -- RIP_CURVE_u.T10
   ⟨0x4928, 128, 2, [⟨15, 0, (.staged .rip), 40959, .any⟩, ⟨31, 16, (.staged .rip), 43007, .any⟩]⟩,
   -- RIP_CURVE_u.T11
   ⟨0x492C, 128, 2, [⟨15, 0, (.staged .rip), 45055, .any⟩, ⟨31, 16, (.staged .rip), 47103, .any⟩]⟩,
   -- RIP_CURVE_u.T12
   ⟨0x4930, 128, 2, [⟨15, 0, (.staged .rip), 49151, .any⟩, ⟨31, 16, (.staged .rip), 51199, .any⟩]⟩,
   -- RIP_CURVE_u.T13
   ⟨0x4934, 128, 2, [⟨15, 0, (.staged .rip), 53247, .any⟩, ⟨31, 16, (.staged .rip), 55295, .any⟩]⟩,
   -- RIP_CURVE_u.T14
   ⟨0x4938, 128, 2, [⟨15, 0, (.staged .rip), 57343, .any⟩, ⟨31, 16, (.staged .rip), 59391, .any⟩]⟩,
   -- RIP_CURVE_u.T15
   ⟨0x493C, 128, 2, [⟨15, 0, (.staged .rip), 61439, .any⟩, ⟨31, 16, (.staged .rip), 63487, .any⟩]⟩,
   -- RIP_CURVE_u.T16
   ⟨0x4940, 128, 2, [⟨15, 0, (.staged .rip), 65535, .any⟩]⟩]

/-- The registers of the RIP_ block (R260), by first offset, stride and count. -/
def rowsRip : List RegRow := rowsRip0 ++ rowsRip1

/-- The registers of the HRP_ block (R280), by first offset, stride and count. -/
def rowsHrp : List RegRow :=
  [
   -- HRP_CTL
   ⟨0x5000, 4, 1, [⟨7, 0, (.live .press), 0, .any⟩]⟩,
   -- HRP_CMD
   ⟨0x5004, 4, 1, [⟨7, 0, .wo, 0, .any⟩, ⟨15, 8, .wo, 0, .any⟩]⟩,
   -- HRP_FLAGS
   ⟨0x5008, 4, 1, [⟨7, 0, .w1c, 0, .any⟩, ⟨15, 8, .w1c, 0, .any⟩, ⟨31, 31, .w1c, 0, .any⟩]⟩,
   -- HRP_RUN
   ⟨0x500C, 4, 1, [⟨7, 0, .ro, 0, .any⟩]⟩,
   -- HRP_PIN_OWN_r
   ⟨0x5010, 4, 4, [⟨3, 0, (.idle (.pinOwn 0)), 8, (.range 0 8)⟩, ⟨7, 4, (.idle (.pinOwn 1)), 8, (.range 0 8)⟩, ⟨11, 8, (.idle (.pinOwn 2)), 8, (.range 0 8)⟩, ⟨15, 12, (.idle (.pinOwn 3)), 8, (.range 0 8)⟩, ⟨19, 16, (.idle (.pinOwn 4)), 8, (.range 0 8)⟩, ⟨23, 20, (.idle (.pinOwn 5)), 8, (.range 0 8)⟩, ⟨27, 24, (.idle (.pinOwn 6)), 8, (.range 0 8)⟩, ⟨31, 28, (.idle (.pinOwn 7)), 8, (.range 0 8)⟩]⟩,
   -- HRP_PIN_IN
   ⟨0x5020, 4, 1, [⟨31, 0, .ro, 0, .any⟩]⟩,
   -- HRP_PIN_CFG_p
   ⟨0x5040, 4, 32, [⟨0, 0, (.live .press), 0, .any⟩, ⟨2, 1, (.live .press), 0, (.range 0 2)⟩, ⟨3, 3, (.live .press), 0, .any⟩, ⟨6, 4, (.live .press), 0, .any⟩]⟩,
   -- HRP_n.CTL
   ⟨0x5100, 64, 8, [⟨0, 0, (.live .press), 0, .any⟩, ⟨5, 1, (.idle .hrp), 0, .any⟩, ⟨12, 8, (.idle .hrp), 0, .any⟩, ⟨17, 16, (.idle .hrp), 0, (.range 0 2)⟩, ⟨18, 18, (.live .press), 0, .any⟩]⟩,
   -- HRP_n.DIV
   ⟨0x5104, 64, 8, [⟨23, 0, (.idle .hrp), 256, (.range 256 16777215)⟩]⟩,
   -- HRP_n.WRAP
   ⟨0x5108, 64, 8, [⟨4, 0, (.idle .hrp), 0, .any⟩, ⟨12, 8, (.idle .hrp), 31, .any⟩]⟩,
   -- HRP_n.STAT
   ⟨0x510C, 64, 8, [⟨2, 0, .ro, 0, .any⟩, ⟨12, 8, .ro, 0, .any⟩, ⟨20, 16, .ro, 0, .any⟩, ⟨28, 24, .ro, 0, .any⟩, ⟨31, 31, .ro, 0, .any⟩]⟩,
   -- HRP_n.S
   ⟨0x5110, 64, 8, [⟨31, 0, .ro, 0, .any⟩]⟩,
   -- HRP_n.X
   ⟨0x5114, 64, 8, [⟨31, 0, .ro, 0, .any⟩]⟩,
   -- HRP_n.Y
   ⟨0x5118, 64, 8, [⟨31, 0, .ro, 0, .any⟩]⟩,
   -- HRP_n.T
   ⟨0x511C, 64, 8, [⟨31, 0, .ro, 0, .any⟩]⟩,
   -- HRP_n.RX_OVF
   ⟨0x5120, 64, 8, [⟨31, 0, .ro, 0, .any⟩]⟩,
   -- HRP_IMEM_nj
   ⟨0x5400, 4, 128, [⟨15, 0, (.idle .hrpMem16), 0, .harpInstr⟩, ⟨31, 16, (.idle .hrpMem16), 0, .harpInstr⟩]⟩,
   -- HRP_POCKET_nj
   ⟨0x5600, 4, 256, [⟨31, 0, (.idle .hrpMem32), 0, .any⟩]⟩]

/-- The registers of the CAR_ block (R307), by first offset, stride and count. -/
def rowsCar : List RegRow :=
  [
   -- CAR_SYNC
   ⟨0x6000, 4, 1, [⟨1, 0, (.live .press), 0, (.range 0 2)⟩, ⟨6, 4, (.live .press), 0, (.range 0 5)⟩, ⟨15, 8, (.live .press), 1, (.range 1 255)⟩]⟩,
   -- CAR_FLAGS
   ⟨0x6004, 4, 1, [⟨5, 0, .w1c, 0, .any⟩, ⟨13, 8, .w1c, 0, .any⟩, ⟨19, 16, .w1c, 0, .any⟩, ⟨29, 24, .w1c, 0, .any⟩, ⟨31, 31, .w1c, 0, .any⟩]⟩,
   -- CAR_RUN
   ⟨0x6008, 4, 1, [⟨5, 0, .ro, 0, .any⟩]⟩,
   -- CAR_TRIP_i
   ⟨0x6010, 8, 4, [⟨0, 0, (.live .press), 0, .any⟩, ⟨4, 1, (.live .press), 0, .any⟩, ⟨10, 8, (.live .press), 7, (.oneOf [0, 1, 2, 3, 4, 5, 7])⟩, ⟨25, 16, (.live .press), 0, .any⟩]⟩,
   -- CAR_TRIP_i.MASK
   ⟨0x6014, 8, 4, [⟨5, 0, (.live .press), 0, .any⟩]⟩,
   -- CAR_n.CTL
   ⟨0x6100, 64, 6, [⟨0, 0, (.live .press), 0, .any⟩, ⟨1, 1, (.idle .car), 0, .any⟩, ⟨2, 2, (.idle .car), 0, .any⟩, ⟨3, 3, (.idle .car), 0, .any⟩, ⟨4, 4, (.idle .car), 0, .link⟩, ⟨11, 8, (.idle .car), 0, .any⟩, ⟨12, 12, (.live .car), 1, .any⟩, ⟨16, 16, (.live .car), 0, .any⟩, ⟨17, 17, (.live .car), 0, .any⟩, ⟨19, 18, (.live .car), 0, .any⟩, ⟨20, 20, (.live .car), 1, .any⟩, ⟨31, 24, (.live .car), 15, .any⟩]⟩,
   -- CAR_n.PERIOD
   ⟨0x6104, 64, 6, [⟨3, 0, (.live .car), 0, (.range 0 0)⟩, ⟨19, 4, (.live .car), 8192, (.range 64 65535)⟩]⟩,
   -- CAR_n.CMP_A
   ⟨0x6108, 64, 6, [⟨19, 0, (.live .car), 0, .any⟩]⟩,
   -- CAR_n.CMP_B
   ⟨0x610C, 64, 6, [⟨19, 0, (.live .car), 0, .any⟩]⟩,
   -- CAR_n.PHASE
   ⟨0x6110, 64, 6, [⟨3, 0, (.live .car), 0, (.range 0 0)⟩, ⟨19, 4, (.live .car), 0, .any⟩]⟩,
   -- CAR_n.DT
   ⟨0x6114, 64, 6, [⟨9, 0, (.live .car), 40, .any⟩, ⟨25, 16, (.live .car), 40, .any⟩]⟩,
   -- CAR_n.REF
   ⟨0x6118, 64, 6, [⟨7, 0, (.live .car), 32, (.range 16 255)⟩, ⟨15, 8, (.live .car), 0, .any⟩]⟩,
   -- CAR_n.TRG_POS
   ⟨0x611C, 64, 6, [⟨15, 0, (.live .car), 0, .any⟩, ⟨31, 16, (.live .car), 0, .any⟩]⟩,
   -- CAR_n.TRG
   ⟨0x6120, 64, 6, [⟨0, 0, (.live .car), 0, .any⟩, ⟨3, 1, (.live .car), 0, .any⟩, ⟨8, 8, (.live .car), 0, .any⟩, ⟨11, 9, (.live .car), 0, .any⟩]⟩,
   -- CAR_n.SRV
   ⟨0x6124, 64, 6, [⟨0, 0, (.live .car), 0, .any⟩, ⟨6, 4, (.live .car), 0, .any⟩, ⟨10, 8, (.live .car), 0, .any⟩, ⟨23, 16, (.live .car), 0, .any⟩, ⟨31, 24, (.live .car), 0, .any⟩]⟩,
   -- CAR_n.TARGET
   ⟨0x6128, 64, 6, [⟨11, 0, (.live .car), 0, .any⟩]⟩,
   -- CAR_n.MID
   ⟨0x612C, 64, 6, [⟨19, 0, (.live .car), 0, .any⟩]⟩,
   -- CAR_n.LO
   ⟨0x6130, 64, 6, [⟨19, 0, (.live .car), 0, .any⟩]⟩,
   -- CAR_n.HI
   ⟨0x6134, 64, 6, [⟨19, 0, (.live .car), 0, .srvHi⟩]⟩,
   -- CAR_n.STAT
   ⟨0x6138, 64, 6, [⟨0, 0, .ro, 0, .any⟩, ⟨1, 1, .ro, 0, .any⟩, ⟨2, 2, .ro, 0, .any⟩, ⟨3, 3, .ro, 0, .any⟩, ⟨4, 4, .ro, 0, .any⟩, ⟨5, 5, .ro, 0, .any⟩, ⟨31, 12, .ro, 0, .any⟩]⟩,
   -- CAR_n.ACC
   ⟨0x613C, 64, 6, [⟨23, 0, .ro, 0, .any⟩]⟩]

/-- The registers of the ADC_ block (R307), by first offset, stride and count. -/
def rowsAdc : List RegRow :=
  [
   -- ADC_CTL
   ⟨0x6800, 4, 1, [⟨0, 0, (.live .adc), 0, .any⟩, ⟨1, 1, (.live .adc), 0, .any⟩]⟩,
   -- ADC_CMD
   ⟨0x6804, 4, 1, [⟨7, 0, .wo, 0, .any⟩]⟩,
   -- ADC_FLAGS
   ⟨0x6808, 4, 1, [⟨7, 0, .w1c, 0, .any⟩, ⟨31, 31, .w1c, 0, .any⟩]⟩,
   -- ADC_STAT
   ⟨0x680C, 4, 1, [⟨7, 0, .ro, 0, .any⟩, ⟨15, 8, .ro, 0, .any⟩, ⟨16, 16, .ro, 0, .any⟩, ⟨17, 17, .ro, 0, .any⟩, ⟨18, 18, .ro, 0, .any⟩]⟩,
   -- SEQ_s.CTL
   ⟨0x6900, 64, 8, [⟨0, 0, (.live .adc), 0, .any⟩, ⟨3, 1, (.idle .seq), 0, .any⟩, ⟨6, 4, (.idle .seq), 0, (.range 0 3)⟩]⟩,
   -- SEQ_s.INPUT0
   ⟨0x6904, 64, 8, [⟨4, 0, (.idle .seq), 0, (.range 0 20)⟩, ⟨12, 8, (.idle .seq), 0, (.range 0 20)⟩, ⟨20, 16, (.idle .seq), 0, (.range 0 20)⟩, ⟨28, 24, (.idle .seq), 0, (.range 0 20)⟩]⟩,
   -- SEQ_s.INPUT1
   ⟨0x6908, 64, 8, [⟨4, 0, (.idle .seq), 0, (.range 0 20)⟩, ⟨12, 8, (.idle .seq), 0, (.range 0 20)⟩, ⟨20, 16, (.idle .seq), 0, (.range 0 20)⟩, ⟨28, 24, (.idle .seq), 0, (.range 0 20)⟩]⟩,
   -- SEQ_s.STAMP
   ⟨0x690C, 64, 8, [⟨31, 0, .ro, 0, .any⟩]⟩,
   -- SEQ_s.RESULT0
   ⟨0x6910, 64, 8, [⟨11, 0, .ro, 0, .any⟩, ⟨27, 16, .ro, 0, .any⟩]⟩,
   -- SEQ_s.RESULT1
   ⟨0x6914, 64, 8, [⟨11, 0, .ro, 0, .any⟩, ⟨27, 16, .ro, 0, .any⟩]⟩,
   -- SEQ_s.RESULT2
   ⟨0x6918, 64, 8, [⟨11, 0, .ro, 0, .any⟩, ⟨27, 16, .ro, 0, .any⟩]⟩,
   -- SEQ_s.RESULT3
   ⟨0x691C, 64, 8, [⟨11, 0, .ro, 0, .any⟩, ⟨27, 16, .ro, 0, .any⟩]⟩,
   -- SEQ_s.OVR_CNT
   ⟨0x6920, 64, 8, [⟨15, 0, .ro, 0, .any⟩]⟩,
   -- SEQ_s.RUNS
   ⟨0x6924, 64, 8, [⟨31, 0, .ro, 0, .any⟩]⟩]

/-- Part 0 of the rows below. -/
def rowsHoop0 : List RegRow :=
  [
   -- HOOP_CTL
   ⟨0x7000, 4, 1, [⟨0, 0, (.live .press), 1, .any⟩, ⟨1, 1, (.idle .hoopFab), 0, .any⟩, ⟨3, 2, (.idle .hoopFab), 1, (.range 0 2)⟩, ⟨4, 4, (.idle .hoopFab), 1, .any⟩, ⟨5, 5, (.idle .hoopFab), 0, .any⟩, ⟨6, 6, (.live .press), 1, .any⟩, ⟨7, 7, (.live .press), 0, .any⟩]⟩,
   -- HOOP_CMD
   ⟨0x7004, 4, 1, [⟨0, 0, .wo, 0, .any⟩, ⟨1, 1, .wo, 0, .any⟩, ⟨2, 2, .wo, 0, .any⟩]⟩,
   -- HOOP_ID
   ⟨0x7008, 4, 1, [⟨11, 0, (.idle .hoopFab), 4095, .any⟩]⟩,
   -- HOOP_STAT
   ⟨0x700C, 4, 1, [⟨0, 0, .ro, 0, .any⟩, ⟨1, 1, .ro, 0, .any⟩, ⟨2, 2, .ro, 0, .any⟩, ⟨3, 3, .ro, 0, .any⟩, ⟨4, 4, .ro, 0, .any⟩, ⟨5, 5, .ro, 0, .any⟩, ⟨6, 6, .ro, 0, .any⟩, ⟨7, 7, .ro, 0, .any⟩, ⟨20, 8, .ro, 0, .any⟩]⟩,
   -- HOOP_FLAGS
   ⟨0x7010, 4, 1, [⟨0, 0, .w1c, 0, .any⟩, ⟨1, 1, .w1c, 0, .any⟩, ⟨2, 2, .w1c, 0, .any⟩, ⟨3, 3, .w1c, 0, .any⟩, ⟨4, 4, .w1c, 0, .any⟩, ⟨5, 5, .w1c, 0, .any⟩, ⟨6, 6, .w1c, 0, .any⟩, ⟨7, 7, .w1c, 0, .any⟩, ⟨8, 8, .w1c, 0, .any⟩, ⟨9, 9, .w1c, 0, .any⟩, ⟨10, 10, .w1c, 0, .any⟩, ⟨11, 11, .w1c, 0, .any⟩, ⟨31, 31, .w1c, 0, .any⟩]⟩,
   -- HOOP_HOLD
   ⟨0x7014, 4, 1, [⟨15, 0, (.live .press), 48, .any⟩]⟩,
   -- HOOP_PRESS
   ⟨0x7018, 4, 1, [⟨7, 0, (.live .press), 3, (.range 2 127)⟩, ⟨15, 8, .ro, 0, .any⟩]⟩,
   -- HOOP_CUM
   ⟨0x701C, 4, 1, [⟨23, 0, .ro, 0, .any⟩]⟩,
   -- HOOP_ENUM_TMO
   ⟨0x7020, 4, 1, [⟨15, 0, (.live .press), 4800, (.range 1 65535)⟩]⟩,
   -- HOOP_ENUM_RES
   ⟨0x7024, 4, 1, [⟨12, 0, .ro, 0, .any⟩, ⟨28, 16, .ro, 0, .any⟩]⟩,
   -- HOOP_ENUM_RES2
   ⟨0x7028, 4, 1, [⟨12, 0, .ro, 0, .any⟩, ⟨31, 16, .ro, 0, .any⟩]⟩,
   -- HOOP_MAX_CUM
   ⟨0x702C, 4, 1, [⟨23, 0, .ro, 0, .any⟩]⟩,
   -- HOOP_PORT_k.LINK
   ⟨0x7100, 32, 3, [⟨1, 0, .ro, 0, .any⟩, ⟨2, 2, .ro, 0, .any⟩, ⟨27, 16, .ro, 4095, .any⟩]⟩,
   -- HOOP_PORT_k.DLY
   ⟨0x7104, 32, 3, [⟨19, 0, .ro, 1048575, .any⟩]⟩,
   -- HOOP_PORT_k.ERR
   ⟨0x7108, 32, 3, [⟨15, 0, .ro, 0, .any⟩, ⟨31, 16, .ro, 0, .any⟩]⟩,
   -- HOOP_PORT_k.PKT
   ⟨0x710C, 32, 3, [⟨15, 0, .ro, 0, .any⟩, ⟨31, 16, .ro, 0, .any⟩]⟩,
   -- HOOP_PORT_k.TXQ
   ⟨0x7110, 32, 3, [⟨6, 0, .ro, 0, .any⟩]⟩,
   -- HOOP_SHIFT_CTL
   ⟨0x7200, 4, 1, [⟨1, 0, (.idle .hoopShift), 0, (.range 0 1)⟩, ⟨7, 4, (.idle .hoopShift), 0, .any⟩, ⟨29, 16, (.idle .hoopShift), 0, .shiftLen⟩]⟩,
   -- HOOP_SHIFT_STAT
   ⟨0x7204, 4, 1, [⟨0, 0, .ro, 0, .any⟩, ⟨1, 1, .ro, 0, .any⟩]⟩,
   -- HOOP_SHIFT_GEN
   ⟨0x7208, 4, 1, [⟨31, 0, .ro, 0, .any⟩]⟩,
   -- HOOP_SHIFT_HDR_LO
   ⟨0x7210, 4, 1, [⟨31, 0, (.idle .hoopShift), 0, .align8⟩]⟩,
   -- HOOP_SHIFT_HDR_HI
   ⟨0x7214, 4, 1, [⟨31, 0, (.idle .hoopShift), 0, .any⟩]⟩,
   -- HOOP_SHIFT_BUF_A_LO
   ⟨0x7218, 4, 1, [⟨31, 0, (.idle .hoopShift), 0, .align8⟩]⟩,
   -- HOOP_SHIFT_BUF_A_HI
   ⟨0x721C, 4, 1, [⟨31, 0, (.idle .hoopShift), 0, .any⟩]⟩]

/-- Part 1 of the rows below. -/
def rowsHoop1 : List RegRow :=
  [
   -- HOOP_SHIFT_BUF_B_LO
   ⟨0x7220, 4, 1, [⟨31, 0, (.idle .hoopShift), 0, .align8⟩]⟩,
   -- HOOP_SHIFT_BUF_B_HI
   ⟨0x7224, 4, 1, [⟨31, 0, (.idle .hoopShift), 0, .any⟩]⟩,
   -- HOOP_SLICE0
   ⟨0x7240, 4, 1, [⟨12, 0, (.staged .hoop), 0, .even⟩, ⟨19, 16, (.staged .hoop), 0, .any⟩]⟩,
   -- HOOP_SLICE1
   ⟨0x7244, 4, 1, [⟨10, 0, (.staged .hoop), 0, .any⟩, ⟨26, 16, (.staged .hoop), 0, (.range 0 1040)⟩]⟩,
   -- HOOP_SHIFT_BAD
   ⟨0x7248, 4, 1, [⟨15, 0, .ro, 0, .any⟩]⟩,
   -- HOOP_RSW_DEST
   ⟨0x7300, 4, 1, [⟨11, 0, (.live .press), 0, .any⟩, ⟨16, 16, (.live .press), 0, .any⟩]⟩,
   -- HOOP_RSW_OFFSET
   ⟨0x7304, 4, 1, [⟨15, 0, (.live .press), 0, .any⟩]⟩,
   -- HOOP_RSW_VALUE
   ⟨0x7308, 4, 1, [⟨31, 0, (.live .press), 0, .any⟩]⟩,
   -- HOOP_RSW_MASK
   ⟨0x730C, 4, 1, [⟨31, 0, (.live .press), 0, .any⟩]⟩,
   -- HOOP_ROUTE_i
   ⟨0x7400, 4, 256, [⟨11, 0, (.live .press), 0, .any⟩, ⟨23, 12, (.live .press), 0, .routeRange⟩, ⟨25, 24, (.live .press), 0, .any⟩, ⟨28, 28, (.live .press), 0, .any⟩, ⟨29, 29, (.live .press), 0, .any⟩]⟩]

/-- The registers of the HOOP_ block (R341), by first offset, stride and count. -/
def rowsHoop : List RegRow := rowsHoop0 ++ rowsHoop1

/-- The registers of the TWN_ block (R361), by first offset, stride and count. -/
def rowsTwn : List RegRow :=
  [
   -- TWN_CTL
   ⟨0x7800, 4, 1, [⟨4, 0, (.live .press), 0, .any⟩, ⟨5, 5, (.live .press), 0, .any⟩, ⟨6, 6, (.live .press), 1, .any⟩, ⟨7, 7, (.live .press), 0, .any⟩]⟩,
   -- TWN_STAT
   ⟨0x7804, 4, 1, [⟨1, 0, .ro, 0, .any⟩, ⟨3, 2, .ro, 0, .any⟩, ⟨4, 4, .ro, 0, .any⟩, ⟨5, 5, .ro, 0, .any⟩, ⟨6, 6, .ro, 0, .any⟩, ⟨7, 7, .ro, 0, .any⟩, ⟨11, 8, .ro, 0, .any⟩, ⟨23, 16, .ro, 0, .any⟩]⟩,
   -- TWN_EPOCH
   ⟨0x7808, 4, 1, [⟨31, 0, .ro, 0, .any⟩]⟩,
   -- TWN_P_EPOCH
   ⟨0x780C, 4, 1, [⟨31, 0, .ro, 0, .any⟩]⟩,
   -- TWN_FLAGS
   ⟨0x7810, 4, 1, [⟨0, 0, .w1c, 0, .any⟩, ⟨1, 1, .w1c, 0, .any⟩, ⟨2, 2, .w1c, 0, .any⟩, ⟨3, 3, .w1c, 0, .any⟩, ⟨4, 4, .w1c, 0, .any⟩, ⟨5, 5, .w1c, 0, .any⟩, ⟨31, 31, .w1c, 0, .any⟩]⟩,
   -- TWN_LINK_DLY
   ⟨0x7814, 4, 1, [⟨19, 0, .ro, 1048575, .any⟩]⟩,
   -- TWN_MSEQ
   ⟨0x7818, 4, 1, [⟨31, 0, .ro, 0, .any⟩]⟩,
   -- TWN_TAKE_TIME
   ⟨0x781C, 4, 1, [⟨31, 0, .ro, 0, .any⟩]⟩,
   -- TWN_TAKE_DUR
   ⟨0x7820, 4, 1, [⟨15, 0, .ro, 0, .any⟩]⟩]

/-- Part 0 of the rows below. -/
def rowsOzh0 : List RegRow :=
  [
   -- OZH_CTL
   ⟨0x8000, 4, 1, [⟨0, 0, (.live .slot), 0, .any⟩, ⟨2, 1, (.idle .ozh), 0, (.range 0 2)⟩, ⟨3, 3, (.live .slot), 0, .any⟩, ⟨4, 4, (.live .slot), 1, .any⟩, ⟨5, 5, (.live .slot), 0, .any⟩, ⟨6, 6, (.idle .ozh), 0, .any⟩, ⟨15, 8, (.live .slot), 0, .txpwr⟩, ⟨23, 16, (.live .slot), 186, .ccaThr⟩]⟩,
   -- OZH_CMD
   ⟨0x8004, 4, 1, [⟨0, 0, .wo, 0, .any⟩, ⟨1, 1, .wo, 0, .any⟩, ⟨2, 2, .wo, 0, .any⟩, ⟨3, 3, .wo, 0, .any⟩, ⟨4, 4, .wo, 0, .any⟩]⟩,
   -- OZH_STAT
   ⟨0x8008, 4, 1, [⟨0, 0, .ro, 0, .any⟩, ⟨3, 1, .ro, 0, .any⟩, ⟨4, 4, .ro, 0, .any⟩, ⟨5, 5, .ro, 0, .any⟩, ⟨6, 6, .ro, 0, .any⟩, ⟨15, 8, .ro, 0, .any⟩, ⟨31, 16, .ro, 0, .any⟩]⟩,
   -- OZH_FLAGS
   ⟨0x800C, 4, 1, [⟨0, 0, .w1c, 0, .any⟩, ⟨1, 1, .w1c, 0, .any⟩, ⟨2, 2, .w1c, 0, .any⟩, ⟨3, 3, .w1c, 0, .any⟩, ⟨4, 4, .w1c, 0, .any⟩, ⟨5, 5, .w1c, 0, .any⟩, ⟨6, 6, .w1c, 0, .any⟩, ⟨7, 7, .w1c, 0, .any⟩, ⟨8, 8, .w1c, 0, .any⟩, ⟨9, 9, .w1c, 0, .any⟩, ⟨31, 31, .w1c, 0, .any⟩]⟩,
   -- OZH_MESH
   ⟨0x8010, 4, 1, [⟨15, 0, (.idle .ozh), 1, (.range 1 65534)⟩, ⟨26, 16, (.idle .ozh), 8, (.range 4 1024)⟩]⟩,
   -- OZH_BLOCK_LO
   ⟨0x8014, 4, 1, [⟨31, 0, (.staged .ozh), 0, .any⟩]⟩,
   -- OZH_BLOCK_HI
   ⟨0x8018, 4, 1, [⟨7, 0, (.staged .ozh), 0, .any⟩]⟩,
   -- OZH_MAC
   ⟨0x801C, 4, 1, [⟨2, 0, (.live .slot), 3, .any⟩, ⟨6, 4, (.live .slot), 2, .beMin⟩, ⟨10, 8, (.live .slot), 5, .beMax⟩, ⟨31, 16, (.live .slot), 64, (.range 1 65535)⟩]⟩,
   -- OZH_DRIFT_BND
   ⟨0x8020, 4, 1, [⟨17, 0, (.live .slot), 500, .any⟩]⟩,
   -- OZH_FAST
   ⟨0x8024, 4, 1, [⟨0, 0, (.live .slot), 0, .any⟩, ⟨3, 1, (.live .slot), 0, .any⟩, ⟨15, 8, (.live .slot), 0, .any⟩, ⟨23, 16, (.live .slot), 0, .any⟩, ⟨26, 24, (.live .slot), 0, .any⟩, ⟨27, 27, (.live .slot), 0, .any⟩]⟩,
   -- OZH_EUI_LO
   ⟨0x8028, 4, 1, [⟨31, 0, (.idle .ozh), 0, .any⟩]⟩,
   -- OZH_EUI_HI
   ⟨0x802C, 4, 1, [⟨31, 0, (.idle .ozh), 0, .any⟩]⟩,
   -- OZH_ADDR
   ⟨0x8030, 4, 1, [⟨15, 0, (.idle .ozh), 65534, .any⟩]⟩,
   -- OZH_ASN_LO
   ⟨0x8034, 4, 1, [⟨31, 0, .ro, 0, .any⟩]⟩,
   -- OZH_ASN_HI
   ⟨0x8038, 4, 1, [⟨7, 0, .ro, 0, .any⟩]⟩,
   -- OZH_FC
   ⟨0x803C, 4, 1, [⟨31, 0, .ro, 0, .any⟩]⟩,
   -- OZH_KEYIDX
   ⟨0x8040, 4, 1, [⟨31, 0, .ro, 0, .any⟩]⟩,
   -- OZH_PARENT
   ⟨0x8044, 4, 1, [⟨15, 0, .ro, 0, .any⟩, ⟨23, 16, .ro, 0, .any⟩]⟩,
   -- OZH_DRIFT
   ⟨0x8048, 4, 1, [⟨31, 0, .ro, 0, .any⟩]⟩,
   -- OZH_KEY_SEL
   ⟨0x804C, 4, 1, [⟨0, 0, (.idle .ozh), 0, .any⟩]⟩,
   -- OZH_KEY_j
   ⟨0x8050, 4, 4, [⟨31, 0, (.staged .ozh), 0, .any⟩]⟩,
   -- OZH_CNT_j
   ⟨0x8060, 4, 3, [⟨15, 0, .ro, 0, .any⟩, ⟨31, 16, .ro, 0, .any⟩]⟩,
   -- OZH_CH_STAT_c
   ⟨0x8100, 4, 40, [⟨15, 0, .ro, 0, .any⟩, ⟨31, 16, .ro, 0, .any⟩]⟩,
   -- OZH_CELL_i.A
   ⟨0x8200, 8, 128, [⟨9, 0, (.live .slot), 0, .any⟩, ⟨15, 10, (.live .slot), 0, (.range 0 39)⟩, ⟨18, 16, (.live .slot), 0, .any⟩, ⟨21, 20, (.live .slot), 0, .any⟩]⟩]

/-- Part 1 of the rows below. -/
def rowsOzh1 : List RegRow :=
  [
   -- OZH_CELL_i.B
   ⟨0x8204, 8, 128, [⟨15, 0, (.live .slot), 0, .any⟩, ⟨25, 16, (.live .slot), 0, .any⟩]⟩]

/-- The registers of the OZH_ block (R401), by first offset, stride and count. -/
def rowsOzh : List RegRow := rowsOzh0 ++ rowsOzh1

/-- Part 0 of the rows below. -/
def rowsRnd0 : List RegRow :=
  [
   -- RND_STAT
   ⟨0x9000, 4, 1, [⟨0, 0, .ro, 0, .any⟩, ⟨1, 1, .ro, 0, .any⟩, ⟨2, 2, .ro, 0, .any⟩, ⟨4, 3, .ro, 0, .any⟩, ⟨5, 5, .ro, 0, .any⟩, ⟨6, 6, .ro, 0, .any⟩, ⟨7, 7, .ro, 0, .any⟩, ⟨15, 8, .ro, 0, .any⟩]⟩,
   -- RND_RFLAGS
   ⟨0x9004, 4, 1, [⟨7, 0, .ro, 0, .any⟩]⟩,
   -- RND_RECNO
   ⟨0x9008, 4, 1, [⟨31, 0, .ro, 0, .any⟩]⟩,
   -- RND_ACKNO
   ⟨0x900C, 4, 1, [⟨31, 0, .ro, 0, .any⟩]⟩,
   -- RND_EVTCNT
   ⟨0x9010, 4, 1, [⟨31, 0, .ro, 0, .any⟩]⟩,
   -- RND_E_IN_LO
   ⟨0x9014, 4, 1, [⟨31, 0, .ro, 0, .any⟩]⟩,
   -- RND_E_IN_HI
   ⟨0x9018, 4, 1, [⟨31, 0, .ro, 0, .any⟩]⟩,
   -- RND_E_SUSP
   ⟨0x901C, 4, 1, [⟨31, 0, .ro, 0, .any⟩]⟩,
   -- RND_ON_S
   ⟨0x9020, 4, 1, [⟨31, 0, .ro, 0, .any⟩]⟩,
   -- RND_RTIME_LO
   ⟨0x9024, 4, 1, [⟨31, 0, .ro, 0, .any⟩]⟩,
   -- RND_RTIME_HI
   ⟨0x9028, 4, 1, [⟨31, 0, .ro, 0, .any⟩]⟩,
   -- RND_P
   ⟨0x902C, 4, 1, [⟨31, 0, .ro, 0, .any⟩]⟩,
   -- RND_RAW_SHUNT
   ⟨0x9030, 4, 1, [⟨31, 0, .ro, 0, .any⟩]⟩,
   -- RND_RAW_V
   ⟨0x9034, 4, 1, [⟨31, 0, .ro, 0, .any⟩]⟩,
   -- RND_CLK
   ⟨0x9038, 4, 1, [⟨31, 0, .ro, 0, .any⟩]⟩,
   -- RND_ROSC_CAL
   ⟨0x903C, 4, 1, [⟨31, 0, .ro, 0, .any⟩]⟩,
   -- RND_VER
   ⟨0x9040, 4, 1, [⟨15, 0, .ro, 0, .any⟩, ⟨23, 16, .ro, 0, .any⟩]⟩,
   -- RND_HOST
   ⟨0x9044, 4, 1, [⟨31, 31, .w1c, 0, .any⟩]⟩,
   -- RND_E_STR_k
   ⟨0x9080, 4, 16, [⟨31, 0, .ro, 0, .any⟩]⟩,
   -- RND_I_STR_k
   ⟨0x90C0, 4, 16, [⟨31, 0, .ro, 0, .any⟩]⟩,
   -- RND_SHUNT
   ⟨0x9100, 4, 1, [⟨31, 0, .seal, 0, .any⟩]⟩,
   -- RND_KI
   ⟨0x9104, 4, 1, [⟨31, 0, .seal, 0, .any⟩]⟩,
   -- RND_KV
   ⟨0x9108, 4, 1, [⟨31, 0, .seal, 0, .any⟩]⟩,
   -- RND_OI
   ⟨0x910C, 4, 1, [⟨31, 0, .seal, 0, .any⟩]⟩]

/-- Part 1 of the rows below. -/
def rowsRnd1 : List RegRow :=
  [
   -- RND_OV
   ⟨0x9110, 4, 1, [⟨31, 0, .seal, 0, .any⟩]⟩,
   -- RND_INT_POL
   ⟨0x9114, 4, 1, [⟨7, 0, .seal, 15, .any⟩, ⟨17, 16, .seal, 0, .any⟩]⟩,
   -- RND_METER_ID_LO
   ⟨0x9118, 4, 1, [⟨31, 0, .seal, 0, .any⟩]⟩,
   -- RND_METER_ID_HI
   ⟨0x911C, 4, 1, [⟨31, 0, .seal, 0, .any⟩]⟩,
   -- RND_KSTR_k
   ⟨0x9140, 4, 16, [⟨31, 0, .seal, 0, .any⟩]⟩,
   -- RND_REC_j
   ⟨0x9200, 4, 48, [⟨31, 0, .ro, 0, .any⟩]⟩,
   -- RND_EVT_j
   ⟨0x92C0, 4, 16, [⟨31, 0, .ro, 0, .any⟩]⟩,
   -- RND_PUBKEY_j
   ⟨0x9300, 4, 16, [⟨31, 0, .ro, 0, .any⟩]⟩,
   -- RND_IMG_HASH_j
   ⟨0x9340, 4, 8, [⟨31, 0, .ro, 0, .any⟩]⟩]

/-- The registers of the RND_ block (R428), by first offset, stride and count. -/
def rowsRnd : List RegRow := rowsRnd0 ++ rowsRnd1

/-- The registers of the FLT_ block (R447), by first offset, stride and count. -/
def rowsFlt : List RegRow :=
  [
   -- FLT_STAT
   ⟨0xA000, 4, 1, [⟨0, 0, .ro, 0, .any⟩, ⟨1, 1, .ro, 0, .any⟩]⟩,
   -- FLT_LOCAL
   ⟨0xA004, 4, 1, [⟨4, 0, .ro, 0, .any⟩]⟩,
   -- FLT_DEV
   ⟨0xA008, 4, 1, [⟨0, 0, .w1c, 0, .any⟩, ⟨1, 1, .w1c, 0, .any⟩]⟩,
   -- FLT_FN_MASK
   ⟨0xA00C, 4, 1, [⟨4, 0, (.live .press), 0, .any⟩]⟩,
   -- FLT_CTL
   ⟨0xA010, 4, 1, [⟨0, 0, (.live .press), 0, .any⟩, ⟨1, 1, (.live .press), 0, .any⟩]⟩,
   -- FLT_CFG_ADDR
   ⟨0xA014, 4, 1, [⟨15, 0, .ro, 0, .any⟩, ⟨31, 16, .ro, 0, .any⟩]⟩,
   -- FLT_CFG_CNT
   ⟨0xA018, 4, 1, [⟨15, 0, .ro, 0, .any⟩]⟩,
   -- FLT_LAST
   ⟨0xA01C, 4, 1, [⟨7, 0, .ro, 0, .any⟩]⟩,
   -- FLT_WDOG
   ⟨0xA020, 4, 1, [⟨7, 0, .ro, 0, .any⟩]⟩,
   -- FLT_RESET_WHY
   ⟨0xA024, 4, 1, [⟨1, 0, .ro, 0, .any⟩]⟩,
   -- FLT_VER_STATE
   ⟨0xA040, 4, 1, [⟨1, 0, .ro, 0, .any⟩, ⟨2, 2, .ro, 0, .any⟩, ⟨3, 3, .ro, 0, .any⟩, ⟨4, 4, .ro, 0, .any⟩, ⟨5, 5, .ro, 0, .any⟩, ⟨6, 6, .ro, 0, .any⟩, ⟨7, 7, .ro, 0, .any⟩, ⟨11, 8, .ro, 0, .any⟩]⟩,
   -- FLT_SLOT_s.STATE
   ⟨0xA080, 16, 4, [⟨2, 0, .ro, 0, .any⟩]⟩,
   -- FLT_SLOT_s.IMG_VER
   ⟨0xA084, 16, 4, [⟨31, 0, .ro, 0, .any⟩]⟩,
   -- FLT_SLOT_s.IFS
   ⟨0xA088, 16, 4, [⟨23, 0, .ro, 0, .any⟩]⟩,
   -- FLT_SLOT_s.HW
   ⟨0xA08C, 16, 4, [⟨7, 0, .ro, 0, .any⟩, ⟨15, 8, .ro, 0, .any⟩, ⟨31, 16, .ro, 0, .any⟩]⟩,
   -- FLT_DBG
   ⟨0xA0C0, 4, 1, [⟨0, 0, (.live .press), 0, .any⟩]⟩]
/-- The rows of the block that holds a BAR0 offset. -/
def rowsAt (off : Nat) : List RegRow :=
  if off < 0x400 then rowsId
  else if off < 0x800 then rowsWhl
  else if off < 0x1000 then rowsPwr
  else if off < 0x2000 then rowsRing
  else if off < 0x3000 then rowsStr
  else if off < 0x3800 then rowsMtx
  else if off < 0x4000 then rowsClr
  else if off < 0x5000 then rowsRip
  else if off < 0x6000 then rowsHrp
  else if off < 0x6800 then rowsCar
  else if off < 0x7000 then rowsAdc
  else if off < 0x7800 then rowsHoop
  else if off < 0x8000 then rowsTwn
  else if off < 0x9000 then rowsOzh
  else if off < 0xA000 then rowsRnd
  else if off < 0x10000 then rowsFlt
  else []

/-- Whether a register of the row stands at the offset. -/
def RegRow.has (r : RegRow) (off : Nat) : Bool :=
  decide (r.base ≤ off) && decide ((off - r.base) % r.stride = 0) && decide ((off - r.base) / r.stride < r.count)

/-- The row of the register at an offset; none at an unmapped or unaligned offset (R16). -/
def regRow (off : Nat) : Option RegRow := (rowsAt off).find? (fun r => r.has off)

/-- The fields of the register at an offset. -/
def regFields (off : Nat) : List Fld :=
  match regRow off with
  | some r => r.fields
  | none => []

end Sys2Proof.Machine
end

