-- ==== Sys2Proof/Machine/State.lean ====
section
/-! DEFINITION. The state of the ZD96: every register, queue, buffer, counter, mode and pin the spec gives the device,
as plain data, with the queue of waiting commands and the log of what the device has put out.
Set-up registers live in `Regs` by BAR0 offset; a read-only register is composed from the fields below. -/

namespace Sys2Proof.Machine

/-- Why a step stops with a fault. The model has one such reason, and no meaning of a row with an effect raises it. -/
inductive Fault where
  /-- Raised by no meaning: the spec names no condition under which the ZD96 itself halts. Safe. -/
  | none
deriving DecidableEq, Repr

/-- Why a command is refused. -/
inductive Refusal where
  /-- The command has no meaning in the model. Safe: nothing can be proved of a run through it. -/
  | notModelled (mnemonic : String)
deriving DecidableEq, Repr

/-- The grids whose boundary the device serves once on the tick on which it falls (R27, Table SCP-4). -/
inductive Grid where
  | press
  | dim (n : Nat)
  | conv (n : Nat)
  | rowSlot
  | frame
  | slot
  | ripStep (n : Nat)
  | car (n : Nat)
  | frameSend
  | stageCurrent
  | xchk
deriving DecidableEq, Repr

/-- The six modes, Table MOD-1. -/
inductive Mode where
  | vault
  | doze
  | ready
  | run
  | shadow
  | hold
deriving DecidableEq, Repr

/-- Where the wake sequencer stands (Table MOD-4). `por` is the power-on reset or RST_N held; `idle` is no sequence. -/
inductive Wake where
  | por
  | idle
  | v3wait
  | buck
  | refMeas
  | crystal
  | pll
  | pause
  | limpPll
  | wheelWait
  | steward
deriving DecidableEq, Repr

/-- WHL_STAT.ROLE (Table WHL-6). -/
inductive WRole where
  | master
  | hoop
  | twin
  | radio
deriving DecidableEq, Repr

/-- WHL_STAT.STATE (Table WHL-4). -/
inductive FState where
  | free
  | synced
  | holdover
deriving DecidableEq, Repr

/-- The word-clock follower's states (Table WHL-1). -/
inductive WordState where
  | off
  | acquire
  | locked
  | holdover
deriving DecidableEq, Repr

/-- WHL_CLK_STAT.SRC (Table WHL-8). -/
inductive ClkSrc where
  | xtal
  | refclk
  | limp
deriving DecidableEq, Repr

/-- WHL_TMP_STAT.STATE (Table WHL-11). -/
inductive TState where
  | off
  | run
  | hold
  | stopped
deriving DecidableEq, Repr

/-- A ring's STATE (Tables RING-7 and RING-8; a whey ring reads FULL where a curd ring reads STALLED). -/
inductive RState where
  | stopped
  | running
  | stalled
  | halted
deriving DecidableEq, Repr

/-- The status codes of Table DSC-5. -/
inductive Status where
  | ok
  | late
  | state
  | opcode
  | target
  | unreachable
  | timeout
  | faulted
  | locked
  | version
  | security
  | full
  | param
deriving DecidableEq, Repr

/-- A whey entry, Table DSC-4. DETAIL holds byte 10 in its lowest byte. -/
structure Entry where
  kind : Byte
  status : Byte
  code : BitVec 16
  at48 : Short
  detail : BitVec 48
deriving DecidableEq, Repr

/-- Who a completion belongs to (R118, R129, R170, R346): a host curd ring, a Hoop sender with its TAG, the twin partner
with a TAG, a radio originator, or nobody (a broadcast). `mirror` is a curd ring of the failed unit of a twin, named by number (R354). -/
inductive Origin where
  | curd (n : Nat)
  | mirror (n : Nat)
  | hoop (src : BitVec 12) (tag : BitVec 16)
  | partner (tag : BitVec 16)
  | radio (orig : BitVec 16)
  | nobody
deriving DecidableEq, Repr

/-- A descriptor taken off a ring: where it came from, its place in the order of acceptance, the cue-store entry it occupies, and
whether it is a late cue that executes (R37). -/
structure Job where
  src : Src
  origin : Origin
  d : Desc
  serial : Nat
  cue : Option Nat
  late : Bool
deriving DecidableEq, Repr

/-- A cue in the cue store (R37, R38): its store index, its job, its acceptance, its release time T (which may be negative under R26), whether it
has released and executed (`out`), and whether its completion waits for room in a whey ring (`held`) (R120, R125). -/
structure Cue where
  idx : Nat
  job : Job
  acc : Short
  t : Int
  out : Bool
  held : Bool
deriving DecidableEq, Repr

/-- What a descriptor that has executed still waits for before it completes. -/
inductive Await where
  | remote (tag : BitVec 16) (due : Nat)
  | ripen (n : Nat)
  | press
  | pressFabric (b : Nat)
  | radio (ref : Nat)
  | rind (ref due : Nat)
  | erase (rind : Bool)
  | enumEnd (epoch : BitVec 16)
  | swap (b : Nat)
  | swapAsk (tag : BitVec 16) (due : Nat)
  | mode (m : Mode)
deriving DecidableEq, Repr

/-- A descriptor in flight. -/
structure Flight where
  job : Job
  exec : Short
  await : Await
deriving DecidableEq, Repr

/-- What the device puts out: entries and words it writes to host memory, messages, read requests, replies to reads,
frames and packets on the Hoop and the twin link, frames on the radio, and pin-level waveforms. -/
inductive Out where
  | whey (m : Nat) (idx : Word) (addr : BitVec 64) (e : Entry)
  | tail (m : Nat) (addr v : BitVec 64)
  | ciShadow (n : Nat) (addr v : BitVec 64)
  | msix (v : Nat) (addr : BitVec 64) (data : Word)
  | pme
  | aer (addr : BitVec 64)
  | readReq (k : RdKind) (addr : BitVec 64) (len : Nat)
  | shiftHdrReq (addr : BitVec 64)
  | shiftImgReq (addr : BitVec 64) (len : Nat)
  | reply (bytes : List Byte)
  | downFrame (port : Nat) (sync : List Byte) (page : Byte) (data : List Byte) (crc : BitVec 32)
  | relaySync (port : Nat) (sync : List Byte)
  | upFrame (sync : List Byte)
  | packet (port : Nat) (p : Packet)
  | relayShift (port : Nat) (syms : List Sym)
  | heartbeat (bytes : List Byte)
  | mirror (recs : List MirRec) (mseq : Word) (queueEmpty fullDone : Bool)
  | radio (chan : Nat) (offset : Nat) (dbm : Int) (access : Word) (psdu : List Byte) (crc : BitVec 24)
  | syncOut (high : Bool)
  | rindMsg (req : Byte) (tag : BitVec 16) (args : List Byte)
deriving DecidableEq, Repr

/-- The clock, the Wheel and its follower, and the word-clock follower (chapter 01). `now` counts ticks from power-up and
never moves back; `prev` is the Wheel at the previous tick; `served` lists the grids already served on this tick; `slew` is what a
slew has still to correct, `skip` the ticks on which the Wheel still moves by 2 (positive) or is held (negative); `nowHi` is the
latched WHL_NOW_HI; `refHz` is the frequency that REFIN was last measured at, an input that holds until it is named again; `phase` is how far
the order of R468 has been gone through on this tick; `wordFull` is since when the steering stands at its limit, `wordEdge` the last
edge or the entry to ACQUIRE. -/
structure Clk where
  now : Nat := 0
  wheel : Wheel := 0
  prev : Wheel := 0
  running : Bool := false
  served : List Grid := []
  nowHi : Word := 0
  phase : Nat := 0
  refHz : Nat := 0
  src : ClkSrc := .xtal
  pllLock : Bool := false
  limp : Bool := false
  woscCal : Word := 6144000
  role : WRole := .master
  fstate : FState := .synced
  slew : Int := 0
  skip : Int := 0
  lastErr : Int := 0
  badSyncs : Nat := 0
  wordState : WordState := .off
  wordSteer : Int := 0
  wordGood : Nat := 0
  wordFull : Option Nat := none
  wordEdge : Nat := 0
deriving DecidableEq, Repr

/-- The always-on domain, the rails and the wake sequencer (chapters 02 and 03). `cause` holds the HOLD_CAUSE bits; `stepAt` is the tick
at which the present wake step began, `dozeWake` says that the steps run for a DOZE event, `cold` that step 6 sets the Wheel to 0,
`retained` that the retention SRAM holds a saved context; `woscRc` that the wake oscillator
runs from the internal RC and `woscCount` its count since the Wheel was stored; `latched` is the wake
source latched during entry to sleep, `sleepTo` the mode an entry to sleep goes to, `request` a PWR_MODE_REQ write that waits for its
press, with its tick, `asked` one taken at a press and not yet judged, and `transAt` the last tick on which a transition of a higher rank
than a MODE request began (R81). A rail's flag reads true while it is in lockout; `vinEnd` and `vrowEnd` are when its suspension ends. -/
structure Pwr where
  mode : Mode := .ready
  wake : Wake := .por
  stepAt : Nat := 0
  dozeWake : Bool := false
  cause : BitVec 5 := 0
  retValid : Bool := false
  wakeCause : Nat := 0
  wakePin : Nat := 0
  fromDoze : Bool := false
  latched : Option (Nat × Nat) := none
  pgoodFails : Nat := 0
  clkAttempts : Nat := 0
  lastFail : Nat := 0
  wakeTime : Word := 0
  wakeStart : Nat := 0
  cold : Bool := true
  vaultLock : Bool := false
  storedWheel : Wheel := 0
  wheelCopy : Wheel := 0
  dozeEvent : Bool := false
  dozeStart : Nat := 0
  retained : Bool := false
  sleepTo : Option Mode := none
  sleepStart : Nat := 0
  request : Option (Mode × Nat) := none
  asked : Option Mode := none
  transAt : Option Nat := none
  woscRc : Bool := false
  woscCount : BitVec 48 := 0
  v3Low : Bool := false
  vinLow : Bool := false
  vrowLow : Bool := false
  vioLow : Bool := false
  vbatLow : Bool := false
  vinEnd : Option Nat := none
  vrowEnd : Option Nat := none
  vinSusp : Bool := false
  vrowSusp : Bool := false
  resetWhy : Nat := 0
deriving DecidableEq, Repr

/-- The set-up registers by BAR0 offset: the value in force, the last value written (for a staged field, the shadow copy), the
committed value that waits for its boundary, the last value as it stood before the writes of tick `stTick` (R11, R18), what waited for its
boundary before the commits of tick `cmTick` (R468), the sticky bits set on tick `setTick` (R19), and the offsets with a live or a staged
write that has not been applied or committed. -/
structure Regs where
  force : Tab Word := []
  written : Tab Word := []
  commit : Tab (Option Word) := []
  before : Tab (Option Word) := []
  stTick : Nat := 0
  cmOld : Tab (Option (Option Word)) := []
  cmTick : Nat := 0
  setNow : Tab Word := []
  setTick : Nat := 0
  live : Tab Bool := []
  staged : Tab Bool := []
deriving DecidableEq, Repr

/-- The Tempo unit (R39 to R43, R469). Beat i falls at a + floor((i - k0) × pq / 2^16); (k, j) is the position of the next event;
`sNow` is the S of the beat in progress. `anchored` says that the grid has its anchor, `halted` that a start or stop halts events.
`preA` and `preK` are the anchor and index that TEMPO set while the grid did not run. `clkN` is the number of the last MIDI clock and
`clkT` the times of the clocks that arrived since the last start, continue or first clock, newest first. `lastClk` arms the loss of
the MIDI clock. `aux` holds the kinds of the AUX cycle received so far. -/
structure Tempo where
  st : TState := .off
  runs : Bool := false
  anchored : Bool := false
  halted : Bool := false
  a : Int := 0
  k0 : Nat := 0
  pq : Nat := 0
  k : Nat := 0
  j : Nat := 0
  sNow : Nat := 4
  l : Nat := 4
  beat : Word := 0
  preA : Option Int := none
  preK : Option Nat := none
  bpmNew : Bool := false
  clkN : Option Int := none
  clkT : List Int := []
  adopt : Bool := false
  cont : Bool := false
  lastClk : Option Nat := none
deriving DecidableEq, Repr

/-- One host curd ring (R108 to R120): descriptors pending beyond CI, descriptors fetched and ready, the length of the burst being
read, how many doorbell reads and bursts are outstanding whose data is not to be used (the oldest ones), how many doorbell reads are
outstanding at all, failed checks in a row, whether it is stalled by a full cue store or a full Hoop queue, whether it stops once the
descriptor in execution has ended, the ERR and the request with which it halts once the good part of a failed burst is accepted, the last CI
shadow, and whether one is due that could not be written. -/
structure Curd where
  st : RState := .stopped
  err : Nat := 0
  pend : Nat := 0
  ready : List Desc := []
  fetching : Nat := 0
  fetchDrop : Nat := 0
  rdOut : Nat := 0
  rdDrop : Nat := 0
  bad : Nat := 0
  told : Bool := false
  remWait : Bool := false
  stopping : Bool := false
  haltAt : Option (Nat × BitVec 64) := none
  shadow : Option (BitVec 64) := none
  shadowDue : Bool := false
deriving DecidableEq, Repr

/-- One whey ring (R121 to R125): the entries consumed as last read, how many head reads are outstanding and how many of those (the oldest)
are not to be used, failed checks in a row, the entries and presses since the last message, and whether the free count stood below a
quarter at the last press. -/
structure Whey where
  st : RState := .stopped
  err : Nat := 0
  head : Word := 0
  rdOut : Nat := 0
  rdDrop : Nat := 0
  bad : Nat := 0
  since : Nat := 0
  age : Nat := 0
  low : Bool := false
deriving DecidableEq, Repr

/-- An entry that waits for its whey ring (R125): an event, or a completion for ring `m`, held in cue-store entry `cue` or in the
shared buffer. -/
structure Waiting where
  evt : Bool
  m : Nat
  cue : Option Nat
  e : Entry
deriving DecidableEq, Repr

/-- An MSI-X table entry and its pending bit. -/
structure Msix where
  addr : BitVec 64 := 0
  data : Word := 0
  mask : Bool := true
  pend : Bool := false
deriving DecidableEq, Repr

/-- A FENCE that waits (R164): its descriptor, the tick of its execution and the serials it awaits are those below its own. -/
structure Fence where
  job : Job
  start : Nat
deriving DecidableEq, Repr

/-- The ring engine (chapter 04) and the descriptors on their way (chapter 05): `serial` numbers accepted descriptors, `turn` is the
source served last and `fetchTurn` the curd ring that fetched last, `owed` says that an EVENTS_LOST entry is due, `restarted` that a
RINGS_RESTARTED entry is, `shut` are the whey rings not enabled since a reset of the endpoint (R136), `fmask` is the function mask of MSI-X,
and `steward` holds the descriptors that wait for a debug halt to end (R437). -/
structure Ring where
  curd : Tab Curd := []
  whey : Tab Whey := []
  lh : List Job := []
  lr : List Job := []
  lhTold : Bool := false
  lrTold : Bool := false
  cues : List Cue := []
  flights : List Flight := []
  fences : List Fence := []
  steward : List Job := []
  serial : Nat := 0
  tag : BitVec 16 := 0
  wait : List Waiting := []
  lostEvt : Nat := 0
  lostCpl : Nat := 0
  owed : Bool := false
  restarted : Bool := false
  abiState : Nat := 0
  servedMinor : Byte := 0
  errAddr : BitVec 64 := 0
  msix : Tab Msix := []
  fmask : Bool := false
  shut : BitVec 4 := 0
  fetchTurn : Nat := 7
  bme : Bool := false
  d3 : Bool := false
  pmeEn : Bool := false
  link : Bool := false
  perst : Bool := false
  maxRead : Nat := 512
  lastAccept : Option Nat := none
  turn : Nat := 0
deriving DecidableEq, Repr

/-- A light channel (R152, R153, R237, R238): the stepwise value, the HANDOFF mark of a waiting owner change, both as they stood before
the writes of the tick in `was` (R11), the shift value with the one before the last latch, and the level and drive value at its last
boundary. -/
structure Chan where
  step : BitVec 16 := 0
  handoff : Bool := false
  was : Option (Nat × BitVec 16 × Bool) := none
  shift : BitVec 16 := 0
  shiftWas : BitVec 16 := 0
  level : BitVec 16 := 0
  drive : BitVec 20 := 0
deriving DecidableEq, Repr

/-- One power-string stage (chapter 06), as a string (its lead fields) and as a phase. Times are in `Clk.now` ticks; `width` is in
sixteenths of a tick, `ampUa` and `share` in µA, `duty` in 1/65,536. `sampleDue` says that this period takes a detection sample and
`pulseEnd` the tick of the pulse's end. `ovpHit` and `ovpLast` tell of OVP in this period and in the last, `actThis` and `act` of
switching in them. `testWait` is a cleared phase that waits for its self-test, `testing` the cycles of one that runs, `testSense` which
bit it came from. Until tick `newAt` the converter cycles lie as the phases `oldPh` set them. `tt` and `lamp` are the factors a string of
an SRC 5 class keeps (R221, R230). `ramp` says that the phase runs at the duty limit until its current reaches the pulse's amplitude;
`offAt` is since when both its switches are off after a pulse, and `sensed` that this off interval has had its zero check (R180, R192);
`refresh` asks for a low-side refresh in the next cycle, and `lowEnd` is when the last one ends (R176). -/
structure Str where
  busy : Bool := false
  switching : Bool := false
  pulsed : Bool := false
  dropout : Bool := false
  ovpHit : Bool := false
  ovpLast : Bool := false
  drive : BitVec 20 := 0
  width : Nat := 0
  ampUa : Nat := 0
  vos : BitVec 16 := 0
  ima : BitVec 16 := 0
  opens : Nat := 0
  shorts : Nat := 0
  faulted : Bool := false
  debt : Int := 0
  probing : Bool := false
  sampleDue : Bool := false
  pulseEnd : Nat := 0
  lastSample : Option Nat := none
  nonZero : Option Nat := none
  lastProbe : Option Nat := none
  started : Nat := 0
  cap : Nat := 1048575
  capTold : Bool := false
  act : Bool := false
  actThis : Bool := false
  duty : Nat := 0
  ramp : Bool := false
  offAt : Option Nat := none
  sensed : Bool := false
  refresh : Bool := false
  lowEnd : Nat := 0
  peak : Bool := false
  openRun : Nat := 0
  share : Nat := 0
  senseRun : Nat := 0
  xchk : Nat := 0
  testWait : Bool := false
  testing : Option Nat := none
  testSense : Bool := false
  testBad : Bool := false
  oldPh : List Nat := []
  newAt : Nat := 0
  tj16 : Int := 400
  tjSeen : Bool := false
  vf : BitVec 16 := 0
  tt : Nat := 32768
  lamp : Nat := 32768
deriving DecidableEq, Repr

/-- One matrix position (R201 to R211): the width of its pulse in the present slot, in steps of 15/16 tick, whether that pulse takes a sample
(`due`), probe debt in steps (below 0 where a probe fell short of the slot's width), the evidence count and its class (1 open, 2 short), and, for a probe of the present slot, the debt and probe time to go back
to when the row limit cuts it (R212). `back` says that a cleared position returns at its next row slot, `blank` until when it is
blanked. -/
structure Pos where
  w : Nat := 0
  due : Bool := false
  debt : Int := 0
  cls : Nat := 0
  cnt : Nat := 0
  d14 : Nat := 0
  lastSample : Option Nat := none
  nonZero : Option Nat := none
  lastProbe : Option Nat := none
  undo : Option (Int × Option Nat) := none
  back : Bool := false
  blank : Nat := 0
deriving DecidableEq, Repr

/-- The matrix sequencer and headroom servo (chapter 07). `frameMin` is the lowest headroom of the frame so far with its column,
`lastProbed` the column last probed in each row, `blank`, `rowBlank` and `colBlank` the ticks until which sampling is blanked (R210),
`waitFrame` that outputs start at the next scan frame (Table MOD-2), `cut` that the slot's row switch was turned off early and `sinksOff` that
its sinks were, `holdRows` the rows whose first slot after entry to HOLD is still to come (R92), `lastRow` the row that was switched on in
the slot before (Table MTX-1), and `probedWas` what `lastProbed` held for the slot's row before this slot (R212). -/
structure Mtx where
  busy : Bool := false
  driving : Bool := false
  waitFrame : Bool := false
  f : Nat := 0
  slot : Nat := 0
  slotAt : Nat := 0
  code : Nat := 0
  sinceStep : Nat := 0
  frameMin : Option (Nat × Nat) := none
  minMv : BitVec 16 := 0
  minCol : BitVec 6 := 0
  hdrmCol : Tab (BitVec 16) := []
  pos : Tab Pos := []
  lastProbed : Tab (Option Nat) := []
  blank : Nat := 0
  rowBlank : Tab Nat := []
  colBlank : Tab Nat := []
  cut : Bool := false
  sinksOff : Bool := false
  holdRows : BitVec 16 := 0
  lastRow : Option Nat := none
  probedWas : Option Nat := none
deriving DecidableEq, Repr

/-- One colour class (chapter 08). `trim` is the applied loop trim in 1/65,536 of an LSB and `target` its target in LSBs; `sample` is the
last sample of the frame so far, as reading and sequence; `fresh` that no sample has been valid since FB_EN was set; `win` holds the last
16 valid samples, newest first, as reading and X, and `runTrim` the trim at the first of the newest ones with one reading. `lostFrames`
counts frames without a valid sample, `hold` frames in the present open state. `probeLeft` is what is left of a dither probe in frames,
`probeRd` its readings, `probeBase` the readings before it, `probeTrim` the trim at its start, `probeFrames` the frames since the last one
began; `frozenNext` says that a probe ended FROZEN. -/
structure Cls where
  state : Nat := 0
  returning : Bool := false
  probing : Bool := false
  probeLeft : Nat := 0
  probeRd : List Nat := []
  probeBase : List Nat := []
  probeTrim : Nat := 0
  probeFrames : Nat := 0
  frozenNext : Bool := false
  trim : Nat := 2147483648
  target : Nat := 32768
  t16 : Int := 0
  tt : Nat := 32768
  lamp : Nat := 32768
  lastSeq : Option Nat := none
  fresh : Bool := true
  lastRead : Nat := 0
  lastGood : Nat := 32768
  good : Nat := 0
  lostFrames : Nat := 0
  win : List (Nat × Nat) := []
  runTrim : Nat := 0
  armed : Bool := false
  hold : Nat := 0
  sample : Option (Nat × Nat) := none
deriving DecidableEq, Repr

/-- The colour stage (chapter 08): the last die readings in 1/16 °C, the applied die factor, and per NTC input the temperature it
reports, the code converted since the last frame start, whether a reading has been taken since it was enabled, and whether the last one
lay at a rail; `ntcEnd` is when the NTC conversions in progress end. -/
structure Clr where
  dieT : Tab Int := []
  dieFact : Nat := 32768
  ntcT : Tab Int := []
  ntcCode : Tab (Option Nat) := []
  ntcSeen : BitVec 4 := 0
  ntcBadNow : BitVec 4 := 0
  ntcEnd : Nat := 0
  cls : Tab Cls := []
deriving DecidableEq, Repr

/-- A Ripener (chapter 09). Outputs are in 1/256 of a level; `budget` is what is left of the sixteen instructions of the
step in progress, `none` outside a step. `acts` are RIPEN actions that wait for the next step. -/
structure Rip where
  run : Bool := false
  faulted : Bool := false
  hostPause : Bool := false
  dbgPause : Bool := false
  handler : Option (Fin 4) := none
  latch : Tab (Option Word) := []
  fcause : Nat := 0
  fpc : Nat := 0
  trigOvf : Word := 0
  ovfNew : Bool := false
  ovfPress : Option Nat := none
  mask : BitVec 4 := 0
  regs : Tab Word := []
  ctx : Ctx := ⟨0, 0, 0, .steps, 0, none, none, [], false, 0, 0⟩
  frame : Option Ctx := none
  group : List Nat := []
  outs : Tab Nat := []
  fades : Tab Nat := []
  newFades : Tab Bool := []
  budget : Option Nat := none
  lastStep : Nat := 0
deriving DecidableEq, Repr

/-- A Harp's execution state (R261 to R277); its instruction memory and pocket are registers. Clock m after the restart at
tick `r` falls at r + floor(m × DIV / 256); `m` is the next clock on which an instruction executes or a condition is tried, `free` the
first tick that no clock has used, and `dly` the clocks of a DLY still to pass. An edge latch holds the edge's tick and Wheel[31:0].
`paused` is the STATE that a debug pause interrupts. -/
structure Harp where
  st : Nat := 0
  pc : BitVec 5 := 0
  s : Word := 0
  x : Word := 0
  y : Word := 0
  t : Word := 0
  tx : List Word := []
  rx : List Word := []
  fall : Tab (Option (Nat × Word)) := []
  rise : Tab (Option (Nat × Word)) := []
  r : Nat := 0
  m : Nat := 0
  dly : Nat := 0
  free : Nat := 0
  rxOvf : Word := 0
  ovfNew : Bool := false
  ovfPress : Option Nat := none
  paused : Nat := 0
deriving DecidableEq, Repr

/-- The HP pins (R263 to R265): the level that something outside drives each ball to, if anything does (`ext`), the synchronised sample and
since when it has shown its level, the filtered sample before INV (`ball`), which pins an owner drives, and the driven value before INV and
open drain; `held` are the drivers and levels that HIO holds through DOZE, whatever its registers read (R59, R276), and `judged` says that
STAT.UNOWNED has been judged since the reset (R263, R280). -/
structure Pins where
  ext : Tab (Option Bool) := []
  syncd : BitVec 32 := 0
  since : Tab Nat := []
  judged : Bool := false
  ball : BitVec 32 := 0
  drive : BitVec 32 := 0
  value : BitVec 32 := 0
  held : Option (BitVec 32 × BitVec 32) := none
deriving DecidableEq, Repr

/-- An edge of a pair's outputs: sixteenths after the period start, the transition of the treated signal that it belongs to, CAnA when `a`,
and the level it takes (Table CAR-2). -/
structure Edge where
  at16 : Nat
  src : Nat
  a : Bool
  high : Bool
deriving DecidableEq, Repr

/-- A carrier pair (chapter 11). `start` is the tick of the period's start and `len` its length; `idealAt` and `treatAt` are the
transitions of the ideal and of the treated signal in this period, in sixteenths after its start, with their levels and the ideal
signal's run before it; `levA` and `levB` are the levels at the start and `edges` those that follow, before SWAP. `upd` says that the
period began with a carrier update, `trans` that it is a transition period, `jumped` that the Wheel's grid has moved under it; `refEnd` is the end
of a refresh of this period, in sixteenths after its start, and `syncLast` the last edge of SYNC_IN that began a period. -/
structure Car where
  busy : Bool := false
  begun : Bool := false
  driving : Bool := false
  cut : Bool := false
  latched : Bool := false
  latchClr : Bool := false
  refreshing : Bool := false
  refEnd : Nat := 0
  srvStale : Bool := false
  srvWas : Bool := false
  cNow : Nat := 0
  cNext : Nat := 0
  acc : Int := 0
  q : Int := 0
  start : Nat := 0
  len : Nat := 0
  upd : Bool := false
  trans : Bool := false
  jumped : Bool := false
  refCnt : Nat := 0
  refDue : Bool := false
  cutCnt : Nat := 0
  staleCnt : Nat := 0
  lastRuns : Option Word := none
  ideal0 : Bool := false
  run0 : Nat := 1048576
  idealAt : List (Nat × Bool) := []
  treat0 : Bool := false
  treatAt : List (Nat × Bool) := []
  levA : Bool := false
  levB : Bool := false
  edges : List Edge := []
  swap : Bool := false
  lastEdge : Option Nat := none
  fired : BitVec 2 := 0
  syncEdges : List Nat := []
  syncLast : Nat := 0
deriving DecidableEq, Repr

/-- The trips, SYNC_IN and SYNC_OUT (R293 to R297): the synchronised samples of the trip inputs with the ticks since when each has shown its
level, their filtered levels, the pairs and the lowest input that have cut since the last CAR_TRIP, and the level on SYNC_OUT with the end of
its pulse. -/
structure Trips where
  level : BitVec 4 := 0
  since : Tab Nat := []
  filt : BitVec 4 := 0
  cutMask : BitVec 6 := 0
  cutTrip : Option Nat := none
  evtPress : Option Nat := none
  syncIn : Bool := false
  syncOut : Bool := false
  syncOutEnd : Nat := 0
deriving DecidableEq, Repr

/-- An ADC sequence (R298 to R300): `sampled` is Wheel[31:0] of the sample instant of the first entry of the run in progress. -/
structure Seq where
  pend : Bool := false
  running : Bool := false
  beginAt : Nat := 0
  sampled : Word := 0
  stamp : Word := 0
  res : Tab (BitVec 12) := []
  ovr : BitVec 16 := 0
  runs : Word := 0
deriving DecidableEq, Repr

/-- A Hoop port (Tables HOOP-2 and HOOP-11). `comma` is the symbol position of the last COMMA that an unaligned receiver found, with how
many it has found there in a row, and `recent` tells of an aligned receiver's last 16 code groups, newest first, which were invalid (R309).
`link` is 0 DOWN, 1 TRAIN, 2 UP; `lastSync` is when the last SYNC began, or was due and did not, in sixteenths of a tick; `good` counts
valid SYNCs in TRAIN, `missed` the missing or bad ones in a row; `fresh` says that no delay sample has been taken since TRAIN; `txq` holds
packets with the first tick on which each may start; `frameAt` is when symbol 0 of the frame being sent leaves, in sixteenths, and
`freeSym` its next free even symbol; `sent` holds the origins sent with the sixteenths of the tick of their symbol 0; `count` is the
subtree's unit count in an enumeration. -/
structure HPort where
  link : Nat := 0
  signal : Bool := false
  comma : Option (Nat × Nat) := none
  aligned : Bool := false
  recent : List Bool := []
  lastSync : Option Nat := none
  everUp : Bool := false
  good : Nat := 0
  missed : Nat := 0
  farId : BitVec 12 := 0xFFF
  dly : Nat := 0xFFFFF
  fresh : Bool := true
  codeErr : BitVec 16 := 0
  syncBad : BitVec 16 := 0
  pktErr : BitVec 16 := 0
  drop : BitVec 16 := 0
  txq : List (Packet × Nat) := []
  frameAt : Option Nat := none
  freeSym : Nat := 10240
  sent : List (BitVec 16 × Nat) := []
  count : Option Nat := none
deriving DecidableEq, Repr

/-- A record of the root's enumeration list (R332). -/
structure EnumRec where
  id : BitVec 12
  depth : Nat
  member : Byte
  cum : Nat
  eui : BitVec 64
  port : Nat
  dup : Bool
deriving DecidableEq, Repr

/-- The Hoop (chapter 12). `upOk` is UPSTREAM_OK of the last valid SYNC on UP, `wasCut` that the unit was cut off when last judged,
`isoRaised` that this cut has raised the isolation fault; `asked` are the ports whose count an enumeration awaits, `enumN` the root's N;
`own` are packets to its own ID that it has still to consume; `recorded` are the press indexes of announced boundaries, `announced` the root's own announcements as P_x and B / 4,096, `late` a
boundary learned too late, `lastPress` the index of the last press dealt with and `latchAt` the tick of the last latch; `hold` is the hold
buffer by channel; `hdrOut` counts the header reads that are outstanding, `reading` are the generations of the images being read, oldest
first, and `imageNew` the one read and not yet in force; `auxGot` the AUX cycle received so far, each with its cycle number. -/
structure Hoop where
  ports : Tab HPort := []
  busy : Bool := false
  upOk : Bool := false
  holding : Bool := false
  holdCnt : Nat := 0
  isoRaised : Bool := false
  wasCut : Bool := false
  dup : Bool := false
  loop : Bool := false
  depth : Nat := 0
  cum : Nat := 0
  lastOrigin : BitVec 16 := 0
  lastCap : Option Nat := none
  enumBusy : Bool := false
  enumWant : Bool := false
  enumAuto : Bool := false
  epoch : BitVec 16 := 0
  enumStart : Nat := 0
  asked : List Nat := []
  enumN : Option Nat := none
  enumRecs : List EnumRec := []
  enumList : List EnumRec := []
  enumHeld : List (Nat × Packet) := []
  found : Nat := 0
  dups : Nat := 0
  maxDepth : Nat := 0
  maxCum : Nat := 0
  leadMin : Nat := 0
  recorded : List Nat := []
  announced : List (Nat × Nat) := []
  late : Bool := false
  hold : Tab (BitVec 16) := []
  shiftBad : BitVec 16 := 0
  gen : Word := 0
  reading : List Word := []
  hdrOut : Nat := 0
  image : List Byte := []
  imageNew : Option (Word × List Byte) := none
  own : List Packet := []
  lastPress : Nat := 0
  latchAt : Option Nat := none
  rswGo : Bool := false
  auxGot : Tab (List Byte) := []
deriving DecidableEq, Repr

/-- Twin roles (Table TWN-3). -/
inductive TRole where
  | unpaired
  | active
  | shadow
deriving DecidableEq, Repr

/-- What the active unit has told its shadow of the state that goes by deltas (R346): the registers in force, the shadow copies of staged
registers, culture memory, per channel the stepwise value, owner and shift value, and the cue store's entries with their serials and
release times. -/
structure Told where
  regs : Tab Word := []
  stag : Tab Word := []
  cult : Tab Word := []
  chan : Tab (Nat × Nat × Nat) := []
  cues : List (Nat × Nat × Int) := []
deriving DecidableEq, Repr

/-- The twin engine (chapter 13). The fields named `p…` are from the partner's last heartbeat; `lastHb` is the tick of the last valid
one, `missed` those missed since; `lastCap` its capture in sixteenths of a tick and `sentHb` the HB_SEQ and times of those sent. On the
active unit, `told` is what the deltas have told so far, `deltas` the queue of R347, `image` what is left of a full image, `imgOn` that
one is being sent, `imgEnd` when the last one ended, `ripTold` the Ripeners whose last snapshot shows them running, and the turns of
the rolling snapshots. On the shadow, `synced` says that no frame has been discarded since FULL_DONE and `fresh` that the next frame is
taken whatever its MSEQ; the snapshots, counter and Ripeners mirrored last. `strStart` are the strings, and `mtxStart` the matrix, still
to start after a takeover (Table TWN-4); `takeDue` says that the conditions of a takeover arose on this tick (R81), `takeWheel` holds the Wheel of a detection whose TAKE_TIME is still to
be written, and `pfltCnt` for how many ticks the partner-fault pin has read low, 33 once that has been acted on. -/
structure Twin where
  role : TRole := .unpaired
  pRole : TRole := .unpaired
  pMode : Nat := 0
  pFault : Bool := false
  pCurrent : Bool := false
  pResync : Bool := false
  pId : BitVec 12 := 0
  pEui : BitVec 64 := 0
  partner : Bool := false
  goodHb : Nat := 0
  lastHb : Option Nat := none
  missed : Nat := 0
  epoch : Word := 0
  pEpoch : Word := 0
  linkDly : Nat := 0xFFFFF
  dlyFresh : Bool := true
  hbSeq : Byte := 0
  echo : Byte := 0
  lastCap : Option Nat := none
  sentHb : List (Byte × Nat) := []
  mseq : Word := 0
  ackSeq : Word := 0
  told : Told := {}
  deltas : List MirRec := []
  image : List MirRec := []
  imgOn : Bool := false
  imgEnd : Option Nat := none
  ripTold : List Nat := []
  ripTurn : Nat := 0
  harpTurn : Nat := 0
  resync : Bool := false
  synced : Bool := false
  current : Bool := false
  fresh : Bool := true
  secFc : Word := 0
  secKey : Option Byte := none
  ripSnaps : Tab (Option RipSnap) := []
  harpSnaps : Tab (Option (List Word × List Word)) := []
  ozhSnap : Option OzhNet := none
  swapAt : Option Nat := none
  takeDue : Bool := false
  takeBusy : Bool := false
  takeTime : Word := 0
  takeWheel : Option Word := none
  pfltCnt : Nat := 0
  takeAt : Nat := 0
  takeDur : BitVec 16 := 0
  strStart : BitVec 16 := 0
  mtxStart : Bool := false
deriving DecidableEq, Repr

/-- A frame in the transmit queue: the neighbour it goes to, its type, whether it asks for an acknowledgement, its clear body
(network header first, where the type has one), the counter and key index it was given at its first attempt, attempts made and
allowed, busy cells in a row, the flight its delivery completes, the ORIG and SEQ of a relayed or own DESC that an undelivered
frame is answered to, the ASN since which it is held for a sleepy child, and the start, ASN and channel of the slot of its last attempt. -/
structure TxFrame where
  nbr : BitVec 16
  type : Nat
  ackReq : Bool
  body : List Byte
  fc : Option (Nat × Nat)
  tries : Nat
  limit : Nat
  busy : Nat
  ref : Option Nat
  orig : Option (BitVec 16 × BitVec 16)
  heldAt : Option Nat
  last : Option (Nat × Nat × Nat)
deriving DecidableEq, Repr

/-- A pending switch of key index or block mask (R396): the ASN, and the mask for a block switch. -/
structure Switch where
  asn : Nat
  block : Option (BitVec 40)
deriving DecidableEq, Repr

/-- A frame in the fast queue (R378): its code byte and value, the tick of its MARK, the counter and key index of its first attempt, and
the attempts made. -/
structure FastFrame where
  code : Byte
  value : Byte
  at_ : Nat
  fc : Option (Nat × Nat)
  tries : Nat
deriving DecidableEq, Repr

/-- A join request that a unit has passed on or must answer (R385): the joiner's EUI-64, the counter of its request, and the child it came
from, 0xFFFE for the joiner itself. -/
structure JoinReq where
  eui : BitVec 64
  fc : Nat
  child : BitVec 16
deriving DecidableEq, Repr

/-- The Ozhild radio (chapter 14). `st` is OZH_STAT.STATE; `prevUntil` the ASN until which the previous key index is accepted. A slot's
action is `slotKind` (1 TX, 2 RX, 3 SHARED listening, 4 beacon sent, 5 BEACON_RX, 6 FAST_TX, 7 FAST_RX, 8 own join cell, 9 JOIN_RSP sent,
10 scan, 11 follow-on receive; 0 off) with `slotNbr`, `chofs` and `chan`, its start
`slotAt` and its ASN `slotAsn`. `await` is the neighbour whose ACK is awaited, the tick at which it
should begin, and whether the cell was shared; `follow` the follow-on slot of R386 by ASN, neighbour, CHOFS and whether this unit sends.
`joinCell` and `parentJoin` are the own and the parent's next join cell by ASN and CHOFS. `txLanes` are the fast lanes to send in,
`lanes` those received, `fastSent` the lane in which the head of the fast queue has been sent in this slot. `joinWait` and `rescanAt` are ASNs;
`joinLast` is the last beacon of the
parent sought, by its start and ASN, `joinTx` the request to be sent, by the Wheel value at which it begins, the parent and the CHOFS of its
join cell, `joinChofs` that CHOFS, and `joinFc` the counter of the request sent. `later`, `leaves`, `rspLater` and `rekeyLater` are the
requests, LEAVEs, answer and rekey that wait for a debug halt, or the rekey for a pending switch of the mask, to end. -/
structure Ozh where
  st : Nat := 0
  busy : Bool := false
  asnOfs : Int := 0
  asnHi : BitVec 8 := 0
  nk : Option (BitVec 128) := none
  jk : Option (BitVec 128) := none
  keyIdx : Word := 0
  prevUntil : Option Nat := none
  fc : Nat := 0
  session : Word := 0
  short : BitVec 16 := 0xFFFE
  depth : BitVec 8 := 0
  parent : BitVec 16 := 0xFFFE
  rssi : Int := 0
  driftAcc : Nat := 0
  nbrs : Tab Nbr := []
  nodes : List Node := []
  sessionCtr : Word := 0
  routes : Tab OzRoute := []
  queue : List TxFrame := []
  held : List TxFrame := []
  fastQ : List FastFrame := []
  be : Tab Nat := []
  skip : Tab Nat := []
  block : BitVec 40 := 0
  switch : Option Switch := none
  blockWait : Option (BitVec 40) := none
  meshId : BitVec 16 := 1
  sfLen : Nat := 8
  slotAt : Nat := 0
  slotAsn : Nat := 0
  slotKind : Nat := 0
  slotNbr : BitVec 16 := 0xFFFF
  chofs : Nat := 0
  chan : Nat := 0
  await : Option (BitVec 16 × Nat × Bool) := none
  follow : Option (Nat × BitVec 16 × Nat × Bool) := none
  joinCell : Option (Nat × Nat) := none
  parentJoin : Option (Nat × Nat) := none
  joinRsps : List (JoinReq × List Byte) := []
  joinPend : List JoinReq := []
  txLanes : BitVec 4 := 0
  lanes : BitVec 4 := 0
  fastSent : Option Nat := none
  fails : Nat := 0
  lastEx : Option Nat := none
  joinParent : Option (BitVec 16) := none
  joinDepth : Nat := 0
  joinRssi : Int := 0
  joinBeacons : Nat := 0
  joinLast : Option (Nat × Nat) := none
  joinTx : Option (Nat × BitVec 16 × Nat) := none
  joinChofs : Nat := 0
  joinFc : Option Nat := none
  joinWait : Option Nat := none
  rescanAt : Option Nat := none
  later : List (JoinReq × List Byte) := []
  leaves : List (BitVec 16) := []
  rspLater : Option (List Byte × BitVec 16) := none
  rekeyLater : Bool := false
  crcErr : BitVec 16 := 0
  micFail : BitVec 16 := 0
  replay : BitVec 16 := 0
  noAck : BitVec 16 := 0
  ccaBusy : BitVec 16 := 0
  hopDrop : BitVec 16 := 0
  chAtt : Tab (BitVec 16) := []
  chFail : Tab (BitVec 16) := []
  ref : Nat := 0
  exhTold : Bool := false
  warnTold : Bool := false
deriving DecidableEq, Repr

/-- The Steward's radio context in the retention SRAM (R97): the network state and the OZH_ set-up. -/
structure OzhKept where
  z : Ozh
  force : Tab Word
  written : Tab Word
deriving DecidableEq, Repr

/-- The Rind's calibration parameters (Table RND-7): SHUNT in µΩ, KI, KV and KSTR in ppm, OI in nV, OV in mV, INTERVAL in minutes. -/
structure Cal where
  shunt : Int := 0
  ki : Int := 0
  kv : Int := 0
  oi : Int := 0
  ov : Int := 0
  interval : Nat := 15
  policy : BitVec 2 := 0
  meterId : BitVec 64 := 0
  kstr : Tab Int := []
deriving DecidableEq, Repr

/-- A window's result as the Rind's hardware holds it: what the converters and counters gave, whether LIMP was seen in the window, whether the
locked system clock was ever absent in it (R402, R405), and the Wheel at its end. -/
structure WinResult where
  raw : RindWindow
  limp : Bool := false
  cut : Bool := false
  wheel : Nat := 0
deriving DecidableEq, Repr

/-- A Rind image on its trial (R419): windows that have ended since it took over, those it has completed, the slot that ran before it (none
for the boot ROM), and the results that the hardware holds, oldest first. -/
structure RindTrial where
  ended : Nat := 0
  done : Nat := 0
  prev : Option Nat := none
  held : List WinResult := []
deriving DecidableEq, Repr

/-- The Rind (chapter 15). Energies are in µWh; `rtimeUs` and `onUs` are RTIME and ON_S with their fractions. `cal` holds the parameters in
force and `calNext` those stored for the next window end. `recno` is the next record number, `ring` the record ring by RECNO mod 256, `log`
the event log by event number mod 128, `prev` the bytes that the next record's PREV takes, `startMs` and `startE` RTIME and E_IN at the
start of the record in progress. `cHist` holds C of the last 16 CHECKED windows, newest first; `faultRun` and `faultE` the FAULTED windows
of the running episode and E_SUSP at its start. `nonce` is the sealing nonce with the windows it stays valid for. `pendRec` are signed
records not yet complete in the ledger. `lastLr` is the LR_ID of the last image that ran, `tamper` what RTAMP reads and
`tamperTold` what the event log last said of it. -/
structure Rind where
  on : Bool := false
  sealed : Bool := false
  romOnly : Bool := false
  slot : Nat := 0
  runLr : BitVec 16 := 0
  lastLr : BitVec 16 := 0
  cal : Cal := {}
  calNext : List (Nat × Int) := []
  eIn : Nat := 0
  eSusp : Nat := 0
  eStr : Tab Nat := []
  rtimeUs : Nat := 0
  onUs : Nat := 0
  recno : Nat := 0
  ackno : Option Nat := none
  evtcnt : Nat := 0
  ring : Tab (List Byte) := []
  log : Tab (List Byte) := []
  chain : List Byte := List.replicate 16 0
  prev : List Byte := List.replicate 8 0
  rflags : Byte := 0x40
  startMs : Nat := 0
  startE : Nat := 0
  cHist : List Nat := []
  cls : Nat := 0
  winCnt : Nat := 0
  clockFault : Bool := false
  faultRun : Nat := 0
  faultE : Nat := 0
  closeTag : Option (BitVec 16) := none
  nonce : Option (BitVec 32 × Nat) := none
  sealReq : Bool := false
  trial : Option RindTrial := none
  tamper : Bool := false
  tamperTold : Bool := false
  pendRec : List (Nat × List Byte) := []
  lost : Nat × Nat := (0, 0)
  iStr : Tab Nat := []
deriving DecidableEq, Repr

/-- A request on its way through the mailbox: REQ, the host's TAG, the sixteen ARGS bytes, and the number of its flight. -/
structure Msg where
  req : Nat
  tag : BitVec 16
  args : List Byte
  ref : Nat
deriving DecidableEq, Repr

/-- The bridge's copies of the Rind's read-only fields, all from one window end (R422). -/
structure RindCopy where
  sealed : Bool := false
  tamper : Bool := false
  romOnly : Bool := false
  cls : Nat := 0
  slot : Nat := 0
  winCnt : Nat := 0
  rflags : Byte := 0
  recno : Nat := 0
  ackno : Nat := 0
  evtcnt : Nat := 0
  eIn : Nat := 0
  eSusp : Nat := 0
  onS : Nat := 0
  rtime : Nat := 0
  p : Int := 0
  rawNv : Int := 0
  rawMv : Int := 0
  clk : Int := 0
  rosc : Nat := 196608000
  lr : BitVec 16 := 0
  mbx : Byte := 0
  eStr : Tab Nat := []
  iStr : Tab Nat := []
  cal : Cal := {}
  hash : List Byte := []
deriving DecidableEq, Repr

/-- The mailbox and the bridge to the Rind, on the device's side (R402, R420 to R422). `run` and `mbx` are the running slot and its MBX_IF,
`handed` the slot that an ACTIVATE has handed over, `stage` the stage currents passed to STR_ last, `newest` the newest complete record,
`told` whether the mailbox was open when last judged, `limpSeen` and `clkCut` whether LIMP was 1, and whether the locked system clock was
absent, at any time in the window in progress, and `eInHi` and `rtimeHi` the latched words. -/
structure Bridge where
  on : Bool := false
  clkFault : Bool := false
  mbx : Byte := 0
  run : Nat := 0
  handed : Option Nat := none
  queue : List Msg := []
  refs : Nat := 0
  copy : RindCopy := {}
  recBuf : List Byte := []
  evtBuf : List Byte := []
  stage : Tab Nat := []
  newest : Option Nat := none
  told : Bool := false
  limpSeen : Bool := false
  clkCut : Bool := true
  eInHi : Word := 0
  rtimeHi : Word := 0
deriving DecidableEq, Repr

/-- An image slot (R438, R442): STATE and the header and body bytes it holds, as a sparse table by byte offset. -/
structure Slot where
  orig : Bool := false
  st : Nat := 0
  len : Nat := 0
  bytes : Tab Byte := []
deriving DecidableEq, Repr

/-- An update sequence of one target (R443): open, its erase or a page's programming under way, LENGTH, the 16-byte units written,
whether VERIFY has passed, and whether programming has failed. -/
structure Upd where
  open_ : Bool := false
  erasing : Bool := false
  programming : Bool := false
  length : Nat := 0
  got : Tab Bool := []
  count : Nat := 0
  valid : Bool := false
  bad : Bool := false
deriving DecidableEq, Repr

/-- Faults, the watchdog, the debug halt, images and versions (chapter 16). `wdogAt` are the times of the last two expiries, newest
first, `haltAt` the tick at which the debug halt, or the last sleep, began, `trialAt` the tick from which the trial counts, `refuse` that no Steward image
runs. -/
structure Flt where
  local_ : BitVec 5 := 0
  last : Byte := 0
  cfgOff : BitVec 16 := 0
  cfgSrc : BitVec 16 := 0
  cfgCnt : BitVec 16 := 0
  wdogCnt : Byte := 0
  wdogAt : List Nat := []
  dbgHalt : Bool := false
  haltAt : Nat := 0
  slots : Tab Slot := []
  upd : Tab Upd := []
  verState : Nat := 0
  fellBack : Bool := false
  mismatch : Bool := false
  reverted : Bool := false
  trial : Bool := false
  trialAt : Nat := 0
  running : Nat := 0
  active : Nat := 0
  reason : Nat := 0
  refuse : Bool := false
deriving DecidableEq, Repr

/-- The device outside the Rind, what it has put out (`out`, newest first), and the counter of free values drawn (`free`; the
model's own field). `ozhKept` is the radio's network state in the retention SRAM (R97). -/
structure Dev where
  out : List Out := []
  free : Nat := 0
  clk : Clk := {}
  pwr : Pwr := {}
  regs : Regs := {}
  tempo : Tempo := {}
  ring : Ring := {}
  chan : Tab Chan := []
  str : Tab Str := []
  mtx : Mtx := {}
  clr : Clr := {}
  rip : Tab Rip := []
  cult : Tab Word := []
  harp : Tab Harp := []
  pins : Pins := {}
  car : Tab Car := []
  trips : Trips := {}
  seq : Tab Seq := []
  ntcConv : Bool := false
  hoop : Hoop := {}
  twin : Twin := {}
  ozh : Ozh := {}
  ozhKept : Option OzhKept := none
  flt : Flt := {}
  br : Bridge := {}
deriving DecidableEq, Repr

/-- The whole machine: the queue of waiting commands, first in, first out, the device, and the sealed Rind, which no reset
of the device touches (R94, R402). -/
structure State where
  pending : List Instr
  dev : Dev
  rind : Rind
deriving DecidableEq, Repr

/-- The machine as a power-on reset holds it: every register at its reset value, no clock, no rail in lockout, the Rind without its supply,
nothing waiting. Each target's first image slot holds the delivered image and is VALID, the second is EMPTY (log entry 2). -/
def State.reset : State :=
  { pending := []
    dev := { flt := { slots := [(0, { orig := true, st := 1 }), (2, { orig := true, st := 1 })] } }
    rind := {} }

end Sys2Proof.Machine
end

