-- ==== Sys2Proof/Machine/Regs.lean ====
section
/-! DEFINITION. The store of set-up registers: values in force, last values written, shadow copies, and how each takes effect at
its grid, COMMIT or PRESS (R10, R11, R17, R18). -/

namespace Sys2Proof.Machine

/-- The word made of the reset values of a register's fields. -/
def resetWord : List Fld → Word
  | [] => 0
  | f :: fs => setField (resetWord fs) f.hi f.lo f.reset

/-- The reset value of the register at a BAR0 offset. The phase of string n resets to 512 n (Table STR-4), the pin base of Harp n
to 8 (n mod 4) (R280), and the radio's EUI-64 to the device's own (R401). -/
def regReset (off : Nat) : Word :=
  if 0x2100 ≤ off && off < 0x2300 && off % 32 = 8 then BitVec.ofNat 32 (512 * ((off - 0x2100) / 32))
  else if 0x5100 ≤ off && off < 0x5300 && off % 64 = 0 then
    setField (resetWord (regFields off)) 12 8 (8 * ((off - 0x5100) / 64 % 4))
  else if off = 0x8028 then Config.eui.setWidth 32
  else if off = 0x802C then (Config.eui >>> 32).setWidth 32
  else resetWord (regFields off)

/-- The word in force at an offset. -/
def Dev.force (s : Dev) (off : Nat) : Word := tabGet (regReset off) s.regs.force off

/-- The word last written at an offset, the shadow copy for staged fields. -/
def Dev.written (s : Dev) (off : Nat) : Word := tabGet (regReset off) s.regs.written off

/-- The word last written before the present tick (R11, R18). -/
def Dev.writtenBefore (s : Dev) (off : Nat) : Word :=
  if s.regs.stTick = s.clk.now then (tabGet none s.regs.before off).getD (s.written off) else s.written off

/-- A field in force, as a number. -/
def Dev.rf (s : Dev) (off hi lo : Nat) : Nat := fieldOf (s.force off) hi lo

/-- A one-bit field in force. -/
def Dev.rb (s : Dev) (off i : Nat) : Bool := (s.force off).toNat.testBit i

/-- The state with another register file. -/
def Dev.setRegs (s : Dev) (r : Regs) : Dev := { s with regs := r }

/-- The word in force at an offset replaced. -/
def Dev.setForce (s : Dev) (off : Nat) (w : Word) : Dev :=
  s.setRegs { s.regs with force := tabSet (regReset off) s.regs.force off w }

/-- A field in force replaced. -/
def Dev.setForceField (s : Dev) (off hi lo v : Nat) : Dev := s.setForce off (setField (s.force off) hi lo v)

/-- The register file that remembers, for the first write of a tick to a register, the word it held before. -/
def Dev.remember (s : Dev) (off : Nat) : Regs :=
  let r := if s.regs.stTick = s.clk.now then s.regs else { s.regs with before := [], stTick := s.clk.now }
  if (tabGet none r.before off).isSome then r
  else { r with before := tabSet none r.before off (some (s.written off)) }

/-- The last value written to a field replaced. -/
def Dev.setWrittenField (s : Dev) (off hi lo v : Nat) : Dev :=
  let r := s.remember off
  s.setRegs { r with written := tabSet (regReset off) r.written off (setField (s.written off) hi lo v) }

/-- A field that takes its value at once: the value in force and the value last written (RW-idle). -/
def Dev.setBothField (s : Dev) (off hi lo v : Nat) : Dev :=
  let r := s.regs
  s.setRegs { r with
    force := tabSet (regReset off) r.force off (setField (s.force off) hi lo v),
    written := tabSet (regReset off) r.written off (setField (s.written off) hi lo v) }

/-- A whole register that takes its value at once. -/
def Dev.setBoth (s : Dev) (off : Nat) (w : Word) : Dev :=
  s.setRegs { s.regs with
    force := tabSet (regReset off) s.regs.force off w, written := tabSet (regReset off) s.regs.written off w }

/-- A register with a live write that waits for its grid. -/
def Dev.markLive (s : Dev) (off : Nat) : Dev := s.setRegs { s.regs with live := tabSet false s.regs.live off true }

/-- A register with a staged write that waits for a COMMIT or PRESS. -/
def Dev.markStaged (s : Dev) (off : Nat) : Dev := s.setRegs { s.regs with staged := tabSet false s.regs.staged off true }

/-- The sticky bits of a register that have been set on this tick (R19). -/
def Dev.setNow (s : Dev) (off : Nat) : Word := if s.regs.setTick = s.clk.now then tabGet 0 s.regs.setNow off else 0

/-- The bits `m` of a register noted as set on this tick. -/
def Dev.noteSet (s : Dev) (off : Nat) (m : Word) : Dev :=
  s.setRegs { s.regs with
    setNow := tabSet 0 (if s.regs.setTick = s.clk.now then s.regs.setNow else []) off (s.setNow off ||| m), setTick := s.clk.now }

/-- Sticky bit `i` of a W1C register set. -/
def Dev.setFlag (s : Dev) (off i : Nat) : Dev :=
  (s.setForce off (s.force off ||| BitVec.ofNat 32 (2 ^ i))).noteSet off (BitVec.ofNat 32 (2 ^ i))

/-- Bits of a W1C register cleared. -/
def Dev.clearFlags (s : Dev) (off : Nat) (m : Word) : Dev := s.setForce off (s.force off &&& ~~~ m)

/-- One accepted field value goes where its access class puts it (R10). -/
def Dev.storeField (s : Dev) (off : Nat) (f : Fld) (v : Nat) : Dev :=
  match f.acc with
  | .live _ => (s.setWrittenField off f.hi f.lo v).markLive off
  | .staged _ => (s.setWrittenField off f.hi f.lo v).markStaged off
  | .idle _ => s.setBothField off f.hi f.lo v
  | _ => s

/-- The word with the fields for which `p` holds taken from another word. -/
def takeFields (p : Fld → Bool) (src dst : Word) : List Fld → Word
  | [] => dst
  | f :: fs =>
    if p f then setField (takeFields p src dst fs) f.hi f.lo (fieldOf src f.hi f.lo) else takeFields p src dst fs

/-- Whether a field is live on a grid that `p` selects. -/
def Fld.liveOn (p : LiveGrid → Bool) (f : Fld) : Bool :=
  match f.acc with
  | .live g => p g
  | _ => false

/-- Whether a field is staged. -/
def Fld.isStaged (f : Fld) : Bool :=
  match f.acc with
  | .staged _ => true
  | _ => false

/-- Whether a field is live. -/
def Fld.isLive (f : Fld) : Bool :=
  match f.acc with
  | .live _ => true
  | _ => false

/-- Whether every field for which `p` holds is the same in two words. -/
def sameFields (p : Fld → Bool) (a b : Word) (fs : List Fld) : Bool :=
  fs.all (fun f => !p f || fieldOf a f.hi f.lo = fieldOf b f.hi f.lo)

/-- The live fields of one register whose grid `p` selects take effect (R11, R17). -/
def Dev.applyReg (p : LiveGrid → Bool) (s : Dev) (off : Nat) : Dev :=
  let fs := regFields off
  let w := takeFields (Fld.liveOn p) (s.writtenBefore off) (s.force off) fs
  let s := s.setForce off w
  if sameFields Fld.isLive w (s.written off) fs then
    s.setRegs { s.regs with live := tabSet false s.regs.live off false }
  else s

/-- The live writes whose boundary this is take effect: `p` selects the grid by offset (R11). -/
def Dev.applyLive (s : Dev) (p : Nat → LiveGrid → Bool) : Dev :=
  (s.regs.live.map (·.1)).foldl (fun s off => s.applyReg (p off) off) s

/-- What waited for its boundary at an offset before the COMMIT or PRESS of this tick; none where none fell on this tick. -/
def Dev.commitBefore (s : Dev) (off : Nat) : Option (Option Word) :=
  if s.regs.cmTick = s.clk.now then tabGet none s.regs.cmOld off else none

/-- The register file that remembers, for the first commit of a tick of a register, what waited for its boundary before. -/
def Dev.rememberCommit (s : Dev) (off : Nat) : Regs :=
  let r := if s.regs.cmTick = s.clk.now then s.regs else { s.regs with cmOld := [], cmTick := s.clk.now }
  if (tabGet none r.cmOld off).isSome then r
  else { r with cmOld := tabSet none r.cmOld off (some (tabGet none r.commit off)) }

/-- The staged fields of one register go from the shadow copy, as it stood before this tick's writes, to the committed
value (R18). -/
def Dev.commitReg (s : Dev) (off : Nat) : Dev :=
  let w := s.writtenBefore off
  let r := s.rememberCommit off
  let r := { r with commit := tabSet none r.commit off (some w) }
  s.setRegs (if sameFields Fld.isStaged w (s.written off) (regFields off) then
    { r with staged := tabSet false r.staged off false } else r)

/-- A COMMIT of the registers for which `p` holds (R18). -/
def Dev.commitWhere (s : Dev) (p : Nat → Bool) : Dev :=
  ((s.regs.staged.map (·.1)).filter p).foldl (fun s off => s.commitReg off) s

/-- The staged fields of a register take the values of a committed word. -/
def Dev.forceStaged (s : Dev) (off : Nat) (w : Word) : Dev :=
  s.setForce off (takeFields Fld.isStaged w (s.force off) (regFields off))

/-- One register's committed value takes effect. -/
def Dev.applyCommitReg (s : Dev) (off : Nat) : Dev :=
  match tabGet none s.regs.commit off with
  | none => s
  | some w => (s.forceStaged off w).setRegs { (s.forceStaged off w).regs with commit := tabSet none s.regs.commit off none }

/-- One register's committed value takes effect at its block's boundary; a value committed on the boundary's own tick waits for the next
boundary, and what waited before it takes effect (R11, R468). -/
def Dev.applyDueReg (s : Dev) (off : Nat) : Dev :=
  match s.commitBefore off with
  | none => s.applyCommitReg off
  | some none => s
  | some (some w) => (s.forceStaged off w).setRegs { (s.forceStaged off w).regs with cmOld := tabSet none s.regs.cmOld off (some none) }

/-- The committed values of the registers for which `p` holds take effect at once. -/
def Dev.applyCommit (s : Dev) (p : Nat → Bool) : Dev :=
  ((s.regs.commit.map (·.1)).filter p).foldl (fun s off => s.applyCommitReg off) s

/-- The committed values of the registers for which `p` holds take effect at their block's boundary. -/
def Dev.applyDue (s : Dev) (p : Nat → Bool) : Dev :=
  ((s.regs.commit.map (·.1)).filter p).foldl (fun s off => s.applyDueReg off) s

/-- The part of a table whose keys satisfy `p`. -/
def tabKeep {α : Type} (p : Nat → Bool) (m : Tab α) : Tab α := m.filter (fun e => p e.1)

/-- Every register outside `p` back at its reset value, with no write waiting. -/
def Dev.resetRegs (s : Dev) (p : Nat → Bool) : Dev :=
  let r := s.regs
  s.setRegs { r with
    force := tabKeep p r.force, written := tabKeep p r.written, commit := tabKeep p r.commit,
    before := tabKeep p r.before, cmOld := tabKeep p r.cmOld, setNow := tabKeep p r.setNow, live := tabKeep p r.live, staged := tabKeep p r.staged }

/-- The entries of `a` that satisfy `p` laid over `b`. -/
def tabOver {α : Type} [DecidableEq α] (d : Nat → α) (p : Nat → Bool) (a b : Tab α) : Tab α :=
  (a.filter (fun e => p e.1)).foldl (fun m e => tabSet (d e.1) m e.1 e.2) b

end Sys2Proof.Machine
end

