-- ==== Sys2Proof/Machine/Ops.lean ====
section
/-! DEFINITION. The named operations every chapter uses: units by number, time and grids (R26, R27), what the device puts out, free
values, and HOLD causes and powered domains as conditions. The ZD96 raises no exception of a processor's kind: an interrupt, a
sticky flag or an event is an effect on the state. -/

namespace Sys2Proof.Machine

/-! ### Numbered units -/

def Dev.strOf (s : Dev) (n : Nat) : Str := tabGet {} s.str n
def Dev.setStr (s : Dev) (n : Nat) (x : Str) : Dev := { s with str := tabSet {} s.str n x }
def Dev.chanOf (s : Dev) (c : Nat) : Chan := tabGet {} s.chan c
def Dev.setChan (s : Dev) (c : Nat) (x : Chan) : Dev := { s with chan := tabSet {} s.chan c x }
def Dev.posOf (s : Dev) (p : Nat) : Pos := tabGet {} s.mtx.pos p
def Dev.setPos (s : Dev) (p : Nat) (x : Pos) : Dev := { s with mtx := { s.mtx with pos := tabSet {} s.mtx.pos p x } }
def Dev.clsOf (s : Dev) (k : Nat) : Cls := tabGet {} s.clr.cls k
def Dev.setCls (s : Dev) (k : Nat) (x : Cls) : Dev := { s with clr := { s.clr with cls := tabSet {} s.clr.cls k x } }
def Dev.ripOf (s : Dev) (n : Nat) : Rip := tabGet {} s.rip n
def Dev.setRip (s : Dev) (n : Nat) (x : Rip) : Dev := { s with rip := tabSet {} s.rip n x }
def Dev.harpOf (s : Dev) (n : Nat) : Harp := tabGet {} s.harp n
def Dev.setHarp (s : Dev) (n : Nat) (x : Harp) : Dev := { s with harp := tabSet {} s.harp n x }
def Dev.carOf (s : Dev) (n : Nat) : Car := tabGet {} s.car n
def Dev.setCar (s : Dev) (n : Nat) (x : Car) : Dev := { s with car := tabSet {} s.car n x }
def Dev.seqOf (s : Dev) (q : Nat) : Seq := tabGet {} s.seq q
def Dev.setSeq (s : Dev) (q : Nat) (x : Seq) : Dev := { s with seq := tabSet {} s.seq q x }
def Dev.curdOf (s : Dev) (n : Nat) : Curd := tabGet {} s.ring.curd n
def Dev.setCurd (s : Dev) (n : Nat) (x : Curd) : Dev := { s with ring := { s.ring with curd := tabSet {} s.ring.curd n x } }
def Dev.wheyOf (s : Dev) (m : Nat) : Whey := tabGet {} s.ring.whey m
def Dev.setWhey (s : Dev) (m : Nat) (x : Whey) : Dev := { s with ring := { s.ring with whey := tabSet {} s.ring.whey m x } }
def Dev.msixOf (s : Dev) (v : Nat) : Msix := tabGet {} s.ring.msix v
def Dev.setMsix (s : Dev) (v : Nat) (x : Msix) : Dev := { s with ring := { s.ring with msix := tabSet {} s.ring.msix v x } }
def Dev.portOf (s : Dev) (k : Nat) : HPort := tabGet {} s.hoop.ports k
def Dev.setPort (s : Dev) (k : Nat) (x : HPort) : Dev := { s with hoop := { s.hoop with ports := tabSet {} s.hoop.ports k x } }
def Dev.slotOf (s : Dev) (k : Nat) : Slot := tabGet {} s.flt.slots k
def Dev.setSlot (s : Dev) (k : Nat) (x : Slot) : Dev := { s with flt := { s.flt with slots := tabSet {} s.flt.slots k x } }
def Dev.updOf (s : Dev) (k : Nat) : Upd := tabGet {} s.flt.upd k
def Dev.setUpd (s : Dev) (k : Nat) (x : Upd) : Dev := { s with flt := { s.flt with upd := tabSet {} s.flt.upd k x } }

/-- Culture word `a` (R244). -/
def Dev.cultWord (s : Dev) (a : Nat) : Word := tabGet 0 s.cult a

/-- Culture word `a` written (R156). -/
def Dev.setCult (s : Dev) (a : Nat) (w : Word) : Dev := { s with cult := tabSet 0 s.cult a w }

def Dev.modStr (s : Dev) (n : Nat) (f : Str → Str) : Dev := s.setStr n (f (s.strOf n))
def Dev.modChan (s : Dev) (c : Nat) (f : Chan → Chan) : Dev := s.setChan c (f (s.chanOf c))
def Dev.modPos (s : Dev) (p : Nat) (f : Pos → Pos) : Dev := s.setPos p (f (s.posOf p))
def Dev.modCls (s : Dev) (k : Nat) (f : Cls → Cls) : Dev := s.setCls k (f (s.clsOf k))
def Dev.modRip (s : Dev) (n : Nat) (f : Rip → Rip) : Dev := s.setRip n (f (s.ripOf n))
def Dev.modHarp (s : Dev) (n : Nat) (f : Harp → Harp) : Dev := s.setHarp n (f (s.harpOf n))
def Dev.modCar (s : Dev) (n : Nat) (f : Car → Car) : Dev := s.setCar n (f (s.carOf n))
def Dev.modSeq (s : Dev) (q : Nat) (f : Seq → Seq) : Dev := s.setSeq q (f (s.seqOf q))
def Dev.modCurd (s : Dev) (n : Nat) (f : Curd → Curd) : Dev := s.setCurd n (f (s.curdOf n))
def Dev.modWhey (s : Dev) (m : Nat) (f : Whey → Whey) : Dev := s.setWhey m (f (s.wheyOf m))
def Dev.modPort (s : Dev) (k : Nat) (f : HPort → HPort) : Dev := s.setPort k (f (s.portOf k))
def Dev.modClk (s : Dev) (f : Clk → Clk) : Dev := { s with clk := f s.clk }
def Dev.modPwr (s : Dev) (f : Pwr → Pwr) : Dev := { s with pwr := f s.pwr }
def Dev.modRing (s : Dev) (f : Ring → Ring) : Dev := { s with ring := f s.ring }
def Dev.modHoop (s : Dev) (f : Hoop → Hoop) : Dev := { s with hoop := f s.hoop }
def Dev.modTwin (s : Dev) (f : Twin → Twin) : Dev := { s with twin := f s.twin }
def Dev.modOzh (s : Dev) (f : Ozh → Ozh) : Dev := { s with ozh := f s.ozh }
def Dev.modFlt (s : Dev) (f : Flt → Flt) : Dev := { s with flt := f s.flt }
def Dev.modMtx (s : Dev) (f : Mtx → Mtx) : Dev := { s with mtx := f s.mtx }
def Dev.modTempo (s : Dev) (f : Tempo → Tempo) : Dev := { s with tempo := f s.tempo }

/-- One step for each number of a list, in its order. -/
def forEach {σ : Type} (xs : List Nat) (f : σ → Nat → σ) (s : σ) : σ := xs.foldl f s

/-! ### What the device puts out, and free values -/

/-- Something put out, the newest first. -/
def Dev.emit (s : Dev) (o : Out) : Dev := { s with out := o :: s.out }

/-- A free value drawn: the value, and the state that will draw another one next. -/
def Dev.draw (s : Dev) : BitVec 64 × Dev := (Config.free s.free, { s with free := s.free + 1 })

/-! ### Flights -/

/-- The tag and time-out of what waits for another unit's completion: a route-remote descriptor, or a SWAP passed to the partner (R119, R356). -/
def Await.remoteTag : Await → Option (BitVec 16 × Nat)
  | .remote tag due => some (tag, due)
  | .swapAsk tag due => some (tag, due)
  | _ => none

/-! ### Time -/

/-- The Wheel as a number (R25). -/
def Dev.wheelN (s : Dev) : Nat := s.clk.wheel.toNat

/-- The short wheel (R26). -/
def Dev.short (s : Dev) : Short := s.clk.wheel.setWidth 48

/-- The Wheel time nearest `w` whose low 48 bits are `x`, the earlier of two equally near (R26). -/
def resolve (w : Nat) (x : Short) : Int :=
  let d : Nat := (x.toNat + 2 ^ 48 - w % 2 ^ 48) % 2 ^ 48
  if d < 2 ^ 47 then (w : Int) + d else (w : Int) + d - 2 ^ 48

/-- How many boundaries of the grid with period `p` and phase `ph` lie in 0 to `w`. -/
def gridCount (p ph w : Nat) : Nat := (w + p - ph % p) / p

/-- Whether the grid with period `p` and phase `ph` has a boundary on this tick (R27): the Wheel, counting forward, arrives at or
passes one; a held Wheel brings none, and a backward jump brings one only where it lands on one. -/
def Dev.gridNow (s : Dev) (p ph : Nat) : Bool :=
  if s.clk.wheel.toNat < s.clk.prev.toNat then s.wheelN % p = ph % p
  else gridCount p ph s.clk.prev.toNat < gridCount p ph s.wheelN

/-- The first boundary of the grid after Wheel value `w`. -/
def nextBoundary (p ph w : Nat) : Nat := gridCount p ph w * p + ph % p

/-- Whether a grid has already been served on this tick. -/
def Dev.isServed (s : Dev) (g : Grid) : Bool := s.clk.served.contains g

/-- A grid marked served on this tick. -/
def Dev.serve (s : Dev) (g : Grid) : Dev := s.modClk (fun c => { c with served := g :: c.served })

/-- Whether a press falls on this tick and has not been served (R11, Table SCP-4). -/
def Dev.pressDue (s : Dev) : Bool := s.clk.running && s.gridNow 4096 0 && !s.isServed .press

/-- The press index, Wheel / 4,096. -/
def Dev.pressIndex (s : Dev) : Nat := s.wheelN / 4096

/-! ### Modes and domains as conditions -/

/-- Bits of HOLD_CAUSE (Table MOD-9, counted from bit 4 of PWR_STAT). -/
def causeHost : Nat := 0
def causeThermal : Nat := 1
def causeLimp : Nat := 2
def causeRefuse : Nat := 3
def causeFault : Nat := 4

/-- Whether a HOLD cause is present (R92). -/
def Dev.hasCause (s : Dev) (i : Nat) : Bool := s.pwr.cause.toNat.testBit i

/-- Whether the device is in HOLD. -/
def Dev.inHold (s : Dev) : Bool := s.pwr.mode = .hold

/-- Whether IO3 and CORE are powered and out of reset, so that set-up blocks answer (R20, Table BAL-3). -/
def Dev.coreOn (s : Dev) : Bool :=
  s.pwr.wake = .idle && s.pwr.mode ≠ .vault && (s.pwr.mode ≠ .doze || s.pwr.dozeEvent)

/-- Whether Harps, Ripeners, the Tempo unit and the cue store run (Table MOD-1). -/
def Dev.enginesOn (s : Dev) : Bool :=
  s.coreOn && (s.pwr.mode = .ready || s.pwr.mode = .run || s.pwr.mode = .shadow || s.pwr.mode = .hold)

/-- Whether the Hoop runs (R333): READY, RUN, SHADOW, and HOLD without LIMP. -/
def Dev.hoopOn (s : Dev) : Bool := s.enginesOn && !(s.inHold && s.hasCause causeLimp)

/-- Whether light outputs are held off by a HOLD cause (Table MOD-5). -/
def Dev.holdDark (s : Dev) : Bool := s.inHold && (s.hasCause causeThermal || s.hasCause causeRefuse)

/-- FLT_DEV bits cleared, and with the last of them HOLD cause FAULT (R431, R445). -/
def Dev.clearFltDev (s : Dev) (m : Word) : Dev :=
  let s := s.clearFlags 0xA008 m
  if s.rf 0xA008 1 0 = 0 then s.modPwr (fun p => { p with cause := p.cause &&& ~~~ BitVec.ofNat 5 (2 ^ causeFault) }) else s

/-- Whether the strings and the matrix may drive: RUN outside an entry to sleep, or HOLD with safe levels (R82, Table MOD-1, Table
MOD-5), which a unit whose role is SHADOW does not put on lamps that its partner drives (DESIGN CHOICE, log entry 63). -/
def Dev.lightsOn (s : Dev) : Bool :=
  s.coreOn && ((s.pwr.mode = .run && s.pwr.sleepTo.isNone) || (s.inHold && !s.holdDark && s.twin.role ≠ .shadow))

/-- The code of a mode (Table MOD-1). -/
def Mode.code : Mode → Nat
  | .vault => 0
  | .doze => 1
  | .ready => 2
  | .run => 3
  | .shadow => 4
  | .hold => 5

/-- The mode with a code (Table MOD-1). -/
def modeOfCode : Nat → Option Mode
  | 0 => some .vault
  | 1 => some .doze
  | 2 => some .ready
  | 3 => some .run
  | 4 => some .shadow
  | 5 => some .hold
  | _ => none

/-- The status codes of Table DSC-5. -/
def Status.code : Status → Nat
  | .ok => 0
  | .late => 1
  | .state => 2
  | .opcode => 3
  | .target => 4
  | .unreachable => 5
  | .timeout => 6
  | .faulted => 7
  | .locked => 8
  | .version => 9
  | .security => 10
  | .full => 11
  | .param => 12

/-- The codes of a ring's STATE (Tables RING-7, RING-8). -/
def RState.code : RState → Nat
  | .stopped => 0
  | .running => 1
  | .stalled => 2
  | .halted => 3

/-! ### The Hoop's queues (R325, R326) -/

/-- Whether this unit is the root (R310). -/
def Dev.isRoot (s : Dev) : Bool := s.rb 0x7000 1

/-- This unit's ID: 0x000 on the root, else HOOP_ID (R310, Table HOOP-8). -/
def Dev.hoopId (s : Dev) : BitVec 12 := if s.isRoot then 0 else BitVec.ofNat 12 (s.rf 0x7008 11 0)

/-- Whether this unit has no ID of its own (R330). -/
def Dev.unaddressed (s : Dev) : Bool := !s.isRoot && (s.hoopId = 0 || s.hoopId = 0xFFF)

/-- BR_MODE in force (Table HOOP-9): 0 OFF, 1 BRANCH, 2 TWIN. -/
def Dev.brMode (s : Dev) : Nat := s.rf 0x7000 3 2

/-- Whether port `k` (0 UP, 1 DN, 2 BR) is a fabric port of this unit (R310). -/
def Dev.isFabricPort (s : Dev) (k : Nat) : Bool :=
  (k = 0 && !s.isRoot) || (k = 1 && s.rb 0x7000 4) || (k = 2 && s.brMode = 1)

/-- Whether port `k` is a fabric port in state UP. -/
def Dev.portUp (s : Dev) (k : Nat) : Bool := s.isFabricPort k && (s.portOf k).link = 2

/-- A packet discarded at a port, counted in its DROP (R325, R326). -/
def Dev.dropPacket (s : Dev) (k : Nat) : Dev :=
  (s.modPort k (fun q => { q with drop := satInc q.drop })).setFlag 0x7010 5

/-- A packet with its CRC-32 (Table HOOP-6). -/
def mkPacket (type dmode : Nat) (dest src : BitVec 12) (tag : BitVec 16) (payload : List Byte) : Packet :=
  let body := [BitVec.ofNat 8 type, BitVec.ofNat 8 dmode] ++ leBytes dest.toNat 2 ++ leBytes src.toNat 2 ++
    leBytes tag.toNat 2 ++ payload
  ⟨BitVec.ofNat 8 type, BitVec.ofNat 8 dmode, dest, src, tag, payload, crc32 body⟩

/-- The first matching entry of the routing table: its PORT, 3 for DROP (R327). -/
def Dev.routeEntry (s : Dev) (dest : BitVec 12) : Option Nat :=
  ((upTo 256).find? (fun i =>
    let o := 0x7400 + 4 * i
    s.rb o 28 && decide (s.rf o 11 0 ≤ dest.toNat) && decide (dest.toNat ≤ s.rf o 23 12))).map
      (fun i => s.rf (0x7400 + 4 * i) 25 24)

/-- The port chosen for a packet with DMODE ID that this unit does not consume (R325). -/
def Dev.choosePort (s : Dev) (dest : BitVec 12) : Option Nat :=
  if dest = 0 && !s.isRoot then some 0
  else match s.routeEntry dest with
    | some k => some k
    | none => if s.isRoot then none else some 0

/-- The port by which a packet for `dest` can leave: chosen, UP, not the arrival port, not DROP (R325). -/
def Dev.deliverPort (s : Dev) (arrival : Option Nat) (dest : BitVec 12) : Option Nat :=
  match s.choosePort dest with
  | some k => if k < 3 && s.portUp k && arrival ≠ some k then some k else none
  | none => none

/-- A packet put in a port's transmit queue of 64, from which it may start 8 ticks later; a full queue discards it and counts it
(R326). -/
def Dev.queuePacket (s : Dev) (k : Nat) (p : Packet) : Dev :=
  if (s.portOf k).txq.length < 64 then s.modPort k (fun q => { q with txq := q.txq ++ [(p, s.clk.now + 8)] }) else s.dropPacket k

/-- Whether packets for an ID are this unit's own: it has that ID, and no other unit has it (R325, R331). -/
def Dev.ownId (s : Dev) (id : BitVec 12) : Bool := id = s.hoopId && !s.unaddressed && !s.hoop.dup

/-- A packet this unit originates, other than a DESC: kept for itself where `dest` is its own ID, else sent toward `dest`; an undeliverable one
is discarded (R325). -/
def Dev.sendPacket (s : Dev) (type : Nat) (dest : BitVec 12) (tag : BitVec 16) (payload : List Byte) : Dev :=
  let src : BitVec 12 := if s.unaddressed then 0xFFF else s.hoopId
  if s.ownId dest then s.modHoop (fun h => { h with own := h.own ++ [mkPacket type 0 dest src tag payload] })
  else match s.deliverPort none dest with
  | some k => s.queuePacket k (mkPacket type 0 dest src tag payload)
  | none => s.dropPacket (((s.choosePort dest).getD 0) % 3)

/-- A packet this unit originates with DMODE BCAST, queued on every fabric port in state UP (R325). -/
def Dev.bcastPacket (s : Dev) (except : Option Nat) (p : Packet) : Dev :=
  forEach [0, 1, 2] (fun s k => if s.portUp k && except ≠ some k then s.queuePacket k p else s) s

/-- A completion or refusal returned to SRC with the DESC's TAG (R325, R326, R328). -/
def Dev.replyCpl (s : Dev) (dest : BitVec 12) (tag : BitVec 16) (payload : List Byte) : Dev :=
  s.sendPacket 0x02 dest tag payload

/-- A packet for the twin partner, with the settings of the mirror section: DMODE PORT, DEST 0 and SRC 0 (R346). -/
def Dev.partnerPacket (s : Dev) (type : Nat) (tag : BitVec 16) (payload : List Byte) : Dev :=
  s.queuePacket 2 (mkPacket type 2 0 0 tag payload)

/-! ### Whey entries as bytes -/

/-- The sixteen bytes of a whey entry (Table DSC-4). -/
def Entry.bytes (e : Entry) : List Byte :=
  [e.kind, e.status] ++ leBytes e.code.toNat 2 ++ leBytes e.at48.toNat 6 ++ leBytes e.detail.toNat 6

/-- The whey entry that sixteen bytes spell (Table DSC-4). -/
def entryOfBytes (bs : List Byte) : Entry :=
  ⟨bs.getD 0 0, bs.getD 1 0, BitVec.ofNat 16 (leAt bs 2 2), BitVec.ofNat 48 (leAt bs 4 6), BitVec.ofNat 48 (leAt bs 10 6)⟩

/-- The descriptor that thirty-two bytes spell (Table DSC-1). -/
def descOfBytes (bs : List Byte) : Desc :=
  ⟨bs.getD 0 0, bs.getD 1 0, BitVec.ofNat 16 (leAt bs 2 2), BitVec.ofNat 16 (leAt bs 4 2), BitVec.ofNat 48 (leAt bs 6 6),
    (bs.drop 12).take 20⟩

end Sys2Proof.Machine

namespace Sys2Proof

open Sys2Proof.Machine

/-- The thirty-two bytes of a descriptor (Table DSC-1). -/
def Desc.bytes (d : Desc) : List Byte :=
  [d.op, d.flags] ++ leBytes d.seq.toNat 2 ++ leBytes d.target.toNat 2 ++ leBytes d.at48.toNat 6 ++
    (d.payload ++ List.replicate 20 0).take 20

/-- Payload byte `i` of a descriptor, numbered 12 to 31 as Table DSC-7 numbers it. -/
def Desc.b (d : Desc) (i : Nat) : Nat := byteAt d.payload (i - 12)

/-- A little-endian payload value of `n` bytes from byte `i`. -/
def Desc.v (d : Desc) (i n : Nat) : Nat := leAt d.payload (i - 12) n

/-- A flag bit of a descriptor (Table DSC-1). -/
def Desc.flag (d : Desc) (i : Nat) : Bool := d.flags.toNat.testBit i

end Sys2Proof
end

