-- ==== Sys2Proof/Machine/Whey.lean ====
section
/-! DEFINITION. Whey rings: the order of writes, consumption, MSI-X and its moderation, waiting entries, lost entries, and the events
that enter them (R121 to R125, R130, R136, R169); and the fault summary that sends event FAULT (R429, R430). -/

namespace Sys2Proof.Machine

/-- The first register of curd ring n and of whey ring m, of which there are four (Table RING-4). -/
def curdOff (n : Nat) : Nat := 0x1100 + 0x20 * n
def wheyOff (m : Nat) : Nat := 0x1200 + 0x20 * (m % 4)

/-- EN in force of a whey ring and of a curd ring. -/
def Dev.wheyEn (s : Dev) (m : Nat) : Bool := s.rb (wheyOff m + 0x18) 0
def Dev.curdEn (s : Dev) (n : Nat) : Bool := s.rb (curdOff n + 0x18) 0

/-- TAIL of a whey ring. -/
def Dev.wheyTail (s : Dev) (m : Nat) : Word := s.force (wheyOff m + 0x1C)

/-- Entries a whey ring can still take: 2^SIZE less those unconsumed (R121). -/
def Dev.wheyFree (s : Dev) (m : Nat) : Nat :=
  2 ^ s.rf (wheyOff m + 0x18) 4 1 - (s.wheyTail m - (s.wheyOf m).head).toNat

/-- Whether the ring engine may issue requests (R107, R135): enabled, powered, Bus Master Enable set, in D0, link up. -/
def Dev.mayIssue (s : Dev) : Bool := s.coreOn && s.rb 0x1008 0 && s.ring.bme && !s.ring.d3 && s.ring.link

/-- Whether an entry can be written to whey ring m now (R121, R125). -/
def Dev.wheyCan (s : Dev) (m : Nat) : Bool :=
  s.mayIssue && s.wheyEn m && (s.wheyOf m).st = .running && decide (0 < s.wheyFree m)

/-- Whether some whey ring is enabled (R130). -/
def Dev.anyWhey (s : Dev) : Bool := (upTo 4).any (fun m => s.wheyEn m && (s.wheyOf m).st ≠ .stopped)

/-- The host address held in a pair of registers. -/
def Dev.addr64 (s : Dev) (off : Nat) : BitVec 64 := (s.force (off + 4)) ++ (s.force off)

/-- The host address of the next entry of a whey ring: base + 16 × (t mod 2^SIZE) (R121). -/
def Dev.wheyAddr (s : Dev) (m : Nat) : BitVec 64 :=
  s.addr64 (wheyOff m) + BitVec.ofNat 64 (16 * ((s.wheyTail m).toNat % 2 ^ s.rf (wheyOff m + 0x18) 4 1))

/-- An MSI-X message: sent, or held pending while its entry or the function is masked, or while no request may be issued (R107, R123). -/
def Dev.sendMsix (s : Dev) (v : Nat) : Dev :=
  let x := s.msixOf v
  if x.mask || s.ring.fmask || !s.mayIssue then s.setMsix v { x with pend := true } else s.emit (.msix v x.addr x.data)

/-- One entry written to whey ring m: the entry, then the tail shadow, then the message when moderation calls for one (R122,
R123). -/
def Dev.putWhey (s : Dev) (m : Nat) (e : Entry) : Dev :=
  let o := wheyOff m
  let t := s.wheyTail m
  let s := (s.emit (.whey m t (s.wheyAddr m) e)).setBoth (o + 0x1C) (t + 1)
  let s := s.emit (.tail m (s.addr64 (o + 0x10)) ((t + 1).setWidth 64))
  let w := s.wheyOf m
  let n := w.since + 1
  let cnt := s.rf (o + 0x18) 15 8
  if cnt ≠ 0 && (decide (cnt ≤ n) || (s.rb (o + 0x18) 22 && e.kind = 1)) then
    (s.setWhey m { w with since := 0, age := 0 }).sendMsix (s.rf (o + 0x18) 7 5)
  else s.setWhey m { w with since := n, age := if w.since = 0 then 0 else w.age }

/-- The whey ring that events go to (R124). -/
def Dev.evtRing (s : Dev) : Nat := s.rf 0x1008 2 1

/-- Where a waiting entry goes. -/
def Dev.waitRing (s : Dev) (w : Waiting) : Nat := if w.evt then s.evtRing else w.m

/-- A cue-store entry freed (R120). -/
def Dev.freeCue (s : Dev) (i : Nat) : Dev := s.modRing (fun r => { r with cues := r.cues.filter (fun c => c.idx ≠ i) })

/-- The EVENTS_LOST entry that is due once the waiting entries are written (R125). -/
def Dev.writeOwed (s : Dev) : Dev :=
  if s.ring.owed && s.wheyCan s.evtRing && !s.ring.wait.any (fun w => w.evt) then
    let e : Entry := ⟨1, 0, 0x0004, s.short, BitVec.ofNat 48 s.ring.lostEvt⟩
    (s.modRing (fun r => { r with owed := false, lostEvt := 0 })).putWhey s.evtRing e
  else s

/-- The waiting entries written as far as their rings have room, in the order in which they arose (R125). -/
def Dev.flushList : List Waiting → Dev → Dev
  | [], s => s
  | w :: ws, s =>
    let m := s.waitRing w
    let s :=
      if s.wheyCan m then
        let s := s.putWhey m w.e
        match w.cue with
        | some i => s.freeCue i
        | none => s
      else s.modRing (fun r => { r with wait := r.wait ++ [w] })
    Dev.flushList ws s

/-- All waiting entries tried, then the owed one (R125). -/
def Dev.flushWhey (s : Dev) : Dev :=
  let ws := s.ring.wait
  (Dev.flushList ws (s.modRing (fun r => { r with wait := [] }))).writeOwed

/-- An event discarded and counted (R125, R130). -/
def Dev.loseEvent (s : Dev) (owed : Bool) : Dev :=
  (s.modRing (fun r => { r with lostEvt := satN 16 (r.lostEvt + 1), owed := r.owed || owed })).setFlag 0x1010 4

/-- An event entry: written at once where nothing that arose earlier waits for its ring, kept in the event buffer of 32, forwarded to unit 0x000
by a unit without an enabled whey ring, or discarded and counted (R124, R125, R130); in D3 an urgent one signals PME (R107). The root, which
is unit 0x000 itself, has nowhere to forward to and discards whatever EVT_FWD holds (DESIGN CHOICE, log entry 62). -/
def Dev.postEvent (s : Dev) (e : Entry) : Dev :=
  if !s.anyWhey then
    if s.rb 0x1008 3 && !s.isRoot then s.sendPacket 0x03 0 0 e.bytes else s.loseEvent false
  else
    let m := s.evtRing
    if s.wheyCan m && !s.ring.wait.any (fun w => s.waitRing w = m) && !s.ring.owed then s.putWhey m e
    else if (s.ring.wait.filter (fun w => w.evt)).length < 32 then
      let s := s.modRing (fun r => { r with wait := r.wait ++ [⟨true, 0, none, e⟩] })
      if s.ring.d3 && s.ring.pmeEn && s.rb (wheyOff m + 0x18) 22 then s.emit .pme else s
    else s.loseEvent true

/-- The device raises an event of Table DSC-8, stamped with the current short wheel (R169). -/
def Dev.event (s : Dev) (code : Nat) (status : Status) (detail : Nat) : Dev :=
  s.postEvent ⟨1, BitVec.ofNat 8 status.code, BitVec.ofNat 16 code, s.short, BitVec.ofNat 48 detail⟩

/-- An event with status OK. -/
def Dev.eventOk (s : Dev) (code detail : Nat) : Dev := s.event code .ok detail

/-- An event stamped with a given Wheel time (R39, R275). -/
def Dev.eventAt (s : Dev) (code : Nat) (t : Int) (detail : Nat) : Dev :=
  s.postEvent ⟨1, 0, BitVec.ofNat 16 code, BitVec.ofInt 48 t, BitVec.ofNat 48 detail⟩

/-- A completion discarded and counted (R125, R136). -/
def Dev.loseCompletion (s : Dev) : Dev := (s.modRing (fun r => { r with lostCpl := satN 16 (r.lostCpl + 1) })).setFlag 0x1010 5

/-- A completion of a curd ring's descriptor for whey ring m: written, or kept in the shared buffer or in its cue-store entry while that ring is
full or disabled, or discarded and counted where the ring has not been enabled since a reset of the endpoint (R118, R125, R136). -/
def Dev.postCompletion (s : Dev) (m : Nat) (cue : Option Nat) (e : Entry) : Dev :=
  let free (s : Dev) : Dev := match cue with
    | some i => s.freeCue i
    | none => s
  if s.ring.shut.toNat.testBit (m % 4) then free s.loseCompletion
  else if s.wheyCan m && !s.ring.wait.any (fun w => s.waitRing w = m) then free (s.putWhey m e)
  else if cue.isNone && decide (64 ≤ (s.ring.wait.filter (fun w => !w.evt && w.cue.isNone)).length) then
    s.loseCompletion
  else
    let s := s.modRing (fun r => { r with wait := r.wait ++ [⟨false, m, cue, e⟩] })
    match cue with
    | some i => s.modRing (fun r => { r with cues := r.cues.map (fun c => if c.idx = i then { c with held := true } else c) })
    | none => s

/-- Whether the shared buffer holds an entry for whey ring m, which stalls the curd rings that complete into it (R125). -/
def Dev.wheyBlocks (s : Dev) (m : Nat) : Bool :=
  s.ring.wait.any (fun w => !w.evt && w.m = m && w.cue.isNone) || !s.wheyEn m || (s.wheyOf m).st ≠ .running

/-! ### The fault summary -/

/-- The FLT_LOCAL bits that the blocks' own flags call for now (Table FLT-1). -/
def Dev.localNow (s : Dev) : BitVec 5 :=
  BitVec.ofNat 5 (
    b2n ((upTo 16).any (fun n => (s.strOf n).faulted)) +
    2 * b2n (s.rb 0x2020 1) +
    4 * b2n (s.rb 0x301C 2) +
    8 * b2n (s.rf 0x3828 28 25 ≠ 0) +
    16 * b2n (s.rf 0x6004 13 8 ≠ 0))

/-- One cause reported: FLT_LAST and event FAULT (R430). -/
def Dev.reportFault (s : Dev) (code : Nat) : Dev :=
  (s.modFlt (fun f => { f with last := BitVec.ofNat 8 code })).eventOk 0x0D01 code

/-- FLT_LOCAL brought up to date: each bit that changes from 0 to 1 writes FLT_LAST and sends event FAULT (R429, R430). -/
def Dev.scanFaults (s : Dev) : Dev :=
  let old := s.flt.local_
  let new := s.localNow
  let s := s.modFlt (fun f => { f with local_ := new })
  forEach (upTo 5) (fun s i => if new.toNat.testBit i && !old.toNat.testBit i then s.reportFault (i + 1) else s) s

/-- Whether FAULT_N is asserted (R432). -/
def Dev.faultN (s : Dev) : Bool :=
  s.pwr.vaultLock ||
    (s.coreOn && s.pwr.mode ≠ .doze &&
      ((s.inHold && (s.pwr.cause.toNat / 2 ≠ 0 || (s.hasCause causeHost && s.rb 0x81C 3))) ||
        (s.flt.local_ &&& BitVec.ofNat 5 (s.rf 0xA00C 4 0)) ≠ 0 || s.rb 0xA010 0))

end Sys2Proof.Machine
end

