-- ==== Sys2Proof/Machine/Radio.lean ====
section
/-! DEFINITION. The Ozhild radio's addresses, routing and transmit queue, which descriptors, completions and commands use
(R161, R366, R387 to R390). -/

namespace Sys2Proof.Machine

/-- Whether Ozhild runs: EN has taken effect and the mode allows it (R399). -/
def Dev.ozhOn (s : Dev) : Bool :=
  s.ozh.busy && s.coreOn &&
    (s.pwr.mode = .ready || s.pwr.mode = .run || s.pwr.mode = .doze || (s.inHold && !s.hasCause causeLimp) ||
      s.pwr.mode = .shadow)

/-- OZH_CTL.ROLE in force: 0 coordinator, 1 router, 2 sleepy. -/
def Dev.ozhRole (s : Dev) : Nat := s.rf 0x8000 2 1

/-- Whether this unit's role is coordinator. -/
def Dev.isCoord (s : Dev) : Bool := s.ozhRole = 0

/-- This unit's short address: 0x0000 on a running coordinator, else the one it was given (R385). -/
def Dev.ozhAddr (s : Dev) : BitVec 16 := if s.isCoord && s.ozh.busy then 0 else s.ozh.short

/-- A sticky bit of OZH_FLAGS set. -/
def Dev.ozhFlag (s : Dev) (i : Nat) : Dev := s.setFlag 0x800C i

/-- The key under which this unit's own frames are secured exists (R391). -/
def Dev.haveKey (s : Dev) : Bool := s.ozh.nk.isSome

/-- Whether the outgoing counter is used up under the present key index (R397). -/
def Dev.fcExhausted (s : Dev) : Bool := decide (2 ^ 32 ≤ s.ozh.fc)

/-- The lowest-indexed valid entry of this unit's own table that covers an address (R387, R388). -/
def Dev.ozhEntry (s : Dev) (a : BitVec 16) : Option OzRoute :=
  (s.ozh.routes.find? (fun e =>
    e.2.valid && (!s.isCoord || e.2.owner = 0) && decide (e.2.lo.toNat ≤ a.toNat) && decide (a.toNat ≤ e.2.hi.toNat))).map (·.2)

/-- Where a frame goes next: to a neighbour, dropped, or nowhere (R388). -/
inductive Hop where
  | to (a : BitVec 16)
  | drop
  | nowhere
deriving DecidableEq, Repr

/-- The next hop toward a final destination (R388). -/
def Dev.nextHop (s : Dev) (final : BitVec 16) : Hop :=
  if final = 0xFFFF then .to 0xFFFF
  else match s.ozhEntry final with
    | some e => if e.drop then .drop else .to e.next
    | none => if s.isCoord then .nowhere else if s.ozh.parent = 0xFFFE then .nowhere else .to s.ozh.parent

/-- The network header (R366). -/
def netHeader (orig final : BitVec 16) (hops : Nat) : List Byte :=
  leBytes orig.toNat 2 ++ leBytes final.toNat 2 ++ leBytes hops 1

/-- Whether an address is a sleepy child of this unit, whose frames are held until it polls (R386). -/
def Dev.isSleepyChild (s : Dev) (a : BitVec 16) : Bool :=
  let n := tabGet {} s.ozh.nbrs a.toNat
  n.known && n.role = 2 && a ≠ s.ozh.parent

/-- A frame put in the transmit queue, or held for a sleepy child; none where there is no room (R161, R386). -/
def Dev.queueFrame (s : Dev) (f : TxFrame) : Option Dev :=
  if s.isSleepyChild f.nbr then
    if s.ozh.held.length < 64 && decide ((s.ozh.held.filter (fun g => g.nbr = f.nbr)).length < 4) then
      some (s.modOzh (fun z => { z with held := z.held ++ [{ f with heldAt := some (s.wheelN / 98304) }] }))
    else none
  else if s.ozh.queue.length < Config.ozhQueueDepth then some (s.modOzh (fun z => { z with queue := z.queue ++ [f] }))
  else none

/-- Attempts a frame may take: 1 + RETRIES of OZH_MAC (R375). -/
def Dev.macLimit (s : Dev) : Nat := 1 + s.rf 0x801C 2 0

/-- A frame that this unit originates, with a network header, sent toward its final destination; what comes of it, and the state.
A unicast frame asks for an acknowledgement (R375). -/
def Dev.originate (s : Dev) (type : Nat) (final : BitVec 16) (payload : List Byte) (ack : Bool) (limit : Nat)
    (ref : Option Nat) (orig : Option (BitVec 16 × BitVec 16)) : Status × Dev :=
  if !s.haveKey || s.fcExhausted then (.security, s)
  else match s.nextHop final with
    | .to a =>
      match s.queueFrame ⟨a, type, ack && final ≠ 0xFFFF, netHeader s.ozhAddr final 8 ++ payload, none, 0, limit, 0, ref,
          orig, none, none⟩ with
      | some t => (.ok, t)
      | none => (.full, s.ozhFlag 5)
    | _ => (.unreachable, s)

/-- A command with a network header sent to a node (Table OZH-4). -/
def Dev.sendCmd (s : Dev) (final : BitVec 16) (payload : List Byte) : Dev :=
  (s.originate 3 final payload true s.macLimit none none).2

/-- A completion returned over the radio to the originating node, as CMD 0x10 (R389, Table OZH-4). -/
def Dev.radioCpl (s : Dev) (orig : BitVec 16) (e : Entry) : Dev := s.sendCmd orig ([0x10] ++ e.bytes)

end Sys2Proof.Machine
end

