-- ==== Sys2Proof/Machine/Complete.lean ====
section
/-! DEFINITION. How a descriptor completes: its whey entry, the path the entry takes back to its origin, and the cue-store entry and
flight it frees (R118 to R120, R129, R146, R147, R159, R170). -/

namespace Sys2Proof.Machine

/-- The completion entry of a descriptor (Table DSC-4). -/
def mkCompletion (d : Desc) (st : Status) (exec : Short) (detail : Nat) : Entry :=
  ⟨0, BitVec.ofNat 8 st.code, d.seq, exec, BitVec.ofNat 48 detail⟩

/-- Whether a completion is written: requested, not OK, or READ (R118, R159). -/
def completionDue (d : Desc) (st : Status) : Bool := d.flag 3 || st ≠ .ok || d.op = 0x0A

/-- A completion entry sent back to where its descriptor came from (R118, R129, R170, R354). -/
def Dev.returnEntry (s : Dev) (og : Origin) (cue : Option Nat) (e : Entry) : Dev :=
  let free (s : Dev) : Dev := match cue with
    | some i => s.freeCue i
    | none => s
  match og with
  | .curd n => s.postCompletion (s.rf (curdOff n + 0x18) 9 8) cue e
  | .mirror n =>
    let m := s.rf (curdOff n + 0x18) 9 8
    if s.wheyEn m && (s.wheyOf m).st ≠ .stopped then s.postCompletion m cue e else free s.loseCompletion
  | .hoop src tag => free (s.replyCpl src tag e.bytes)
  | .partner tag => free (s.partnerPacket 0x02 tag e.bytes)
  | .radio a => free (s.radioCpl a e)
  | .nobody => free s

/-- The cue-store entry of a job freed, if it has one. -/
def Dev.freeJob (s : Dev) (j : Job) : Dev :=
  match j.cue with
  | some i => s.freeCue i
  | none => s

/-- A late cue that executes completes with LATE in place of OK (R37). -/
def Job.status (j : Job) (st : Status) : Status := if j.late && st = .ok then .late else st

/-- A descriptor completes with a status, executed-at and detail (R118, R146). -/
def Dev.complete (s : Dev) (j : Job) (st : Status) (exec : Short) (detail : Nat) : Dev :=
  if completionDue j.d (j.status st) then s.returnEntry j.origin j.cue (mkCompletion j.d (j.status st) exec detail)
  else s.freeJob j

/-- A descriptor completes at the present tick. -/
def Dev.completeNow (s : Dev) (j : Job) (st : Status) (detail : Nat) : Dev := s.complete j st s.short detail

/-- A descriptor that has executed and waits before it completes. -/
def Dev.fly (s : Dev) (j : Job) (a : Await) : Dev :=
  s.modRing (fun r => { r with flights := r.flights ++ [⟨j, s.short, a⟩] })

/-- The flights for which `p` holds taken off. -/
def Dev.dropFlights (s : Dev) (p : Flight → Bool) : Dev :=
  s.modRing (fun r => { r with flights := r.flights.filter (fun f => !p f) })

/-- Every flight for which `p` holds completes with a status and detail; its executed-at is its own. -/
def Dev.landFlights (s : Dev) (p : Flight → Bool) (st : Status) (detail : Nat) : Dev :=
  (s.ring.flights.filter p).foldl (fun s f => s.complete f.job st f.exec detail) (s.dropFlights p)

/-- Every flight for which `p` holds completes, with the present tick as its executed-at. -/
def Dev.landFlightsNow (s : Dev) (p : Flight → Bool) (st : Status) (detail : Nat) : Dev :=
  (s.ring.flights.filter p).foldl (fun s f => s.complete f.job st s.short detail) (s.dropFlights p)

/-- Every cue still waiting in the store completes with status STATE (R31, R82, R92). -/
def Dev.discardCues (s : Dev) : Dev :=
  (s.ring.cues.filter (fun c => !c.out)).foldl
    (fun s c => (s.modRing (fun r => { r with
      cues := r.cues.map (fun e => if e.idx = c.idx then { e with out := true } else e) })).completeNow c.job .state 0) s

/-- The remote flights for which `p` holds complete with the entry that came back (R119, R170, R328, R389). -/
def Dev.landRemote (s : Dev) (p : Flight → Bool) (e : Entry) : Dev :=
  (s.ring.flights.filter p).foldl (fun s f => s.returnEntry f.job.origin f.job.cue e) (s.dropFlights p)

end Sys2Proof.Machine
end

