-- ==== Sys2Proof/Machine/Triggers.lean ====
section
/-! DEFINITION. Triggers of Ripener handlers: which handler a MARK or Tempo event reaches, the latch it occupies, and the overflow count
(R251, R252); and the Tempo events that a culture's WAIT counts (R249). -/

namespace Sys2Proof.Machine

/-- A handler's BIND register (Table RIP, BIND). -/
def bindOff (n h : Nat) : Nat := 0x4120 + 0x40 * n + 8 * h

/-- Whether the handler's latch is occupied. -/
def Rip.latched (r : Rip) (h : Nat) : Bool := (tabGet none r.latch h).isSome

/-- A trigger meets its handler's latch: it occupies an empty one, and is counted at an occupied one (R252). -/
def Dev.latchTrigger (s : Dev) (n h : Nat) (w : Word) : Dev :=
  let r := s.ripOf n
  if r.latched h then
    (s.setRip n { r with trigOvf := satInc r.trigOvf, ovfNew := true }).setFlag 0x4008 28
  else s.setRip n { r with latch := tabSet none r.latch h (some w) }

/-- A hardware trigger reaches the lowest matching handler that is bound and not masked; a faulted Ripener ignores it (R251,
R252). -/
def Dev.hwTrigger (s : Dev) (n : Nat) (hit : Nat → Bool) (w : Word) : Dev :=
  let r := s.ripOf n
  if r.faulted then s
  else match (upTo 4).find? (fun h => s.rb (bindOff n h) 0 && hit h && !r.mask.toNat.testBit h) with
    | some h => s.latchTrigger n h w
    | none => s

/-- A MARK at the Ripeners' trigger inputs (R251). -/
def Dev.markTriggers (s : Dev) (harp code : Nat) (w : Word) : Dev :=
  forEach (upTo 12) (fun s n =>
    s.hwTrigger n (fun h =>
      let o := bindOff n h
      s.rf o 2 1 = 1 && s.rb o (24 + harp) && ((code ^^^ s.rf o 15 8) &&& s.rf o 23 16) = 0) w) s

/-- Whether either pause holds (R256). -/
def Rip.paused (r : Rip) : Bool := r.hostPause || r.dbgPause

/-- Whether a Tempo event (3 BAR, 1 BEAT, 2 subdivision) is one of a WAIT's source (R249); the event of a bar beat counts once. -/
def waitHit (src kind : Nat) : Bool :=
  match src with
  | 1 => kind = 1 || kind = 3
  | 2 => true
  | 3 => kind = 3
  | _ => false

/-- A waiting context with an event counted that came after the WAIT's start; the event that completes the count gives the anchor (R249). -/
def ctxCountEvent (c : Ctx) (src count kind : Nat) (t : Int) : Ctx :=
  if waitHit src kind && decide (c.waitFrom < t) && decide (c.waitCnt < count) then
    { c with waitCnt := c.waitCnt + 1, anchor := if c.waitCnt + 1 = count then some t else c.anchor }
  else c

/-- A context with a Tempo event counted by the WAIT at its PC, if it waits (R249). -/
def Dev.countEvent (s : Dev) (kind : Nat) (t : Int) (c : Ctx) : Ctx :=
  let w := s.cultWord c.pc
  if c.waiting && fieldOf w 31 26 = 0x14 then ctxCountEvent c (fieldOf w 3 0) (fieldOf w 15 8) kind t else c

/-- A Tempo event at the WAIT of a Ripener's context and of its resume frame; while a pause holds, it counts for neither (R249, R253, R255). -/
def Dev.waitEvent (s : Dev) (n kind : Nat) (t : Int) : Dev :=
  s.modRip n (fun r => if r.paused then r else { r with ctx := s.countEvent kind t r.ctx, frame := r.frame.map (s.countEvent kind t) })

/-- A Tempo event at the trigger inputs of a Ripener: `tevt` says which kinds of TEVT it is (R251). -/
def Dev.tempoTrigger (s : Dev) (n : Nat) (tevt : Nat → Bool) (k : Nat) : Dev :=
  s.hwTrigger n (fun h => s.rf (bindOff n h) 2 1 = 2 && tevt (s.rf (bindOff n h) 5 4)) (BitVec.ofNat 32 k)

/-- A Tempo position at the Ripeners: BEAT or SUB, each a subdivision boundary, then BAR, an event of its own (R39, R249, R251). -/
def Dev.tempoTriggers (s : Dev) (k : Nat) (beat bar : Bool) (t : Int) : Dev :=
  forEach (upTo 12) (fun s n =>
    let s := s.waitEvent n (if bar then 3 else if beat then 1 else 2) t
    let s := s.tempoTrigger n (fun e => e = 1 || (e = 0 && beat)) k
    if bar then s.tempoTrigger n (fun e => e = 2) k else s) s

end Sys2Proof.Machine
end

