-- ==== Sys2Proof/Machine/Wheel.lean ====
section
/-! DEFINITION. Chapter 01: the Wheel and its follower (R28 to R34), the word-clock follower (R23, R24), the oscillator calibration (R36)
and the Tempo unit (R39 to R43, R46, R163, R469). -/

namespace Sys2Proof.Machine

/-! ### Corrections of the Wheel -/

/-- A culture context with its times moved by a rebase's jump (R243). -/
def shiftCtx (e : Int) (c : Ctx) : Ctx :=
  { c with anchor := c.anchor.map (· + e), waitFrom := c.waitFrom + e, timed := c.timed.map (fun t => { t with t0 := t.t0 + e, e := t.e + e }) }

/-- Every Ripener's times and anchors moved by a rebase's jump (R243). -/
def Dev.shiftRips (s : Dev) (e : Int) : Dev :=
  forEach (upTo 12) (fun s n =>
    s.modRip n (fun r => { r with
      ctx := shiftCtx e r.ctx, frame := r.frame.map (shiftCtx e), lastStep := ((r.lastStep : Int) + e).toNat })) s

/-- The carrier pairs whose grid is the Wheel's are marked for a transition period (R284). -/
def Dev.jumpPairs (s : Dev) : Dev :=
  forEach (upTo 6) (fun s n => if s.rb (0x6100 + 0x40 * n) 3 then s else s.modCar n (fun c => { c with jumped := c.jumped || (c.busy && c.begun) })) s

/-- The Wheel moved by `e` on this tick. -/
def Dev.moveWheel (s : Dev) (e : Int) : Dev :=
  s.jumpPairs.modClk (fun c => { c with wheel := BitVec.ofInt 64 ((c.wheel.toNat : Int) + e), slew := 0 })

/-- ASN_OFS after a rebase from Wheel `w` to `w'`, so that ASN goes on without a jump (R369). -/
def asnAfter (ofs : Int) (w w' : Nat) : Int := ((w / 98304 : Nat) : Int) + ofs - ((w' / 98304 : Nat) : Int)

/-- A rebase by `e` ticks (R31). -/
def Dev.rebase (s : Dev) (e : Int) : Dev :=
  let w := s.wheelN
  let s := (s.moveWheel e).discardCues
  let s := s.modTempo (fun t => { t with a := t.a + e, preA := t.preA.map (· + e), clkT := t.clkT.map (· + e) })
  let s := (s.shiftRips e).modOzh (fun z => { z with asnOfs := asnAfter z.asnOfs w s.wheelN })
  (s.setFlag 0x42C 1).eventOk 0x0101 (unsignedBits e 48)

/-- The codes of WHL_STAT.ROLE (Table WHL-6). -/
def WRole.code : WRole → Nat
  | .master => 0
  | .hoop => 1
  | .twin => 2
  | .radio => 3

/-- A follower's measured error acted on (R30), with the state transitions it brings (R31, R34). -/
def Dev.correctWheel (s : Dev) (e : Int) : Dev :=
  let was := s.clk.fstate
  let s := s.modClk (fun c => { c with lastErr := clampI (-32767) 32767 e, fstate := .synced, badSyncs := 0 })
  let step := s.rf 0x41C 23 0
  let s :=
    if was = .free || decide ((s.rf 0x420 31 0 : Int) < e.natAbs) then s.rebase e
    else if step ≠ 0 && decide ((step : Int) < e) then (s.moveWheel e).setFlag 0x42C 2
    else s.modClk (fun c => { c with slew := e })
  if was = .holdover then s.eventOk 0x0103 s.clk.role.code else s

/-- The rank of a reference in R28's list. -/
def WRole.rank : WRole → Nat
  | .hoop => 0
  | .twin => 1
  | .radio => 2
  | .master => 3

/-- Whether a reference that delivers valid sync is the unit's reference: it comes first in R28's list, or the present one no longer
delivers (R28, R34). -/
def Dev.prefers (s : Dev) (r : WRole) : Bool :=
  decide (r.rank < s.clk.role.rank) || (r ≠ s.clk.role && s.clk.fstate = .holdover)

/-- Whether a reference of R28's list is present and delivering: Hoop UP is a fabric port in state UP, the partner of a shadow is heard, or
this unit is a joined node that has its Ozhild parent. None is followed on the limp clock (R44). -/
def Dev.delivers (s : Dev) : WRole → Bool
  | .hoop => !s.clk.limp && s.portUp 0
  | .twin => !s.clk.limp && s.twin.role = .shadow && s.twin.partner
  | .radio => !s.clk.limp && s.ozh.st = 3 && s.rf 0x8000 2 1 ≠ 0 && s.ozh.parent ≠ 0xFFFE
  | .master => true

/-- The first reference of R28's list after `r` has stopped delivering; none of them leaves the unit master. -/
def Dev.nextRef (s : Dev) (r : WRole) : WRole :=
  ([WRole.hoop, .twin, .radio].find? (fun q => q ≠ r && s.delivers q)).getD .master

/-- The Tempo unit's grid stops; L and the index of the last beat sent stay (R469). -/
def Tempo.stopped (t : Tempo) : Tempo := { l := t.l, beat := t.beat }

/-- The unit's reference becomes `r` (R28): a master is always SYNCED, a follower starts FREE (Table WHL-4). A unit that stops being master
follows no word clock from this tick on (Table WHL-1), and on one that becomes master a distributed grid stops (R469). -/
def Dev.setRole (s : Dev) (r : WRole) : Dev :=
  let s := s.modClk (fun c => { c with
    role := r, fstate := if r = .master then .synced else .free, slew := 0, badSyncs := 0 })
  if r = .master then (if s.rf 0x440 2 1 = 3 then s.modTempo Tempo.stopped else s)
  else s.modClk (fun c => { c with wordState := .off, wordGood := 0, wordFull := none })

/-- Valid sync with measured error `e` arrives from a reference (R28, R30, R34); none is followed on the limp clock (R44). -/
def Dev.refSync (s : Dev) (r : WRole) (e : Int) : Dev :=
  if s.clk.limp then s
  else
    let s := if s.prefers r then s.setRole r else s
    if s.clk.role = r then s.correctWheel e else s

/-- A reference stops delivering: a SYNCED follower of it enters HOLDOVER, and where a later reference of the list delivers, that one is
the unit's reference from now on and the state is FREE (R28, R34). -/
def Dev.refLost (s : Dev) (r : WRole) : Dev :=
  if s.clk.role = r && s.clk.fstate = .synced then
    let s := ((s.modClk (fun c => { c with fstate := .holdover })).setFlag 0x42C 0).eventOk 0x0102 r.code
    if s.nextRef r = .master then s else s.setRole (s.nextRef r)
  else s

/-- A reference is no longer present at all: the next one of the list that delivers takes its place, and with none the unit becomes
master (R28, R34). -/
def Dev.refGone (s : Dev) (r : WRole) : Dev :=
  if s.clk.role = r then s.setRole (s.nextRef r) else s

/-- The press-grid part of a slew: one tick of the remaining error (R30). -/
def Dev.slewPress (s : Dev) : Dev :=
  if 0 < s.clk.slew then s.modClk (fun c => { c with slew := c.slew - 1, skip := c.skip + 1 })
  else if s.clk.slew < 0 then s.modClk (fun c => { c with slew := c.slew + 1, skip := c.skip - 1 })
  else s

/-! ### The word clock -/

/-- Ticks of one word-clock period: 4,096, 2,048 or 1,024 (R23). -/
def Dev.wordPeriod (s : Dev) : Nat := 4096 / 2 ^ s.rf 0x410 2 1

/-- The signed distance of the Wheel from the nearest boundary of a grid. -/
def phaseError (p w : Nat) : Int := if w % p ≤ p / 2 then ((w % p : Nat) : Int) else ((w % p : Nat) : Int) - p

/-- Whether the follower may run: WORD_EN in force on a master, not on the limp clock (R23, R44). -/
def Dev.wordWanted (s : Dev) : Bool := s.rb 0x410 0 && s.clk.role = .master && !s.clk.limp

/-- Steering after one edge, within ±5,000 hundredths of a ppm (R23). -/
def Dev.steerWord (s : Dev) : Dev :=
  let e := phaseError s.wordPeriod s.wheelN
  let st := clampI (-5000) 5000 (Config.wordLaw s.clk.wordSteer e)
  s.modClk (fun c => { c with
    wordSteer := st,
    wordFull := if st.natAbs = 5000 then some (c.wordFull.getD c.now) else none,
    wordGood := if e.natAbs ≤ 2 then c.wordGood + 1 else 0 })

/-- A word-clock edge on REFIN (R24); only a master follows it (R29). `ppm` is the period's distance from nominal, in ppm. -/
def Dev.wordEdge (s : Dev) (falling : Bool) (ppm : Int) : Dev :=
  if !s.clk.running || falling ≠ s.rb 0x410 3 || s.clk.role ≠ .master then s
  else
    let mark (s : Dev) : Dev := s.modClk (fun c => { c with wordEdge := c.now })
    match s.clk.wordState with
    | .off => s
    | .acquire =>
      let s := mark s.steerWord
      if 256 ≤ s.clk.wordGood then s.modClk (fun c => { c with wordState := .locked, wordFull := none }) else s
    | .locked => mark s.steerWord
    | .holdover =>
      let good := if ppm.natAbs ≤ 50 then s.clk.wordGood + 1 else 0
      mark (if 16 ≤ good then s.modClk (fun c => { c with wordState := .acquire, wordGood := 0, wordFull := none })
        else s.modClk (fun c => { c with wordGood := good }))

/-- WORD_RANGE: 1 s in ACQUIRE at full steering (R24). DESIGN CHOICE (log entry 27): the second is counted anew from each WORD_RANGE, so that
the event comes again after each further second. -/
def Dev.wordRange (s : Dev) : Dev :=
  match s.clk.wordState, s.clk.wordFull with
  | .acquire, some t =>
    if t + 196608000 ≤ s.clk.now then
      ((s.modClk (fun c => { c with wordFull := some c.now })).setFlag 0x42C 4).eventOk 0x0104 0
    else s
  | _, _ => s

/-- WORD_LOST: no edge for 8 expected periods (R24). -/
def Dev.wordLost (s : Dev) : Dev :=
  if (s.clk.wordState = .acquire || s.clk.wordState = .locked) && decide (s.clk.wordEdge + 8 * s.wordPeriod ≤ s.clk.now) then
    ((s.modClk (fun c => { c with wordState := .holdover, wordGood := 0, wordFull := none })).setFlag 0x42C 3).eventOk 0x0105 0
  else s

/-- One press of the follower: it starts from steering 0, or stops and ramps down by 1 ppm (R24). -/
def Dev.wordPress (s : Dev) : Dev :=
  if s.wordWanted then
    if s.clk.wordState = .off then
      s.modClk (fun c => { c with wordState := .acquire, wordSteer := 0, wordGood := 0, wordFull := none, wordEdge := c.now })
    else s
  else s.modClk (fun c => { c with
    wordState := .off, wordGood := 0, wordFull := none,
    wordSteer := if c.wordSteer.natAbs ≤ 100 then 0 else if 0 < c.wordSteer then c.wordSteer - 100 else c.wordSteer + 100 })

/-- WORD_BUSY: the steering is not at rest (Table WHL-8). -/
def Dev.wordBusy (s : Dev) : Bool := s.clk.wordState ≠ .off || s.clk.wordSteer ≠ 0

/-! ### The Tempo unit -/

/-- Pq of a BPM × 100 (R41). -/
def tempoPq (v : Nat) : Nat := (1179648000000 * 2 ^ 17 + v) / (2 * v)

/-- The Wheel time of subdivision j of beat k with subdivision count sub (R39). -/
def Tempo.timeOf (t : Tempo) (k j sub : Nat) : Int :=
  t.a + Int.fdiv ((((k : Int) - t.k0) * sub + j) * t.pq) (sub * 65536)

/-- A field of the Tempo unit as it is in force on this tick: on the tick of a press that has not been served yet, as the press takes it
over (R11). -/
def Dev.tempoField (s : Dev) (hi lo : Nat) : Nat :=
  if s.pressDue then fieldOf (s.writtenBefore 0x440) hi lo else s.rf 0x440 hi lo

/-- S as a beat on this tick takes it (R40). -/
def Dev.tempoS (s : Dev) : Nat := s.tempoField 15 8

/-- SRC in force. -/
def Dev.tempoSrc (s : Dev) : Nat := s.rf 0x440 2 1

/-- L of the unit's grid: BAR_LEN, and in distributed mode L of the reference's grid (R43). -/
def Dev.tempoL (s : Dev) : Nat := if s.tempoSrc = 3 then s.tempo.l else s.tempoField 19 16

/-- The position becomes the first of the grid whose time lies at or after the Wheel (R40, new anchors). -/
def Dev.tempoAnchor (s : Dev) : Dev :=
  let t := s.tempo
  let sub := s.tempoS
  let num : Int := ((s.wheelN : Int) - t.a) * sub * 65536
  let m := max (-Int.fdiv (-num) (max t.pq 1)) (-((t.k0 * sub : Nat) : Int))
  s.modTempo (fun t => { t with
    k := ((t.k0 : Int) + Int.fdiv m sub).toNat, j := (Int.fmod m sub).toNat, sNow := sub, anchored := true, halted := false })

/-- The index of the next beat that is still to be sent (R163). -/
def Tempo.nextBeat (t : Tempo) : Nat := if t.j = 0 then t.k else t.k + 1

/-- Whether the grid runs with TMP_EN and SRC as they are in force on this tick (R469). -/
def Dev.tempoWanted (s : Dev) : Bool :=
  let src := s.tempoField 2 1
  s.tempoField 0 0 = 1 && (src = 1 || src = 2 || (src = 3 && s.clk.role ≠ .master))

/-- The grid starts afresh at this press (R469). -/
def Dev.tempoStart (s : Dev) : Dev :=
  let pq := tempoPq (s.rf 0x444 15 0)
  let t0 : Tempo := { st := .run, runs := true, pq := pq, sNow := s.tempoS, l := s.tempo.l, beat := s.tempo.beat }
  match s.tempoSrc with
  | 1 =>
    let a := s.tempo.preA.getD (s.wheelN : Int)
    ({ s with tempo := { t0 with a := a, k0 := s.tempo.preK.getD 0 } }).tempoAnchor
  | _ => { s with tempo := t0 }

/-- The Tempo unit at a press, after the live fields have taken effect; `src` and `bpm` are those in force before (R40, R41, R46,
R469). DESIGN CHOICE (log entry 33): a BPM written in MIDI mode leaves the Pq of the grid's start until the first measurement; after a change
of SRC to host mode a grid without an anchor is silent until a TEMPO anchors it, and Pq stays until a BPM other than the one in force, or
a TEMPO, corrects it. -/
def Dev.tempoPress (s : Dev) (src bpm : Nat) : Dev :=
  match s.tempo.runs, s.tempoWanted with
  | false, false => s
  | false, true => s.tempoStart
  | true, false => s.modTempo Tempo.stopped
  | true, true =>
    let s := if src = s.tempoSrc then s
      else s.modTempo (fun t => { t with
        st := .run, halted := false, cont := false, clkN := none, clkT := [], lastClk := none, bpmNew := false,
        adopt := s.tempoSrc = 2 && t.anchored })
    if s.tempoSrc = 1 && bpm ≠ s.rf 0x444 15 0 then s.modTempo (fun t => { t with bpmNew := true }) else s

/-- Whether a Tempo position is due on this tick (R39, R40). -/
def Dev.tempoDue (s : Dev) : Bool :=
  let t := s.tempo
  s.enginesOn && t.runs && s.tempoWanted && t.anchored && !t.halted && decide (t.timeOf t.k t.j t.sNow ≤ s.wheelN)

/-- The due position is sent: BEAT, SUB and BAR, to the Ripeners and, with EVT_WHEY, to the whey ring (R39, R41). -/
def Dev.tempoEvent (s : Dev) : Dev :=
  if !s.tempoDue then s
  else
    let t := s.tempo
    let beat := t.j = 0
    let bar := beat && s.tempoL ≠ 0 && t.k % s.tempoL = 0
    let at_ : Int := s.wheelN
    let s :=
      if s.rb 0x440 7 then
        let s := if beat then s.eventAt 0x0110 at_ (t.k % 2 ^ 32) else s.eventAt 0x0111 at_ (t.k % 2 ^ 32 + 2 ^ 32 * t.j)
        if bar then s.eventAt 0x0112 at_ (t.k % 2 ^ 32) else s
      else s
    let s := s.tempoTriggers t.k beat bar at_
    let s :=
      if beat then
        let s := s.modTempo (fun t => { t with beat := BitVec.ofNat 32 t.k, sNow := s.tempoS })
        if t.bpmNew then
          s.modTempo (fun t => { t with
            a := t.timeOf t.k 0 1, k0 := t.k, pq := tempoPq (s.rf 0x444 15 0), bpmNew := false })
        else s
      else s
    s.modTempo (fun t => if t.j + 1 < t.sNow then { t with j := t.j + 1 } else { t with k := t.k + 1, j := 0 })

/-- TEMPO's settings (R163): the anchor at this tick, the index of the beat at it, and the BPM. -/
def Dev.tempoSet (s : Dev) (anchor beat : Bool) (idx : Nat) : Dev :=
  if s.tempo.runs then
    let t := s.tempo
    let t := if anchor then { t with a := (s.wheelN : Int), k0 := if beat then idx else t.nextBeat }
      else if beat then { t with k0 := idx } else t
    if anchor || beat then ({ s with tempo := t }).tempoAnchor else s
  else
    s.modTempo (fun t => { t with
      preA := if anchor then some (s.wheelN : Int) else t.preA, preK := if beat then some idx else t.preK })

/-! ### MIDI clocks -/

/-- The clock at time `t` becomes clock 0 and the anchor, a new anchor under R40: events resume with the first position at or after the
present Wheel (R42). -/
def Dev.midiAnchor (s : Dev) (t : Int) : Dev :=
  (s.modTempo (fun u => { u with
    a := t, k0 := 0, cont := false, adopt := false, clkN := some 0, clkT := [t], st := .run })).tempoAnchor

/-- The anchor that puts clock `n` at time `t`: t − n × Pq / 24, rounded down to a tick (R42). -/
def Tempo.anchorFor (u : Tempo) (n t : Int) : Int := Int.fdiv (t * (24 * 65536) - n * u.pq) (24 * 65536)

/-- One eighth of the phase error of clock n, rounded toward zero (R42). -/
def Tempo.midiPull (u : Tempo) (n t : Int) : Int :=
  Int.tdiv ((t - u.a) * 24 * 65536 - n * u.pq) (8 * 24 * 65536)

/-- Clock n at time t on a running grid: A is moved first, then every 24th clock measures Pq (R42). -/
def Dev.midiClock (s : Dev) (n t : Int) (fresh : Bool) : Dev :=
  s.modTempo (fun u =>
    let ts := t :: (if fresh then [] else u.clkT)
    let u := { u with a := u.a + u.midiPull n t, clkN := some n, clkT := ts.take 25, adopt := false, halted := false, st := .run }
    if n % 24 = 0 && decide (25 ≤ ts.length) then { u with pq := ((t - (ts.getD 24 t)) * 65536).toNat } else u)

/-- A MARK of the MIDI source's Harp at the Tempo unit (R42). DESIGN CHOICE (log entry 33): a continue before any clock has been counted, as
after a change of SRC on a running grid, makes the next clock clock 0 with beat index 0. -/
def Dev.midiMark (s : Dev) (harp code : Nat) (time : Nat) : Dev :=
  if !(s.tempo.runs && s.tempoSrc = 2 && s.rf 0x440 6 4 = harp) then s
  else
    let t : Int := (time : Int) - s.rf 0x448 23 0
    let arm (s : Dev) : Dev := s.modTempo (fun u => { u with lastClk := some s.clk.now })
    match code with
    | 0xFA => arm (s.modTempo (fun u => { u with
        anchored := false, halted := true, cont := false, adopt := false, k := 0, j := 0, k0 := 0, beat := 0, clkN := none,
        clkT := [], st := .run }))
    | 0xFC => s.modTempo (fun u => { u with halted := true, st := .stopped, cont := false, lastClk := none })
    | 0xFB => if s.tempo.st = .stopped then arm (s.modTempo (fun u => { u with cont := true, st := .run, clkT := [] })) else s
    | 0xF8 =>
      if s.tempo.st = .stopped then s
      else arm (
        if !s.tempo.anchored then s.midiAnchor t
        else if s.tempo.cont then
          match s.tempo.clkN with
          | none => s.midiAnchor t
          | some n => s.modTempo (fun u => { u with
              a := u.anchorFor (n + 1) t, clkN := some (n + 1), clkT := [t], cont := false, halted := false, st := .run })
        else if s.tempo.adopt then
          let u := s.tempo
          s.midiClock (Int.fdiv (2 * (t - u.a) * 24 * 65536 + u.pq) (2 * (max u.pq 1))) t true
        else s.midiClock (match s.tempo.clkN with
          | some n => n + 1
          | none => 0) t false)
    | _ => s

/-- TEMPO_LOST: no clock for 3 × Pq / 24 (R42). -/
def Dev.tempoLost (s : Dev) : Dev :=
  match s.tempo.lastClk with
  | some c =>
    if s.tempo.runs && s.tempoSrc = 2 && decide (c * (24 * 65536) + 3 * s.tempo.pq ≤ s.clk.now * (24 * 65536)) then
      ((s.modTempo (fun u => { u with st := .hold, lastClk := none })).setFlag 0x42C 5).eventOk 0x0113 0
    else s
  | none => s

/-! ### Distributed tempo -/

/-- The index of the beat nearest Wheel value w on a grid, halves up. -/
def beatNear (a : Int) (pq k0 w : Nat) : Int := k0 + Int.fdiv (2 * ((w : Int) - a) * 65536 + pq) (2 * (max pq 1))

/-- An update of the distributed grid that `r` sends: anchor, Pq, the beat index at the anchor, and L. It is adopted from the unit's Wheel
reference alone (R40, R43); a twin shadow takes its grid from mirror records instead (R350). -/
def Dev.tempoAdopt (s : Dev) (r : WRole) (a : Int) (pq k0 l : Nat) : Dev :=
  if s.clk.role ≠ r || !(s.tempo.runs && s.tempoSrc = 3) || s.pwr.mode = .shadow then s
  else
    let u := s.tempo
    let renumbered := !u.anchored || beatNear u.a u.pq u.k0 s.wheelN ≠ beatNear a pq k0 s.wheelN
    let s := { s with tempo := { u with a := a, pq := pq, k0 := k0, l := l } }
    if renumbered then s.tempoAnchor else s

end Sys2Proof.Machine
end

