-- ==== Sys2Proof/Machine/Mirror.lean ====
section
/-! DEFINITION. What the active unit of a twin tells its shadow (R346 to R348): the deltas of the state that a command has changed, the
full image, and the snapshots. Deltas are found by comparing the state with what has been told. -/

namespace Sys2Proof.Machine

/-- The registers whose set-up writes are mirrored (R346). Pockets travel in HARP_SNAP. -/
def mirReg (off : Nat) : Bool :=
  (decide (0x2000 ≤ off) && decide (off < 0x7000) && !(decide (0x5600 ≤ off) && decide (off < 0x5A00))) ||
    (decide (0x440 ≤ off) && decide (off ≤ 0x448))

/-- Whether a field is written by set-up writes. -/
def Fld.isRw (f : Fld) : Bool :=
  match f.acc with
  | .live _ => true
  | .staged _ => true
  | .idle _ => true
  | _ => false

/-- Mirrored registers with a set-up field, and with a staged one. -/
def mirForce (off : Nat) : Bool := mirReg off && (regFields off).any Fld.isRw
def mirStaged (off : Nat) : Bool := mirReg off && (regFields off).any Fld.isStaged

/-- A channel as a CHAN record carries it: stepwise value, owner in force and shift value. -/
def Dev.chanTold (s : Dev) (c : Nat) : Nat × Nat × Nat :=
  let x := s.chanOf c
  (x.step.toNat, s.rf (0x4400 + 4 * (c / 4)) (8 * (c % 4) + 7) (8 * (c % 4)), x.shift.toNat)

/-- The channels whose values can differ from those of an untouched one. -/
def Dev.chanKeys (s : Dev) : List Nat :=
  s.chan.map (·.1) ++
    (s.regs.force.filter (fun e => decide (0x4400 ≤ e.1) && decide (e.1 < 0x4810))).flatMap
      (fun e => [e.1 - 0x4400, e.1 - 0x43FF, e.1 - 0x43FE, e.1 - 0x43FD])

/-- The mirrored state as it stands. -/
def Dev.toldNow (s : Dev) : Told :=
  { regs := s.regs.force.filter (fun e => mirForce e.1)
    stag := s.regs.written.filter (fun e => mirStaged e.1)
    cult := s.cult
    chan := s.chanKeys.foldl (fun m c => tabSet (0, 0, 0) m c (s.chanTold c)) []
    cues := (s.ring.cues.filter (fun c => !c.out)).map (fun c => (c.idx, c.job.serial, c.t)) }

/-- The keys at which two tables differ, with the later value. -/
def tabDiff {α : Type} [DecidableEq α] (d : Nat → α) (a b : Tab α) : List (Nat × α) :=
  b.filter (fun e => tabGet (d e.1) a e.1 ≠ e.2) ++
    (a.filter (fun e => tabGet (d e.1) b e.1 = d e.1)).map (fun e => (e.1, d e.1))

/-- Numbers cut into runs of at most `m`, as first and count, for numbers in ascending order. -/
def runsOf (m : Nat) : List Nat → List (Nat × Nat)
  | [] => []
  | k :: ks => match runsOf m ks with
    | [] => [(k, 1)]
    | (f, n) :: rs => if f = k + 1 && decide (n < m) then (k, n + 1) :: rs else (k, 1) :: (f, n) :: rs

/-- The numbers below a bound that a list contains, in ascending order. -/
def ascending (bound : Nat) (ks : List Nat) : List Nat := (upTo bound).filter (fun k => ks.contains k)

/-- A CHAN record of channels as they stand. -/
def Dev.chanRec (s : Dev) (r : Nat × Nat) : MirRec :=
  .chan r.1 ((upTo r.2).map (fun i =>
    let (v, o, h) := s.chanTold (r.1 + i)
    (BitVec.ofNat 16 v, BitVec.ofNat 8 o, BitVec.ofNat 16 h)))

/-- A CULT record of culture words as they stand. -/
def Dev.cultRec (s : Dev) (r : Nat × Nat) : MirRec := .cult r.1 ((upTo r.2).map (fun i => s.cultWord (r.1 + i)))

/-- The origin byte of a cue (R346). -/
def srcByte : Src → Byte
  | .ring n => BitVec.ofNat 8 n.val
  | .lh => 0x10
  | .lr => 0x11

/-- A CUE_ADD record. -/
def cueRec (c : Cue) : MirRec := .cueAdd c.idx (srcByte c.job.src) c.acc c.job.d

/-- The deltas between what was told and what stands now (R346, R347). -/
def Dev.deltasOf (s : Dev) (old new : Told) : List MirRec :=
  (tabDiff regReset old.regs new.regs).map (fun e => .setup e.1 false e.2) ++
    (tabDiff regReset old.stag new.stag).map (fun e => .setup e.1 true e.2) ++
    (runsOf 16 (ascending 8192 ((tabDiff (fun _ => 0) old.cult new.cult).map (·.1)))).map s.cultRec ++
    (runsOf 64 (ascending 1040 ((tabDiff (fun _ => (0, 0, 0)) old.chan new.chan).map (·.1)))).map s.chanRec ++
    (s.ring.cues.filter (fun c => !c.out && !old.cues.contains (c.idx, c.job.serial, c.t))).map cueRec ++
    (old.cues.filter (fun e => !new.cues.contains e)).map
      (fun e => .cueDone e.1 (if e.2.2 ≤ (s.wheelN : Int) then 0 else 2))

/-- The symbols a record takes (Table TWN-2, Table HOOP-6), on even offsets. -/
def recSize : MirRec → Nat
  | .sec _ _ => 24
  | .tempo _ _ _ _ _ _ => 36
  | .clr _ => 144
  | .setup _ _ _ => 24
  | .cult _ ws => 20 + 4 * ws.length
  | .chan _ cs => 20 + 2 * ((5 * cs.length + 1) / 2)
  | .cueAdd _ _ _ _ => 58
  | .cueDone _ _ => 20
  | .ripSnap r => 144 + 2 * ((7 * r.group.length + 1) / 2)
  | .harpSnap _ _ _ => 212
  | .ozhSnap _ => 1044
  | .swap _ => 24

/-- The symbols that a list of records takes. -/
def recsSize (rs : List MirRec) : Nat := (rs.map recSize).sum

/-! ### Snapshots and the full image -/

/-- The snapshot of a Ripener as it stands. -/
def Dev.ripSnap (s : Dev) (n : Fin 12) : RipSnap :=
  let r := s.ripOf n
  ⟨n, r.lastStep, r.run && !r.faulted, r.hostPause, r.latch, (upTo 4).map (fun k => tabGet 0 r.regs k), r.ctx, r.frame, r.handler, r.mask,
    r.group, r.outs, r.fades⟩

/-- The snapshot of a Harp: its pocket and TX queue. -/
def Dev.harpSnap (s : Dev) (n : Fin 8) : MirRec :=
  .harpSnap n ((upTo 32).map (fun j => s.force (0x5600 + 4 * (32 * n.val + j)))) (s.harpOf n).tx

/-- The Ozhild network state (R346). -/
def Dev.ozhNet (s : Dev) : OzhNet :=
  let z := s.ozh
  ⟨z.st, z.asnOfs, z.nk, z.jk, z.keyIdx, z.session, z.short, z.depth, z.parent, z.meshId, z.sfLen, z.block, z.sessionCtr, z.nbrs, z.nodes,
    z.routes⟩

/-- The register rows of the mirrored blocks. -/
def mirRows : List RegRow := rowsWhl ++ rowsStr ++ rowsMtx ++ rowsClr ++ rowsRip ++ rowsHrp ++ rowsCar ++ rowsAdc

/-- The offsets of every mirrored register. -/
def mirOffs : List Nat :=
  (mirRows.flatMap (fun r => (upTo r.count).map (fun i => r.base + r.stride * i))).filter mirForce

/-- The full image (R348). -/
def Dev.fullImage (s : Dev) : List MirRec :=
  mirOffs.map (fun o => .setup o false (s.force o)) ++
    (mirOffs.filter mirStaged).map (fun o => .setup o true (s.written o)) ++
    (upTo 512).map (fun i => s.cultRec (16 * i, 16)) ++
    (upTo 17).map (fun i => s.chanRec (64 * i, if i = 16 then 16 else 64)) ++
    (s.ring.cues.filter (fun c => !c.out)).map cueRec ++
    ((List.finRange 12).filter (fun n => (s.ripSnap n).run)).map (fun n => .ripSnap (s.ripSnap n)) ++
    (List.finRange 8).map (fun n => s.harpSnap n) ++ [.ozhSnap s.ozhNet]

/-- A full image begins: it takes the place of the deltas (R348). -/
def Dev.startImage (s : Dev) : Dev :=
  s.modTwin (fun t => { t with image := s.fullImage, imgOn := true, deltas := [], told := s.toldNow })

/-- What a command has changed goes into the delta queue of an active unit; a queue beyond 32 KiB overflows into a full image (R347,
R348). -/
def Dev.mirror (s : Dev) : Dev :=
  if s.twin.role ≠ .active then s
  else
    let new := s.toldNow
    if new = s.twin.told then s
    else
      let ds := s.twin.deltas ++ s.deltasOf s.twin.told new
      if 32768 < recsSize ds then (s.setFlag 0x7810 5).startImage
      else s.modTwin (fun t => { t with told := new, deltas := ds })

end Sys2Proof.Machine
end

