-- ==== Sys2Proof/Machine/Rings.lean ====
section
/-! DEFINITION. Chapter 04: curd rings, doorbells, shadows, fetch bursts, the reading of head words, halts, poll schedule, enable and
disable, ABI negotiation, bus mastering and the resets of the ring engine (R107 to R115, R121, R126, R131 to R136). -/

namespace Sys2Proof.Machine

/-- CI of a curd ring. -/
def Dev.curdCi (s : Dev) (n : Nat) : Word := s.force (curdOff n + 0x1C)

/-- Whether a job came from a source. -/
def Job.isFrom (j : Job) (o : Src) : Bool := j.src = o

/-- Whether a flight still owes its completion; a remote descriptor without completion-requested owes none once handed off (R144). -/
def Flight.owes (f : Flight) : Bool :=
  match f.await.remoteTag with
  | some (_, due) => due ≠ 0
  | none => true

/-- Whether a descriptor accepted from a source has not completed, cues in the store included (R117, R164). -/
def Dev.outstanding (s : Dev) (o : Src) (cues : Bool) (below : Nat) : Bool :=
  s.ring.flights.any (fun f => f.owes && f.job.isFrom o && decide (f.job.serial < below) && (cues || f.job.cue.isNone)) ||
    s.ring.steward.any (fun j => j.isFrom o && decide (j.serial < below)) ||
    s.ring.fences.any (fun f => f.job.isFrom o && decide (f.job.serial < below)) ||
    (cues && s.ring.cues.any (fun c => !c.out && c.job.isFrom o && decide (c.job.serial < below)))

/-- The descriptors ready at a source: fetched ones of a host ring, or those waiting in a local ring (R115, R129). -/
def Dev.readyOf (s : Dev) : Src → List Desc
  | .ring n => (s.curdOf n).ready
  | .lh => s.ring.lh.map (·.d)
  | .lr => s.ring.lr.map (·.d)

/-- Whether the head descriptor of a source waits for its fence (R117). -/
def Dev.fenceWait (s : Dev) (o : Src) : Bool :=
  match s.readyOf o with
  | d :: _ => d.flag 2 && s.outstanding o true s.ring.serial
  | [] => false

/-- Whether a FENCE taken from the source still waits (R164). -/
def Dev.fenceHolds (s : Dev) (o : Src) : Bool := s.ring.fences.any (fun f => f.job.isFrom o)

/-- Whether a curd ring that runs is stalled (R117, R120, R125, R164, R326). -/
def Dev.curdStalled (s : Dev) (n : Fin 8) : Bool :=
  let c := s.curdOf n
  c.told || c.remWait || s.fenceWait (.ring n) || s.fenceHolds (.ring n) || s.wheyBlocks (s.rf (curdOff n + 0x18) 9 8)

/-- Whether a descriptor of the source is in execution and holds up those behind it: a FENCE, or one that waits for the Steward or the flash
(R117, R134, R164, R437). -/
def Dev.inExec (s : Dev) (o : Src) : Bool := s.fenceHolds o || s.ring.steward.any (fun j => j.isFrom o)

/-- STATE of a curd ring as it reads (Table RING-7). -/
def Dev.curdState (s : Dev) (n : Fin 8) : RState :=
  match (s.curdOf n).st with
  | .running => if s.curdStalled n then .stalled else .running
  | x => x

/-- STATE of a whey ring as it reads: FULL (2) while no entry is free (Table RING-8). -/
def Dev.wheyState (s : Dev) (m : Nat) : RState :=
  match (s.wheyOf m).st with
  | .running => if s.wheyFree m = 0 then .stalled else .running
  | x => x

/-- The CI shadow of a curd ring now (Table RING-3). -/
def Dev.shadowNow (s : Dev) (n : Fin 8) : BitVec 64 :=
  (BitVec.ofNat 32 ((s.curdState n).code + 16 * (s.curdOf n).err)) ++ s.curdCi n

/-- The CI shadow written, unless it would repeat the last one; while no request may be issued it stays due (R114, R135). -/
def Dev.writeShadow (s : Dev) (n : Fin 8) : Dev :=
  let v := s.shadowNow n
  if (s.curdOf n).shadow = some v then s.setCurd n { s.curdOf n with shadowDue := false }
  else if !s.mayIssue then s.setCurd n { s.curdOf n with shadowDue := true }
  else (s.setCurd n { s.curdOf n with shadow := some v, shadowDue := false }).emit (.ciShadow n (s.addr64 (curdOff n + 0x10)) v)

/-- Whether the CI shadow of a ring is to be written: one is still due, or STATE or ERR has changed since the last one (R114). -/
def Dev.shadowStale (s : Dev) (n : Fin 8) : Bool :=
  let c := s.curdOf n
  s.mayIssue && (c.shadowDue || match c.shadow with
    | some v => decide (v >>> 32 ≠ s.shadowNow n >>> 32)
    | none => false)

/-- The CI shadows that are to be written (R114). -/
def Dev.syncShadows (s : Dev) : Dev :=
  (List.finRange 8).foldl (fun s (n : Fin 8) => if s.shadowStale n then s.writeShadow n else s) s

/-- Whether the Rind's mailbox is open (R420). -/
def Dev.mbxOpen (s : Dev) : Bool := s.br.on && s.enginesOn && !s.flt.refuse && s.flt.verState ≠ 1

/-- The bridge with other contents. -/
def Dev.modBr (s : Dev) (f : Bridge → Bridge) : Dev := { s with br := f s.br }

/-- The mailbox judged: an opening sends RND_RECORD for the newest record, a closing RND_MAILBOX_CLOSED (R421). -/
def Dev.mailboxTold (s : Dev) : Dev :=
  let o := s.mbxOpen
  if o = s.br.told then s
  else
    let s := s.modBr (fun b => { b with told := o })
    if o then (match s.br.newest with
      | some r => s.eventOk 0x0C03 (r % 2 ^ 32)
      | none => s)
    else if s.coreOn then s.eventOk 0x0C02 (s.br.copy.recno % 2 ^ 32)
    else s

/-- What the Rind sees of the system clock and of LIMP in the window in progress (R402, R405). -/
def Dev.watchClock (s : Dev) : Dev :=
  s.modBr (fun b => { b with
    limpSeen := b.limpSeen || s.clk.running && s.clk.limp, clkCut := b.clkCut || !s.clk.running || s.clk.limp })

/-- What follows every command: what the Rind sees of the clock, the mailbox, waiting entries, the fault summary, the shadows and the mirror brought up to date (R114, R125, R346,
R405, R430). -/
def Dev.settle (s : Dev) : Dev := s.watchClock.mailboxTold.flushWhey.scanFaults.syncShadows.mirror

/-- A command whose whole effect is on the device outside the Rind. -/
def onDev (f : Dev → Dev) (s : State) : Host.Outcome State Fault Refusal := .next { s with dev := (f s.dev).settle }

/-! ### Reads of host memory -/

/-- A doorbell read, when the ring is enabled (R111). -/
def Dev.pollDoorbell (s : Dev) (n : Nat) : Dev :=
  let c := s.curdOf n
  if s.curdEn n && c.st ≠ .stopped && s.mayIssue then
    (s.setCurd n { c with rdOut := c.rdOut + 1 }).emit (.readReq (.doorbell (Fin.ofNat 8 n)) (s.addr64 (curdOff n + 8)) 8)
  else s

/-- A whey head read, when the ring is enabled (R121). -/
def Dev.pollHead (s : Dev) (m : Nat) : Dev :=
  let w := s.wheyOf m
  if s.wheyEn m && w.st ≠ .stopped && s.mayIssue then
    (s.setWhey m { w with rdOut := w.rdOut + 1 }).emit (.readReq (.head (Fin.ofNat 4 m)) (s.addr64 (wheyOff m + 8)) 8)
  else s

/-- The descriptors of the next burst: at most 16, to the ring's end, to a 4 KiB boundary, and Max_Read_Request_Size / 32 (R115). -/
def Dev.burstLen (s : Dev) (n : Nat) : Nat :=
  let size := 2 ^ s.rf (curdOff n + 0x18) 4 1
  let slot := (s.curdCi n).toNat % size
  let addr := (s.addr64 (curdOff n)).toNat + 32 * slot
  min (min (min 16 (size - slot)) (min ((4096 - addr % 4096) / 32) (s.ring.maxRead / 32))) (s.curdOf n).pend

/-- Whether a ring has descriptors to fetch: pending ones, and none fetched or being fetched (R108, R115). -/
def Dev.fetchWanted (s : Dev) (n : Nat) : Bool :=
  let c := s.curdOf n
  c.st = .running && !c.stopping && c.ready.isEmpty && c.fetching = 0 && c.haltAt.isNone && decide (0 < c.pend)

/-- The ring whose turn to fetch it is: rings with descriptors to fetch take turns in ascending number, and one burst is read at a time
(R115; DESIGN CHOICE, log entry 62). -/
def Dev.fetchNext (s : Dev) : Option Nat :=
  if (upTo 8).any (fun n => (s.curdOf n).fetching ≠ 0) then none
  else ((upTo 8).map (fun i => (s.ring.fetchTurn + 1 + i) % 8)).find? s.fetchWanted

/-- The burst of the ring whose turn it is, read (R108, R115). -/
def Dev.startFetch (s : Dev) : Dev :=
  if !s.mayIssue then s
  else match s.fetchNext with
    | none => s
    | some n =>
      let k := s.burstLen n
      let slot := (s.curdCi n).toNat % 2 ^ s.rf (curdOff n + 0x18) 4 1
      ((s.modCurd n (fun c => { c with fetching := k })).modRing (fun r => { r with fetchTurn := n })).emit
        (.readReq (.fetch (Fin.ofNat 8 n)) (s.addr64 (curdOff n) + BitVec.ofNat 64 (32 * slot)) (32 * k))

/-- The codes of ERR for a failed read (Table RING-7). -/
def rdErrCode : RdErr → Nat
  | .ur => 3
  | .ca => 4
  | .poison => 6

/-- A curd ring halts with an ERR (R110, R131, R132). -/
def Dev.haltCurd (s : Dev) (n : Nat) (err : Nat) : Dev :=
  s.modCurd n (fun c => { c with st := .halted, err := err, ready := [], haltAt := none, told := false, remWait := false })

/-- A whey ring halts with an ERR. -/
def Dev.haltWhey (s : Dev) (m : Nat) (err : Nat) : Dev := s.modWhey m (fun w => { w with st := .halted, err := err })

/-- What a failed read does beside the halt: the address latched, READ_ABORT, AER and event RING_ERROR (R132). -/
def Dev.readAbort (s : Dev) (ring err : Nat) (addr : BitVec 64) : Dev :=
  let s := (s.modRing (fun r => { r with errAddr := addr })).setFlag 0x1010 2
  (s.emit (.aer addr)).eventOk 0x0003 (ring + 256 * err)

/-- A curd ring halted by a failed read (R132). -/
def Dev.abortCurd (s : Dev) (n err : Nat) (addr : BitVec 64) : Dev := (s.haltCurd n err).readAbort n err addr

/-- A whey ring halted by a failed read (R132). -/
def Dev.abortWhey (s : Dev) (m err : Nat) (addr : BitVec 64) : Dev := (s.haltWhey m err).readAbort (16 + m) err addr

/-- The complement check of a host word (R110). -/
def wordGood (w : BitVec 64) : Bool := (w >>> 32).setWidth 32 = ~~~ (w.setWidth 32)

/-- A ring of either kind with one read fewer outstanding; the data of the oldest ones is not used where they were issued before a stop or a
time without bus mastering (R133 to R135). -/
def Curd.readBack (c : Curd) : Curd := { c with rdOut := c.rdOut - 1, rdDrop := c.rdDrop - 1 }
def Whey.readBack (w : Whey) : Whey := { w with rdOut := w.rdOut - 1, rdDrop := w.rdDrop - 1 }

/-- A doorbell word whose complement check fails (R131). -/
def Dev.badDoorbell (s : Dev) (n : Nat) : Dev :=
  let s := s.modCurd n (fun c => { c with bad := c.bad + 1 })
  if 16 ≤ (s.curdOf n).bad && (s.curdOf n).st = .running then ((s.haltCurd n 1).setFlag 0x1010 0).eventOk 0x0003 (n + 256) else s

/-- A doorbell value that passed it (R110). -/
def Dev.takeDoorbell (s : Dev) (n : Nat) (pi : Word) : Dev :=
  let d := (pi - s.curdCi n).toNat
  let s := s.modCurd n (fun c => { c with bad := 0 })
  if d ≤ 2 ^ s.rf (curdOff n + 0x18) 4 1 then (s.modCurd n (fun c => { c with pend := d })).startFetch
  else if (s.curdOf n).st = .running then (s.haltCurd n 2).setFlag 0x1010 1 else s

/-- A doorbell read returns (R110, R131, R132, R135). -/
def Dev.doorbellDone (s : Dev) (n : Nat) (r : Rd) : Dev :=
  let c := s.curdOf n
  if c.rdOut = 0 then s
  else
    let s := s.setCurd n c.readBack
    if 0 < c.rdDrop || c.st = .stopped then s
    else match r with
      | .err e => if c.st = .halted then s else s.abortCurd n (rdErrCode e) (s.addr64 (curdOff n + 8))
      | .ok w => if wordGood w then s.takeDoorbell n (w.setWidth 32) else s.badDoorbell n

/-- A whey head word read returns (R110, R121, R125, R131, R132, R135). -/
def Dev.headDone (s : Dev) (m : Nat) (r : Rd) : Dev :=
  let w := s.wheyOf m
  if w.rdOut = 0 then s
  else
    let s := s.setWhey m w.readBack
    if 0 < w.rdDrop || w.st ≠ .running then s
    else match r with
      | .err e => s.abortWhey m (rdErrCode e) (s.addr64 (wheyOff m + 8))
      | .ok v =>
        if !wordGood v then
          let s := s.modWhey m (fun w => { w with bad := w.bad + 1 })
          if 16 ≤ (s.wheyOf m).bad then ((s.haltWhey m 1).setFlag 0x1010 0).eventOk 0x0003 (16 + m + 256) else s
        else
          let d := (v.setWidth 32 - w.head).toNat
          let s := s.modWhey m (fun w => { w with bad := 0 })
          if d ≤ (s.wheyTail m - w.head).toNat then s.modWhey m (fun w => { w with head := v.setWidth 32 })
          else (s.haltWhey m 2).setFlag 0x1010 1

/-- The address of the burst that is being read. -/
def Dev.burstAddr (s : Dev) (n : Nat) : BitVec 64 :=
  s.addr64 (curdOff n) + BitVec.ofNat 64 (32 * ((s.curdCi n).toNat % 2 ^ s.rf (curdOff n + 0x18) 4 1))

/-- A fetch burst ends, whole or with an ERR code: the descriptors that arrived before a failing part become ready, and the ring halts after them
(R115, R132, R134, R135). The next ring's turn comes. -/
def Dev.burstBack (s : Dev) (n : Nat) (ds : List Desc) (err : Option Nat) : Dev :=
  let c := s.curdOf n
  if 0 < c.fetchDrop then s.setCurd n { c with fetchDrop := c.fetchDrop - 1 }
  else if c.fetching = 0 then s
  else
    let addr := s.burstAddr n
    let good := ds.take c.fetching
    let s := s.setCurd n { c with fetching := 0 }
    let s :=
      if c.st ≠ .running then s
      else match err with
        | none => s.modCurd n (fun c => { c with ready := good })
        | some e =>
          if good.isEmpty then s.abortCurd n e addr else s.modCurd n (fun c => { c with ready := good, haltAt := some (e, addr) })
    s.startFetch

/-- A fetch burst returns (R115, R132). -/
def Dev.fetchDone (s : Dev) (n : Nat) (ds : List Desc) (err : Option RdErr) : Dev := s.burstBack n ds (err.map rdErrCode)

/-- A read of the ring engine times out; of a burst, the descriptors that arrived before are `ds` (R132). -/
def Dev.readTimeout (s : Dev) (k : RdKind) (ds : List Desc) : Dev :=
  match k with
  | .doorbell n =>
    let c := s.curdOf n
    if c.rdOut = 0 then s
    else
      let s := s.setCurd n c.readBack
      if c.rdDrop = 0 && c.st = .running then s.abortCurd n 5 (s.addr64 (curdOff n + 8)) else s
  | .head m =>
    let w := s.wheyOf m
    if w.rdOut = 0 then s
    else
      let s := s.setWhey m w.readBack
      if w.rdDrop = 0 && w.st = .running then s.abortWhey m 5 (s.addr64 (wheyOff m + 8)) else s
  | .fetch n => s.burstBack n ds (some 5)

/-! ### NUDGE, MSI-X and the ABI -/

/-- Whether a press falls within the next 64 ticks, and its index (R111, R112). -/
def Dev.pressSoon (s : Dev) : Option Nat := if s.wheelN / 4096 < (s.wheelN + 64) / 4096 then some ((s.wheelN + 64) / 4096) else none

/-- Whether the schedule of a curd ring reads its doorbell at a press (R111). -/
def Dev.pollAt (s : Dev) (n p : Nat) : Bool :=
  let k := s.rf (curdOff n + 0x18) 7 5
  k ≠ 7 && (p + n) % 2 ^ k = 0

/-- Whether a whey ring reads its head word at a press as things stand: the first one with less than a quarter free, and each one on which
entries wait for a full ring (R121). -/
def Dev.headLow (s : Dev) (m : Nat) : Bool := decide (4 * s.wheyFree m < 2 ^ s.rf (wheyOff m + 0x18) 4 1)
def Dev.headAt (s : Dev) (m : Nat) : Bool :=
  (s.headLow m && !(s.wheyOf m).low) || (s.wheyFree m = 0 && s.ring.wait.any (fun x => s.waitRing x = m))

/-- A write to NUDGE: a read that is outstanding, or scheduled within 64 ticks, serves the request (R112). -/
def Dev.nudge (s : Dev) (v : BitVec 32) : Dev :=
  let curd (s : Dev) (n : Nat) : Dev :=
    if (s.curdOf n).rdDrop < (s.curdOf n).rdOut || (match s.pressSoon with
      | some p => s.pollAt n p
      | none => false) then s else s.pollDoorbell n
  let whey (s : Dev) (m : Nat) : Dev :=
    if (s.wheyOf m).rdDrop < (s.wheyOf m).rdOut || (s.pressSoon.isSome && s.headAt m) then s else s.pollHead m
  let s := forEach (upTo 8) (fun s n => if v.toNat.testBit n then curd s n else s) s
  forEach (upTo 4) (fun s m => if v.toNat.testBit (8 + m) then whey s m else s) s

/-- Whether an enabled whey ring names an MSI-X vector (R123). -/
def Dev.vectorNamed (s : Dev) (v : Nat) : Bool :=
  (upTo 4).any (fun m => s.wheyEn m && (s.wheyOf m).st ≠ .stopped && s.rf (wheyOff m + 0x18) 7 5 = v)

/-- The message that a mask, or a time without bus mastering, withheld, once nothing withholds it and an enabled whey ring still names its vector
(R107, R123). -/
def Dev.sendHeld (s : Dev) (v : Nat) : Dev :=
  let x := s.msixOf v
  if x.pend && !x.mask && !s.ring.fmask && s.mayIssue && s.vectorNamed v then
    (s.setMsix v { x with pend := false }).emit (.msix v x.addr x.data)
  else s

/-- An MSI-X vector unmasked (R123). -/
def Dev.unmask (s : Dev) (v : Nat) : Dev := (s.setMsix v { s.msixOf v with mask := false }).sendHeld v

/-- Every pending message that nothing withholds any more (R123). -/
def Dev.sendAllHeld (s : Dev) : Dev := forEach (upTo 8) (fun s v => s.sendHeld v) s

/-- The function mask set or cleared (R123). -/
def Dev.functionMask (s : Dev) (m : Bool) : Dev := (s.modRing (fun r => { r with fmask := m })).sendAllHeld

/-- The moderation timer of a whey ring (R123). -/
def Dev.moderation (s : Dev) (m : Nat) : Dev :=
  let o := wheyOff m + 0x18
  let w := s.wheyOf m
  if w.st = .running && decide (0 < w.since) && s.rf o 15 8 ≠ 0 && s.rf o 21 16 ≠ 0 && decide (s.rf o 21 16 ≤ w.age) && s.mayIssue then
    (s.setWhey m { w with since := 0, age := 0 }).sendMsix (s.rf o 7 5)
  else s

/-- Byte `i` of an image's header: written data, or the delivered image (R438). -/
def Dev.flashByte (s : Dev) (slot i : Nat) : Nat :=
  let x := s.slotOf slot
  if x.orig then (Config.flashByte slot i).toNat else (tabGet 0xFF x.bytes i).toNat

/-- A little-endian value of `n` bytes from byte `i` of a slot. -/
def Dev.flashLe (s : Dev) (slot i : Nat) : Nat → Nat
  | 0 => 0
  | n + 1 => s.flashByte slot i + 256 * s.flashLe slot (i + 1) n

/-- STEWARD_IF of the running image: minor and major; 0 and 0 in the update-only form (R127, Table RING-5). -/
def Dev.ifMinor (s : Dev) : Nat := if s.flt.refuse then 0 else s.flashByte s.flt.running 8
def Dev.ifMajor (s : Dev) : Nat := if s.flt.refuse then 0 else s.flashByte s.flt.running 9

/-- The host ABI judged (R126, R127). -/
def Dev.judgeAbi (s : Dev) (major minor : Nat) : Dev :=
  if s.flt.refuse || (major = s.ifMajor && decide (s.ifMinor ≤ minor + 2)) then
    s.modRing (fun r => { r with abiState := 1, servedMinor := BitVec.ofNat 8 (min minor s.ifMinor) })
  else s.modRing (fun r => { r with abiState := 2, servedMinor := 0 })

/-! ### The engine at a press -/

/-- Whether a ring is to run: its EN and ENG_EN in force. -/
def Dev.curdWanted (s : Dev) (n : Nat) : Bool := s.curdEn n && s.rb 0x1008 0
def Dev.wheyWanted (s : Dev) (m : Nat) : Bool := s.wheyEn m && s.rb 0x1008 0

/-- A curd ring disabled: it stops once the descriptor in execution has ended, discards what it has fetched and what it is reading (R134). -/
def Dev.stopCurd (s : Dev) (n : Fin 8) : Dev :=
  let wait := s.inExec (.ring n)
  s.modCurd n (fun c => { c with
    st := if wait && c.st = .running then c.st else .stopped, stopping := wait && decide (c.st = .running), ready := [], pend := 0,
    fetchDrop := c.fetchDrop + (if c.fetching = 0 then 0 else 1), fetching := 0, rdDrop := c.rdOut, told := false, remWait := false,
    haltAt := none })

/-- The disabled rings whose descriptor in execution has ended (R134). -/
def Dev.stopRings (s : Dev) : Dev :=
  (List.finRange 8).foldl (fun s (n : Fin 8) =>
    if (s.curdOf n).stopping && !s.inExec (.ring n) then s.modCurd n (fun c => { c with st := .stopped, stopping := false }) else s) s

/-- A curd ring at a press: enable, disable, and the poll schedule (R111, R114, R133, R134). -/
def Dev.curdPress (s : Dev) (n : Fin 8) : Dev :=
  let c := s.curdOf n
  if s.curdWanted n && c.st = .stopped then
    ((s.setCurd n { ({} : Curd) with
      st := .running, rdOut := c.rdOut, rdDrop := c.rdDrop, fetchDrop := c.fetchDrop, shadow := c.shadow }).writeShadow n).pollDoorbell n
  else if !s.curdWanted n && c.st ≠ .stopped && !c.stopping then s.stopCurd n
  else if !c.stopping && s.pollAt n s.pressIndex then s.pollDoorbell n
  else s

/-- The entry that tells of a restart goes before all others (R136). -/
def Dev.restartedEntry (s : Dev) : Dev :=
  if s.ring.restarted then
    let e : Entry := ⟨1, 0, 0x0005, s.short, BitVec.ofNat 48 (s.ring.lostCpl + 65536 * s.ring.lostEvt)⟩
    s.modRing (fun r => { r with
      restarted := false, lostCpl := 0, lostEvt := 0, owed := false, wait := ⟨true, 0, none, e⟩ :: r.wait })
  else s

/-- A whey ring at a press: enable, disable, head reads and the moderation count (R121, R123, R133). The consumed count goes on as last
read. -/
def Dev.wheyPress (s : Dev) (m : Nat) : Dev :=
  let w := s.wheyOf m
  if s.wheyWanted m && w.st = .stopped then
    ((s.setWhey m { ({} : Whey) with st := .running, head := w.head, rdOut := w.rdOut, rdDrop := w.rdDrop }).modRing (fun r => { r with
      shut := r.shut &&& ~~~ BitVec.ofNat 4 (2 ^ m) })).pollHead m
  else if !s.wheyWanted m && w.st ≠ .stopped then s.setWhey m { w with st := .stopped, rdDrop := w.rdOut }
  else
    let at_ := s.headAt m
    let s := s.setWhey m { w with low := s.headLow m, age := if 0 < w.since then w.age + 1 else 0 }
    if at_ then s.pollHead m else s

/-- The ring engine at a press. RINGS_RESTARTED is due once the ring that events go to is enabled (R136). -/
def Dev.ringPress (s : Dev) : Dev :=
  let s := forEach (upTo 4) (fun s m => s.wheyPress m) s.stopRings
  let s := if (s.wheyOf s.evtRing).st = .running then s.restartedEntry else s
  ((List.finRange 8).foldl (fun s n => s.curdPress n) s).startFetch

/-! ### Bus mastering and the resets of the endpoint -/

/-- Bus Master Enable clears, or the function leaves D0: outstanding reads finish, but their data is not used (R135). -/
def Dev.busOff (s : Dev) (d3 pme : Bool) : Dev :=
  let s := s.modRing (fun r => { r with bme := r.bme && d3, d3 := d3, pmeEn := pme })
  let s := forEach (upTo 8) (fun s n => s.modCurd n (fun c => { c with
    rdDrop := c.rdOut, fetchDrop := c.fetchDrop + (if c.fetching = 0 then 0 else 1), fetching := 0 })) s
  forEach (upTo 4) (fun s m => s.modWhey m (fun w => { w with rdDrop := w.rdOut })) s

/-- D0 with Bus Master Enable returns: the ring engine goes on (R135), with the messages that are still pending (R123). -/
def Dev.busOn (s : Dev) : Dev :=
  ((s.modRing (fun r => { r with bme := true, d3 := false, link := true, perst := false })).sendAllHeld).startFetch

/-- The ring engine and every RING_ register at their reset values; cues stay, waiting entries go (R136, R138). -/
def Dev.resetRings (s : Dev) : Dev :=
  let s := s.resetRegs (fun o => !(decide (0x1000 ≤ o) && decide (o < 0x2000)))
  let freed := s.ring.wait.filterMap (·.cue)
  s.modRing (fun r => { r with
    curd := [], whey := [], fmask := false, fetchTurn := 7, cues := r.cues.filter (fun c => !freed.contains c.idx), wait := [], owed := false,
    abiState := 0, servedMinor := 0, errAddr := 0, msix := [], bme := false, d3 := false, pmeEn := false, maxRead := 512,
    lastAccept := none, turn := 0, lostEvt := 0, lostCpl := 0 })

/-- A PERST_N, link-down or Function Level Reset: the next enabled event ring hears of it (R136). -/
def Dev.resetEndpoint (s : Dev) (link perst : Bool) : Dev :=
  s.resetRings.modRing (fun r => { r with restarted := true, shut := 15, link := link, perst := perst })

end Sys2Proof.Machine
end

