-- ==== Sys2Proof/Machine/Ripeners.lean ====
section
/-! DEFINITION. Chapter 09: the Ripeners' groups, steps, curves, timed instructions, triggers, handlers and faults (R239 to R258), the
RIPEN actions (R155, R255) and every culture instruction (Table RIP-1). Outputs are held in 1/256 of a level (R247). -/

namespace Sys2Proof.Machine

/-! ### Curves -/

/-- 65,535 × (2^(8x) − 1) / 255 at x = i / 32, rounded: the table of curve EXP (Table RIP-2). -/
def expTab : List Nat :=
  [0, 49, 106, 175, 257, 354, 470, 607, 771, 966, 1197, 1472, 1799, 2188, 2651, 3201, 3855] ++
  [4633, 5558, 6659, 7967, 9523, 11373, 13574, 16191, 19303, 23004, 27405, 32639, 38863, 46265, 55067, 65535]

/-- Entry i of a curve's table (R250, Table RIP-2); curves 6 and 7 are the registers' tables. -/
def Dev.curveTab (s : Dev) (k i : Nat) : Nat :=
  match k with
  | 0 => roundDiv (65535 * i) 32
  | 1 => roundDiv (65535 * (i * i)) 1024
  | 2 => roundDiv (65535 * (1024 - (32 - i) * (32 - i))) 1024
  | 3 => roundDiv (65535 * (96 * i * i - 2 * i * i * i)) 32768
  | 4 => expTab.getD i 0
  | 5 => if i = 32 then 65535 else 0
  | u =>
    let o := 0x4900 + 0x80 * (u - 6) + 4 * (i / 2)
    if i % 2 = 0 then s.rf o 15 0 else s.rf o 31 16

/-- The curve c(x), x from 0 to 65,536 (R250). -/
def Dev.curve (s : Dev) (k x : Nat) : Nat :=
  if 65536 ≤ x then s.curveTab k 32
  else
    let a : Int := s.curveTab k (x / 2048)
    let b : Int := s.curveTab k (x / 2048 + 1)
    (a + Int.fdiv ((b - a) * (x % 2048 : Nat)) 2048).toNat

/-- p + floor((q − p) × c / 65,535), the floor toward minus infinity (R248). -/
def blend (p q c : Nat) : Nat := ((p : Int) + Int.fdiv (((q : Int) - p) * c) 65535).toNat

/-! ### Timed instructions -/

/-- The level of a timed instruction, for start level si of the i-th selected position, at x = floor(65,536 × e / d) for WAVE (R248). -/
def Dev.waveLevel (s : Dev) (tm : Timed) (i x : Nat) : Nat :=
  let u := (x + i * tm.spacing * 256) % 65536
  let y := if u < 32768 then 2 * u else 131072 - 2 * u
  blend tm.lo tm.hi (s.curve tm.curve y)

/-- The level at elapsed time e before the end (R248). -/
def Dev.timedLevel (s : Dev) (tm : Timed) (si i e : Nat) : Nat :=
  let d := tm.dur
  match tm.kind with
  | .ramp => blend si tm.target (s.curve tm.curve (65536 * e / d))
  | .hold => si
  | .breathe =>
    let q := e % (2 * d)
    let y := if q < d then 65536 * q / d else 65536 - 65536 * (q - d) / d
    blend si tm.target (s.curve tm.curve y)
  | .wave => s.waveLevel tm i (65536 * e / d)

/-- The final level (R248). -/
def Dev.finalLevel (s : Dev) (tm : Timed) (si i : Nat) : Nat :=
  match tm.kind with
  | .ramp => tm.target
  | .hold => si
  | .breathe => si
  | .wave => s.waveLevel tm i 0

/-- Whether a BREATHE or WAVE runs without end (R248). -/
def timedEndless (tm : Timed) : Bool := (tm.kind = .breathe || tm.kind = .wave) && tm.cyc = 0

/-- Whether a timed instruction has ended at a step tick (R241). -/
def timedEnded (tm : Timed) (t : Int) : Bool := !timedEndless tm && decide (tm.e ≤ t)

/-- Outputs of a context's selected positions written with levels given by start level and index (R248). -/
def Rip.writeSel (r : Rip) (c : Ctx) (f : Nat → Nat → Nat) : Rip :=
  { r with outs := forEach (upTo c.selCount) (fun o i =>
      tabSet 0 o (c.selFirst + i) (256 * f (tabGet 0 c.starts (c.selFirst + i)) i)) r.outs }

/-- The fades of a context's selected positions ended (R247). -/
def Rip.endFades (r : Rip) (c : Ctx) : Rip :=
  let out (m : Nat) : Bool := decide (m < c.selFirst) || decide (c.selFirst + c.selCount ≤ m)
  { r with fades := tabKeep out r.fades, newFades := tabKeep out r.newFades }

/-- The present levels of a context's selected positions, as its start levels (R248, R253). -/
def Rip.takeStarts (r : Rip) (c : Ctx) : Tab Nat :=
  forEach (upTo c.selCount) (fun m i => tabSet 0 m (c.selFirst + i) (tabGet 0 r.outs (c.selFirst + i) / 256)) []

/-- The current timed instruction ends: final levels, and PC goes on (R241, R248). -/
def Dev.finishTimed (s : Dev) (n : Nat) : Dev :=
  let r := s.ripOf n
  match r.ctx.timed with
  | some tm =>
    let r := r.writeSel r.ctx (fun si i => s.finalLevel tm si i)
    s.setRip n { r with ctx := { r.ctx with timed := none, pc := r.ctx.pc + 1 } }
  | none => s

/-! ### State, faults and stops -/

/-- The Ripener state byte (R155). -/
def Rip.code (r : Rip) : Nat :=
  if r.faulted then 4 else if !r.run then 0 else if r.hostPause || r.dbgPause then 2 else if r.handler.isSome then 3 else 1

/-- The address that STAT.PC shows (Table RIP-4). -/
def Rip.pcShown (r : Rip) : Nat := if r.faulted then r.fpc else r.ctx.pc % 8192

/-- A Ripener stopped, as by RIPEN STOP: outputs hold; latches, frame, timed instruction and fades go (R252, R255). -/
def Rip.stopped (r : Rip) : Rip :=
  { r with
    run := false, faulted := false, fcause := 0, handler := none, latch := [], frame := none, fades := [], newFades := [],
    budget := none, ctx := { r.ctx with timed := none, waiting := false } }

/-- A culture fault (R258); one in a handler discards the frame (R253). -/
def Dev.ripFault (s : Dev) (n cause pc : Nat) : Dev :=
  let r := s.ripOf n
  let s := s.setRip n { r with
    run := false, faulted := true, fcause := cause, fpc := pc, handler := none, frame := none, fades := [], newFades := [],
    budget := none, ctx := { r.ctx with timed := none, waiting := false } }
  (s.setFlag 0x4008 n).eventOk 0x0602 (n + 65536 * pc)

/-- The fault causes of STAT.FCAUSE (Table RIP-4). -/
def fcIllegal : Nat := 1
def fcPcRange : Nat := 2
def fcRetMain : Nat := 3
def fcGroup : Nat := 4
def fcSelect : Nat := 5
def fcZeroT : Nat := 6

/-! ### Triggers -/

/-- The context with which a handler starts (R252). -/
def handlerCtx (entry positions : Nat) : Ctx := ⟨entry, 0, positions, .steps, 0, none, none, [], false, 0, 0⟩

/-- The lowest-numbered handler with an occupied latch. -/
def Rip.firstLatch (r : Rip) : Option (Fin 4) := (List.finRange 4).find? (fun h => r.latched h)

/-- A handler starts: its latch empties into A3 and it begins at ENTRY (R252). -/
def Dev.startHandler (s : Dev) (n : Nat) (h : Fin 4) : Dev :=
  s.modRip n (fun r => { r with
    latch := tabSet none r.latch h none,
    regs := tabSet 0 r.regs 3 ((tabGet none r.latch h).getD 0),
    handler := some h,
    ctx := handlerCtx (s.rf (bindOff n h + 4) 12 0) r.group.length })

/-- Preemption at step 2 of R241: the context is saved with its elapsed time and the handler starts (R252). -/
def Dev.preempt (s : Dev) (n : Nat) (t : Int) : Dev :=
  let r := s.ripOf n
  match r.handler, r.firstLatch with
  | none, some h =>
    let f := { r.ctx with timed := r.ctx.timed.map (fun tm => { tm with ep := (t - tm.t0).toNat }) }
    (s.setRip n { r with frame := some f }).startHandler n h
  | _, _ => s

/-! ### The step -/

/-- Fades at the end of a step: each that did not start in it lowers its position by RATE / 256 until 0 (R247). -/
def Rip.fadeStep (r : Rip) : Rip :=
  let r := r.fades.foldl (fun (r : Rip) e =>
    if tabGet false r.newFades e.1 then r
    else
      let v := tabGet 0 r.outs e.1 - e.2
      { r with outs := tabSet 0 r.outs e.1 v, fades := if v = 0 then tabSet 0 r.fades e.1 0 else r.fades }) r
  { r with newFades := [] }

/-- The end of a Ripener's step: timed levels and fades (R241). -/
def Dev.ripClose (s : Dev) (n : Nat) : Dev :=
  let r := s.ripOf n
  let t : Int := r.lastStep
  let r := match r.ctx.timed with
    | some tm => r.writeSel r.ctx (fun si i => s.timedLevel tm si i (t - tm.t0).toNat)
    | none => r
  let r := r.fadeStep
  s.setRip n { r with budget := none }

/-- Whether Table RIP-1 lists an opcode. -/
def ripListed (op : Nat) : Bool := decide (op ≤ 0x0D) || (decide (0x10 ≤ op) && decide (op ≤ 0x17))

/-- The culture word at PC. -/
def Dev.ripWord (s : Dev) (n : Nat) : Word := s.cultWord (s.ripOf n).ctx.pc

/-- What comes after an instruction: a timed one that has ended completes and counts; then the step ends at the limit of sixteen, at a
timed instruction in progress or at a fault, or the next instruction may execute (R241). -/
def Dev.ripNext (s : Dev) (n : Nat) : Dev :=
  let r := s.ripOf n
  match r.budget with
  | none => s
  | some _ =>
    let t : Int := r.lastStep
    let s := if r.ctx.timed.any (fun tm => timedEnded tm t) then
        (s.finishTimed n).modRip n (fun r => { r with budget := r.budget.map (· - 1) })
      else s
    let r := s.ripOf n
    if 8191 < r.ctx.pc then s.ripFault n fcPcRange 8191
    else if r.budget = some 0 || r.ctx.timed.isSome then s.ripClose n
    else if ripListed (fieldOf (s.ripWord n) 31 26) then s
    else s.ripFault n fcIllegal r.ctx.pc

/-- A RIPEN action that acts completes: at the step tick, with state byte and PC (Table DSC-6). -/
def Dev.ripenDone (s : Dev) (n : Nat) (j : Job) (st : Status) : Dev :=
  let r := s.ripOf n
  s.complete j st (BitVec.ofNat 48 r.lastStep) (r.code + 65536 * r.pcShown)

/-- The channels of the group list at GBASE, or none when the list is invalid (R239). -/
def Dev.groupList (s : Dev) (n : Nat) : Option (List Nat) :=
  let o := 0x4100 + 0x40 * n
  let base := s.rf o 12 0
  let cnt := s.rf o 24 16
  let cs := (upTo cnt).map (fun p =>
    let w := s.cultWord (base + p / 2)
    if p % 2 = 0 then fieldOf w 15 0 else fieldOf w 31 16)
  if base + (cnt + 1) / 2 ≤ 8192 && cs.all (fun c => decide (c ≤ 1039)) && cs.Nodup then some cs else none

/-- START: the culture begins (R239, R240, R244). -/
def Dev.ripStart (s : Dev) (n : Nat) (j : Job) : Dev :=
  let r := s.ripOf n
  let entry := j.d.v 14 2 % 8192
  if r.faulted then s.ripenDone n j .faulted
  else if r.run || s.inHold then s.ripenDone n j .state
  else match s.groupList n with
    | none => (s.ripFault n fcGroup entry).ripenDone n j .faulted
    | some cs =>
      let outs := cs.zipIdx.foldl (fun m e => tabSet 0 m e.2 (256 * (s.chanOf e.1).level.toNat)) ([] : Tab Nat)
      (s.setRip n { r with
        run := true, handler := none, latch := [], fcause := 0, mask := 0, frame := none, group := cs, outs := outs,
        fades := [], newFades := [], regs := tabSet 0 [] 0 (BitVec.ofNat 32 (j.d.v 20 4)),
        ctx := handlerCtx entry cs.length }).ripenDone n j .ok

/-- STOP: state 0 from any state (R255). -/
def Dev.ripStopAct (s : Dev) (n : Nat) (j : Job) : Dev := (s.modRip n Rip.stopped).ripenDone n j .ok

/-- PAUSE sets the host pause (R255). -/
def Dev.ripPause (s : Dev) (n : Nat) (j : Job) : Dev :=
  let r := s.ripOf n
  if r.faulted then s.ripenDone n j .faulted
  else if s.inHold then s.ripenDone n j .state
  else (s.setRip n { r with hostPause := true }).ripenDone n j .ok

/-- RESUME clears the host pause; STATE unless the Ripener is paused (R155, R255). -/
def Dev.ripResume (s : Dev) (n : Nat) (j : Job) : Dev :=
  let r := s.ripOf n
  if r.faulted then s.ripenDone n j .faulted
  else if s.inHold || !r.hostPause then s.ripenDone n j .state
  else (s.setRip n { r with hostPause := false }).ripenDone n j .ok

/-- TRIGGER: latched, or FULL and counted at an occupied latch (R155, R251, R252). -/
def Dev.ripTrigger (s : Dev) (n : Nat) (j : Job) : Dev :=
  let r := s.ripOf n
  let h := j.d.b 16 % 4
  if r.faulted then s.ripenDone n j .faulted
  else if s.inHold || !s.rb (bindOff n h) 0 then s.ripenDone n j .state
  else
    let full := r.latched h
    (s.latchTrigger n h (BitVec.ofNat 32 (j.d.v 20 4))).ripenDone n j (if full then .full else .ok)

/-- One waiting RIPEN action, by its ACTION byte (Table DSC-7). -/
def Dev.ripAct (s : Dev) (n : Nat) (j : Job) : Dev :=
  match j.d.b 13 with
  | 0 => s.ripStart n j
  | 1 => s.ripStopAct n j
  | 2 => s.ripPause n j
  | 3 => s.ripResume n j
  | _ => s.ripTrigger n j

/-- The RIPEN actions that wait for this Ripener, in the order of acceptance (R255). -/
def Dev.ripActs (s : Dev) (n : Nat) : Dev :=
  let p (f : Flight) : Bool := f.await = .ripen n
  (s.ring.flights.filter p).foldl (fun s f => s.ripAct n f.job) (s.dropFlights p)

/-- A context moved by the length of a pause: a timed instruction in steps keeps its elapsed time (R255). -/
def ctxPauseBy (c : Ctx) (by_ : Int) : Ctx :=
  { c with timed := c.timed.map (fun tm => if tm.subs then tm else { tm with t0 := tm.t0 + by_, e := tm.e + by_ }) }

/-- The grid of Ripener steps at this tick (R241, R243). -/
def Dev.ripStepNow (s : Dev) : Bool := s.clk.running && s.gridNow 512 0

/-- Whether a Ripener step is due (R241): a twin shadow's Ripeners do not step (R349). -/
def Dev.ripStepDue (s : Dev) (n : Nat) : Bool :=
  s.enginesOn && s.pwr.mode ≠ .shadow && s.ripStepNow && !s.isServed (.ripStep n)

/-- A Ripener's step: committed curves, RIPEN actions, timed completion, preemption; then instructions execute (R241, R255, R259). -/
def Dev.ripStep (s : Dev) (n : Nat) : Dev :=
  if !s.ripStepDue n then s
  else
    let s := (s.serve (.ripStep n)).applyDue (fun o => decide (0x4900 ≤ o) && decide (o < 0x4A00))
    let t := s.wheelN - s.wheelN % 512
    let s := s.modRip n (fun r =>
      if r.paused then
        let by_ : Int := (t : Int) - r.lastStep
        { r with lastStep := t, ctx := ctxPauseBy r.ctx by_, frame := r.frame.map (fun c => ctxPauseBy c by_) }
      else { r with lastStep := t })
    let s := s.ripActs n
    let r := s.ripOf n
    if !r.run || r.paused then s.setRip n { r with budget := none }
    else
      let s := s.setRip n { r with budget := some 16 }
      let s := if r.ctx.timed.any (fun tm => timedEnded tm t) then
          (s.finishTimed n).modRip n (fun r => { r with budget := r.budget.map (· - 1) })
        else s
      (s.preempt n t).ripNext n

/-! ### Instructions -/

/-- An instruction executes: the step is open and the word at PC has the opcode. Its body gets the word; what follows is R241's. -/
def Dev.ripExec (s : Dev) (n op : Nat) (body : Dev → Word → Dev) : Dev :=
  let r := s.ripOf n
  let w := s.ripWord n
  if r.budget.isSome && r.budget ≠ some 0 && r.ctx.timed.isNone && fieldOf w 31 26 = op && decide (r.ctx.pc ≤ 8191) then
    let s := s.setRip n { r with budget := r.budget.map (· - 1), ctx := { r.ctx with waiting := r.ctx.waiting && op = 0x14 } }
    (body s w).ripNext n
  else s

/-- A culture fault at the present instruction. -/
def Dev.ripIllegal (s : Dev) (n : Nat) : Dev := s.ripFault n fcIllegal (s.ripOf n).ctx.pc

/-- Whether the bits of a word under a mask are all 0. -/
def clear (w : Word) (mask : Nat) : Bool := w &&& BitVec.ofNat 32 mask = 0

/-- PC goes to the next word. -/
def Dev.ripAdv (s : Dev) (n : Nat) : Dev := s.modRip n (fun r => { r with ctx := { r.ctx with pc := r.ctx.pc + 1 } })

/-- PC set by a jump. -/
def Dev.ripGo (s : Dev) (n a : Nat) : Dev := s.modRip n (fun r => { r with ctx := { r.ctx with pc := a } })

/-- Register A[k]. -/
def Rip.a (r : Rip) (k : Nat) : Word := tabGet 0 r.regs k

/-- Register A[k] written, and PC goes on. -/
def Dev.ripSetA (s : Dev) (n k : Nat) (v : Word) : Dev :=
  (s.modRip n (fun r => { r with regs := tabSet 0 r.regs k v })).ripAdv n

/-- An instruction whose reserved bits must be 0, with an effect and the next PC (R245). -/
def Dev.ripPlain (n res : Nat) (f : Dev → Word → Dev) (s : Dev) (w : Word) : Dev :=
  if clear w res then f s w else s.ripIllegal n

/-- NOP (Table RIP-1). -/
def Dev.ripNop (s : Dev) (n : Nat) : Dev := s.ripExec n 0x00 (Dev.ripPlain n 0x03FFFFFF (fun s _ => s.ripAdv n))

/-- STOP, as RIPEN STOP (Table RIP-1). -/
def Dev.ripStopI (s : Dev) (n : Nat) : Dev :=
  s.ripExec n 0x01 (Dev.ripPlain n 0x03FFFFFF (fun s _ => s.modRip n Rip.stopped))

/-- JMP. -/
def Dev.ripJmp (s : Dev) (n : Nat) : Dev :=
  s.ripExec n 0x02 (Dev.ripPlain n 0x03FFE000 (fun s w => s.ripGo n (fieldOf w 12 0)))

/-- DJNZ. -/
def Dev.ripDjnz (s : Dev) (n : Nat) : Dev :=
  s.ripExec n 0x03 (Dev.ripPlain n 0x00FFE000 (fun s w =>
    let k := fieldOf w 25 24
    let v := (s.ripOf n).a k - 1
    let s := s.ripSetA n k v
    if v = 0 then s else s.ripGo n (fieldOf w 12 0)))

/-- JZ. -/
def Dev.ripJz (s : Dev) (n : Nat) : Dev :=
  s.ripExec n 0x04 (Dev.ripPlain n 0x00FFE000 (fun s w =>
    if (s.ripOf n).a (fieldOf w 25 24) = 0 then s.ripGo n (fieldOf w 12 0) else s.ripAdv n))

/-- LDI. -/
def Dev.ripLdi (s : Dev) (n : Nat) : Dev :=
  s.ripExec n 0x05 (Dev.ripPlain n 0x00FE0000 (fun s w =>
    let k := fieldOf w 25 24
    let v := if w.toNat.testBit 16 then setField ((s.ripOf n).a k) 31 16 (fieldOf w 15 0) else BitVec.ofNat 32 (fieldOf w 15 0)
    s.ripSetA n k v))

/-- ADDI. -/
def Dev.ripAddi (s : Dev) (n : Nat) : Dev :=
  s.ripExec n 0x06 (Dev.ripPlain n 0x003F0000 (fun s w =>
    s.ripSetA n (fieldOf w 25 24) ((s.ripOf n).a (fieldOf w 23 22) + BitVec.ofInt 32 (signed (fieldOf w 15 0) 16))))

/-- MULI, held at 2^32 − 1. -/
def Dev.ripMuli (s : Dev) (n : Nat) : Dev :=
  s.ripExec n 0x07 (Dev.ripPlain n 0x003F0000 (fun s w =>
    s.ripSetA n (fieldOf w 25 24) (BitVec.ofNat 32 (satN 32 (((s.ripOf n).a (fieldOf w 23 22)).toNat * fieldOf w 15 0)))))

/-- EXT, with W from 1 to 16. -/
def Dev.ripExt (s : Dev) (n : Nat) : Dev :=
  s.ripExec n 0x08 (Dev.ripPlain n 0x0020FFE0 (fun s w =>
    let k := fieldOf w 4 0
    if k = 0 || decide (16 < k) then s.ripIllegal n
    else s.ripSetA n (fieldOf w 25 24)
      (BitVec.ofNat 32 (((s.ripOf n).a (fieldOf w 23 22)).toNat / 2 ^ fieldOf w 20 16 % 2 ^ k))))

/-- A selection set, or the SELECT fault when it reaches beyond the group (R246). -/
def Dev.ripSelect (s : Dev) (n first count : Nat) : Dev :=
  let r := s.ripOf n
  if r.group.length < first + count then s.ripFault n fcSelect r.ctx.pc
  else (s.setRip n { r with ctx := { r.ctx with selFirst := first, selCount := count } }).ripAdv n

/-- SEL. -/
def Dev.ripSel (s : Dev) (n : Nat) : Dev :=
  s.ripExec n 0x09 (Dev.ripPlain n 0x003F0000 (fun s w =>
    let r := s.ripOf n
    match fieldOf w 25 24 with
    | 0 => s.ripSelect n 0 r.group.length
    | 1 => s.ripSelect n (fieldOf w 15 8) (fieldOf w 7 0 + 1)
    | 2 => s.ripSelect n (fieldOf (r.a (fieldOf w 23 22)) 7 0) (fieldOf w 7 0 + 1)
    | _ => s.ripIllegal n))

/-- Every selected position at one level; their fades end (Table RIP-1). -/
def Dev.ripSetLevel (s : Dev) (n v : Nat) : Dev :=
  (s.modRip n (fun r => (r.writeSel r.ctx (fun _ _ => v)).endFades r.ctx)).ripAdv n

/-- SET. -/
def Dev.ripSet (s : Dev) (n : Nat) : Dev :=
  s.ripExec n 0x0A (Dev.ripPlain n 0x03FF0000 (fun s w => s.ripSetLevel n (fieldOf w 15 0)))

/-- SETR. -/
def Dev.ripSetr (s : Dev) (n : Nat) : Dev :=
  s.ripExec n 0x0B (Dev.ripPlain n 0x00FFFFFF (fun s w => s.ripSetLevel n (min ((s.ripOf n).a (fieldOf w 25 24)).toNat 65535)))

/-- FADE (R247). -/
def Dev.ripFade (s : Dev) (n : Nat) : Dev :=
  s.ripExec n 0x0C (Dev.ripPlain n 0x03FF0000 (fun s w =>
    let rate := fieldOf w 15 0
    (s.modRip n (fun r =>
      let r := r.endFades r.ctx
      if rate = 0 then r
      else { r with
        fades := forEach (upTo r.ctx.selCount) (fun m i => tabSet 0 m (r.ctx.selFirst + i) rate) r.fades,
        newFades := forEach (upTo r.ctx.selCount) (fun m i => tabSet false m (r.ctx.selFirst + i) true) r.newFades })).ripAdv n))

/-- T set, and PC goes on. -/
def Dev.ripSetT (s : Dev) (n : Nat) (u : TUnit) (v : Nat) : Dev :=
  (s.modRip n (fun r => { r with ctx := { r.ctx with tUnit := u, tVal := v } })).ripAdv n

/-- TIME. -/
def Dev.ripTime (s : Dev) (n : Nat) : Dev :=
  s.ripExec n 0x0D (fun s w =>
    match fieldOf w 25 24 with
    | 0 => s.ripSetT n .steps (fieldOf w 23 0)
    | 1 => s.ripSetT n .subs (fieldOf w 23 0)
    | 2 =>
      if clear w 0x00FFFFFC then s.ripSetT n .steps (min ((s.ripOf n).a (fieldOf w 1 0)).toNat (2 ^ 24 - 1))
      else s.ripIllegal n
    | _ => s.ripIllegal n)

/-- The time of the k-th subdivision boundary after a time, on the beat grid in force (R39, R248). -/
def Tempo.boundaryAfter (t : Tempo) (t0 : Int) (k : Nat) : Int :=
  let den : Int := t.sNow * 65536
  let i0 : Int := Int.fdiv ((t0 - t.a + 1) * den - 1) (max t.pq 1)
  t.a + Int.fdiv ((i0 + k) * t.pq) den

/-- Whether a duration in subdivisions has a beat grid to stand on (R248). -/
def Dev.subsRun (s : Dev) : Bool := (s.tempo.st = .run || s.tempo.st = .hold) && s.tempo.anchored

/-- A timed instruction starts (R246, R248, R249): it waits for the Tempo unit, faults on a cycle of length 0, ends at once, or runs. -/
def Dev.ripTimed (s : Dev) (n : Nat) (kind : TimedKind) (w : Word) (curve target cyc spacing : Nat) : Dev :=
  let r := s.ripOf n
  let c := r.ctx
  let cyclic := kind = .breathe || kind = .wave
  if fieldOf w 25 24 = 3 then s.ripIllegal n
  else if cyclic && c.tVal = 0 then s.ripFault n fcZeroT c.pc
  else if c.tUnit = .subs && !s.subsRun then s.ripClose n
  else
    let t : Int := r.lastStep
    let t0 := c.anchor.getD t
    let e1 := if c.tVal = 0 then t0 else match c.tUnit with
      | .steps => t0 + 512 * c.tVal
      | .subs => s.tempo.boundaryAfter t0 c.tVal
    let d := (e1 - t0).toNat
    if cyclic && d = 0 then s.ripFault n fcZeroT c.pc
    else
      let a0 := r.a 0
      let tm : Timed := ⟨kind, fieldOf w 25 24, curve, target, cyc, spacing, fieldOf a0 15 0, fieldOf a0 31 16, t0,
        if cyclic then t0 + cyc * d else e1, d, 0, c.tUnit = .subs⟩
      let r := r.endFades c
      let s := s.setRip n { r with ctx := { c with anchor := none, timed := some tm, starts := r.takeStarts c } }
      if timedEnded tm t then s.finishTimed n else s

/-- RAMP. -/
def Dev.ripRamp (s : Dev) (n : Nat) : Dev :=
  s.ripExec n 0x10 (Dev.ripPlain n 0x001F0000 (fun s w => s.ripTimed n .ramp w (fieldOf w 23 21) (fieldOf w 15 0) 1 0))

/-- HOLD. -/
def Dev.ripHold (s : Dev) (n : Nat) : Dev :=
  s.ripExec n 0x11 (Dev.ripPlain n 0x00FFFFFF (fun s w => s.ripTimed n .hold w 0 0 1 0))

/-- BREATHE. -/
def Dev.ripBreathe (s : Dev) (n : Nat) : Dev :=
  s.ripExec n 0x12 (fun s w => s.ripTimed n .breathe w (fieldOf w 23 21) (fieldOf w 15 0) (fieldOf w 20 16) 0)

/-- WAVE. -/
def Dev.ripWave (s : Dev) (n : Nat) : Dev :=
  s.ripExec n 0x13 (Dev.ripPlain n 0x001F0000 (fun s w =>
    s.ripTimed n .wave w (fieldOf w 23 21) 0 (fieldOf w 7 0) (fieldOf w 15 8)))

/-- WAIT (R249). -/
def Dev.ripWait (s : Dev) (n : Nat) : Dev :=
  s.ripExec n 0x14 (Dev.ripPlain n 0x03FF00F0 (fun s w =>
    let src := fieldOf w 3 0
    let count := fieldOf w 15 8
    if decide (3 < src) || (src = 0 && count ≠ 0) || (src ≠ 0 && count = 0) then s.ripIllegal n
    else
      let r := s.ripOf n
      if !r.ctx.waiting then
        (s.setRip n { r with ctx := { r.ctx with waiting := true, waitCnt := 0, waitFrom := r.lastStep } }).ripClose n
      else
        if src ≠ 0 && decide (count ≤ r.ctx.waitCnt) then (s.setRip n { r with ctx := { r.ctx with waiting := false } }).ripAdv n
        else s.ripClose n))

/-- EMIT: event RIP_EVENT. -/
def Dev.ripEmit (s : Dev) (n : Nat) : Dev :=
  s.ripExec n 0x15 (Dev.ripPlain n 0x00FFFFFF (fun s w =>
    (s.eventOk 0x0603 (n + 65536 * ((s.ripOf n).a (fieldOf w 25 24)).toNat)).ripAdv n))

/-- MASK (R251). -/
def Dev.ripMask (s : Dev) (n : Nat) : Dev :=
  s.ripExec n 0x16 (Dev.ripPlain n 0x03FFFFF0 (fun s w =>
    (s.modRip n (fun r => { r with mask := BitVec.ofNat 4 (fieldOf w 3 0) })).ripAdv n))

/-- The frame restored, and its timed instruction resumed under its RES (R253). -/
def Dev.ripRestore (s : Dev) (n : Nat) (f : Ctx) : Dev :=
  let r := s.ripOf n
  let t : Int := r.lastStep
  let r := { r with handler := none, frame := none }
  match f.timed with
  | none => s.setRip n { r with ctx := f }
  | some tm =>
    match tm.res with
    | 0 => s.setRip n { (r.endFades f) with ctx := f }
    | 1 =>
      let r := r.endFades f
      match tm.kind with
      | .ramp | .hold =>
        let e := t + tm.e - tm.t0 - tm.ep
        s.setRip n { r with ctx := { f with
          starts := r.takeStarts f, timed := some { tm with t0 := t, e := e, dur := (e - t).toNat } } }
      | .breathe | .wave =>
        let away := t - (tm.t0 + tm.ep)
        s.setRip n { r with ctx := { f with timed := some { tm with t0 := tm.t0 + away, e := tm.e + away } } }
    | _ => s.setRip n { r with ctx := { f with timed := none, pc := f.pc + 1 } }

/-- RET (R253). -/
def Dev.ripRet (s : Dev) (n : Nat) : Dev :=
  s.ripExec n 0x17 (Dev.ripPlain n 0x03FFFFFF (fun s _ =>
    let r := s.ripOf n
    match r.handler, r.frame with
    | some _, some f =>
      match r.firstLatch with
      | some h => s.startHandler n h
      | none => s.ripRestore n f
    | _, _ => s.ripFault n fcRetMain r.ctx.pc))

/-! ### The rows -/

/-- RIPENER_STEP (R241). -/
def execRipenerStep (n : Fin 12) (s : State) : Host.Outcome State Fault Refusal := onDev (fun s => s.ripStep n) s
def execRipNop (n : Fin 12) (s : State) : Host.Outcome State Fault Refusal := onDev (fun s => s.ripNop n) s
def execRipStop (n : Fin 12) (s : State) : Host.Outcome State Fault Refusal := onDev (fun s => s.ripStopI n) s
def execRipJmp (n : Fin 12) (s : State) : Host.Outcome State Fault Refusal := onDev (fun s => s.ripJmp n) s
def execRipDjnz (n : Fin 12) (s : State) : Host.Outcome State Fault Refusal := onDev (fun s => s.ripDjnz n) s
def execRipJz (n : Fin 12) (s : State) : Host.Outcome State Fault Refusal := onDev (fun s => s.ripJz n) s
def execRipLdi (n : Fin 12) (s : State) : Host.Outcome State Fault Refusal := onDev (fun s => s.ripLdi n) s
def execRipAddi (n : Fin 12) (s : State) : Host.Outcome State Fault Refusal := onDev (fun s => s.ripAddi n) s
def execRipMuli (n : Fin 12) (s : State) : Host.Outcome State Fault Refusal := onDev (fun s => s.ripMuli n) s
def execRipExt (n : Fin 12) (s : State) : Host.Outcome State Fault Refusal := onDev (fun s => s.ripExt n) s
def execRipSel (n : Fin 12) (s : State) : Host.Outcome State Fault Refusal := onDev (fun s => s.ripSel n) s
def execRipSet (n : Fin 12) (s : State) : Host.Outcome State Fault Refusal := onDev (fun s => s.ripSet n) s
def execRipSetr (n : Fin 12) (s : State) : Host.Outcome State Fault Refusal := onDev (fun s => s.ripSetr n) s
def execRipFade (n : Fin 12) (s : State) : Host.Outcome State Fault Refusal := onDev (fun s => s.ripFade n) s
def execRipTime (n : Fin 12) (s : State) : Host.Outcome State Fault Refusal := onDev (fun s => s.ripTime n) s
def execRipRamp (n : Fin 12) (s : State) : Host.Outcome State Fault Refusal := onDev (fun s => s.ripRamp n) s
def execRipHold (n : Fin 12) (s : State) : Host.Outcome State Fault Refusal := onDev (fun s => s.ripHold n) s
def execRipBreathe (n : Fin 12) (s : State) : Host.Outcome State Fault Refusal := onDev (fun s => s.ripBreathe n) s
def execRipWave (n : Fin 12) (s : State) : Host.Outcome State Fault Refusal := onDev (fun s => s.ripWave n) s
def execRipWait (n : Fin 12) (s : State) : Host.Outcome State Fault Refusal := onDev (fun s => s.ripWait n) s
def execRipEmit (n : Fin 12) (s : State) : Host.Outcome State Fault Refusal := onDev (fun s => s.ripEmit n) s
def execRipMask (n : Fin 12) (s : State) : Host.Outcome State Fault Refusal := onDev (fun s => s.ripMask n) s
def execRipRet (n : Fin 12) (s : State) : Host.Outcome State Fault Refusal := onDev (fun s => s.ripRet n) s

end Sys2Proof.Machine
end

