-- ==== Sys2Proof/Machine/Harps.lean ====
section
/-! DEFINITION. Chapter 10: the Harps' clocks, pins, start and stop, queues, MARK events, and every Harp instruction (R261 to R279,
Tables HRP-1 to HRP-3). -/

namespace Sys2Proof.Machine

/-! ### Registers of a Harp -/

/-- The first register of Harp n (Table HRP-5). -/
def hrpOff (n : Nat) : Nat := 0x5100 + 0x40 * n

/-- The instruction at an address of Harp n. -/
def Dev.harpInstr (s : Dev) (n pc : Nat) : Nat :=
  let o := 0x5400 + 0x40 * n + 4 * (pc / 2)
  if pc % 2 = 0 then s.rf o 15 0 else s.rf o 31 16

/-- DIV of Harp n, at least 256 (R262). -/
def Dev.harpDiv (s : Dev) (n : Nat) : Nat := max 256 (s.rf (hrpOff n + 4) 23 0)

/-- Depths of the TX and the RX queue (R273). -/
def Dev.txDepth (s : Dev) (n : Nat) : Nat := match s.rf (hrpOff n) 17 16 with
  | 0 => 8
  | 1 => 16
  | _ => 0
def Dev.rxDepth (s : Dev) (n : Nat) : Nat := match s.rf (hrpOff n) 17 16 with
  | 0 => 8
  | 2 => 16
  | _ => 0

/-- Whether the mode lets Harps run (R276). -/
def Dev.harpsRun (s : Dev) : Bool := s.enginesOn && s.pwr.mode ≠ .shadow && !(s.inHold && s.hasCause causeLimp)

/-! ### Pins -/

/-- The owner code of a pin: 0 to 7, 8 none (R263). -/
def Dev.pinOwner (s : Dev) (p : Nat) : Nat := s.rf (0x5010 + 4 * (p / 8)) (4 * (p % 8) + 3) (4 * (p % 8))

/-- Window pin i of Harp n (R261). -/
def Dev.pinOf (s : Dev) (n i : Nat) : Nat := (s.rf (hrpOff n) 12 8 + i % 8) % 32

/-- Whether INV is set for a pin. -/
def Dev.pinInv (s : Dev) (p : Nat) : Bool := s.rb (0x5040 + 4 * p) 3

/-- The level that a pin reads: its filtered level after INV, 0 for a pin without owner and while VIO_H is in lockout (R62, R265). -/
def Dev.pinLevel (s : Dev) (p : Nat) : Bool :=
  decide (s.pinOwner p < 8) && !s.pwr.vioLow && (s.pins.ball.toNat.testBit p != s.pinInv p)

/-- The level that Harp n reads at window index i (R263). -/
def Dev.pinRead (s : Dev) (n i : Nat) : Bool := s.pinOwner (s.pinOf n i) = n && s.pinLevel (s.pinOf n i)

/-- Whether some window pin is not owned by the Harp: STAT.UNOWNED (R263), which holds its reset value 0 on the tick of a reset (R280, log
entry 65). -/
def Dev.harpUnowned (s : Dev) (n : Nat) : Bool := s.pins.judged && (upTo 8).any (fun i => s.pinOwner (s.pinOf n i) ≠ n)

/-- Bit p of a word of pins. -/
def setBitTo (w : BitVec 32) (p : Nat) (v : Bool) : BitVec 32 :=
  if v then w ||| BitVec.ofNat 32 (2 ^ p) else w &&& ~~~ BitVec.ofNat 32 (2 ^ p)

/-- An owned window pin driven to a value, or made a high-Z input (R265). -/
def Dev.drivePin (s : Dev) (n i : Nat) (v : Option Bool) : Dev :=
  let p := s.pinOf n i
  if s.pinOwner p = n then
    { s with pins := match v with
      | some b => { s.pins with drive := setBitTo s.pins.drive p true, value := setBitTo s.pins.value p b }
      | none => { s.pins with drive := setBitTo s.pins.drive p false } }
  else s

/-- Every pin of a mask made a high-Z input (R93, R264). -/
def Dev.floatPins (s : Dev) (m : BitVec 32) : Dev := { s with pins := { s.pins with drive := s.pins.drive &&& ~~~ m } }

/-- Whether a pin's driver is on: owned and driven, VIO_H up, and not a released open-drain 1 (R62, R264, R265); in DOZE, as HIO holds it (R59,
R276). -/
def Dev.pinDriven (s : Dev) (p : Nat) : Bool :=
  !s.pwr.vioLow && match s.pins.held with
    | some (d, _) => d.toNat.testBit p
    | none => decide (s.pinOwner p < 8) && s.pins.drive.toNat.testBit p && !(s.rb (0x5040 + 4 * p) 0 && s.pins.value.toNat.testBit p)

/-- The level that a driven pin puts on its ball (R265); in DOZE, as HIO holds it (R59, R276). -/
def Dev.pinOut (s : Dev) (p : Nat) : Bool :=
  match s.pins.held with
  | some (_, v) => v.toNat.testBit p
  | none => s.pins.value.toNat.testBit p != s.pinInv p

/-- An edge at window index i sets its latch (R271). -/
def Harp.latchEdge (h : Harp) (i : Nat) (rising : Bool) (now : Nat) (w : Word) : Harp :=
  if rising then { h with rise := tabSet none h.rise i (some (now, w)) } else { h with fall := tabSet none h.fall i (some (now, w)) }

/-- Both latches of a window pin cleared. -/
def Harp.clearLatch (h : Harp) (i : Nat) : Harp :=
  { h with fall := tabSet none h.fall i none, rise := tabSet none h.rise i none }

/-- Wheel[31:0]. -/
def Dev.wheel32 (s : Dev) : Word := s.clk.wheel.setWidth 32

/-- A pin's reading takes an edge: the owner's latch, while that Harp runs (R271). -/
def Dev.pinEdge (s : Dev) (p : Nat) (rising : Bool) : Dev :=
  let n := s.pinOwner p
  let h := s.harpOf n
  if n < 8 && (h.st = 1 || h.st = 2 || h.st = 4) then
    match (upTo 8).find? (fun i => s.pinOf n i = p) with
    | some i => s.setHarp n (h.latchEdge i rising s.clk.now s.wheel32)
    | none => s
  else s

/-! ### Input sampling (R265) -/

/-- What something outside drives a ball to. -/
def Dev.extOf (s : Dev) (p : Nat) : Option Bool := tabGet none s.pins.ext p

/-- The level at a ball that nothing outside drives, of a pin with its own driver off: its pull's, or none where the device defines no
level. -/
def Dev.pullLevel (s : Dev) (p : Nat) : Option Bool :=
  match s.rf (0x5040 + 4 * p) 2 1 with
  | 1 => some false
  | 2 => some true
  | _ => none

/-- The level at a ball: the device's own output, unless a push-pull output is driven against from outside, else what the outside drives it to,
else its pull's; none where the device does not define it (R265). -/
def Dev.ballLevel (s : Dev) (p : Nat) : Option Bool :=
  if s.pinDriven p then
    match s.extOf p with
    | some b => if b = s.pinOut p || s.rb (0x5040 + 4 * p) 0 then some (s.pinOut p) else none
    | none => some (s.pinOut p)
  else (s.extOf p).or (s.pullLevel p)

/-- Whether a pin's input buffer is on for the synchroniser: it has an owner, or is the partner-fault pin (R264, R342); HIO without VIO_H has
none (R62). -/
def Dev.pinSampled (s : Dev) (p : Nat) : Bool :=
  !s.pwr.vioLow && (decide (s.pinOwner p < 8) || (s.rb 0x7800 5 && s.rf 0x7800 4 0 = p))

/-- A pin's ball sampled: an undefined level is a free value (R265). -/
def Dev.samplePin (s : Dev) (p : Nat) : Dev :=
  if !s.pinSampled p then s
  else
    let (v, s) : Bool × Dev := match s.ballLevel p with
      | some b => (b, s)
      | none => ((s.draw).1.getLsbD 0, (s.draw).2)
    if s.pins.syncd.toNat.testBit p = v then s
    else { s with pins := { s.pins with syncd := setBitTo s.pins.syncd p v, since := tabSet 0 s.pins.since p s.clk.now } }

/-- The samples of a tick. -/
def Dev.pinTick (s : Dev) : Dev :=
  let s : Dev := { s with pins := { s.pins with judged := true } }
  forEach (upTo 32) (fun s p => s.samplePin p) s

/-- Ticks for which a new level must show before the filtered sample takes it: an output pin is read as the synchroniser samples it. -/
def Dev.filtTicks (s : Dev) (p : Nat) : Nat :=
  let k := s.rf (0x5040 + 4 * p) 6 4
  if k = 0 || s.pinDriven p then 1 else 4 * 2 ^ k

/-- Whether the filtered sample of a pin takes a new level on this tick. -/
def Dev.filtDue (s : Dev) (p : Nat) : Bool :=
  decide (s.pinOwner p < 8) && !s.pwr.vioLow && s.pins.syncd.toNat.testBit p != s.pins.ball.toNat.testBit p &&
    decide (tabGet 0 s.pins.since p + s.filtTicks p ≤ s.clk.now + 1)

/-- The filtered level of a ball changes (R265, R271). -/
def Dev.ballEdge (s : Dev) (p : Nat) (level : Bool) : Dev :=
  let old := s.pinLevel p
  let s := { s with pins := { s.pins with ball := setBitTo s.pins.ball p level } }
  let new := s.pinLevel p
  if old = new then s else s.pinEdge p new

/-- A pin's ball with what the outside drives it to, and its filtered sample (R265, R271). -/
def Dev.pinSignal (s : Dev) (p : Nat) (level : Option Bool) : Dev :=
  let s := if s.extOf p = level then s
    else
      let s : Dev := { s with pins := { s.pins with ext := tabSet none s.pins.ext p level } }
      if s.coreOn then s.samplePin p else s
  if s.coreOn && s.filtDue p then s.ballEdge p (s.pins.syncd.toNat.testBit p) else s

/-! ### MARKs -/

/-- A MARK at the colour loops that name the Harp (R223). -/
def Dev.markColour (s : Dev) (harp code : Nat) (w : Word) : Dev :=
  forEach (upTo 8) (fun s k =>
    let o := 0x3840 + 0x40 * k
    if s.rb o 8 && s.rf o 11 9 = harp && code = 0xC0 + k then
      s.modCls k (fun c => { c with sample := some (fieldOf w 15 0, fieldOf w 23 16) })
    else s) s

/-- A MARK of SRC_HARP that becomes a FAST frame (R378). -/
def Dev.markFast (s : Dev) (harp code : Nat) (w : Word) : Dev :=
  if s.ozh.busy && s.rb 0x8024 0 && s.rf 0x8024 3 1 = harp && ((code ^^^ s.rf 0x8024 15 8) &&& s.rf 0x8024 23 16) = 0 then
    if s.ozh.fastQ.length < 4 then
      s.modOzh (fun z => { z with fastQ := z.fastQ ++ [⟨BitVec.ofNat 8 code, w.setWidth 8, s.clk.now, none, 0⟩] })
    else s.ozhFlag 5
  else s

/-- A MARK delivered to the consumers that R275 names: Ripeners, Tempo unit, colour loops. -/
def Dev.deliverMark (s : Dev) (harp code : Nat) (w : Word) : Dev :=
  ((s.markTriggers harp code w).midiMark harp code s.wheelN).markColour harp code w

/-- A MARK of a Harp: the consumers, the fast radio, and event HARP_MARK with MARK_WHEY (R275, R378). -/
def Dev.harpMark (s : Dev) (n code : Nat) (w : Word) : Dev :=
  let s := (s.deliverMark n code w).markFast n code w
  if s.rb (hrpOff n) 18 then s.eventOk 0x0701 (n + 256 * code + 65536 * w.toNat) else s

/-! ### The clock -/

/-- The tick of Harp clock m (R262). -/
def Harp.clockTick (h : Harp) (div m : Nat) : Nat := h.r + m * div / 256

/-- The tick on which the next instruction executes: its clock, or the next ticks not yet used while the schedule is being caught up
(R262, R271). -/
def Dev.harpNext (s : Dev) (n : Nat) : Nat :=
  let h := s.harpOf n
  max (h.clockTick (s.harpDiv n) h.m) (h.free + h.dly)

/-- Whether Harp n stops at a press of this tick that has not been served: no instruction runs on that tick (R266). -/
def Dev.harpStopping (s : Dev) (n : Nat) : Bool :=
  s.gridNow 4096 0 && !s.isServed .press && !(s.writtenBefore (hrpOff n)).toNat.testBit 0

/-- Whether the instructions of Harp n run (R266, R276). -/
def Dev.harpMay (s : Dev) (n : Nat) : Bool := s.harpsRun && !s.harpStopping n

/-- Whether Harp n executes an instruction on this tick. -/
def Dev.harpDue (s : Dev) (n : Nat) : Bool := s.harpMay n && (s.harpOf n).st = 1 && decide (s.harpNext n ≤ s.clk.now)

/-- The clock of a waiting Harp that falls on this tick, if one does (R271). -/
def Dev.harpClock (s : Dev) (n : Nat) : Option Nat :=
  let h := s.harpOf n
  let div := s.harpDiv n
  if s.clk.now < h.free || s.clk.now < h.r then none
  else
    let j := min (((s.clk.now - h.r + 1) * 256 - 1) / div) (h.m + (s.clk.now - h.free))
    if h.m ≤ j && max (h.clockTick div j) (h.free + (j - h.m)) = s.clk.now then some j else none

/-- The clock restarted at a tick (R262). -/
def Harp.restart (h : Harp) (r : Nat) : Harp := { h with r := r, m := 0, dly := 0 }

/-- PC after an instruction that does not jump (R271). -/
def Dev.harpSeq (s : Dev) (n : Nat) : BitVec 5 :=
  let pc := (s.harpOf n).pc
  if pc.toNat = s.rf (hrpOff n + 8) 12 8 then BitVec.ofNat 5 (s.rf (hrpOff n + 8) 4 0) else pc + 1

/-- PC goes on. -/
def Dev.harpAdv (s : Dev) (n : Nat) : Dev := s.modHarp n (fun h => { h with pc := s.harpSeq n, st := 1 })

/-- An instruction of Harp n: it executes when its clock has come and the opcode is the row's; its body gets the word. -/
def Dev.harpExec (s : Dev) (n : Nat) (is : Nat → Bool) (body : Dev → Nat → Dev) : Dev :=
  let h := s.harpOf n
  let w := s.harpInstr n h.pc.toNat
  if s.harpDue n && is w then body (s.setHarp n { h with m := h.m + 1, dly := 0, free := s.clk.now + 1 }) w else s

/-- Whether an instruction has an opcode. -/
def opIs (op w : Nat) : Bool := w / 4096 = op

/-- Register codes: 0 S, 1 X, 2 Y, 3 T (R261). -/
def Harp.reg (h : Harp) : Nat → Word
  | 0 => h.s
  | 1 => h.x
  | 2 => h.y
  | _ => h.t

/-- A register written. -/
def Harp.setReg (h : Harp) (r : Nat) (v : Word) : Harp :=
  match r with
  | 0 => { h with s := v }
  | 1 => { h with x := v }
  | 2 => { h with y := v }
  | _ => { h with t := v }

/-- A register written, and PC goes on. -/
def Dev.harpSet (s : Dev) (n r : Nat) (v : Word) : Dev := (s.modHarp n (fun h => h.setReg r v)).harpAdv n

/-- The Harp waits at its instruction. -/
def Dev.harpStay (s : Dev) (n : Nat) : Dev := s.modHarp n (fun h => { h with st := 2 })

/-! ### Instructions -/

/-- DLY (Table HRP-1). -/
def Dev.hrpDly (s : Dev) (n : Nat) : Dev :=
  s.harpExec n (opIs 0) (fun s w =>
    (s.modHarp n (fun h => { h with m := h.m + w % 4096, dly := w % 4096 })).harpAdv n)

/-- The WAIT at its condition: a level that holds on a clock, or a latched edge (R271). `none` while it must wait. -/
def Dev.waitNow (s : Dev) (n w : Nat) : Option Dev :=
  let i := bits w 9 7
  let stamp := bitOf w 6
  let h := s.harpOf n
  let edge (e : Option (Nat × Word)) : Option Dev :=
    e.map (fun e =>
      let h := if stamp then { h with t := e.2 } else h
      (s.setHarp n ((h.clearLatch i).restart (e.1 + 1))).harpAdv n)
  let level (b : Bool) : Option Dev :=
    if s.pinRead n i = b then some ((s.setHarp n (if stamp then { h with t := s.wheel32 } else h)).harpAdv n) else none
  match bits w 11 10 with
  | 0 => level false
  | 1 => level true
  | 2 => edge (tabGet none h.fall i)
  | _ => edge (tabGet none h.rise i)

/-- WAIT. -/
def Dev.hrpWait (s : Dev) (n : Nat) : Dev := s.harpExec n (opIs 1) (fun s w => (s.waitNow n w).getD (s.harpStay n))

/-- A clock of a waiting Harp used. -/
def Dev.useClock (s : Dev) (n j : Nat) : Dev := s.modHarp n (fun h => { h with m := j + 1, free := s.clk.now + 1 })

/-- A waiting WAIT completes, if it can (R271): an edge on any tick, a level on a clock. -/
def Dev.waitDone (s : Dev) (n : Nat) : Dev :=
  let h := s.harpOf n
  let w := s.harpInstr n h.pc.toNat
  if s.harpMay n && h.st = 2 && opIs 1 w then
    if bitOf w 11 then (s.waitNow n w).getD s
    else match s.harpClock n with
      | some j => ((s.useClock n j).waitNow n w).getD s
      | none => s
  else s

/-- SHIN (R270). -/
def Dev.hrpShin (s : Dev) (n : Nat) : Dev :=
  s.harpExec n (opIs 2) (fun s w =>
    let width := bits w 8 6 + 1
    let v := (upTo width).foldl (fun a k => a + 2 ^ k * b2n (s.pinRead n (bits w 11 9 + k))) 0
    let x := (s.harpOf n).s
    let r : Word := if bitOf w 4 then BitVec.ofNat 32 v
      else if bitOf w 5 then (x >>> width) ||| BitVec.ofNat 32 (v * 2 ^ (32 - width))
      else (x <<< width) ||| BitVec.ofNat 32 v
    s.harpSet n 0 r)

/-- SHOUT (R270). -/
def Dev.hrpShout (s : Dev) (n : Nat) : Dev :=
  s.harpExec n (opIs 3) (fun s w =>
    let width := bits w 8 6 + 1
    let r := bits w 4 3
    let x := (s.harpOf n).reg r
    let v := if bitOf w 5 then x.toNat % 2 ^ width else x.toNat / 2 ^ (32 - width)
    let s := forEach (upTo width) (fun s k => s.drivePin n (bits w 11 9 + k) (some (v.testBit k))) s
    if bitOf w 2 then s.harpAdv n else s.harpSet n r (if bitOf w 5 then x >>> width else x <<< width))

/-- PINS. -/
def Dev.hrpPins (s : Dev) (n : Nat) : Dev :=
  s.harpExec n (opIs 4) (fun s w =>
    let v : Option Bool := match bits w 11 10 with
      | 0 => some false
      | 1 => some true
      | _ => none
    (forEach (upTo 8) (fun s i => if bitOf w i then s.drivePin n i v else s) s).harpAdv n)

/-- GET completes where the TX queue allows it (R273). -/
def Dev.getNow (s : Dev) (n w : Nat) : Option Dev :=
  match (s.harpOf n).tx with
  | v :: vs => some ((s.modHarp n (fun h => { h with tx := vs })).harpSet n (bits w 10 9) v)
  | [] => none

/-- GET. -/
def Dev.hrpGet (s : Dev) (n : Nat) : Dev :=
  s.harpExec n (opIs 5) (fun s w => (s.getNow n w).getD (if bitOf w 11 then s.harpStay n else s.harpAdv n))

/-- PUT completes where the RX queue allows it (R273). -/
def Dev.putNow (s : Dev) (n w : Nat) : Option Dev :=
  let h := s.harpOf n
  if h.rx.length < s.rxDepth n then some ((s.setHarp n { h with rx := h.rx ++ [h.reg (bits w 10 9)] }).harpAdv n) else none

/-- A word that PUT discards (R274). -/
def Dev.rxOverflow (s : Dev) (n : Nat) : Dev :=
  (s.modHarp n (fun h => { h with rxOvf := satInc h.rxOvf, ovfNew := true })).setFlag 0x5008 n

/-- PUT. -/
def Dev.hrpPut (s : Dev) (n : Nat) : Dev :=
  s.harpExec n (opIs 6) (fun s w => (s.putNow n w).getD (if bitOf w 11 then s.harpStay n else (s.rxOverflow n).harpAdv n))

/-- A blocked GET or PUT completes on a clock at which its queue allows it (R273). -/
def Dev.queueUnblock (s : Dev) (n : Nat) : Dev :=
  let h := s.harpOf n
  let w := s.harpInstr n h.pc.toNat
  if s.harpMay n && h.st = 2 && (opIs 5 w || opIs 6 w) then
    match s.harpClock n with
    | some j =>
      let t := s.useClock n j
      (if opIs 5 w then t.getNow n w else t.putNow n w).getD s
    | none => s
  else s

/-- MARK (R275). -/
def Dev.hrpMark (s : Dev) (n : Nat) : Dev :=
  s.harpExec n (opIs 7) (fun s w =>
    let v := (s.harpOf n).reg (bits w 11 10)
    (s.harpAdv n).harpMark n (if bitOf w 9 then v.toNat % 256 else w % 256) v)

/-- ADDI. -/
def Dev.hrpAddi (s : Dev) (n : Nat) : Dev :=
  s.harpExec n (opIs 9) (fun s w =>
    let r := bits w 11 10
    s.harpSet n r ((s.harpOf n).reg r + BitVec.ofInt 32 (signed (w % 1024) 10)))

/-- The ALU's operations (Table HRP-1). -/
def aluOp (op sh : Nat) (a b : Word) : Word :=
  match op with
  | 0 => a + b
  | 1 => a - b
  | 2 => a &&& b
  | 3 => a ||| b
  | 4 => a ^^^ b
  | 5 => b >>> sh
  | 6 => b <<< sh
  | _ => if a.toNat ≤ b.toNat then a else b

/-- ALU. -/
def Dev.hrpAlu (s : Dev) (n : Nat) : Dev :=
  s.harpExec n (opIs 10) (fun s w =>
    let h := s.harpOf n
    s.harpSet n (bits w 11 10) (aluOp (bits w 7 5) (w % 32) (h.reg (bits w 11 10)) (h.reg (bits w 9 8))))

/-- LDI. -/
def Dev.hrpLdi (s : Dev) (n : Nat) : Dev :=
  s.harpExec n (opIs 11) (fun s w => s.harpSet n (bits w 11 10) (BitVec.ofNat 32 (w % 1024)))

/-- Whether a branch condition holds (Table HRP-2). -/
def Dev.brHolds (s : Dev) (n cond arg : Nat) : Bool :=
  let h := s.harpOf n
  let a := h.reg (arg / 2)
  match cond with
  | 0 => true
  | 1 => a ≠ 0
  | 2 => a = 0
  | 3 => a ≠ 0
  | 4 => a = h.s
  | 5 => a ≠ h.s
  | 6 => decide (a.toNat < h.s.toNat)
  | 7 => decide (h.s.toNat ≤ a.toNat)
  | 8 => s.pinRead n arg
  | 9 => !s.pinRead n arg
  | 10 => h.s.toNat.testBit arg
  | 11 => !h.s.toNat.testBit arg
  | 12 => !h.tx.isEmpty
  | 13 => decide (h.rx.length < s.rxDepth n)
  | _ => false

/-- BR (R269). DEC decrements its register whenever that is not 0. -/
def Dev.hrpBr (s : Dev) (n : Nat) : Dev :=
  s.harpExec n (opIs 12) (fun s w =>
    let cond := bits w 11 8
    let arg := bits w 7 5
    let holds := s.brHolds n cond arg
    let s := if cond = 1 && holds then s.modHarp n (fun h => h.setReg (arg / 2) (h.reg (arg / 2) - 1)) else s
    if holds then s.modHarp n (fun h => { h with pc := BitVec.ofNat 5 (w % 32) }) else s.harpAdv n)

/-- PKT: a pocket word loaded or stored. -/
def Dev.hrpPkt (s : Dev) (n : Nat) : Dev :=
  s.harpExec n (opIs 13) (fun s w =>
    let h := s.harpOf n
    let a := if bitOf w 8 then (w % 32 + h.y.toNat % 32) % 32 else w % 32
    let o := 0x5600 + 0x80 * n + 4 * a
    if bitOf w 11 then (s.setBoth o (h.reg (bits w 10 9))).harpAdv n else s.harpSet n (bits w 10 9) (s.force o))

/-- Whether the Wheel has reached a register's time (R272). -/
def Dev.atwNow (s : Dev) (n w : Nat) : Bool := decide (0 ≤ (s.wheel32 - (s.harpOf n).reg (bits w 11 10)).toInt)

/-- Whether a word is an ATW. -/
def isAtw (w : Nat) : Bool := opIs 14 w && !bitOf w 9

/-- ATW (R272). -/
def Dev.hrpAtw (s : Dev) (n : Nat) : Dev :=
  s.harpExec n isAtw (fun s w => if s.atwNow n w then s.harpAdv n else s.harpStay n)

/-- A waiting ATW completes: the clock restarts on this tick, on which the next instruction executes (R272). -/
def Dev.atwDone (s : Dev) (n : Nat) : Dev :=
  let h := s.harpOf n
  let w := s.harpInstr n h.pc.toNat
  if s.harpMay n && h.st = 2 && isAtw w && s.atwNow n w then (s.setHarp n (h.restart s.clk.now)).harpAdv n else s

/-- STAMP (R272). -/
def Dev.hrpStamp (s : Dev) (n : Nat) : Dev :=
  s.harpExec n (fun w => opIs 14 w && bitOf w 9) (fun s w => s.harpSet n (bits w 11 10) s.wheel32)

/-- Whether a word is SYS with a sub-code. -/
def sysIs (sub w : Nat) : Bool := opIs 15 w && bits w 11 8 = sub

/-- SYS CLRS. -/
def Dev.hrpClrs (s : Dev) (n : Nat) : Dev := s.harpExec n (sysIs 0) (fun s _ => s.harpSet n 0 0)

/-- SYS HALT; PC keeps the address of the HALT (R267). -/
def Dev.hrpHalt (s : Dev) (n : Nat) : Dev := s.harpExec n (sysIs 1) (fun s _ => s.modHarp n (fun h => { h with st := 3 }))

/-- SYS ARM (R271). -/
def Dev.hrpArm (s : Dev) (n : Nat) : Dev :=
  s.harpExec n (sysIs 2) (fun s w => (s.modHarp n (fun h => h.clearLatch (bits w 7 5))).harpAdv n)

/-! ### Reserved encodings -/

/-- Whether a 16-bit word is an instruction, not a reserved encoding (R268, R269, R270). -/
def harpLegal (w : Nat) : Bool :=
  match w / 4096 with
  | 0 => true
  | 1 => w % 64 = 0
  | 2 => w % 16 = 0 && !(bitOf w 4 && bitOf w 5)
  | 3 => w % 4 = 0
  | 4 => bits w 9 8 = 0 && bits w 11 10 ≠ 3
  | 5 => w % 512 = 0
  | 6 => w % 512 = 0
  | 7 => !bitOf w 8 && (!bitOf w 9 || w % 256 = 0)
  | 8 => false
  | 9 => true
  | 10 => bits w 7 5 = 5 || bits w 7 5 = 6 || w % 32 = 0
  | 11 => true
  | 12 =>
    let c := bits w 11 8
    if c = 0 || c = 12 || c = 13 then bits w 7 5 = 0
    else if c ≤ 7 then !bitOf w 5
    else decide (c ≤ 11)
  | 13 => bits w 7 5 = 0
  | 14 => w % 512 = 0
  | _ => w % 32 = 0 && decide (bits w 11 8 ≤ 2) && (bits w 11 8 = 2 || bits w 7 5 = 0)

/-! ### Start, stop and pause -/

/-- A Harp starts (R266). -/
def Dev.harpStart (s : Dev) (n : Nat) : Dev :=
  let own := (upTo 8).foldl (fun m i => if s.pinOwner (s.pinOf n i) = n then setBitTo m (s.pinOf n i) true else m) (0 : BitVec 32)
  (s.floatPins own).modHarp n (fun h => { h with
    st := 1, pc := BitVec.ofNat 5 (s.rf (hrpOff n) 5 1), s := 0, x := 0, y := 0, t := s.wheel32, fall := [], rise := [],
    r := s.clk.now, m := 0, dly := 0, free := s.clk.now })

/-- A Harp at a press: start, stop, and event HARP_RX_OVF (R266, R274). -/
def Dev.harpPress (s : Dev) (n : Nat) : Dev :=
  let h := s.harpOf n
  let s :=
    if s.rb (hrpOff n) 0 then if h.st = 0 && s.harpsRun then s.harpStart n else s
    else if h.st = 0 then s else s.setHarp n { h with st := 0 }
  let h := s.harpOf n
  let quiet := match h.ovfPress with
    | some p => decide (p + 48 ≤ s.pressIndex)
    | none => true
  if h.ovfNew && quiet then
    (s.setHarp n { h with ovfNew := false, ovfPress := some s.pressIndex }).eventOk 0x0703 n
  else s

/-- Every Harp stopped by the mode. -/
def Dev.stopHarps (s : Dev) : Dev := forEach (upTo 8) (fun s n => s.modHarp n (fun h => { h with st := 0 })) s

/-- Clocks of a DLY that have not passed (R271, R277). -/
def Dev.dlyLeft (s : Dev) (n : Nat) : Nat :=
  let h := s.harpOf n
  let m0 := h.m - 1 - h.dly
  h.dly - min (s.clk.now - h.free) (((s.clk.now - h.r) * 256 - 1) / s.harpDiv n - m0)

/-- A debug halt pauses a Harp that is RUNNING or WAITING (R277). -/
def Dev.harpHalt (s : Dev) (n : Nat) : Dev :=
  let h := s.harpOf n
  if s.rb 0x5000 n && (h.st = 1 || h.st = 2) then s.setHarp n { h with paused := h.st, st := 4, dly := s.dlyLeft n } else s

/-- The end of a debug halt: the clock restarts on this tick (R277). -/
def Dev.harpResume (s : Dev) (n : Nat) : Dev :=
  let h := s.harpOf n
  if h.st = 4 then
    s.setHarp n { h with st := h.paused, paused := 0, r := s.clk.now, m := h.dly, free := max h.free s.clk.now }
  else s

/-- The queues of a Harp flushed (R273). -/
def Dev.flushTx (s : Dev) (n : Nat) : Dev := s.modHarp n (fun h => { h with tx := [] })
def Dev.flushRx (s : Dev) (n : Nat) : Dev := s.modHarp n (fun h => { h with rx := [] })

/-! ### VIO_H -/

/-- Event HARP_VIO and its flag for each enabled Harp that owns a pin (R278). -/
def Dev.harpVio (s : Dev) : Dev :=
  forEach (upTo 8) (fun s n =>
    if s.rb (hrpOff n) 0 && (upTo 32).any (fun p => s.pinOwner p = n) then (s.setFlag 0x5008 (8 + n)).eventOk 0x0702 n else s) s

/-- VIO_H enters lockout: pins go high-Z and read 0; a fall of the reading is an edge (R62, R278). -/
def Dev.vioDown (s : Dev) : Dev :=
  if s.pwr.vioLow then s
  else
    let high := (upTo 32).filter (fun p => s.pinLevel p)
    let s := s.modPwr (fun p => { p with vioLow := true })
    if s.coreOn then (forEach high (fun s p => s.pinEdge p false) s).harpVio else s

/-- What the outside drives balls to, as a list of them tells it: a later entry of a ball holds. -/
def extWith (ext : Tab (Option Bool)) (told : List (Fin 32 × Option Bool)) : Tab (Option Bool) :=
  told.foldl (fun e x => tabSet none e x.1.val x.2) ext

/-- VIO_H leaves lockout, with what the outside then drives the balls of `told` to: every owned pin is sampled again, driven pins at their own
outputs, and one that reads 1 is a rising edge (R278). -/
def Dev.vioUp (s : Dev) (told : List (Fin 32 × Option Bool)) : Dev :=
  if s.pwr.vioLow then
    let s : Dev := { s.modPwr (fun p => { p with vioLow := false }) with
      pins := { s.pins with ext := extWith s.pins.ext told, syncd := 0, ball := 0 } }
    if s.coreOn then
      let s := forEach (upTo 32) (fun s p => s.samplePin p) s
      let s : Dev := { s with pins := { s.pins with ball := s.pins.syncd } }
      forEach ((upTo 32).filter (fun p => s.pinLevel p)) (fun s p => s.pinEdge p true) s
    else s
  else s

/-! ### The rows -/

def execHrpDly (n : Fin 8) (s : State) : Host.Outcome State Fault Refusal := onDev (fun s => s.hrpDly n) s
def execHrpWait (n : Fin 8) (s : State) : Host.Outcome State Fault Refusal := onDev (fun s => s.hrpWait n) s
def execHarpWaitDone (n : Fin 8) (s : State) : Host.Outcome State Fault Refusal := onDev (fun s => s.waitDone n) s
def execHrpShin (n : Fin 8) (s : State) : Host.Outcome State Fault Refusal := onDev (fun s => s.hrpShin n) s
def execHrpShout (n : Fin 8) (s : State) : Host.Outcome State Fault Refusal := onDev (fun s => s.hrpShout n) s
def execHrpPins (n : Fin 8) (s : State) : Host.Outcome State Fault Refusal := onDev (fun s => s.hrpPins n) s
def execHrpGet (n : Fin 8) (s : State) : Host.Outcome State Fault Refusal := onDev (fun s => s.hrpGet n) s
def execHrpPut (n : Fin 8) (s : State) : Host.Outcome State Fault Refusal := onDev (fun s => s.hrpPut n) s
def execQueueUnblock (n : Fin 8) (s : State) : Host.Outcome State Fault Refusal := onDev (fun s => s.queueUnblock n) s
def execHrpMark (n : Fin 8) (s : State) : Host.Outcome State Fault Refusal := onDev (fun s => s.hrpMark n) s
def execHrpAddi (n : Fin 8) (s : State) : Host.Outcome State Fault Refusal := onDev (fun s => s.hrpAddi n) s
def execHrpAlu (n : Fin 8) (s : State) : Host.Outcome State Fault Refusal := onDev (fun s => s.hrpAlu n) s
def execHrpLdi (n : Fin 8) (s : State) : Host.Outcome State Fault Refusal := onDev (fun s => s.hrpLdi n) s
def execHrpBr (n : Fin 8) (s : State) : Host.Outcome State Fault Refusal := onDev (fun s => s.hrpBr n) s
def execHrpPkt (n : Fin 8) (s : State) : Host.Outcome State Fault Refusal := onDev (fun s => s.hrpPkt n) s
def execHrpAtw (n : Fin 8) (s : State) : Host.Outcome State Fault Refusal := onDev (fun s => s.hrpAtw n) s
def execAtwDone (n : Fin 8) (s : State) : Host.Outcome State Fault Refusal := onDev (fun s => s.atwDone n) s
def execHrpStamp (n : Fin 8) (s : State) : Host.Outcome State Fault Refusal := onDev (fun s => s.hrpStamp n) s
def execHrpClrs (n : Fin 8) (s : State) : Host.Outcome State Fault Refusal := onDev (fun s => s.hrpClrs n) s
def execHrpHalt (n : Fin 8) (s : State) : Host.Outcome State Fault Refusal := onDev (fun s => s.hrpHalt n) s
def execHrpArm (n : Fin 8) (s : State) : Host.Outcome State Fault Refusal := onDev (fun s => s.hrpArm n) s

/-- HP_PIN_EDGE (R265, R271): what the outside drives a ball to from this tick's sample on, or that it no longer drives it; the filtered sample
that thereby changes is an edge, on the tick that FILT gives. -/
def execHpPinEdge (pin : Fin 32) (level : Option Bool) (s : State) : Host.Outcome State Fault Refusal :=
  onDev (fun s => s.pinSignal pin level) s

/-- VIO_H_LOCKOUT (R62, R278). -/
def execVioHLockout (s : State) : Host.Outcome State Fault Refusal := onDev (fun s => s.vioDown) s

/-- VIO_H_LOCKOUT_EXIT (R278). -/
def execVioHLockoutExit (ext : List (Fin 32 × Option Bool)) (s : State) : Host.Outcome State Fault Refusal := onDev (fun s => s.vioUp ext) s

end Sys2Proof.Machine
end

