-- ==== Sys2Proof/Machine/Carrier.lean ====
section
/-! DEFINITION. Chapter 11: the carrier pairs' periods, waveform, refresh, trips, servo and triggers (R281 to R305), the sync chain (R297)
and the ADC sequences (R298 to R300). -/

namespace Sys2Proof.Machine

/-- The first register of pair n and of sequence q (Tables CAR-5 and CAR-7). -/
def carOff (n : Nat) : Nat := 0x6100 + 0x40 * n
def seqOff (q : Nat) : Nat := 0x6900 + 0x40 * q

/-! ### ADC sequences -/

/-- A trigger at a sequence of a TRIG kind: pending, or dropped and counted (R298). -/
def Dev.seqTrigger (s : Dev) (trig q : Nat) : Dev :=
  let x := s.seqOf q
  if s.rb (seqOff q) 0 && s.rf (seqOff q) 6 4 = trig then
    if x.pend || x.running then (s.setSeq q { x with ovr := satInc x.ovr }).setFlag 0x6808 q
    else s.setSeq q { x with pend := true }
  else s

/-- COUNT + 1 entries of a sequence. -/
def Dev.seqEntries (s : Dev) (q : Nat) : Nat := s.rf (seqOff q) 3 1 + 1

/-- Whether an ADC is idle: no sequence of it runs, and ADC1 makes no NTC conversions (R299). -/
def Dev.adcIdle (s : Dev) (a : Nat) : Bool :=
  (upTo 4).all (fun i => !(s.seqOf (4 * a + i)).running) && !(a = 1 && s.ntcConv)

/-- Whether a sequence is of kind CONT. -/
def Dev.seqCont (s : Dev) (q : Nat) : Bool := s.rf (seqOff q) 6 4 = 2

/-- A CONT sequence is pending as soon as it is not running (R298). -/
def Dev.contPend (s : Dev) (q : Nat) : Dev :=
  let x := s.seqOf q
  let p := s.rb (seqOff q) 0 && !x.running
  if s.seqCont q && p ≠ x.pend then s.setSeq q { x with pend := p } else s

/-- The sequence that an idle ADC chooses: the lowest pending one, else the lowest CONT one (R299). -/
def Dev.adcPick (s : Dev) (a : Nat) : Option Nat :=
  let qs := ((upTo 4).map (fun i => 4 * a + i)).filter (fun q => (s.seqOf q).pend)
  (qs.find? (fun q => !s.seqCont q)).or qs.head?

/-- An idle ADC chooses its work on a tick; ADC1 holds a sequence that would not end by the next scan-frame start (R299). -/
def Dev.adcChoose (s : Dev) (a : Nat) : Dev :=
  if s.coreOn && s.rb 0x6800 a && s.adcIdle a then
    match s.adcPick a with
    | some q =>
      if a = 1 && decide (nextBoundary 65536 0 s.wheelN < s.wheelN + 64 * s.seqEntries q) then s
      else s.modSeq q (fun x => { x with running := true, pend := false, beginAt := s.clk.now })
    | none => s
  else s

/-- The ADCs on a tick: RW-live fields at the conversion grid (Table SCP-4), the sample instants, the choice of work, and CONT sequences
that become pending (R298 to R300). On a scan-frame start ADC1 chooses after the NTC conversions (R299). -/
def Dev.adcTick (s : Dev) : Dev :=
  let s := if s.coreOn && s.gridNow 64 0 then s.applyLive (fun _ g => g = .adc) else s
  let s := forEach (upTo 8) (fun s q =>
    let x := s.seqOf q
    if x.running && x.beginAt + 16 = s.clk.now then s.setSeq q { x with sampled := s.wheel32 } else s) s
  let s := s.adcChoose 0
  let s := if s.gridNow 65536 0 then s else s.adcChoose 1
  if s.coreOn then forEach (upTo 8) (fun s q => s.contPend q) s else s

/-- A run ends: results, STAMP and RUNS together (R300). -/
def Dev.adcRunEnd (s : Dev) (q : Nat) (res : List (BitVec 12)) : Dev :=
  let x := s.seqOf q
  let k := s.seqEntries q
  if x.running && decide (x.beginAt + 64 * k ≤ s.clk.now) then
    let rs := forEach (upTo k) (fun m i => tabSet 0 m i (res.getD i 0)) x.res
    (s.setSeq q { x with running := false, res := rs, stamp := x.sampled, runs := x.runs + 1 }).contPend q
  else s

/-! ### The waveform -/

/-- The ideal signal of one period of `p` sixteenths, as its level at the start and its transitions (Table CAR-1). -/
def idealSignal (centre : Bool) (p c : Nat) : Bool × List (Nat × Bool) :=
  if c = 0 then (false, [])
  else if p ≤ c then (true, [])
  else
    let x := (p - c) / 2
    if centre && x ≠ 0 then (false, [(x, true), (x + c, false)]) else (true, [(c, false)])

/-- INVERT and FORCE on the ideal signal (R290); FORCE 1 (OFF) keeps it low. -/
def overrideSignal (inv : Bool) (force : Nat) (s : Bool × List (Nat × Bool)) : Bool × List (Nat × Bool) :=
  match force with
  | 0 => if inv then (!s.1, s.2.map (fun e => (e.1, !e.2))) else s
  | 2 => (true, [])
  | _ => (false, [])

/-- Transitions with the repeated levels dropped, from a level on. -/
def dropRepeats (lev : Bool) : List (Int × Bool) → List (Int × Bool)
  | [] => []
  | (t, v) :: es => if v = lev then dropRepeats lev es else (t, v) :: dropRepeats v es

/-- Every interval at level `v` shorter than `w` sixteenths taken as the other level; the last interval has no end (R286). -/
def dropShort (v : Bool) (w : Int) : List (Int × Bool) → List (Int × Bool)
  | [] => []
  | [e] => [e]
  | (t, x) :: (u, y) :: es =>
    if x = v && decide (u - t < w) then (t, !x) :: dropShort v w ((u, y) :: es) else (t, x) :: dropShort v w ((u, y) :: es)

/-- The treated signal's transitions over a run of ideal transitions that begins `run0` before the period (R286). -/
def treatSignal (lev0 : Bool) (run0 : Nat) (dtR dtF : Nat) (es : List (Int × Bool)) : List (Int × Bool) :=
  let all := (-(run0 : Int), lev0) :: dropRepeats lev0 es
  let lows := dropShort true (16 * (dtR + 1 : Nat)) all
  let lows := match lows with
    | (t, v) :: r => (t, v) :: dropRepeats v r
    | [] => []
  match dropShort false (16 * (dtF + 1 : Nat)) lows with
  | (t, v) :: r => (t, v) :: dropRepeats v r
  | [] => []

/-- The transitions in the period of `p` sixteenths, from the treated level `t0` with which it begins. -/
def inPeriod (t0 : Bool) (p : Nat) (es : List (Int × Bool)) : List (Nat × Bool) :=
  let at0 := (es.takeWhile (fun e => decide (e.1 ≤ 0))).getLast?
  let rest := (es.filter (fun e => decide (0 < e.1) && decide (e.1 < (p : Int)))).map (fun (e : Int × Bool) => (e.1.toNat, e.2))
  match at0 with
  | some e => if e.2 = t0 then rest else (0, e.2) :: rest
  | none => rest

/-- Complementary edges around the treated signal's transitions (Table CAR-2). -/
def deadTime (dtR dtF : Nat) : List (Nat × Bool) → List Edge
  | [] => []
  | (t, true) :: es => ⟨t, t, false, false⟩ :: ⟨t + 16 * dtR, t, true, true⟩ :: deadTime dtR dtF es
  | (t, false) :: es => ⟨t, t, true, false⟩ :: ⟨t + 16 * dtF, t, false, true⟩ :: deadTime dtR dtF es

/-- Edges of an independent output that follows a signal (R287). -/
def followEdges (a : Bool) (es : List (Nat × Bool)) : List Edge := es.map (fun e => ⟨e.1, e.1, a, e.2⟩)

/-- A refresh in place of the start of a period, then the treated signal after the span (Table CAR-3). -/
def refreshEdges (dtR dtF w : Nat) (t0 : Bool) (es : List (Nat × Bool)) : List Edge :=
  let end_ := 16 * (dtF + w + dtR)
  let inside := es.filter (fun e => decide (e.1 ≤ end_))
  let lev := (inside.getLast?.map (·.2)).getD t0
  [⟨0, 0, true, false⟩, ⟨16 * dtF, 0, false, true⟩, ⟨16 * (dtF + w), 0, false, false⟩] ++
    (if lev then [⟨end_, 0, true, true⟩] else [⟨end_ + 16 * dtF, 0, false, true⟩]) ++
    deadTime dtR dtF (es.filter (fun e => decide (end_ < e.1)))

/-- The level after the transitions up to a time. -/
def levelAt (lev : Bool) (es : List (Nat × Bool)) (t : Nat) : Bool :=
  ((es.filter (fun e => decide (e.1 ≤ t))).getLast?.map (·.2)).getD lev

/-- The level of CAnA (`a`) or CAnB before SWAP at a time in sixteenths after the period's start. -/
def Car.levelAt (c : Car) (a : Bool) (t : Nat) : Bool :=
  ((c.edges.filter (fun e => e.a = a && decide (e.at16 ≤ t))).getLast?.map (·.high)).getD (if a then c.levA else c.levB)

/-- The level on the ball CAnA or CAnB now (R281, R290). -/
def Dev.ballCar (s : Dev) (n : Nat) (a : Bool) : Bool :=
  let c := s.carOf n
  c.levelAt (a != c.swap) (16 * (s.clk.now - c.start))

/-- Both outputs low from now on in this period. -/
def Car.low (c : Car) : Car := { c with levA := false, levB := false, edges := [] }

/-- The last edge of either output up to a tick, in ticks (R294). -/
def Car.lastEdgeAt (c : Car) (now : Nat) : Option Nat :=
  match ((c.edges.filter (fun e => decide (e.at16 ≤ 16 * (now - c.start)))).map (fun e => c.start + e.at16 / 16)).foldl
    (fun (m : Option Nat) t => some (max (m.getD 0) t)) none with
  | some t => some t
  | none => c.lastEdge

/-- Both outputs driven low at a tick, which is an edge of one that was high (R293, R294). -/
def Car.drop (c : Car) (now : Nat) : Car :=
  let t := 16 * (now - c.start)
  { c.low with lastEdge := if c.levelAt true t || c.levelAt false t then some now else c.lastEdgeAt now }

/-- The edges of a period that have their cause before its end (R284): a transition at or after the end does not occur. -/
def Car.endAt (c : Car) (el : Nat) : Car :=
  { c with
    edges := c.edges.filter (fun e => decide (e.src < el)), idealAt := c.idealAt.filter (fun e => decide (e.1 < el)),
    treatAt := c.treatAt.filter (fun e => decide (e.1 < el)) }

/-! ### Periods -/

/-- Whether a pair is a LINK follower, and the pair whose boundaries it keeps (R291). -/
def Dev.carLink (s : Dev) (n : Nat) : Bool := n % 2 = 1 && s.rb (carOff n) 4
def Dev.carRef (s : Dev) (n : Nat) : Nat := if s.carLink n then n - 1 else n

/-- PERIOD and PHASE in force of the pair whose grid pair n keeps. -/
def Dev.carPeriod (s : Dev) (n : Nat) : Nat := max 1 (s.rf (carOff (s.carRef n) + 4) 19 4)
def Dev.carPhase (s : Dev) (n : Nat) : Nat := s.rf (carOff (s.carRef n) + 0x10) 19 4

/-- Whether a pair follows SYNC_IN (R283). -/
def Dev.carSync (s : Dev) (n : Nat) : Bool := s.rb (carOff n) 3

/-- Whether a SYNC_IN edge ends the period in progress on this tick (R283). -/
def Dev.syncHit (s : Dev) (n : Nat) : Bool :=
  let c := s.carOf n
  c.syncEdges.any (fun e => e + s.carPhase n = s.clk.now) && (!c.begun || decide (c.start + 64 ≤ s.clk.now))

/-- Whether pair n's grid has a boundary on this tick (R282 to R284, R291). -/
def Dev.carBoundary (s : Dev) (n : Nat) : Bool :=
  let c := s.carOf n
  let grid := s.gridNow (s.carPeriod n) (s.carPhase n % s.carPeriod n)
  if s.carLink n then
    let l := s.carOf (n - 1)
    l.busy && l.begun && l.start = s.clk.now
  else if s.carSync n then s.syncHit n || (c.begun && c.start + c.len = s.clk.now)
  else if !c.begun then grid
  else if c.jumped then decide (c.start + c.len ≤ s.clk.now)
  else if c.trans then grid && decide (s.carPeriod n ≤ 2 * (s.clk.now - c.start))
  else grid

/-- Whether pair n starts a period on this tick. -/
def Dev.carDue (s : Dev) (n : Nat) : Bool :=
  s.coreOn && s.clk.running && (s.carOf n).busy && !s.isServed (.car n) && s.carBoundary n

/-- The servo's evaluation (R301). -/
def Dev.servo (s : Dev) (n : Nat) (c : Car) : Car :=
  let o := carOff n
  let x := s.seqOf (s.rf (o + 0x24) 6 4)
  let mid : Int := s.rf (o + 0x2C) 19 0
  let lo : Int := s.rf (o + 0x30) 19 0
  let hi : Int := s.rf (o + 0x34) 19 0
  if c.lastRuns = some x.runs then
    if c.staleCnt + 1 = 4 then { c with staleCnt := 4, cNext := mid.toNat, acc := 0, srvStale := true }
    else { c with staleCnt := c.staleCnt + 1 }
  else
    let r : Int := (tabGet 0 x.res (s.rf (o + 0x24) 10 8)).toNat
    let e : Int := (s.rf (o + 0x28) 11 0 : Int) - r
    let a := clampI (-8388608) 8388607 (c.acc + e * s.rf (o + 0x24) 31 24)
    let u := mid + e * s.rf (o + 0x24) 23 16 + Int.fdiv a 256
    let (u, a) := if hi < u then (hi, if 0 < e then c.acc else a) else (u, a)
    let (u, a) := if u < lo then (lo, if e < 0 then c.acc else a) else (u, a)
    { c with cNext := u.toNat, acc := a, lastRuns := some x.runs, staleCnt := 0, srvStale := false }

/-- The dead times of a pair in ticks (R286). -/
def Dev.carDts (s : Dev) (n : Nat) : Nat × Nat :=
  let r := s.rf (carOff n + 0x14) 9 0
  (r, if s.rb (carOff n) 12 then r else s.rf (carOff n + 0x14) 25 16)

/-- The period's outputs formed from its compare (R285 to R292): `prev` is the pair as its last period left it, `el` that period's length
in sixteenths, `c` the pair with this period's settings. Short intervals are judged with one more period after this one's planned end, of the
compare that would follow it (DESIGN CHOICE, log entry 37). -/
def Dev.carForm (s : Dev) (n : Nat) (prev c : Car) (el c1 c2 : Nat) (drive : Bool) : Car :=
  let o := carOff n
  let p := 16 * s.carPeriod n
  let after : Int := 16 * c.len
  let centre := s.rb (carOff (s.carRef n)) 1
  let inv := s.rb o 17
  let force := s.rf o 19 18
  let (dtR, dtF) := s.carDts n
  let wave (v : Nat) : Bool × List (Nat × Bool) := overrideSignal inv force (idealSignal centre p (min v p))
  let now := wave c1
  let next := wave c2
  -- how the last period left the ideal and the treated signal
  let lev0 := levelAt prev.ideal0 prev.idealAt el
  let run0 := match (prev.idealAt.filter (fun e => decide (e.1 ≤ el))).getLast? with
    | some e => el - e.1
    | none => min (prev.run0 + el) 1048576
  let t0 := levelAt prev.treat0 prev.treatAt el
  let es : List (Int × Bool) := ((0, now.1) :: (now.2.map (fun e => ((e.1 : Int), e.2))).filter (fun e => decide (e.1 < after))) ++
    (after, next.1) :: next.2.map (fun e => (after + e.1, e.2))
  let tr := inPeriod t0 (16 * c.len) (treatSignal lev0 run0 dtR dtF es)
  let live := drive && !c.latched && force ≠ 1
  let c := { c with ideal0 := lev0, run0 := run0, idealAt := (0, now.1) :: now.2, treat0 := t0, treatAt := tr, swap := s.rb o 16 }
  if s.rb o 2 then
    let b := overrideSignal inv force (idealSignal centre p (min (s.rf (o + 0xC) 19 0) p))
    if live then { c with levA := now.1, levB := b.1, edges := followEdges true now.2 ++ followEdges false b.2, driving := true, refreshing := false }
    else { c.low with driving := drive && !c.latched, refreshing := false }
  else if !live then { c.low with driving := drive && !c.latched, refreshing := false }
  else
    let kept := prev.driving && !prev.cut && !prev.edges.isEmpty || (prev.driving && !prev.cut && (prev.levA || prev.levB))
    let a0 := if kept then prev.levelAt true el else t0
    let b0 := if kept then prev.levelAt false el else !t0
    let first := (tr.head?.map (·.1)).getD p
    let pend := if kept then (prev.edges.filter (fun e => decide (el < e.at16) && decide (e.at16 - el < first))).map
      (fun e => { e with at16 := e.at16 - el, src := 0 }) else []
    let high := prev.driving && !prev.cut && prev.levelAt true 0 &&
      !prev.edges.any (fun e => e.a && !e.high && decide (0 < e.at16) && decide (e.at16 < el))
    let cnt := if high then prev.refCnt + 1 else 0
    let due := s.rb o 20 && (prev.refDue || decide (s.rf o 31 24 + 1 ≤ cnt))
    if due then
      { c with levA := a0, levB := b0, edges := refreshEdges dtR dtF (s.rf (o + 0x18) 7 0) t0 tr, driving := true,
               refreshing := true, refEnd := 16 * (dtF + s.rf (o + 0x18) 7 0 + dtR), refCnt := 0, refDue := false }
    else
      { c with levA := a0, levB := b0, edges := pend ++ deadTime dtR dtF tr, driving := true, refreshing := false, refCnt := cnt,
               refDue := false }

/-- A pair that stops: both balls low, no period (R306). -/
def Car.stop (c : Car) : Car :=
  { ({} : Car) with
    latched := c.latched, latchClr := c.latchClr, cutCnt := c.cutCnt, acc := c.acc, srvWas := c.srvWas, srvStale := c.srvStale,
    cNext := c.cNext, staleCnt := c.staleCnt, lastRuns := c.lastRuns }

/-- The live fields of pair n that take effect at its updates (Table CAR-5, Table CAR-6); PERIOD, the compares and PHASE written to a LINK
follower have no effect until LINK is cleared (R289). -/
def Dev.carRegs (s : Dev) (n off : Nat) : Bool :=
  decide (carOff n ≤ off) && decide (off < carOff n + 0x40) &&
    !(s.carLink n && decide (carOff n + 4 ≤ off) && decide (off ≤ carOff n + 0x10))

/-- Whether a refresh sequence of pair n is under way (R292). -/
def Dev.refreshNow (s : Dev) (n : Nat) : Bool :=
  let c := s.carOf n
  c.refreshing && decide (16 * (s.clk.now - c.start) < c.refEnd)

/-- The length of a transition period from this tick: to the first tick of the new grid at least half a period on (R284); under ALIGN = 1 the
grid lies on the last edge of SYNC_IN. -/
def Dev.transLen (s : Dev) (n : Nat) (sync : Option Nat) : Nat :=
  let per := s.carPeriod n
  let half := (per + 1) / 2
  match sync with
  | none => nextBoundary per (s.carPhase n % per) (s.wheelN + half - 1) - s.wheelN
  | some e => half + ((((e : Int) + s.carPhase n) - (s.clk.now + half)) % (per : Int)).toNat

/-- SYNC_OUT on this tick: low, a pulse from a period start of OUT_PAIR, or SYNC_IN as it stood one tick before (R297). -/
def Dev.syncLevel (s : Dev) : Dev :=
  let t := s.trips
  let v := match s.rf 0x6000 1 0 with
    | 1 => decide (s.clk.now < t.syncOutEnd)
    | 2 => t.syncOut
    | _ => false
  if v = t.syncOut then s else ({ s with trips := { t with syncOut := v } }).emit (.syncOut v)

/-- SYNC_OUT at a new tick: OUT_SEL 2 repeats what SYNC_IN showed on the tick before (R297). -/
def Dev.syncTick (s : Dev) : Dev :=
  if s.rf 0x6000 1 0 = 2 && s.trips.syncOut ≠ s.trips.syncIn then
    ({ s with trips := { s.trips with syncOut := s.trips.syncIn } }).emit (.syncOut s.trips.syncIn)
  else s.syncLevel

/-- A period of pair n starts (R282 to R292, R295, R301). -/
def Dev.carBegin (s : Dev) (n : Nat) : Dev :=
  let now := s.clk.now
  let prev := (s.carOf n).endAt (16 * (now - (s.carOf n).start))
  let ref := s.carRef n
  let lead := s.carOf ref
  let per0 := s.carPeriod n
  let ph0 := s.carPhase n
  let sync := s.carSync ref
  let isJump := prev.begun && prev.jumped && !sync && ref = n
  let edge := (prev.syncEdges.filter (fun e => e + ph0 = now)).getLast?
  let syncLast := if sync then edge.getD prev.syncLast else prev.syncLast
  let q : Int := if ref ≠ n then lead.q
    else if sync then (if prev.begun then prev.q + 1 else 0)
    else Int.fdiv ((s.wheelN : Int) - (ph0 % per0 : Nat)) per0
  let upd := if ref ≠ n then lead.upd else !isJump && q % (s.rf (carOff n) 11 8 + 1 : Nat) = 0
  let s := if upd then s.applyLive (fun off g => g = .car && s.carRegs n off) else s
  let per := s.carPeriod n
  let moved := ref = n && prev.begun && (per ≠ per0 || s.carPhase n ≠ ph0)
  let trans := if ref ≠ n then lead.trans else isJump || moved
  let len := if ref ≠ n then lead.len
    else if trans then s.transLen n (if sync then some syncLast else none)
    else per
  let o := carOff n
  let srv := s.rb (o + 0x24) 0 && !s.rb o 2
  let cmpA := s.rf (o + 8) 19 0
  let prev := if srv && !prev.srvWas then { prev with acc := 0, lastRuns := none, staleCnt := 0, cNext := cmpA } else prev
  let cNow := if ref ≠ n then lead.cNow else min (if srv then prev.cNext else cmpA) (16 * per)
  let c := if upd && srv then s.servo n prev else prev
  let newlyStale := c.srvStale && !prev.srvStale
  let c := if srv then c else { c with cNext := cmpA }
  let cNext := if ref ≠ n then lead.cNext else c.cNext
  -- trips: the count of consecutive cut periods, and the latch (R295)
  let clr := prev.latchClr
  let cnt := if clr then 0 else if prev.cut then prev.cutCnt + 1 else 0
  let lim := s.rf (o + 0x18) 15 8
  let hit := !clr && lim ≠ 0 && decide (lim ≤ cnt)
  let latched := (prev.latched && !clr) || hit
  let s := if hit && !prev.latched then s.setFlag 0x6004 (8 + n) else s
  let s := if newlyStale then s.setFlag 0x6004 (24 + n) else s
  let c := { c with
    begun := true, cut := false, latched := latched, latchClr := false, cutCnt := cnt, srvWas := srv, cNow := cNow, q := q, start := now,
    len := len, upd := upd, trans := trans, jumped := false, fired := 0, syncLast := syncLast,
    syncEdges := prev.syncEdges.filter (fun e => decide (now < e + s.carPhase n)) }
  let drive := s.pwr.mode = .run && s.pwr.sleepTo.isNone
  let el := 16 * (now - prev.start)
  let c := s.carForm n prev c el cNow cNext drive
  let moved (x : Bool) : Bool := prev.levelAt (x != prev.swap) el != c.levelAt (x != c.swap) 0
  let s := s.setCar n { c with lastEdge := if moved true || moved false then some now else prev.lastEdgeAt now }
  if s.rf 0x6000 1 0 = 1 && s.rf 0x6000 6 4 = n then
    ({ s with trips := { s.trips with syncOutEnd := now + s.rf 0x6000 15 8 } }).syncLevel
  else s

/-- CARRIER_PERIOD_START: a new period, or the end of a pair whose EN is 0 and of the follower that it leads (R285, R291, R306). -/
def Dev.carPeriodStart (s : Dev) (n : Nat) : Dev :=
  if !s.carDue n then s
  else
    let s := s.serve (.car n)
    if s.rb (carOff n) 0 then s.carBegin n
    else
      let s := s.modCar n Car.stop
      if n % 2 = 0 && s.carLink (n + 1) then
        s.modCar (n + 1) (fun c => if s.rb (carOff (n + 1)) 0 then { c.stop with busy := true } else c.stop)
      else s

/-- A pair at a press: EN takes effect (R282, R306). -/
def Dev.carPress (s : Dev) (n : Nat) : Dev :=
  let c := s.carOf n
  if s.rb (carOff n) 0 && !c.busy then
    s.setCar n { c.stop with busy := true }
  else if !s.rb (carOff n) 0 && c.busy && (!c.begun || (s.carLink n && !(s.carOf (n - 1)).begun)) then s.setCar n c.stop
  else s

/-- Event CAR_TRIP at the first press after a cut, at most once per 48 presses (R295). -/
def Dev.tripPress (s : Dev) : Dev :=
  let t := s.trips
  let quiet := match t.evtPress with
    | some p => decide (p + 48 ≤ s.pressIndex)
    | none => true
  if t.cutMask ≠ 0 && quiet then
    ({ s with trips := { t with cutMask := 0, cutTrip := none, evtPress := some s.pressIndex } }).eventOk 0x0801
      (t.cutTrip.getD 0 + 256 * t.cutMask.toNat)
  else s

/-- The carrier unit and the ADCs at a press. -/
def Dev.carPresses (s : Dev) : Dev :=
  let s := forEach (upTo 6) (fun s n => s.carPress n) s
  let s := forEach (upTo 8) (fun s q => s.seqTrigger 3 q) s
  s.syncLevel.tripPress

/-- Every pair's balls low at once (R92, R302, R58). -/
def Dev.carriersOff (s : Dev) : Dev := forEach (upTo 6) (fun s n => s.modCar n (fun c => { c.drop s.clk.now with driving := false })) s

/-! ### Trips, triggers and sync -/

/-- Whether blanking ignores a trip now (R294). -/
def Dev.tripBlanked (s : Dev) (i : Nat) : Bool :=
  let k := s.rf (0x6010 + 8 * i) 10 8
  let c := s.carOf k
  k < 6 && c.busy && (match c.lastEdgeAt s.clk.now with
    | some e => decide (s.clk.now < e + s.rf (0x6010 + 8 * i) 25 16)
    | none => false)

/-- A pair cut by a trip (R293, R295); a refresh that it interrupts counts as not made (R305). -/
def Dev.cutPair (s : Dev) (n i : Nat) : Dev :=
  let c := s.carOf n
  let s := s.setCar n { c.drop s.clk.now with cut := true, refDue := c.refDue || s.refreshNow n, refreshing := false }
  let s := (s.setFlag 0x6004 n).setFlag 0x6004 (16 + i)
  { s with trips := { s.trips with
      cutMask := s.trips.cutMask ||| BitVec.ofNat 6 (2 ^ n), cutTrip := some (min (s.trips.cutTrip.getD i) i) } }

/-- Whether the filtered trip input is at the level that POL names (R293). -/
def Dev.tripOn (s : Dev) (i : Nat) : Bool := s.trips.filt.toNat.testBit i != s.rb (0x6010 + 8 * i) 0

/-- The filtered level of a trip input takes a new level once its sample has shown it for FILT ticks (R293). -/
def Dev.tripFilter (s : Dev) (i : Nat) : Dev :=
  let t := s.trips
  let v := t.level.toNat.testBit i
  if v ≠ t.filt.toNat.testBit i && decide (tabGet 0 t.since i + s.rf (0x6010 + 8 * i) 4 1 ≤ s.clk.now + 1) then
    { s with trips := { t with filt := if v then t.filt ||| BitVec.ofNat 4 (2 ^ i) else t.filt &&& ~~~ BitVec.ofNat 4 (2 ^ i) } }
  else s

/-- A trip input with the level that its ball shows on this tick: while it is active outside its blanking window, every pair of its mask
that drives is cut. A pair whose period starts on this tick is cut in the period that begins (R293, R294, R304). -/
def Dev.tripSignal (s : Dev) (i : Nat) (level : Bool) : Dev :=
  let t := s.trips
  let s : Dev := if t.level.toNat.testBit i = level then s
    else { s with trips := { t with
      level := if level then t.level ||| BitVec.ofNat 4 (2 ^ i) else t.level &&& ~~~ BitVec.ofNat 4 (2 ^ i),
      since := tabSet 0 t.since i s.clk.now } }
  let s := s.tripFilter i
  if s.coreOn && s.tripOn i && !s.tripBlanked i then
    forEach (upTo 6) (fun s n =>
      let c := s.carOf n
      if s.rb (0x6014 + 8 * i) n && c.driving && !c.cut && !s.carDue n then s.cutPair n i else s) s
  else s

/-- Whether a trigger compare fires on this tick (R296). -/
def Dev.trigDue (s : Dev) (n : Nat) (x : Bool) : Bool :=
  let c := s.carOf n
  let o := carOff n
  let pos := if x then s.rf (o + 0x1C) 31 16 else s.rf (o + 0x1C) 15 0
  s.coreOn && c.busy && c.begun && s.rb (o + 0x20) (if x then 8 else 0) && !c.fired.toNat.testBit (b2n x) &&
    decide (pos < c.len) && c.start + pos = s.clk.now

/-- TRIGGER_COMPARE (R296). -/
def Dev.triggerCompare (s : Dev) (n : Nat) (x : Bool) : Dev :=
  if s.trigDue n x then
    let o := carOff n
    (s.modCar n (fun c => { c with fired := c.fired ||| BitVec.ofNat 2 (2 ^ b2n x) })).seqTrigger 1
      (if x then s.rf (o + 0x20) 11 9 else s.rf (o + 0x20) 3 1)
  else s

/-- A rising edge of the synchronised SYNC_IN (R283); SYNC_OUT repeats it one tick later (R297). -/
def Dev.syncInEdge (s : Dev) : Dev :=
  if s.coreOn then
    let s : Dev := { s with trips := { s.trips with syncIn := true } }
    forEach (upTo 6) (fun s n =>
      if s.carSync n then s.modCar n (fun c => if c.busy then { c with syncEdges := c.syncEdges ++ [s.clk.now] } else c) else s) s
  else s

/-- A fall of the synchronised SYNC_IN (R297). -/
def Dev.syncInFall (s : Dev) : Dev :=
  if s.coreOn then { s with trips := { s.trips with syncIn := false } } else s

/-! ### The rows -/

/-- CARRIER_PERIOD_START (R285). -/
def execCarrierPeriodStart (n : Fin 6) (s : State) : Host.Outcome State Fault Refusal := onDev (fun s => s.carPeriodStart n) s

/-- SYNC_IN_EDGE (R283). -/
def execSyncInEdge (s : State) : Host.Outcome State Fault Refusal := onDev (fun s => s.syncInEdge) s

/-- SYNC_IN_FALL (R297). -/
def execSyncInFall (s : State) : Host.Outcome State Fault Refusal := onDev (fun s => s.syncInFall) s

/-- TRIP_ACTIVE (R293): the level that a trip input's ball shows from this tick on. -/
def execTripActive (l : TripLevel) (s : State) : Host.Outcome State Fault Refusal := onDev (fun s => s.tripSignal l.trip l.level) s

/-- TRIGGER_COMPARE (R296). -/
def execTriggerCompare (n : Fin 6) (x : Bool) (s : State) : Host.Outcome State Fault Refusal :=
  onDev (fun s => s.triggerCompare n x) s

/-- START strobes of ADC_CMD (R298). -/
def Dev.adcStart (s : Dev) (m : Nat) : Dev := forEach (upTo 8) (fun s q => if m.testBit q then s.seqTrigger 0 q else s) s

/-- ADC_RUN_END (R300). -/
def execAdcRunEnd (q : Fin 8) (res : List (BitVec 12)) (s : State) : Host.Outcome State Fault Refusal :=
  onDev (fun s => s.adcRunEnd q res) s

/-- LATCH bits cleared: each pair is released at its next period start (R295). -/
def Dev.carLatchClear (s : Dev) (m : Nat) : Dev :=
  forEach (upTo 6) (fun s n =>
    if m.testBit n && s.rb 0x6004 (8 + n) then
      (s.clearFlags 0x6004 (bitAt true (8 + n))).modCar n (fun c => { c with latchClr := true })
    else s) s

end Sys2Proof.Machine
end

