-- ==== Sys2Proof/Machine/Hoop.lean ====
section
/-! DEFINITION. Chapter 12: the Hoop's links, frames, relaying and delay (R309 to R317), the shift section (R318 to R320), PRESS across the
fabric (R321 to R323, R338), routed packets (R324 to R328), enumeration (R329 to R332) and cut-off (R334 to R337). -/

namespace Sys2Proof.Machine

/-! ### Conditions -/

/-- Whether the fabric ports run: EN has taken effect and the mode allows it (R333, R340). -/
def Dev.fabricOn (s : Dev) : Bool := s.hoop.busy && s.hoopOn

/-- A sticky bit of HOOP_FLAGS. -/
def Dev.hoopFlag (s : Dev) (i : Nat) : Dev := s.setFlag 0x7010 i

/-- Whether the unit is cut off (R334). -/
def Dev.cutOff (s : Dev) : Bool :=
  !s.isRoot && (s.portOf 0).everUp && ((s.portOf 0).link ≠ 2 || !s.hoop.upOk)

/-- A change of cut-off noted: HOLDING and the count of press boundaries begin or end; with HOOP_AUTO its end
clears the isolation fault (R334, R335, R433). -/
def Dev.judgeCut (s : Dev) : Dev :=
  let cut := s.fabricOn && s.cutOff
  if cut && !s.hoop.wasCut then s.modHoop (fun h => { h with wasCut := true, holding := true, holdCnt := 0 })
  else if !cut && s.hoop.wasCut then
    let s := s.modHoop (fun h => { h with wasCut := false, holding := false, isoRaised := false })
    if s.rb 0xA010 1 then s.clearFltDev 1 else s
  else s

/-- Pages and length of the shift image (R318). -/
def Dev.shiftPages (s : Dev) : Nat := s.rf 0x7200 7 4 + 1
def Dev.shiftLen (s : Dev) : Nat := s.rf 0x7200 29 16

/-- Whether the shift source is HOST. -/
def Dev.shiftHost (s : Dev) : Bool := s.isRoot && s.rf 0x7200 1 0 = 1

/-! ### The SYNC ordered set -/

/-- CRC-16 of bytes 1 to 45, most significant byte first (R313). -/
def syncCrc (bs : List Byte) : List Byte :=
  let c := (crc16 ((bs.drop 1).take 45)).toNat
  [BitVec.ofNat 8 (c / 256), BitVec.ofNat 8 c]

/-- A SYNC with its CRC (Table HOOP-4); `mid` holds bytes 12 to 29. -/
def mkSync (down : Bool) (b2 aux : Byte) (wheel : Nat) (mid : List Byte) (sender : Nat) (b32 auxData : List Byte) (depth cum : Nat) :
    List Byte :=
  let body := [0xBC, if down then 0xB5 else 0xB6, b2, aux] ++ leBytes wheel 8 ++ (mid ++ List.replicate 18 0).take 18 ++
    leBytes sender 2 ++ (b32 ++ List.replicate 3 0).take 3 ++ (auxData ++ List.replicate 6 0).take 6 ++ leBytes depth 2 ++ leBytes cum 3
  body ++ syncCrc body

/-- Whether a captured SYNC is valid: code groups, CRC and byte 1 (R313). -/
def syncValid (c : SyncRx) : Bool :=
  c.codesOk && c.bytes.length = 48 && (c.bytes.drop 46) = syncCrc c.bytes && (byteAt c.bytes 1 = 0xB5 || byteAt c.bytes 1 = 0xB6)

/-- SENDER of this unit at a port. -/
def Dev.senderField (s : Dev) (k : Nat) : Nat := (if s.unaddressed then 0xFFF else s.hoopId.toNat) + 4096 * k

/-- DEPTH that this unit sends: 0x1FFF in a loop (R336). -/
def Dev.depthField (s : Dev) : Nat := if s.isRoot then 0 else if s.hoop.loop then 0x1FFF else s.hoop.depth

/-- CUM that this unit sends. -/
def Dev.cumField (s : Dev) : Nat := if s.isRoot then 0 else s.hoop.cum

/-- Whether this unit may hand a Tempo grid on: its own as the Wheel master, or one it has adopted (R29, R43). -/
def Dev.tempoGiven (s : Dev) : Bool :=
  (s.tempo.st = .run || s.tempo.st = .hold) && (s.clk.role = .master || s.tempoSrc = 3)

/-- The AUX of frame P on the root (R317, Table HOOP-5). -/
def Dev.auxOf (s : Dev) (p : Nat) : Byte × List Byte :=
  let t := s.tempo
  match p % 48 with
  | 0 => (0, leBytes (unsignedBits t.a 48) 6)
  | 1 => (1, leBytes t.pq 6)
  | 2 => (2, leBytes t.k0 4 ++ leBytes s.tempoL 1 ++ [if s.tempoGiven then 1 else 0])
  | _ => (0xFF, [])

/-- PRESS_MAP of the root's frame P: bit k announces boundary P + 1 + k (R322). -/
def Dev.pressMap (s : Dev) (p : Nat) : Nat :=
  s.hoop.announced.foldl (fun m a =>
    if a.1 ≤ p && p < a.2 && !m.testBit (a.2 - p - 1) then m + 2 ^ (a.2 - p - 1) else m) 0

/-- A frame that begins on a port: its routed section opens at a symbol, and its origin is remembered for delay samples (R312, R315). -/
def Dev.openFrame (s : Dev) (k at16 : Nat) (origin : BitVec 16) (sym : Nat) : Dev :=
  s.modPort k (fun q => { q with frameAt := some at16, freeSym := sym, sent := ((origin, at16) :: q.sent).take 4 })

/-! ### Slices -/

/-- A shift section taken into the hold buffer when its page and range hold the unit's slice (R320). -/
def Dev.takeSlice (s : Dev) (page : Nat) (data : List Byte) : Dev :=
  let ofs := s.rf 0x7240 12 0
  let first := s.rf 0x7244 10 0
  let cnt := s.rf 0x7244 26 16
  if page = s.rf 0x7240 19 16 && decide (ofs + 2 * cnt ≤ data.length) then
    s.modHoop (fun h => { h with hold := forEach (upTo cnt) (fun m i =>
      if first + i ≤ 1039 then tabSet 0 m (first + i) (BitVec.ofNat 16 (leAt data (ofs + 2 * i) 2)) else m) h.hold })
  else s

/-- CRC-32 of a shift section: PAGE, LEN and the data (Table HOOP-3). -/
def shiftCrc (page : Byte) (data : List Byte) : BitVec 32 := crc32 ([page] ++ leBytes data.length 2 ++ data)

/-! ### Frames -/

/-- Whether the root or a cut-off unit sends a downstream frame on this tick: press + 24 (R314, R334). -/
def Dev.frameDue (s : Dev) : Bool :=
  s.fabricOn && s.clk.running && (s.isRoot || s.cutOff) && s.gridNow 4096 24 && !s.isServed .frameSend

/-- A new shift image goes into force at a frame with P mod PAGES = 0 (R319). -/
def Dev.newImage (s : Dev) (p : Nat) : Dev :=
  match s.hoop.imageNew with
  | some (g, img) => if p % s.shiftPages = 0 then s.modHoop (fun h => { h with image := img, gen := g, imageNew := none }) else s
  | none => s

/-- FRAME_SEND (R314, R318, R322, R334). -/
def Dev.frameSend (s : Dev) : Dev :=
  if !s.frameDue then s
  else
    let s := s.serve .frameSend
    let p := s.pressIndex
    let s := if s.isRoot then s.newImage p else s
    let host := s.shiftHost && !s.hoop.image.isEmpty
    let page : Byte := if host then BitVec.ofNat 8 (p % s.shiftPages) else 0xFF
    let data : List Byte := if host then (s.hoop.image.drop (p % s.shiftPages * s.shiftLen)).take s.shiftLen else []
    let aux := if s.isRoot then s.auxOf p else (0xFF, [])
    let map := if s.isRoot then s.pressMap p else 0
    let origin := BitVec.ofNat 16 p
    let s := forEach [1, 2] (fun s k =>
      if s.isFabricPort k && (s.portOf k).link ≠ 0 then
        let sync := mkSync true (if s.isRoot then 0x10 else 0) aux.1 s.wheelN (leBytes origin.toNat 2 ++ leBytes map 16) (s.senderField k)
          (leBytes (s.portOf k).dly 3) aux.2 s.depthField s.cumField
        (s.emit (.downFrame k sync page data (shiftCrc page data))).openFrame k (16 * s.clk.now) origin (58 + data.length)
      else s) s
    let s := if s.isRoot then s.takeSlice page.toNat data else s
    s.modHoop (fun h => { h with announced := h.announced.filter (fun a => decide (p + 1 < a.2)) })

/-- The upstream frame at a press (R314, R315). -/
def Dev.upSend (s : Dev) : Dev :=
  if s.isRoot then s
  else
    let now := 16 * s.clk.now
    let turn := match s.hoop.lastCap with
      | some t => (now - t) % 2 ^ 20
      | none => 0
    let sync := mkSync false 0 0xFF s.wheelN (leBytes s.hoop.lastOrigin.toNat 2) (s.senderField 0) (leBytes turn 3) [] s.depthField
      s.cumField
    (s.emit (.upFrame sync)).modPort 0 (fun q => { q with frameAt := some now, freeSym := 48 })

/-! ### Transmit queues -/

/-- The class in which a packet leaves: ENUM types, then CPL and EVT, then DESC and SETW (R326). -/
def pktClass (p : Packet) : Nat := if 0x10 ≤ p.type.toNat then 0 else if p.type = 2 || p.type = 3 then 1 else 2

/-- The symbols a packet takes on the line (Table HOOP-6). -/
def pktSymbols (p : Packet) : Nat := p.payload.length + 14

/-- The queued packet that leaves next: the first of the lowest class among those that may start. -/
def nextPacket (now : Nat) (q : List (Packet × Nat)) : Option (Packet × Nat) :=
  let ready := q.filter (fun e => decide (e.2 ≤ now))
  match ready.find? (fun e => pktClass e.1 = 0) with
  | some e => some e
  | none => match ready.find? (fun e => pktClass e.1 = 1) with
    | some e => some e
    | none => ready.head?

/-- The first free even symbol of the frame that leaves within this tick, of 2.5 symbols (R308, R312). -/
def Dev.symbolNow (s : Dev) (q : HPort) (at16 : Nat) : Option Nat :=
  let sinceStart : Nat := 16 * s.clk.now - at16
  let sym := max q.freeSym (2 * ceilDiv (5 * sinceStart) 64)
  if 32 * sym < 5 * (16 * s.clk.now + 16 - at16) then some sym else none

/-- A port on a tick: a packet starts at the next free even symbol whose tick has come, when the frame has room (R312, R326). -/
def Dev.portTick (s : Dev) (k : Nat) : Dev :=
  let q := s.portOf k
  match q.frameAt, nextPacket s.clk.now q.txq with
  | some f, some e =>
    match s.symbolNow q f with
    | some sym =>
      if q.link = 2 && decide (sym + pktSymbols e.1 ≤ 10240) then
        (s.setPort k { q with txq := q.txq.erase e, freeSym := sym + pktSymbols e.1 }).emit (.packet k e.1)
      else s
    | none => s
  | _, _ => s

/-- A port that is DOWN with a signal and an aligned receiver enters TRAIN (Table HOOP-2). -/
def Dev.linkTrain (s : Dev) (k : Nat) : Dev :=
  let q := s.portOf k
  if q.link = 0 && q.signal && q.aligned then s.setPort k { q with link := 1, good := 0, missed := 0, fresh := true, lastSync := none } else s

/-- The ports on a tick. -/
def Dev.hoopTick (s : Dev) : Dev :=
  if s.fabricOn then forEach [0, 1, 2] (fun s k => if s.isFabricPort k then (s.linkTrain k).portTick k else s) s else s

/-! ### Routing entries -/

/-- A routing entry as a word (Table HOOP-8). -/
def routeWord (lo hi port : Nat) (auto : Bool) : Word :=
  BitVec.ofNat 32 (lo + 4096 * hi + 2 ^ 24 * port + 2 ^ 28) ||| bitAt auto 29

/-- Entry i of the table is valid and AUTO. -/
def Dev.routeAuto (s : Dev) (i : Nat) : Bool := s.rb (0x7400 + 4 * i) 28 && s.rb (0x7400 + 4 * i) 29

/-- The free entry that the device takes next, from index 255 downward (R327). -/
def Dev.routeFree (s : Dev) : Option Nat := ((upTo 256).reverse).find? (fun i => !s.rb (0x7400 + 4 * i) 28)

/-- Every AUTO entry cleared (R327). -/
def Dev.clearAuto (s : Dev) : Dev := forEach (upTo 256) (fun s i => if s.routeAuto i then s.setBoth (0x7400 + 4 * i) 0 else s) s

/-- An AUTO entry installed; ROUTE_OVF where no entry is free. An empty range is not installed (R330). -/
def Dev.addAuto (s : Dev) (lo hi port : Nat) : Dev :=
  let hi := min hi 0xFFE
  if hi < lo then s
  else match s.routeFree with
    | some i => s.setBoth (0x7400 + 4 * i) (routeWord lo hi port true)
    | none => s.hoopFlag 6

/-- A relayed record teaches the route to its ID (R330). -/
def Dev.learnRoute (s : Dev) (id port : Nat) : Dev :=
  let mine := (upTo 256).filter (fun i => s.routeAuto i && s.rf (0x7400 + 4 * i) 25 24 = port)
  let lo (i : Nat) : Nat := s.rf (0x7400 + 4 * i) 11 0
  let hi (i : Nat) : Nat := s.rf (0x7400 + 4 * i) 23 12
  if id = 0xFFF || mine.any (fun i => decide (lo i ≤ id) && decide (id ≤ hi i)) then s
  else match mine.find? (fun i => hi i + 1 = id || lo i = id + 1) with
    | some i => s.setBoth (0x7400 + 4 * i) (routeWord (min (lo i) id) (max (hi i) id) port true)
    | none => s.addAuto id id port

/-- A duplicate ID removed from the AUTO ranges: a range is cut or split, and keeps its lower part where no entry is free (R331). -/
def Dev.removeId (s : Dev) (id : Nat) : Dev :=
  forEach (upTo 256) (fun s i =>
    let o := 0x7400 + 4 * i
    let lo := s.rf o 11 0
    let hi := s.rf o 23 12
    let port := s.rf o 25 24
    if s.routeAuto i && decide (lo ≤ id) && decide (id ≤ hi) then
      if lo = hi then s.setBoth o 0
      else if lo = id then s.setBoth o (routeWord (id + 1) hi port true)
      else
        let s := s.setBoth o (routeWord lo (id - 1) port true)
        if id = hi then s else s.addAuto (id + 1) hi port
    else s) s

/-! ### Packets -/

/-- The payload length of a packet type (Table HOOP-7). -/
def pktLength : Nat → Option Nat
  | 0x01 => some 32
  | 0x02 => some 16
  | 0x03 => some 16
  | 0x04 => some 12
  | 0x10 => some 4
  | 0x11 => some 4
  | 0x12 => some 4
  | 0x13 => some 20
  | 0x14 => some 32
  | 0x15 => some 0
  | _ => none

/-- Whether a received packet is well formed: CRC, code groups, TYPE, length and DMODE (R324). -/
def pktGood (r : PktRx) : Bool :=
  r.whole && pktLength r.packet.type.toNat = some r.packet.payload.length && decide (r.packet.dmode.toNat % 4 < 3)

/-- Whether BR is the mirror link of a twin pair and runs (R343). -/
def Dev.twinOn (s : Dev) : Bool := s.fabricOn && s.brMode = 2

/-- A completion of a refused DESC (R325, R326, R328, R346). -/
def Dev.refuseDesc (s : Dev) (p : Packet) (st : Status) : Dev :=
  if p.dmode.toNat % 4 = 1 then s
  else if s.twinOn && p.dmode.toNat % 4 = 2 then s.partnerPacket 0x02 p.tag (mkCompletion (descOfBytes p.payload) st s.short 0).bytes
  else s.replyCpl p.src p.tag (mkCompletion (descOfBytes p.payload) st s.short 0).bytes

/-- A received packet forwarded toward its destination (R325, R326). -/
def Dev.forward (s : Dev) (k : Nat) (p : Packet) : Dev :=
  match s.deliverPort (some k) p.dest with
  | some j =>
    if (s.portOf j).txq.length < 64 then s.queuePacket j p
    else if p.type = 1 then s.refuseDesc p .full
    else s.dropPacket j
  | none => if p.type = 1 then s.refuseDesc p .unreachable else s.dropPacket k

/-! ### Enumeration -/

/-- A packet in PORT mode on a fabric port. -/
def Dev.portPacket (s : Dev) (k type : Nat) (payload : List Byte) : Dev :=
  s.queuePacket k (mkPacket type 2 0 (if s.unaddressed then 0xFFF else s.hoopId) 0 payload)

/-- The child ports that are UP (R329). -/
def Dev.childPorts (s : Dev) : List Nat := [1, 2].filter (fun k => s.portUp k)

/-- The unit count of the subtree below a port. -/
def Dev.subCount (s : Dev) (k : Nat) : Nat := if s.hoop.asked.contains k then ((s.portOf k).count).getD 0 else 0

/-- Whether every asked port has its count. -/
def Dev.allCounted (s : Dev) : Bool := s.hoop.asked.all (fun k => (s.portOf k).count.isSome)

/-- ENUM_ASSIGN passed on below a base, with the AUTO entries of the two subtrees (R330). -/
def Dev.assignBelow (s : Dev) (base : Nat) : Dev :=
  let dn := s.subCount 1
  let br := s.subCount 2
  let send (s : Dev) (k b : Nat) : Dev :=
    if s.hoop.asked.contains k && s.portUp k then s.portPacket k 0x12 (leBytes s.hoop.epoch.toNat 2 ++ leBytes b 2) else s
  let s := send (send s 1 (base + 1)) 2 (base + 1 + dn)
  (s.addAuto (base + 1) (base + dn) 1).addAuto (base + 1 + dn) (base + dn + br) 2

/-- The IDs, other than 0xFFF, that appear in records with different EUI-64s, each with the port of its later record (R331). -/
def dupIds (rs : List EnumRec) : List (BitVec 12 × Nat) :=
  (rs.foldl (fun (acc : List EnumRec × List (BitVec 12 × Nat)) r =>
    let clash := r.id ≠ 0xFFF && acc.1.any (fun q => q.id = r.id && q.eui ≠ r.eui)
    (r :: acc.1, if clash && !acc.2.any (fun d => d.1 = r.id) then acc.2 ++ [(r.id, r.port)] else acc.2)) ([], [])).2

/-- The order of the list: ascending ID, then depth, then EUI-64; unaddressed units carry 0xFFF and come last (R332). -/
def recBefore (a b : EnumRec) : Bool :=
  decide (a.id.toNat < b.id.toNat) ||
    (a.id = b.id && (decide (a.depth < b.depth) || (a.depth = b.depth && decide (a.eui.toNat ≤ b.eui.toNat))))

/-- A record put in its place. -/
def insertRec (r : EnumRec) : List EnumRec → List EnumRec
  | [] => [r]
  | q :: qs => if recBefore r q then r :: q :: qs else q :: insertRec r qs

/-- A list cut into pieces of 14, one ENUM_END each, and one where there is none. -/
def fourteens : Nat → List Nat → List (List Nat)
  | 0, _ => []
  | n + 1, xs => if xs.length ≤ 14 then [xs] else xs.take 14 :: fourteens n (xs.drop 14)

/-- The end of an enumeration on the root (R331, R332). -/
def Dev.enumFinish (s : Dev) (tmo : Bool) : Dev :=
  let recs := s.hoop.enumRecs
  let ds := dupIds recs
  let s := if tmo then s.hoopFlag 10 else s
  let s := ds.foldl (fun s d => (s.hoopFlag 2).eventOk 0x0902 (d.2 + 65536 * d.1.toNat)) s
  let maxCum := recs.foldl (fun m r => max m r.cum) 0
  let maxDepth := recs.foldl (fun m r => max m r.depth) 0
  let leadMin := ceilDiv maxCum 4096 + s.shiftPages + 1
  let list := (recs.foldl (fun l r => insertRec { r with dup := ds.any (fun d => d.1 = r.id) } l) []).take 4095
  let root : EnumRec := ⟨0, 0, 3, 0, Config.eui, 0, false⟩
  let s := (fourteens (ds.length + 1) (ds.map (fun d => d.1.toNat))).foldl (fun s c =>
    let body := leBytes s.hoop.epoch.toNat 2 ++ leBytes leadMin 1 ++ leBytes c.length 1 ++
      (c.flatMap (fun d => leBytes d 2) ++ List.replicate 28 0).take 28
    s.bcastPacket none (mkPacket 0x14 1 0 0 0 body)) s
  let s := ds.foldl (fun s d => s.removeId d.1.toNat) s
  let s := s.modHoop (fun h => { h with
    enumBusy := false, enumN := none, asked := [], enumRecs := [], enumList := root :: list, found := recs.length + 1, dups := ds.length,
    maxDepth := maxDepth, maxCum := maxCum, leadMin := leadMin })
  let mine (f : Flight) : Bool := f.await = .enumEnd s.hoop.epoch
  let detail := recs.length + 1 + 65536 * ds.length + 2 ^ 32 * maxDepth
  if tmo then s.landFlightsNow mine .timeout detail else s.landFlights mine .ok detail

/-- The counts are complete: a unit answers its parent, the root assigns (R329, R330). -/
def Dev.enumCounted (s : Dev) : Dev :=
  if !(s.hoop.enumBusy && s.hoop.enumN.isNone && s.allCounted) then s
  else
    let n := 1 + s.subCount 1 + s.subCount 2
    let s := s.modHoop (fun h => { h with enumN := some n })
    if s.isRoot then
      let s := s.assignBelow 0
      if n ≤ 1 then s.enumFinish false else s
    else s.portPacket 0 0x11 (leBytes s.hoop.epoch.toNat 2 ++ leBytes n 2)

/-- Counting begins on this unit (R329). -/
def Dev.enumBegin (s : Dev) (epoch : BitVec 16) : Dev :=
  let s := s.clearAuto
  let ks := s.childPorts
  let s := forEach [1, 2] (fun s k => s.modPort k (fun q => { q with count := none })) s
  let s := s.modHoop (fun h => { h with epoch := epoch, enumBusy := true, enumN := none, asked := ks, dup := false, enumRecs := [] })
  (forEach ks (fun s k => s.portPacket k 0x10 (leBytes epoch.toNat 2 ++ leBytes 0 2)) s).enumCounted

/-- An enumeration asked for on the root: started, or started when the present one ends (R329). -/
def Dev.enumRequest (s : Dev) : Dev :=
  if s.hoop.enumBusy then s.modHoop (fun h => { h with enumWant := true })
  else (s.modHoop (fun h => { h with enumStart := s.pressIndex })).enumBegin (s.hoop.epoch + 1)

/-- The enumeration that waited for the end of another starts (R329). -/
def Dev.enumNext (s : Dev) : Dev :=
  if s.hoop.enumWant && !s.hoop.enumBusy then (s.modHoop (fun h => { h with enumWant := false })).enumRequest else s

/-- ENUM_START on UP with a new EPOCH (R329). -/
def Dev.enumStartRx (s : Dev) (k : Nat) (p : Packet) : Dev :=
  let e := BitVec.ofNat 16 (leAt p.payload 0 2)
  if k = 0 && !s.isRoot && e ≠ s.hoop.epoch then s.enumBegin e else s

/-- ENUM_COUNT from a child (R329). -/
def Dev.enumCountRx (s : Dev) (k : Nat) (p : Packet) : Dev :=
  if s.hoop.enumBusy && leAt p.payload 0 2 = s.hoop.epoch.toNat && s.hoop.asked.contains k then
    (s.modPort k (fun q => { q with count := some (leAt p.payload 2 2) })).enumCounted
  else s

/-- This unit's record (Table HOOP-7). -/
def Dev.ownRecord (s : Dev) : List Byte :=
  leBytes s.hoop.epoch.toNat 2 ++ leBytes (if s.unaddressed then 0xFFF else s.hoopId.toNat) 2 ++ leBytes s.hoop.depth 2 ++ [3, 0] ++
    leBytes s.hoop.cum 4 ++ leBytes Config.eui.toNat 8

/-- ENUM_ASSIGN (R330). -/
def Dev.enumAssignRx (s : Dev) (k : Nat) (p : Packet) : Dev :=
  if k = 0 && !s.isRoot && s.hoop.enumBusy && leAt p.payload 0 2 = s.hoop.epoch.toNat then
    let base := leAt p.payload 2 2
    let s := if s.rb 0x7000 5 then s else s.setBothField 0x7008 11 0 (if base ≤ 0xFFE then base else 0xFFF)
    (s.assignBelow base).sendPacket 0x13 0 0 s.ownRecord
  else s

/-- The record that an ENUM_REC carries. -/
def recOf (k : Nat) (p : Packet) : EnumRec :=
  ⟨BitVec.ofNat 12 (leAt p.payload 2 2), leAt p.payload 4 2, p.payload.getD 6 0, leAt p.payload 8 4,
    BitVec.ofNat 64 (leAt p.payload 12 8), k, false⟩

/-- ENUM_REC at the root (R331). -/
def Dev.enumRecRx (s : Dev) (k : Nat) (p : Packet) : Dev :=
  if s.isRoot && s.hoop.enumBusy && leAt p.payload 0 2 = s.hoop.epoch.toNat then
    let r := recOf k p
    let s := (s.learnRoute r.id.toNat k).modHoop (fun h => { h with enumRecs := h.enumRecs ++ [r] })
    match s.hoop.enumN with
    | some n => if n ≤ s.hoop.enumRecs.length + 1 then (s.enumFinish false).enumNext else s
    | none => s
  else s

/-- A relayed record teaches its route (R330). -/
def Dev.enumRecRelay (s : Dev) (k : Nat) (p : Packet) : Dev := if k = 0 then s else s.learnRoute (leAt p.payload 2 2 % 4096) k

/-- ENUM_END at a unit (R331). -/
def Dev.enumEndRx (s : Dev) (p : Packet) : Dev :=
  if s.isRoot then s
  else
    let ids := (upTo (min 14 (byteAt p.payload 3))).map (fun i => leAt p.payload (4 + 2 * i) 2)
    let s := s.modHoop (fun h => { h with
      enumBusy := false, enumN := none, asked := [], dup := h.dup || ids.contains s.hoopId.toNat, leadMin := byteAt p.payload 2 })
    forEach ids (fun s id => s.removeId id) s

/-- ENUM_REQ at the root: an automatic enumeration is due at the next press (R329). -/
def Dev.enumReqRx (s : Dev) : Dev := if s.isRoot then s.modHoop (fun h => { h with enumAuto := true }) else s

/-- The packets held back by a debug halt are handled when it ends (R437). -/
def Dev.enumRelease (s : Dev) : Dev :=
  let ps := s.hoop.enumHeld
  ps.foldl (fun s e => match e.2.type.toNat with
    | 0x10 => s.enumStartRx e.1 e.2
    | 0x11 => s.enumCountRx e.1 e.2
    | 0x12 => s.enumAssignRx e.1 e.2
    | 0x13 => s.enumRecRx e.1 e.2
    | 0x14 => s.enumEndRx e.2
    | _ => s.enumReqRx) (s.modHoop (fun h => { h with enumHeld := [] }))

/-- Whether the enumeration has lasted HOOP_ENUM_TMO presses (R331). -/
def Dev.enumTmoDue (s : Dev) : Bool :=
  s.isRoot && s.hoop.enumBusy && decide (s.hoop.enumStart + s.rf 0x7020 15 0 ≤ s.pressIndex)

/-- ENUM_TIMEOUT (R331). -/
def Dev.enumTimeout (s : Dev) : Dev := if s.fabricOn && s.enumTmoDue then (s.enumFinish true).enumNext else s

/-! ### Links -/

/-- A port goes DOWN (Table HOOP-2): from UP with BREAK and HOOP_BREAK; UP as the Wheel reference enters HOLDOVER (R34); a count that an
enumeration awaits from it is 0 (R329). -/
def Dev.linkDown (s : Dev) (k : Nat) : Dev :=
  let q := s.portOf k
  if q.link = 0 then s
  else
    let s := s.setPort k { q with link := 0, good := 0, missed := 0, lastSync := none, frameAt := none, count := if q.count.isNone then some 0 else q.count }
    let s := if q.link = 2 then (s.hoopFlag 0).eventOk 0x0901 (k + 65536 * q.farId.toNat) else s
    let s := if k = 0 && q.link = 2 then s.refLost .hoop else s
    s.judgeCut.enumCounted

/-- A port enters UP (Table HOOP-2, R329). -/
def Dev.linkUp (s : Dev) (k : Nat) (far : BitVec 12) : Dev :=
  let q := s.portOf k
  let s := s.setPort k { q with link := 2, good := 0, farId := far, everUp := true }
  let s := if q.everUp then (s.hoopFlag 1).eventOk 0x0903 (k + 65536 * far.toNat) else s
  let s := if k = 0 then s
    else if s.isRoot then s.modHoop (fun h => { h with enumAuto := true })
    else s.sendPacket 0x15 0 0 []
  s.judgeCut

/-- Whether a port's receiver takes symbols: a fabric port out of DOWN, or the mirror link (R311, R343). -/
def Dev.hears (s : Dev) (k : Nat) : Bool :=
  s.fabricOn && ((s.isFabricPort k && (s.portOf k).link ≠ 0) || (decide (k = 2) && s.twinOn))

/-- The last 16 code groups with newer ones, and whether 4 of any 16 of them are invalid (R309). -/
def groupWindow : List Bool → List Sym → List Bool × Bool
  | w, [] => (w, false)
  | w, y :: ys =>
    let w := (decide (y = .bad) :: w).take 16
    if y = .bad && decide (4 ≤ w.countP id) then (w, true) else groupWindow w ys

/-- Code groups received on a port: the invalid ones counted, and alignment lost by 4 of any 16 (R308, R309, R311). -/
def Dev.lineGroups (s : Dev) (k : Nat) (ys : List Sym) : Dev :=
  if !s.hears k then s
  else
    let (w, lost) := groupWindow (s.portOf k).recent ys
    let s := s.modPort k (fun q => { q with
      codeErr := BitVec.ofNat 16 (min 65535 (q.codeErr.toNat + ys.countP (· = .bad))), recent := if lost then [] else w,
      aligned := q.aligned && !lost })
    if lost && s.isFabricPort k then s.linkDown k else s

/-! ### Packets received -/

/-- A packet received on a port: discarded, consumed, forwarded, or both (R324, R325); the mirror link carries only DESC, CPL and EVT for
this unit (R346). A row acts on packets of its own type. -/
def Dev.pktRecv (s : Dev) (k : Nat) (r : PktRx) (type : Nat) (consume relay : Dev → Dev) : Dev :=
  let twin := decide (k = 2) && s.twinOn
  let p := r.packet
  let s := s.lineGroups k r.syms
  if !s.hears k then s
  else if !pktGood r then s.modPort k (fun q => { q with pktErr := satInc q.pktErr })
  else if p.type.toNat ≠ type then s
  else if twin then (if p.dmode.toNat % 4 = 2 && decide (type ≤ 3) then consume s else s)
  else match p.dmode.toNat % 4 with
    | 2 => consume s
    | 1 => (if s.ownId p.src then s else consume s).bcastPacket (some k) p
    | _ => if s.ownId p.dest then consume s else (relay s).forward k p

/-- A DESC consumed: into ring LH, or FULL (R129, R328). -/
def Dev.consumeDesc (s : Dev) (k : Nat) (p : Packet) : Dev :=
  if s.ring.lh.length < 64 then
    let og : Origin := if p.dmode.toNat % 4 = 1 then .nobody else if k = 2 && s.twinOn then .partner p.tag else .hoop p.src p.tag
    s.modRing (fun r => { r with lh := r.lh ++ [⟨.lh, og, descOfBytes p.payload, 0, none, false⟩] })
  else s.refuseDesc p .full

/-- PKT_DESC. -/
def Dev.pktDesc (s : Dev) (k : Nat) (r : PktRx) : Dev := s.pktRecv k r 0x01 (fun s => s.consumeDesc k r.packet) id

/-- A CPL consumed: the originator matches it by TAG and writes it, or discards it (R119, R170, R328). -/
def Dev.consumeCpl (s : Dev) (p : Packet) : Dev :=
  s.landRemote (fun f => match f.await.remoteTag with
    | some (tag, _) => tag = p.tag
    | none => false) (entryOfBytes p.payload)

/-- An EVT consumed: the root writes the entry unchanged (R328). -/
def Dev.consumeEvt (s : Dev) (p : Packet) : Dev := if s.isRoot then s.postEvent (entryOfBytes p.payload) else s

/-- PKT_CPL. -/
def Dev.pktCpl (s : Dev) (k : Nat) (r : PktRx) : Dev := s.pktRecv k r 0x02 (fun s => s.consumeCpl r.packet) id

/-- PKT_EVT. -/
def Dev.pktEvt (s : Dev) (k : Nat) (r : PktRx) : Dev := s.pktRecv k r 0x03 (fun s => s.consumeEvt r.packet) id

/-- A packet of an ENUM type, which the Steward handles; a debug halt holds it back (R332, R437). -/
def Dev.pktEnum (s : Dev) (k : Nat) (r : PktRx) : Dev :=
  let p := r.packet
  let held (f : Dev → Dev) (s : Dev) : Dev :=
    if s.flt.dbgHalt then s.modHoop (fun h => { h with enumHeld := h.enumHeld ++ [(k, p)] }) else f s
  match p.type.toNat with
  | 0x10 => s.pktRecv k r 0x10 (held (fun s => s.enumStartRx k p)) id
  | 0x11 => s.pktRecv k r 0x11 (held (fun s => s.enumCountRx k p)) id
  | 0x12 => s.pktRecv k r 0x12 (held (fun s => s.enumAssignRx k p)) id
  | 0x13 => s.pktRecv k r 0x13 (held (fun s => s.enumRecRx k p)) (fun s => s.enumRecRelay k p)
  | 0x14 => s.pktRecv k r 0x14 (held (fun s => s.enumEndRx p)) id
  | _ => s.pktRecv k r 0x15 (held (fun s => s.enumReqRx)) id

/-! ### SYNCs and the links -/

/-- A SYNC at a port, with the direction that is expected there: what it does to the link, and whether it counts (R311, R313, R337). -/
def Dev.linkSync (s : Dev) (k : Nat) (c : SyncRx) : Bool × Dev :=
  let q := s.portOf k
  let at16 := some (16 * s.clk.now + c.frac16.toNat)
  if q.link = 0 then (false, s)
  else if !syncValid c then
    let s := s.setPort k { q with good := 0, missed := q.missed + 1, lastSync := at16, syncBad := satInc q.syncBad }
    (false, if 3 ≤ q.missed + 1 then s.linkDown k else s)
  else if (byteAt c.bytes 1 = 0xB5) ≠ (k = 0) then (false, (s.setPort k { q with good := 0, lastSync := at16 }).hoopFlag 8)
  else
    let far := BitVec.ofNat 12 (leAt c.bytes 30 2)
    let s := s.setPort k { q with missed := 0, good := q.good + 1, lastSync := at16, farId := if q.link = 2 then far else q.farId }
    (true, if q.link = 1 && 3 ≤ q.good + 1 then s.linkUp k far else s)

/-- A COMMA found at a symbol position: how many have been found there in a row, and whether it was the third (R309). -/
def commaFound (c : Option (Nat × Nat) × Bool) (p : Fin 10) : Option (Nat × Nat) × Bool :=
  let n := match c.1 with
    | some (x, n) => if x = p.val then n + 1 else 1
    | none => 1
  (some (p.val, n), c.2 || decide (3 ≤ n))

/-- COMMAs at a receiver, which aligns on three at one symbol position: DOWN to TRAIN (R309, Table HOOP-2); a signal on the root's UP port
sets ROOT_UP (R337). -/
def Dev.linkAligned (s : Dev) (k : Nat) (commas : List (Fin 10)) : Dev :=
  if !s.fabricOn then s
  else if k = 0 && s.isRoot then s.hoopFlag 9
  else
    let q := s.portOf k
    let (comma, found) := commas.foldl commaFound (q.comma, false)
    let s := s.setPort k (if q.aligned then { q with signal := true }
      else { q with signal := true, comma := if found then none else comma, aligned := found, recent := [] })
    if s.isFabricPort k then s.linkTrain k else s

/-- No signal for 64 ticks: a receiver without one is not aligned (R311). -/
def Dev.linkLost (s : Dev) (k : Nat) : Dev :=
  if s.fabricOn then (s.modPort k (fun q => { q with signal := false, comma := none, aligned := false, recent := [] })).linkDown k else s

/-- Whether a SYNC is missing at a port: none has begun within 4,096 + 8 ticks of the one before (R311). -/
def Dev.syncOverdue (s : Dev) (k : Nat) : Bool :=
  s.fabricOn && s.isFabricPort k && (s.portOf k).link ≠ 0 && match (s.portOf k).lastSync with
    | some t => decide (t + 16 * 4104 < 16 * s.clk.now)
    | none => false

/-- A missing SYNC counted; the third missing or bad one in a row takes the port DOWN. The next is expected 4,096 ticks after the place
of this one (R311). -/
def Dev.syncMiss (s : Dev) (k : Nat) : Dev :=
  if !s.syncOverdue k then s
  else
    let q := s.portOf k
    let s := s.setPort k { q with good := 0, missed := q.missed + 1, lastSync := q.lastSync.map (· + 16 * 4096) }
    if 3 ≤ q.missed + 1 then s.linkDown k else s

/-! ### Downstream SYNCs -/

/-- e / d rounded to nearest, halves away from zero (R316). -/
def roundAway (e : Int) (d : Nat) : Int := if 0 ≤ e then ((2 * e.toNat + d) / (2 * d) : Nat) else -((2 * (-e).toNat + d) / (2 * d) : Nat)

/-- The press index nearest this unit's own whose low 16 bits equal ORIGIN (R322). -/
def Dev.resolveOrigin (s : Dev) (o : Nat) : Int :=
  let p := s.pressIndex
  let d := (o + 65536 - p % 65536) % 65536
  if d < 32768 then (p : Int) + d else (p : Int) + d - 65536

/-- The boundaries that PRESS_MAP names recorded; one at or before the present press that was not known is late (R322, R338). -/
def Dev.recordPresses (s : Dev) (origin : Int) (map : Nat) : Dev :=
  forEach (upTo 128) (fun s k =>
    if map.testBit k then
      let b := (origin + 1 + k).toNat
      if s.hoop.recorded.contains b then s
      else s.modHoop (fun h => { h with recorded := b :: h.recorded, late := h.late || decide (b ≤ s.pressIndex) })
    else s) s

/-- An AUX of the cycle kept; with kinds 0, 1 and 2 of one cycle, VALID set and SRC = 3, it updates the distributed grid (R43, R317). -/
def Dev.takeAux (s : Dev) (origin : Int) (kind : Nat) (aux : List Byte) : Dev :=
  if 2 < kind then s
  else
    let cyc := leBytes (origin / 48).toNat 8
    let got := tabSet [] s.hoop.auxGot kind (cyc ++ aux)
    let s := s.modHoop (fun h => { h with auxGot := got })
    let a0 := tabGet [] got 0
    let a1 := tabGet [] got 1
    if kind = 2 && a0.take 8 = cyc && a1.take 8 = cyc && byteAt aux 5 = 1 then
      s.tempoAdopt .hoop (resolve s.wheelN (BitVec.ofNat 48 (leAt a0 8 6))) (leAt a1 8 6) (leAt aux 0 4) (byteAt aux 4)
    else s

/-- The SYNC relayed on a child port 24 ticks after its capture (R314). -/
def Dev.relaySync (s : Dev) (c : SyncRx) (k : Nat) : Dev :=
  let b2 : Byte := BitVec.ofNat 8 (c.frac16.toNat + (if s.hoop.upOk then 16 else 0))
  let sync := mkSync true b2 (c.bytes.getD 3 0) (s.wheelN + 24) ((c.bytes.drop 12).take 18) (s.senderField k) (leBytes (s.portOf k).dly 3)
    ((c.bytes.drop 35).take 6) s.depthField s.cumField
  (s.emit (.relaySync k sync)).openFrame k (16 * (s.clk.now + 24) + c.frac16.toNat) (BitVec.ofNat 16 (leAt c.bytes 12 2)) 10240

/-- What a valid downstream SYNC tells (R314 to R317, R322, R335, R336). -/
def Dev.downSync (s : Dev) (c : SyncRx) : Dev :=
  let bs := c.bytes
  let dly := leAt bs 32 3 % 2 ^ 20
  let depth := leAt bs 41 2 % 2 ^ 13
  let loop := decide (4095 ≤ depth)
  let known := dly ≠ 0xFFFFF
  let s := (s.modPort 0 (fun q => { q with dly := dly })).modHoop (fun h => { h with
    upOk := bitOf (byteAt bs 2) 4, loop := loop, depth := depth + 1,
    cum := if known then leAt bs 43 3 + roundDiv dly 16 + 24 else h.cum,
    lastOrigin := BitVec.ofNat 16 (leAt bs 12 2), lastCap := some (16 * s.clk.now + c.frac16.toNat) })
  let s := if loop then s.hoopFlag 3 else s
  let s :=
    if known && !loop && (s.portOf 0).link = 2 then
      s.refSync .hoop (roundAway (((leAt bs 4 8 : Nat) : Int) * 16 + (byteAt bs 2 % 16 : Nat) + dly - (s.wheelN * 16 + c.frac16.toNat : Nat)) 16)
    else s
  let s := s.judgeCut
  if s.cutOff then s
  else
    let o := s.resolveOrigin (leAt bs 12 2)
    let s := (s.recordPresses o (leAt bs 14 16)).takeAux o (byteAt bs 3) ((bs.drop 35).take 6)
    forEach [1, 2] (fun s k => if s.isFabricPort k && (s.portOf k).link ≠ 0 then s.relaySync c k else s) s

/-- HOOP_SYNC_CAPTURE: a SYNC captured on UP; on a child port it has the wrong direction (R316, R337). -/
def Dev.syncCapture (s : Dev) (k : Nat) (c : SyncRx) : Dev :=
  if !s.fabricOn then s
  else if k = 0 && s.isRoot then s.hoopFlag 9
  else if !s.isFabricPort k then s
  else
    let (ok, s) := (s.lineGroups k c.syms).linkSync k c
    if ok && k = 0 then s.downSync c else s

/-- A delay sample (R315). -/
def Dev.delaySample (s : Dev) (k : Nat) (c : SyncRx) : Dev :=
  let q := s.portOf k
  match q.sent.find? (fun e => e.1 = BitVec.ofNat 16 (leAt c.bytes 12 2)) with
  | some e =>
    let cap := 16 * s.clk.now + c.frac16.toNat
    let sample := Int.tdiv ((cap : Int) - e.2 - (leAt c.bytes 32 3 % 2 ^ 20 : Nat)) 2
    let d : Int := if q.fresh then sample else (q.dly : Int) + Int.tdiv (sample - q.dly) 16
    s.setPort k { q with dly := d.toNat, fresh := false }
  | none => s

/-- UPSTREAM_SYNC_CAPTURE: an upstream SYNC on DN or BR (R315); on UP it has the wrong direction (R337). -/
def Dev.upCapture (s : Dev) (k : Nat) (c : SyncRx) : Dev :=
  if !s.fabricOn || !s.isFabricPort k then s
  else
    let (ok, s) := (s.lineGroups k c.syms).linkSync k c
    if ok && k ≠ 0 then s.delaySample k c else s

/-! ### The shift section and image -/

/-- SHIFT_SECTION_END: relayed, and taken into the hold buffer when good (R314, R320). -/
def Dev.shiftEnd (s : Dev) (sec : ShiftRx) : Dev :=
  let s := if s.isRoot then s else s.lineGroups 0 sec.syms
  if s.isRoot || !s.hears 0 then s
  else
    let s := if s.cutOff then s else forEach [1, 2] (fun s k =>
      if s.isFabricPort k && (s.portOf k).link ≠ 0 then
        (s.emit (.relayShift k sec.relayed)).modPort k (fun q => { q with freeSym := 2 * ceilDiv (48 + sec.syms.length) 2 })
      else s) s
    if sec.closed && sec.crc = shiftCrc sec.page sec.data then s.takeSlice sec.page.toNat sec.data
    else s.modHoop (fun h => { h with shiftBad := satInc h.shiftBad })

/-- Whether the root may read host memory (R107, R319). -/
def Dev.shiftMayRead (s : Dev) : Bool := s.coreOn && s.ring.bme && !s.ring.d3 && s.ring.link

/-- The header read at a press (R319). -/
def Dev.shiftPress (s : Dev) : Dev :=
  if s.shiftHost && s.shiftMayRead then (s.modHoop (fun h => { h with hdrOut := h.hdrOut + 1 })).emit (.shiftHdrReq (s.addr64 0x7210))
  else s

/-- The reads of an image in host memory: each within Max_Read_Request_Size and a 4 KiB page (R106). -/
def imageReads (max : Nat) : Nat → Nat → Nat → List (Nat × Nat)
  | 0, _, _ => []
  | fuel + 1, addr, len =>
    let n := min (min len max) (4096 - addr % 4096)
    if n = 0 then [] else (addr, n) :: imageReads max fuel (addr + n) (len - n)

/-- The buffer of image g (R319). -/
def Dev.imageBuf (s : Dev) (g : Word) : BitVec 64 := s.addr64 (if g.toNat % 2 = 0 then 0x7218 else 0x7220)

/-- A failed read for the shift image (R339): reported as R132 describes, without halting a ring. The spec gives the event no ring number
for it; that byte is a free value. -/
def Dev.shiftFail (s : Dev) (e : RdErr) (addr : BitVec 64) : Dev :=
  let s := s.hoopFlag 11
  let (v, s) := s.draw
  s.readAbort (v.toNat % 256) (rdErrCode e) addr

/-- SHIFT_HEADER_READ_DONE (R319, R339): the oldest header read returns, and an image that is neither in force, read nor being read is read. -/
def Dev.shiftHeader (s : Dev) (r : Rd) : Dev :=
  if s.hoop.hdrOut = 0 then s
  else
    let s := s.modHoop (fun h => { h with hdrOut := h.hdrOut - 1 })
    match r with
    | .err e => s.shiftFail e (s.addr64 0x7210)
    | .ok w =>
      let g : Word := w.setWidth 32
      if wordGood w && g ≠ s.hoop.gen && s.hoop.imageNew.map Prod.fst ≠ some g && !s.hoop.reading.contains g && s.shiftHost &&
          s.shiftMayRead then
        let len := s.shiftPages * s.shiftLen
        (imageReads s.ring.maxRead (len + 1) (s.imageBuf g).toNat len).foldl
          (fun s e => s.emit (.shiftImgReq (BitVec.ofNat 64 e.1) e.2)) (s.modHoop (fun h => { h with reading := h.reading ++ [g] }))
      else s

/-- SHIFT_IMAGE_READ_DONE (R319, R339): the oldest image read completes. -/
def Dev.shiftImage (s : Dev) (img : List Byte) (err : Option RdErr) : Dev :=
  match s.hoop.reading with
  | [] => s
  | g :: gs =>
    let s := s.modHoop (fun h => { h with reading := gs })
    match err with
    | none => s.modHoop (fun h => { h with imageNew := some (g, img.take (s.shiftPages * s.shiftLen)) })
    | some e => s.shiftFail e (s.imageBuf g)

/-! ### The fabric at a press -/

/-- Whether a flight is a DISCOVER that awaits an enumeration (R165). -/
def Flight.enumWait (f : Flight) : Bool :=
  match f.await with
  | .enumEnd _ => true
  | _ => false

/-- A port that does not run: what it counts and has measured stays (Table HOOP-11). -/
def HPort.stopped (q : HPort) : HPort :=
  { farId := q.farId, dly := q.dly, codeErr := q.codeErr, syncBad := q.syncBad, pktErr := q.pktErr, drop := q.drop }

/-- The fabric stops: every port DOWN, nothing queued (R333, R340); an enumeration cut so does not end (R165). -/
def Dev.hoopStop (s : Dev) : Dev :=
  let s := s.landFlightsNow Flight.enumWait .timeout 0
  let s := forEach [0, 1, 2] (fun s k => s.modPort k HPort.stopped) s
  (s.modHoop (fun h => { h with
    busy := false, upOk := false, holding := false, holdCnt := 0, isoRaised := false, wasCut := false, lastCap := none,
    recorded := [], announced := [], late := false, enumBusy := false, enumN := none, asked := [], enumHeld := [], auxGot := [] })).refGone .hoop

/-- EN takes effect (R340). -/
def Dev.hoopEn (s : Dev) : Dev :=
  if s.rb 0x7000 0 && !s.hoop.busy && s.hoopOn then s.modHoop (fun h => { h with busy := true })
  else if s.hoop.busy && (!s.rb 0x7000 0 || !s.hoopOn) then s.hoopStop
  else s

/-- The SETW that RSW_GO asked for (R328). -/
def Dev.rswSend (s : Dev) : Dev :=
  if s.hoop.rswGo then
    let s := s.modHoop (fun h => { h with rswGo := false })
    let body := leBytes (s.rf 0x7304 15 0) 2 ++ leBytes 0 2 ++ leBytes (s.rf 0x7308 31 0) 4 ++ leBytes (s.rf 0x730C 31 0) 4
    if s.rb 0x7300 16 then
      s.bcastPacket none (mkPacket 0x04 1 0 (if s.unaddressed then 0xFFF else s.hoopId) 0 body)
    else s.sendPacket 0x04 (BitVec.ofNat 12 (s.rf 0x7300 11 0)) 0 body
  else s

/-- Whether this press is one at which the unit latches: a recorded boundary, one that the Wheel has passed since the press before (R27), or a
late one (R322, R323, R334, R338). -/
def Dev.fabricLatch (s : Dev) : Bool :=
  let p := s.pressIndex
  s.hoop.busy && !s.cutOff &&
    (s.hoop.recorded.any (fun b => b = p || (decide (s.hoop.lastPress < b) && decide (b ≤ p))) || s.hoop.late)

/-- The hold buffer copied into the shift value of each slice channel, which takes it at a boundary after this tick (R323). -/
def Dev.latchShift (s : Dev) : Dev :=
  let again := decide (s.hoop.latchAt = some s.clk.now)
  let s := s.modHoop (fun h => { h with latchAt := some s.clk.now })
  let s := if again then s else forEach (s.chan.map Prod.fst) (fun s c => s.modChan c (fun x => { x with shiftWas := x.shift })) s
  forEach (upTo (s.rf 0x7244 26 16)) (fun s i =>
    let c := s.rf 0x7244 10 0 + i
    if c ≤ 1039 then s.modChan c (fun x => { x with shift := tabGet 0 s.hoop.hold c }) else s) s

/-- The boundaries of this press dealt with: PRESS_LATE, those of a cut-off unit dropped, old ones forgotten (R334, R338). -/
def Dev.closePress (s : Dev) : Dev :=
  let s := if s.hoop.late && !s.cutOff then s.hoopFlag 4 else s
  s.modHoop (fun h => { h with late := false, lastPress := s.pressIndex, recorded := h.recorded.filter (fun b => decide (s.pressIndex ≤ b + 256)) })

/-- The Hoop at a press: the count of a cut-off unit, automatic enumeration, RSW_GO, the shift header and the upstream frame. -/
def Dev.hoopPress (s : Dev) : Dev :=
  let s := s.hoopEn
  if !s.fabricOn then s.rswSend
  else
    let s := if s.cutOff then s.modHoop (fun h => { h with holdCnt := h.holdCnt + 1 }) else s
    let s := if s.isRoot && s.hoop.enumAuto then
        let s := s.modHoop (fun h => { h with enumAuto := false })
        if s.rb 0x7000 7 then s.enumRequest else s
      else s
    s.enumNext.rswSend.shiftPress.upSend

/-! ### The rows -/

/-- LINK_ALIGNED (R309): COMMAs found, by their symbol positions on the line modulo 10 bits. -/
def execLinkAligned (c : CommaRx) (s : State) : Host.Outcome State Fault Refusal :=
  onDev (fun s => s.linkAligned c.port c.commas) s

/-- ALIGNMENT_LOST (R309): code groups received. -/
def execAlignmentLost (c : LineRx) (s : State) : Host.Outcome State Fault Refusal :=
  onDev (fun s => s.lineGroups c.port (symbolsOf c.rd c.groups)) s

/-- LINK_SIGNAL_LOSS (R311). -/
def execLinkSignalLoss (k : Fin 3) (s : State) : Host.Outcome State Fault Refusal := onDev (fun s => s.linkLost k) s

/-- SYNC_MISSING (R311). -/
def execSyncMissing (k : Fin 3) (s : State) : Host.Outcome State Fault Refusal := onDev (fun s => s.syncMiss k) s

/-- FRAME_SEND (R314). -/
def execFrameSend (s : State) : Host.Outcome State Fault Refusal := onDev (fun s => s.frameSend) s

/-- HOOP_SYNC_CAPTURE (R316). -/
def execHoopSyncCapture (k : Fin 3) (c : SyncRx) (s : State) : Host.Outcome State Fault Refusal := onDev (fun s => s.syncCapture k c) s

/-- UPSTREAM_SYNC_CAPTURE (R315). -/
def execUpstreamSyncCapture (k : Fin 3) (c : SyncRx) (s : State) : Host.Outcome State Fault Refusal := onDev (fun s => s.upCapture k c) s

/-- SHIFT_SECTION_END (R320). -/
def execShiftSectionEnd (sec : ShiftRx) (s : State) : Host.Outcome State Fault Refusal := onDev (fun s => s.shiftEnd sec) s

/-- SHIFT_HEADER_READ_DONE (R319). -/
def execShiftHeaderReadDone (r : Rd) (s : State) : Host.Outcome State Fault Refusal := onDev (fun s => s.shiftHeader r) s

/-- SHIFT_IMAGE_READ_DONE (R319). -/
def execShiftImageReadDone (img : List Byte) (err : Option RdErr) (s : State) : Host.Outcome State Fault Refusal :=
  onDev (fun s => s.shiftImage img err) s

/-- PKT_DESC (R328). -/
def execPktDesc (k : Fin 3) (r : PktRx) (s : State) : Host.Outcome State Fault Refusal := onDev (fun s => s.pktDesc k r) s

/-- PKT_CPL (R328). -/
def execPktCpl (k : Fin 3) (r : PktRx) (s : State) : Host.Outcome State Fault Refusal := onDev (fun s => s.pktCpl k r) s

/-- PKT_EVT (R328). -/
def execPktEvt (k : Fin 3) (r : PktRx) (s : State) : Host.Outcome State Fault Refusal := onDev (fun s => s.pktEvt k r) s

/-- A row of an ENUM packet acts on packets of its own type. -/
def Dev.enumRow (s : Dev) (k : Nat) (r : PktRx) (type : Nat) : Dev :=
  if r.packet.type.toNat = type then s.pktEnum k r else s.pktRecv k r type id id

/-- ENUM_START (R329). -/
def execEnumStart (k : Fin 3) (r : PktRx) (s : State) : Host.Outcome State Fault Refusal := onDev (fun s => s.enumRow k r 0x10) s

/-- ENUM_COUNT (R329). -/
def execEnumCount (k : Fin 3) (r : PktRx) (s : State) : Host.Outcome State Fault Refusal := onDev (fun s => s.enumRow k r 0x11) s

/-- ENUM_ASSIGN (R330). -/
def execEnumAssign (k : Fin 3) (r : PktRx) (s : State) : Host.Outcome State Fault Refusal := onDev (fun s => s.enumRow k r 0x12) s

/-- ENUM_REC (R330). -/
def execEnumRec (k : Fin 3) (r : PktRx) (s : State) : Host.Outcome State Fault Refusal := onDev (fun s => s.enumRow k r 0x13) s

/-- ENUM_END (R331). -/
def execEnumEnd (k : Fin 3) (r : PktRx) (s : State) : Host.Outcome State Fault Refusal := onDev (fun s => s.enumRow k r 0x14) s

/-- ENUM_REQ (R329). -/
def execEnumReq (k : Fin 3) (r : PktRx) (s : State) : Host.Outcome State Fault Refusal := onDev (fun s => s.enumRow k r 0x15) s

/-- ENUM_TIMEOUT (R331). -/
def execEnumTimeout (s : State) : Host.Outcome State Fault Refusal := onDev (fun s => s.enumTimeout) s

end Sys2Proof.Machine
end

