-- ==== Sys2Proof/Machine/Levels.lean ====
section
/-! DEFINITION. The level path of a channel: gang leads (R184), owners and stepwise values (R152, R153, R172, R237, R238), safe levels
(R92), and the chain from level to drive value (R215, R216). Channels 0 to 15 are the power strings, channel 16 + p matrix position p. -/

namespace Sys2Proof.Machine

/-! ### Gang groups and boundaries -/

/-- The lead of the gang group that holds string `n`; an independent string leads itself (R184). -/
def Dev.leadOf (s : Dev) : Nat → Nat
  | 0 => 0
  | n + 1 => if s.rb 0x2000 (n + 1) then s.leadOf n else n + 1

/-- Whether string `n` is a member of a group it does not lead (R184). -/
def Dev.isMember (s : Dev) (n : Nat) : Bool := s.leadOf n ≠ n

/-- The configured phases of the group led by `l`, ascending (R184). -/
def Dev.groupOf (s : Dev) (l : Nat) : List Nat := (upTo 16).filter (fun n => s.leadOf n = l)

/-- The first register of string `n` (Table STR-4). -/
def strOff (n : Nat) : Nat := 0x2100 + 0x20 * n

/-- The dimming period of the string led by `l`, in ticks, and its phase (R182). -/
def Dev.dimP (s : Dev) (l : Nat) : Nat := 4096 * 2 ^ s.rf (strOff l) 3 1
def Dev.dimPhase (s : Dev) (l : Nat) : Nat := s.rf (strOff l + 8) 15 0 % s.dimP l

/-- The row and column of a matrix channel (R197). -/
def chanRow (c : Nat) : Nat := (c - 16) / 64
def chanCol (c : Nat) : Nat := (c - 16) % 64

/-- The first application boundary of a channel after Wheel value `w` (R152, R203); in HOLD a row's first slot after entry counts
whatever ROW_JUMP holds (R92). -/
def Dev.chanBoundaryAfter (s : Dev) (c w : Nat) : Nat :=
  if c < 16 then nextBoundary (s.dimP (s.leadOf c)) (s.dimPhase (s.leadOf c)) w
  else
    let f := nextBoundary 65536 0 w
    if s.rb 0x3000 1 || (s.inHold && s.mtx.holdRows.toNat.testBit (chanRow c)) then
      min f (nextBoundary 65536 (4096 * chanRow c) w)
    else f

/-! ### Stepwise values and owners -/

/-- A channel that remembers, for the first write of a tick, what it held before (R11). -/
def Dev.chanKeep (s : Dev) (c : Nat) : Chan :=
  let x := s.chanOf c
  match x.was with
  | some (t, _, _) => if t = s.clk.now then x else { x with was := some (s.clk.now, x.step, x.handoff) }
  | none => { x with was := some (s.clk.now, x.step, x.handoff) }

/-- A channel's stepwise value written (R152). -/
def Dev.setStep (s : Dev) (c : Nat) (v : BitVec 16) : Dev := s.setChan c { s.chanKeep c with step := v }

/-- The register and bits that hold a channel's owner byte (R237). -/
def ownOff (c : Nat) : Nat := 0x4400 + 4 * (c / 4)
def ownLo (c : Nat) : Nat := 8 * (c % 4)

/-- A channel's owner in force, and the owner last written (R237). -/
def Dev.ownerOf (s : Dev) (c : Nat) : Nat := s.rf (ownOff c) (ownLo c + 7) (ownLo c)
def Dev.ownerWritten (s : Dev) (c : Nat) : Nat := fieldOf (s.written (ownOff c)) (ownLo c + 7) (ownLo c)

/-- An OWNER for one channel: the owner takes effect at the channel's next boundary, with or without HANDOFF (R153, R237). -/
def Dev.setOwner (s : Dev) (c owner : Nat) (handoff : Bool) : Dev :=
  let s := s.setChan c { s.chanKeep c with handoff := handoff }
  (s.setWrittenField (ownOff c) (ownLo c + 7) (ownLo c) owner).markLive (ownOff c)

/-- A channel's safe level (Table STR-6; MTX_SAFE × 257): a group's is its lead's (R184). -/
def Dev.safeLevel (s : Dev) (c : Nat) : Nat :=
  if c < 16 then s.rf (strOff (s.leadOf c) + 0xC) 15 0
  else
    let p := c - 16
    257 * s.rf (0x3400 + 4 * (p / 4)) (8 * (p % 4) + 7) (8 * (p % 4))

/-- The level a Ripener's group gives a channel: its output there, or none where it is no member (R238 to R240). -/
def Dev.ripLevel (s : Dev) (n c : Nat) : Option Nat :=
  let r := s.ripOf n
  (r.group.findIdx? (· = c)).map (fun i => tabGet 0 r.outs i / 256)

/-- The level that a channel's source delivers: the stepwise value in HOLD (R92), else by owner (R238). -/
def Dev.sourceLevel (s : Dev) (c : Nat) : Nat :=
  let x := s.chanOf c
  let step := match x.was with
    | some (t, v, _) => if t = s.clk.now then v else x.step
    | none => x.step
  if s.inHold then step.toNat
  else
    let o := s.ownerOf c
    if o = 0 then step.toNat
    else if o = 1 then (if s.hoop.latchAt = some s.clk.now then x.shiftWas else x.shift).toNat
    else if o = 2 then s.safeLevel c
    else (s.ripLevel (o - 16) c).getD 0

/-- RIP_FLAGS.ORPHAN set for a channel whose owner, a Ripener that has had a START, does not list it (R238). -/
def Dev.orphan (s : Dev) (c : Nat) : Dev :=
  let o := s.ownerOf c
  if 16 ≤ o && !s.inHold && (s.ripLevel (o - 16) c).isNone && !(s.ripOf (o - 16)).group.isEmpty then s.setFlag 0x4008 o
  else s

/-- HANDOFF at the channel's boundary: the stepwise value becomes the level held just before it (R153, R172). -/
def Dev.handOver (s : Dev) (c : Nat) : Dev :=
  let x := s.chanOf c
  match x.was with
  | some (t, v, h) =>
    if t = s.clk.now then
      if h then s.setChan c { x with step := if x.step = v then x.level else x.step, was := some (t, x.level, false) } else s
    else if x.handoff then s.setChan c { x with step := x.level, handoff := false, was := none }
    else s.setChan c { x with was := none }
  | none => if x.handoff then s.setChan c { x with step := x.level, handoff := false } else s

/-! ### From level to drive value -/

/-- The first register of class `k` (Table CLR-4). -/
def clsOff (k : Nat) : Nat := 0x3840 + 0x40 * k

/-- The colour class of a channel: a string's through its lead, a position's through its column (R216). -/
def Dev.classOf (s : Dev) (c : Nat) : Nat :=
  if c < 16 then
    let l := s.leadOf c
    s.rf (0x382C + 4 * (l / 8)) (4 * (l % 8) + 2) (4 * (l % 8))
  else s.rf (0x3100 + 4 * chanCol c) 10 8

/-- Whether a channel is a string of a class whose source is its forward voltage (Table CLR-2). -/
def Dev.isVf (s : Dev) (c : Nat) : Bool := decide (c < 16) && s.rf (clsOff (s.classOf c)) 2 0 = 5

/-- The probe factor of a class (Table CLR-1). -/
def Cls.probeFactor (x : Cls) : Nat := if x.probing then 0x8400 else 0x8000

/-- The temperature trim and the lamp factor in force for a channel (R221, R222, R230). -/
def Dev.ttOf (s : Dev) (c : Nat) : Nat := if s.isVf c then (s.strOf (s.leadOf c)).tt else (s.clsOf (s.classOf c)).tt
def Dev.lampOf (s : Dev) (c : Nat) : Nat := if s.isVf c then (s.strOf (s.leadOf c)).lamp else (s.clsOf (s.classOf c)).lamp

/-- The chain of Table CLR-1: each factor in turn, truncated after each, and the clamp to 20 bits (R215). -/
def chainD (l : Nat) (fs : List Nat) : Nat := min (fs.foldl (fun x f => x * f / 32768) (16 * l)) (2 ^ 20 - 1)

/-- The factors of a channel in their order (Table CLR-1). -/
def Dev.factorsOf (s : Dev) (c : Nat) : List Nat :=
  let k := s.clsOf (s.classOf c)
  [s.ttOf c, k.trim / 65536, k.probeFactor, s.lampOf c, s.clr.dieFact]

/-- The drive value that a channel's level gives now, before a string's capacity clamp (R177, R215). -/
def Dev.chainOf (s : Dev) (c l : Nat) : Nat := chainD l (s.factorsOf c)

/-- An application boundary of a channel: its waiting owner and HANDOFF act, and its level and drive value are formed (R153, R238,
R215). The owner table has taken its waiting values before this. -/
def Dev.takeLevel (s : Dev) (c : Nat) : Dev :=
  let s := (s.handOver c).orphan c
  let l := s.sourceLevel c
  s.modChan c (fun x => { x with level := BitVec.ofNat 16 l, drive := BitVec.ofNat 20 (s.chainOf c l) })

end Sys2Proof.Machine
end

