-- ==== Sys2Proof/Machine/Strings.lean ====
section
/-! DEFINITION. Chapter 06: the power strings. Stages and protections (R173 to R176), the hybrid dimmer (R177 to R181), dimming periods and
converter cycles (R182, R183), gang groups and the capacity clamp (R184, R185), detection, probes, and disabled phases (R186 to R194),
and the VIN lockout (R60). -/

namespace Sys2Proof.Machine

/-! ### Phases of a group -/

/-- Whether a phase is disabled or waits for its self-test (R191, R192, R194). -/
def Dev.phaseOff (s : Dev) (n : Nat) : Bool := s.rb 0x2018 n || s.rb 0x201C n || (s.strOf n).testWait

/-- The active phases of a group, a phase under self-test among them (R183, R194). -/
def Dev.activePhases (s : Dev) (l : Nat) : List Nat := (s.groupOf l).filter (fun n => !s.phaseOff n)

/-- The active phases that are not under self-test. -/
def Dev.surePhases (s : Dev) (l : Nat) : List Nat := (s.activePhases l).filter (fun n => (s.strOf n).testing.isNone)

/-- STAT.FAULTED of a lead brought up to date (R189, R192, R194). -/
def Dev.judgeFaulted (s : Dev) (l : Nat) : Dev :=
  s.modStr l (fun x => { x with faulted := s.rb 0x2010 l || s.rb 0x2014 l || (s.surePhases l).isEmpty })

/-- I_set in µA (R174). -/
def Dev.isetUa (s : Dev) (l : Nat) : Nat := s.rf (strOff l + 4) 11 0 * (s.groupOf l).length * 1500000 / 4095

/-- D_C and D_lo (R178). -/
def Dev.dC (s : Dev) (l : Nat) : Nat := 16 * s.rf (strOff l + 4) 31 16
def dLo (dc : Nat) : Nat := dc - 3 * dc / 100

/-- A string stops switching at once: no mode, no pulse, no debt; a running self-test will run again (R60, R189, R194). -/
def Dev.stringHalt (s : Dev) (l : Nat) : Dev :=
  let s := s.modStr l (fun x => { x with
    switching := false, pulsed := false, dropout := false, drive := 0, width := 0, ampUa := 0, debt := 0, probing := false,
    sampleDue := false, nonZero := none })
  forEach (s.groupOf l) (fun s n => s.modStr n (fun x => { x with
    share := 0, duty := 0, openRun := 0, senseRun := 0, peak := false, refresh := false, ramp := false, offAt := none, sensed := false,
    testing := none, testBad := false, testWait := x.testWait || x.testing.isSome })) s

/-- Ticks of a converter cycle: 96, 64 or 192 (R173). -/
def Dev.convT (s : Dev) (l : Nat) : Nat :=
  if s.rf (strOff l) 5 4 = 1 then 64 else if s.rf (strOff l) 5 4 = 2 then 192 else 96

/-- The shares of a group's current among its active phases, at most 1.5 A each (R185). -/
def Dev.setShares (s : Dev) (l : Nat) : Dev :=
  let ps := s.activePhases l
  let sh := min ((s.strOf l).ampUa / max ps.length 1) 1500000
  forEach (s.groupOf l) (fun s n => s.modStr n (fun x => { x with share := if ps.contains n then sh else 0 })) s

/-- The phases that the group's converter cycles are placed for now (R183, R191). -/
def Dev.placedPhases (s : Dev) (l : Nat) : List Nat :=
  if s.clk.now < (s.strOf l).newAt then (s.strOf l).oldPh else s.activePhases l

/-- Where a stage's converter cycle starts, in sixteenths of a tick within T_sw (R183). -/
def Dev.convPhase16 (s : Dev) (n : Nat) : Nat :=
  let l := s.leadOf n
  let t := s.convT l
  let ps := s.placedPhases l
  (l * t + roundDiv (16 * (ps.findIdx (· = n)) * t) (max ps.length 1)) % (16 * t)

/-- A phase is disabled: its bit and event, and the group re-phased at the lead's next cycle, or stopped with no phase left (R191,
R192, R194). -/
def Dev.disablePhase (s : Dev) (n : Nat) (sense : Bool) : Dev :=
  let l := s.leadOf n
  let t := s.convT l
  let old := s.placedPhases l
  let s := s.setFlag (if sense then 0x201C else 0x2018) n
  let s := s.modStr n (fun x => { x with
    testing := none, testWait := false, testBad := false, openRun := 0, senseRun := 0, xchk := 0, share := 0, duty := 0 })
  let s := s.modStr l (fun x => { x with
    oldPh := old, newAt := s.clk.now + (nextBoundary t (l * t / 16) s.wheelN - s.wheelN) })
  let s := s.eventOk (if sense then 0x0304 else 0x0303) (l + 256 * n)
  let s := if (s.activePhases l).isEmpty then s.stringHalt l else s.setShares l
  s.judgeFaulted l

/-! ### The dimming-period boundary -/

/-- Whether the string may switch: enabled, the mode drives outputs, VIN out of lockout and its suspension, no open or short fault, and a
current set (R57, R60, R174, R189, Table MOD-1). -/
def Dev.strMayRun (s : Dev) (l : Nat) : Bool :=
  s.lightsOn && s.rb (strOff l) 0 && !s.pwr.vinLow && !s.pwr.vinSusp && !s.rb 0x2010 l && !s.rb 0x2014 l &&
    s.rf (strOff l + 4) 11 0 ≠ 0

/-- The live and committed fields of the strings of a group, and their owner bytes, take effect (R11, R196, R237). -/
def Dev.strFields (s : Dev) (l : Nat) : Dev :=
  let g := s.groupOf l
  let s := s.applyLive (fun off gr => match gr with
    | .dim => decide (0x2100 ≤ off) && decide (off < 0x2300) && g.contains ((off - 0x2100) / 32)
    | .dimClass j => (off = 0x382C && g.contains j) || (off = 0x3830 && g.contains (8 + j))
    | .owner j => decide (0x4400 ≤ off) && decide (off < 0x4410) && g.contains (off - 0x4400 + j)
    | _ => false)
  s.applyDue (fun off => decide (0x2100 ≤ off) && decide (off < 0x2300) && g.contains ((off - 0x2100) / 32))

/-- The capacity that `ma` of the group's phases have, as a limit on D (R185). -/
def Dev.capacity (s : Dev) (l ma : Nat) : Nat :=
  min (2 ^ 20 - 1) (2 ^ 20 * ma * 4095 / (max (s.rf (strOff l + 4) 11 0) 1 * max (s.groupOf l).length 1))

/-- The capacity clamp at a boundary: its value, unchanged while a self-test runs; none without an active phase (R185, R194). -/
def Dev.capNow (s : Dev) (l : Nat) : Option Nat :=
  let sure := s.surePhases l
  if sure.isEmpty then none
  else if (s.activePhases l).length ≠ sure.length then some (s.strOf l).cap
  else some (s.capacity l sure.length)

/-- The clamp applied to D, with STR_DERATE at the first boundary at which a new value reduces D (R185). -/
def Dev.clampD (s : Dev) (l d : Nat) : Nat × Dev :=
  match s.capNow l with
  | none => (d, s)
  | some c =>
    let s := s.modStr l (fun x => { x with cap := c, capTold := x.capTold && x.cap = c })
    if c < d then
      if (s.strOf l).capTold then (c, s)
      else (c, ((s.modStr l (fun x => { x with capTold := true })).setFlag 0x2020 0).eventOk 0x0305 (l + 256 * l))
    else (d, s)

/-- The width of a pulse before debt, in sixteenths of a tick (R180). -/
def pulseWidth (p d dc : Nat) (ptrim : Int) : Nat :=
  let w : Int := (p * 16 * d / max dc 1 : Nat) + ptrim
  if d = 0 then 0 else min (max w 1).toNat (p * 16 - 1)

/-- The debt repaid in a period of width `w` (R190). -/
def debtPaid (debt : Int) (w p : Nat) : Int :=
  if 0 < debt then min (w : Int) debt else max debt ((w : Int) - (p * 16 - 1 : Nat))

/-- The width of a probe's worth of light (R190). -/
def probeWidth (cross : Nat) : Nat := 393 * 16 * 8192 / max cross 1

/-- Whether a probe is due in this period (R190). -/
def Dev.probeDue (s : Dev) (l : Nat) (pulsed : Bool) (d : Nat) : Bool :=
  let x := s.strOf l
  s.rb 0x2008 8 && pulsed && d ≠ 0 &&
    (match x.nonZero with
      | some z => decide (max z (x.lastSample.getD z) + 196608000 ≤ s.clk.now)
      | none => false) &&
    (match x.lastProbe with
      | some q => decide (q + 196608000 ≤ s.clk.now)
      | none => true)

/-- The dimmer mode of a period: PULSED or not (Table STR-2). -/
def nextPulsed (start was : Bool) (d dc : Nat) : Bool :=
  if start || was then decide (d < dc) else decide (d < dLo dc)

/-- The period that a switching string begins with drive value `d`: mode, amplitude, width, probe and debt (R178 to R180, R190). -/
def Dev.beginPeriod (s : Dev) (l d : Nat) (start : Bool) : Dev :=
  let x := s.strOf l
  let p := s.dimP l
  let dc := s.dC l
  let cross := s.rf (strOff l + 4) 31 16
  let pulsed := nextPulsed start x.pulsed d dc
  let debt : Int := if start || d = 0 || pulsed ≠ x.pulsed then 0 else x.debt
  let w := pulseWidth p d dc (signed (s.rf (strOff l + 8) 27 16) 12)
  let x := { x with
    switching := true, pulsed := pulsed, drive := BitVec.ofNat 20 d, dropout := false, ovpLast := x.ovpHit, ovpHit := false,
    started := if start then s.clk.now else x.started,
    nonZero := if d = 0 then none else some (if start then s.clk.now else x.nonZero.getD s.clk.now) }
  let s := s.setStr l x
  let probe := s.probeDue l pulsed d
  let x :=
    if !pulsed then { x with
      debt := 0, probing := false, width := if d = 0 then 0 else 16 * p, ampUa := s.isetUa l * d / 2 ^ 20, sampleDue := d ≠ 0,
      pulseEnd := s.clk.now + p }
    else if probe then { x with
      debt := debt + probeWidth cross - w, probing := true, width := 6288, ampUa := s.isetUa l / 8, sampleDue := true,
      lastProbe := some s.clk.now, pulseEnd := s.clk.now + 393 }
    else
      let paid := debtPaid debt w p
      let w' := ((w : Int) - paid).toNat
      { x with
        debt := debt - paid, probing := false, width := w', ampUa := s.isetUa l * dc / 2 ^ 20, sampleDue := decide (6288 ≤ w'),
        pulseEnd := s.clk.now + w' / 16 }
  s.setStr l x

/-- A pulse begins in each active phase, at the duty limit until its current reaches its share; a period without a pulse leaves the
switches as they are (R180). -/
def Dev.startPulse (s : Dev) (l : Nat) : Dev :=
  let x := s.strOf l
  if x.pulsed && decide (0 < x.width) then
    forEach (s.activePhases l) (fun s n => s.modStr n (fun y => { y with ramp := true, offAt := none, sensed := false })) s
  else if x.pulsed then s
  else forEach (s.groupOf l) (fun s n => s.modStr n (fun y => { y with ramp := false, offAt := none, sensed := false })) s

/-- The phases that wait for a self-test rejoin (R194). -/
def Dev.startTests (s : Dev) (l : Nat) : Dev :=
  forEach (s.groupOf l) (fun s n =>
    if (s.strOf n).testWait then s.modStr n (fun x => { x with testWait := false, testing := some 0, testBad := false }) else s) s

/-- What of a group switches in the period that begins (Table STR-4, STR_ACTIVE). -/
def Dev.noteActive (s : Dev) (l : Nat) : Dev :=
  let x := s.strOf l
  let ps := s.activePhases l
  forEach (s.groupOf l) (fun s n => s.modStr n (fun y => { y with
    act := x.switching && y.actThis, actThis := x.switching && decide (0 < x.width) && ps.contains n })) s

/-- The fields of a group at its boundary; a string that thereby enters an SRC 5 class keeps the lamp factor that applied (R230). -/
def Dev.strFieldsLamp (s : Dev) (l : Nat) : Dev :=
  let s' := s.strFields l
  if s'.isVf l && !s.isVf l then s'.modStr l (fun x => { x with lamp := s.lampOf l }) else s'

/-- The dimming-period boundary of the string or group led by `l` (R177, R185, R195). -/
def Dev.dimLead (s : Dev) (l : Nat) : Dev :=
  let s := s.strFieldsLamp l
  let s := s.takeLevel l
  let (d, s) := s.clampD l (s.chanOf l).drive.toNat
  let s := s.modChan l (fun c => { c with drive := BitVec.ofNat 20 d })
  let waiting := (s.groupOf l).any (fun n => (s.strOf n).testWait && !s.rb 0x2018 n && !s.rb 0x201C n)
  let run := s.strMayRun l && (!(s.activePhases l).isEmpty || (waiting && d ≠ 0))
  let was := (s.strOf l).switching
  let s :=
    if run then
      let s := if waiting && d ≠ 0 then s.startTests l else s
      ((s.beginPeriod l d (!was)).setShares l).startPulse l
    else (s.stringHalt l).modStr l (fun x => { x with ovpLast := x.ovpHit, ovpHit := false })
  let s := s.noteActive l
  s.modStr l (fun x => { x with busy := s.rb (strOff l) 0 && (x.busy || run) })

/-- DIMMING_PERIOD_BOUNDARY (R177, R182): due at the boundaries of the string's own or its lead's grid; a member's channel drives
nothing (R184). -/
def execDimmingPeriodBoundary (n : Fin 16) (s : State) : Host.Outcome State Fault Refusal :=
  onDev (fun s =>
    let l := s.leadOf n
    if s.coreOn && s.clk.running && s.gridNow (s.dimP l) (s.dimPhase l) && !s.isServed (.dim n) then
      let s := s.serve (.dim n)
      if l = n then s.dimLead n else s
    else s) s

/-! ### Converter cycles and protections -/

/-- The converter-cycle fields of every string whose cycle starts on this tick take effect (R11). -/
def Dev.convLive (s : Dev) : Dev :=
  s.applyLive (fun off g => match g with
    | .conv =>
      let l := (off - 0x2100) / 32
      decide (0x2100 ≤ off) && decide (off < 0x2300) && s.gridNow (s.convT l) (l * s.convT l / 16)
    | _ => false)

/-- The duty limit, 0.92, in 1/65,536 (R175). -/
def dutyLimit : Nat := 60293

/-- Whether a cycle counts toward an open phase: at the duty limit, below 10% of its share, every other active phase at 90% of its own;
a sole active phase never counts, and a phase under self-test is judged by the test alone (R191, R194). -/
def Dev.openCycle (s : Dev) (n : Nat) (iMa : Nat) (atLimit : Bool) : Bool :=
  let others := (s.activePhases (s.leadOf n)).filter (· ≠ n)
  atLimit && (s.strOf n).testing.isNone && decide (iMa * 10000 < (s.strOf n).share) && !others.isEmpty &&
    others.all (fun k => decide (9 * (s.strOf k).share ≤ (s.strOf k).ima.toNat * 10000))

/-- Whether a converter cycle of stage `n` starts now: its string switches, OVP has not stopped it, and its pulse is on (R176, R180, R183). -/
def Dev.cycleNow (s : Dev) (n : Nat) : Bool :=
  let l := s.leadOf n
  let x := s.strOf l
  s.coreOn && s.clk.running && s.gridNow (s.convT l) (s.convPhase16 n / 16) && !s.isServed (.conv n) &&
    x.switching && !x.ovpHit && decide (0 < x.width) && decide (s.clk.now ≤ x.pulseEnd) && !s.phaseOff n

/-- Whether stage `n` holds its low-side switch on after a pulse, until its current is zero (R180). -/
def Dev.lowHold (s : Dev) (n : Nat) : Bool :=
  let x := s.strOf (s.leadOf n)
  s.coreOn && s.clk.running && x.switching && !x.ovpHit && x.pulsed && decide (0 < x.width) && decide (x.pulseEnd < s.clk.now) &&
    (s.strOf n).offAt.isNone && !s.phaseOff n

/-- One converter cycle with the phase's sensed current: at the duty limit while the pulse ramps up, else as the PI loop asks, and a refresh
of the low side where the last cycle asked for one (R173, R175, R176, R180, R191). -/
def Dev.convCycle (s : Dev) (n iMa : Nat) : Dev :=
  let l := s.leadOf n
  let y := s.strOf n
  let ramp := y.ramp && decide (1000 * iMa < y.share)
  let want := if ramp then dutyLimit else Config.piLaw y.duty y.share iMa
  let s := if dutyLimit < want then s.modStr l (fun x => { x with dropout := true }) else s
  let count := s.openCycle n iMa (decide (dutyLimit ≤ want)) && !s.pwr.vinSusp
  s.modStr n (fun y => { y with
    ima := BitVec.ofNat 16 iMa, duty := min want dutyLimit, ramp := ramp, peak := false, refresh := false,
    lowEnd := if y.refresh then s.clk.now + 16 else y.lowEnd,
    openRun := if count then y.openRun + 1 else 0, testing := y.testing.map (· + 1) })

/-- CONVERTER_CYCLE (R173, R175, R180, R183, R191): one cycle of an active stage whose string's pulse is on; `iMa` is the phase's sensed
current. After the pulse the low-side switch stays on until the current named is zero, which turns both switches off. -/
def execConverterCycle (n : Fin 16) (iMa : Nat) (s : State) : Host.Outcome State Fault Refusal :=
  onDev (fun s =>
    if s.cycleNow n then (s.serve (.conv n)).convCycle n iMa
    else if s.lowHold n then
      s.modStr n (fun y => { y with ima := BitVec.ofNat 16 iMa, offAt := if iMa = 0 then some s.clk.now else none })
    else s) s

/-- PEAK_CURRENT_LIMIT (R176): at 2.2 A in the phase, the high-side on-time of this cycle ends. -/
def execPeakCurrentLimit (r : StageReading) (s : State) : Host.Outcome State Fault Refusal :=
  onDev (fun s =>
    if (s.strOf (s.leadOf r.n)).switching && decide (2200 ≤ r.value) then s.modStr r.n (fun x => { x with peak := true }) else s) s

/-- OVP_HIT (R176): VOS at the lead's OVP stops switching until the next dimming period. -/
def execOvpHit (r : StageReading) (s : State) : Host.Outcome State Fault Refusal :=
  onDev (fun s =>
    let l := s.leadOf r.n
    if (s.strOf l).switching && decide (250 * s.rf (strOff l) 15 8 ≤ r.value) then s.modStr l (fun x => { x with ovpHit := true }) else s) s

/-- BOOTSTRAP_UNDERVOLTAGE (R176): BSTnn - SWnn below 3.5 V asks for a 16-tick low-side refresh in the next cycle. -/
def execBootstrapUndervoltage (r : StageReading) (s : State) : Host.Outcome State Fault Refusal :=
  onDev (fun s =>
    if (s.strOf (s.leadOf r.n)).switching && decide (r.value < 3500) then s.modStr r.n (fun x => { x with refresh := true }) else s) s

/-! ### Detection -/

/-- The classes of Table STR-3. -/
inductive SampleClass where
  | good
  | openLike
  | shortLike
deriving DecidableEq, Repr

/-- The class of a sample: current in mA, VOS in mV, target in µA (Table STR-3). -/
def classSample (ovp : Bool) (shortV vosMv iMa target : Nat) : SampleClass :=
  if ovp && decide (iMa * 10000 < target) then .openLike
  else if decide (shortV ≠ 0) && decide (vosMv < shortV * 250) && decide (target ≤ iMa * 2000) then .shortLike
  else .good

/-- The junction estimate from a GOOD sample (R220). -/
def Dev.junction (s : Dev) (l vosMv iMa : Nat) : Dev :=
  let o := 0x3A40 + 0x10 * l
  let vf : Int := (vosMv : Int) - Int.tdiv ((s.rf (o + 4) 15 0 : Int) * ((iMa : Int) - s.rf o 31 16)) 1000
  let tcv := s.rf (o + 4) 23 16
  let base : Int := 16 * s.rf (o + 4) 31 24
  let t := if tcv = 0 then base else base + Int.fdiv (64 * ((s.rf o 15 0 : Int) - vf)) tcv
  s.modStr l (fun x => { x with vf := BitVec.ofInt 16 vf, tj16 := t, tjSeen := true })

/-- An open or short fault: the string stops at once, with its bit and event (R189). -/
def Dev.stringFault (s : Dev) (l : Nat) (short : Bool) : Dev :=
  let s := (s.stringHalt l).setFlag (if short then 0x2014 else 0x2010) l
  (s.eventOk (if short then 0x0302 else 0x0301) (l + 256 * l)).judgeFaulted l

/-- A classed sample at the counts of its string (R188). -/
def Dev.countSample (s : Dev) (l : Nat) (c : SampleClass) : Dev :=
  let n := s.rf 0x2008 7 0
  match c with
  | .good => s.modStr l (fun x => { x with opens := 0, shorts := 0 })
  | .openLike =>
    let s := s.modStr l (fun x => { x with opens := x.opens + 1, shorts := 0 })
    if n ≤ (s.strOf l).opens then s.stringFault l false else s
  | .shortLike =>
    let s := s.modStr l (fun x => { x with shorts := x.shorts + 1, opens := 0 })
    if n ≤ (s.strOf l).shorts then s.stringFault l true else s

/-- Whether the string's sample falls now: at the end of its pulse, or on the last tick of an ANALOG period (R186). -/
def Dev.sampleNow (s : Dev) (l : Nat) : Bool :=
  let x := s.strOf l
  x.switching && x.sampleDue &&
    (if x.pulsed then decide (x.pulseEnd ≤ s.clk.now) else (s.wheelN + 1) % s.dimP l = s.dimPhase l)

/-- DETECTION_SAMPLE (R186 to R190, R220): `iMa` is the group's total current. A sample within 4,096 ticks of a start is not taken. -/
def execDetectionSample (n : Fin 16) (vosMv iMa : Nat) (s : State) : Host.Outcome State Fault Refusal :=
  onDev (fun s =>
    if s.coreOn && !s.isMember n && s.sampleNow n then
      let x := s.strOf n
      let s := s.modStr n (fun x => { x with sampleDue := false })
      if s.clk.now < x.started + 4096 || s.pwr.vinSusp then s
      else
        let target := if x.probing then s.isetUa n / 8 else x.ampUa
        let s := s.modStr n (fun x => { x with
          vos := BitVec.ofNat 16 vosMv, lastSample := some s.clk.now,
          ima := if (s.groupOf n).length = 1 then BitVec.ofNat 16 iMa else x.ima })
        let c := classSample x.ovpHit (s.rf (strOff n) 23 16) vosMv iMa target
        let s := if c = .good && !x.faulted then s.junction n vosMv iMa else s
        s.countSample n c
    else s) s

/-- PHASE_OPEN (R191): the eighth counting cycle disables the phase. -/
def execPhaseOpen (n : Fin 16) (s : State) : Host.Outcome State Fault Refusal :=
  onDev (fun s => if 8 ≤ (s.strOf n).openRun && !s.phaseOff n then s.disablePhase n false else s) s

/-- Whether the zero check of phase `n` falls now: 96 ticks after both switches turned off, once in an off interval of at least 393 ticks
in PULSED mode (R192). -/
def Dev.senseNow (s : Dev) (n : Nat) : Bool :=
  let l := s.leadOf n
  let x := s.strOf l
  s.coreOn && s.clk.running && x.switching && x.pulsed && !s.phaseOff n && !s.pwr.vinSusp && !(s.strOf n).sensed &&
    (match (s.strOf n).offAt with
      | some t => s.clk.now = t + 96 && decide (297 + s.wheelN ≤ nextBoundary (s.dimP l) (s.dimPhase l) s.wheelN)
      | none => false)

/-- PHASE_SENSE (R192): one zero-check reading, in mA of magnitude; the fourth count in a row disables the phase, and a phase under
self-test only fails its test by it (R194). -/
def execPhaseSense (n : Fin 16) (iMa : Nat) (s : State) : Host.Outcome State Fault Refusal :=
  onDev (fun s =>
    if s.senseNow n then
      if 75 < iMa then
        let s := s.modStr n (fun y => { y with sensed := true, senseRun := y.senseRun + 1, testBad := y.testBad || y.testing.isSome })
        if 4 ≤ (s.strOf n).senseRun && (s.strOf n).testing.isNone then s.disablePhase n true else s
      else s.modStr n (fun y => { y with sensed := true, senseRun := 0 })
    else s) s

/-- Whether the cross-check runs: enabled, and the Rind delivers (R192, R193). -/
def Dev.xchkOn (s : Dev) : Bool := s.rb 0x2008 9 && s.br.on && !s.br.clkFault

/-- Whether the two averages of a window, in mA, differ by more than the larger of 10% of the share and 50 mA (R192). -/
def xchkDiffers (own rind shareUa : Nat) : Bool := decide (max (shareUa / 10) 50000 < 1000 * (max own rind - min own rind))

/-- XCHK_WINDOW (R192): a window of 16 press periods ends; `own` holds each phase's average current, which is compared with the one that the
Rind passed last. A phase's second mismatch in a row is a sense fault. -/
def execXchkWindow (own : List Nat) (s : State) : Host.Outcome State Fault Refusal :=
  onDev (fun s =>
    if s.coreOn && s.clk.running && s.gridNow 65536 0 && !s.isServed .xchk && s.xchkOn && !s.pwr.vinSusp then
      forEach (upTo 16) (fun s n =>
        if (s.strOf (s.leadOf n)).switching && !s.phaseOff n then
          if xchkDiffers (own.getD n 0) (tabGet 0 s.br.stage n) (s.strOf n).share then
            let s := s.modStr n (fun x => { x with xchk := x.xchk + 1 })
            if 2 ≤ (s.strOf n).xchk then s.disablePhase n true else s
          else s.modStr n (fun x => { x with xchk := 0 })
        else s) (s.serve .xchk)
    else s) s

/-- SELF_TEST_END (R187, R194): after 16 cycles the phase passes with 90% of its share and no zero-check count, or is disabled again; the end
of the test is a start, which blanks sampling. -/
def execSelfTestEnd (n : Fin 16) (iMa : Nat) (s : State) : Host.Outcome State Fault Refusal :=
  onDev (fun s =>
    let x := s.strOf n
    if 16 ≤ x.testing.getD 0 then
      let s :=
        if 9 * x.share ≤ iMa * 10000 && !x.testBad then
          (s.modStr n (fun x => { x with testing := none })).judgeFaulted (s.leadOf n)
        else s.disablePhase n x.testSense
      s.modStr (s.leadOf n) (fun x => { x with started := s.clk.now })
    else s) s

/-! ### Clearing faults -/

/-- STR_FLT_CLEAR (R189): the bits cleared; a string so cleared starts again with both counts at 0. -/
def Dev.strFltClear (s : Dev) (short : Bool) (bits : BitVec 16) : Dev :=
  let off := if short then 0x2014 else 0x2010
  forEach (upTo 16) (fun s n =>
    if bits.toNat.testBit n && s.rb off n then
      let s := s.clearFlags off (BitVec.ofNat 32 (2 ^ n))
      (s.modStr n (fun x => { x with opens := 0, shorts := 0 })).judgeFaulted (s.leadOf n)
    else s) s

/-- STR_PH_CLEAR (R194): the bits cleared; a phase with neither bit left waits for its self-test. -/
def Dev.strPhClear (s : Dev) (sense : Bool) (bits : BitVec 16) : Dev :=
  let off := if sense then 0x201C else 0x2018
  forEach (upTo 16) (fun s n =>
    if bits.toNat.testBit n && s.rb off n then
      let s := s.clearFlags off (BitVec.ofNat 32 (2 ^ n))
      s.modStr n (fun x => { x with testWait := !s.rb 0x2018 n && !s.rb 0x201C n, testSense := sense })
    else s) s

/-! ### VIN lockout -/

/-- VIN enters lockout: the stages stop, each running string with a level reports it, and detection is suspended (R57, R60). -/
def Dev.vinDown (s : Dev) : Dev :=
  if s.pwr.vinLow then s
  else
    let s := s.modPwr (fun p => { p with vinLow := true, vinSusp := true, vinEnd := none })
    forEach (upTo 16) (fun s n =>
      if (s.strOf n).switching then
        let s := if (s.chanOf n).level ≠ 0 then (s.setFlag 0x2020 1).eventOk 0x0306 (n + 256 * n) else s
        s.stringHalt n
      else s) s

/-- VIN_LOCKOUT (R60). -/
def execVinLockout (s : State) : Host.Outcome State Fault Refusal := onDev (fun s => s.vinDown) s

/-- VIN_LOCKOUT_EXIT (R60): the suspension ends 8,192 ticks from now. -/
def execVinLockoutExit (s : State) : Host.Outcome State Fault Refusal :=
  onDev (fun s =>
    if s.pwr.vinLow then s.modPwr (fun p => { p with vinLow := false, vinEnd := some (s.clk.now + 8192) }) else s) s

/-- SUPPLY_SUSPENSION_END (R60): detection resumes, and strings start at their next dimming period. -/
def execSupplySuspensionEnd (s : State) : Host.Outcome State Fault Refusal :=
  onDev (fun s =>
    match s.pwr.vinEnd with
    | some t => if t ≤ s.clk.now then s.modPwr (fun p => { p with vinSusp := false, vinEnd := none }) else s
    | none => s) s

/-- Every string stopped at once: a HOLD with its outputs off, or the hold of the gate drive (R57, Table MOD-5). -/
def Dev.haltStrings (s : Dev) : Dev := forEach (upTo 16) (fun s n => if (s.strOf n).switching then s.stringHalt n else s) s

end Sys2Proof.Machine
end

