-- ==== Sys2Proof/Machine/Matrix.lean ====
section
/-! DEFINITION. Chapter 07: the scanned matrix. Frames and slots (R197, R198), widths (R201, R202), application boundaries (R203), the
headroom servo (R204), diagnosis and probes (R206 to R212), the row limit (R200), and the VROW lockout (R61). -/

namespace Sys2Proof.Machine

/-- The scale of a column's class (R199). -/
def Dev.colScale (s : Dev) (c : Nat) : Nat :=
  let k := s.rf (0x3100 + 4 * c) 10 8
  s.rf (0x3024 + 4 * (k / 4)) (8 * (k % 4) + 5) (8 * (k % 4))

/-- The drive current of a column, in 1/63 µA (R199). -/
def Dev.icol63 (s : Dev) (c : Nat) : Nat := (s.rf (0x3100 + 4 * c) 7 0 + 1) * 250 * s.colScale c

def Dev.colEn (s : Dev) (c : Nat) : Bool := s.rb (0x3100 + 4 * c) 12
def Dev.rowEn (s : Dev) (r : Nat) : Bool := s.rb 0x3008 r

/-- Whether a position is faulted (R208). -/
def Dev.posFaulted (s : Dev) (p : Nat) : Bool := s.rb (0x3200 + 4 * (p / 32)) (p % 32) || s.rb (0x3280 + 4 * (p / 32)) (p % 32)

/-- Whether the matrix may drive: it runs, the mode drives outputs, and VROW is out of lockout (R61, R197, Table MOD-1). -/
def Dev.mtxMayDrive (s : Dev) : Bool := s.mtx.busy && s.lightsOn && !s.mtx.waitFrame && !s.pwr.vrowLow

/-- Whether sampling and probing are blanked at a position (R61, R210). -/
def Dev.posBlanked (s : Dev) (p : Nat) : Bool :=
  s.pwr.vrowSusp || decide (s.clk.now < s.mtx.blank) || decide (s.clk.now < tabGet 0 s.mtx.rowBlank (p / 64)) ||
    decide (s.clk.now < tabGet 0 s.mtx.colBlank (p % 64)) || decide (s.clk.now < (s.posOf p).blank)

/-- The width before debt of a position with 14-bit drive `d14` (R201). -/
def posWidth (dither : Bool) (f row col d14 : Nat) : Nat :=
  min (d14 / 4 + if dither && decide ((f + row + col) % 4 < d14 % 4) then 1 else 0) 4095

/-- The debt repaid in a slot of width `w`: min(w, debt), a debt below 0 lengthening the pulse to 4,095 steps at most (R201, R209). -/
def posPaid (w : Nat) (debt : Int) : Int := max (min (w : Int) debt) ((w : Int) - 4095)

/-- Whether a position is due for a probe (R209). -/
def Dev.posProbeDue (s : Dev) (p : Nat) : Bool :=
  let x := s.posOf p
  s.rb 0x3000 4 && s.colEn (p % 64) && x.d14 ≠ 0 && !s.posFaulted p && !s.posBlanked p &&
    (match x.nonZero with
      | some z => decide (max z (x.lastSample.getD z) + 196608000 ≤ s.clk.now)
      | none => false) &&
    (match x.lastProbe with
      | some q => decide (q + 196608000 ≤ s.clk.now)
      | none => true)

/-- The position of a row that is probed in this slot: the lowest due column above the last one probed, wrapping (R209). -/
def Dev.probeChoice (s : Dev) (row : Nat) : Option Nat :=
  let due := (upTo 64).filter (fun c => s.posProbeDue (64 * row + c))
  match tabGet none s.mtx.lastProbed row with
  | some l => (due.find? (fun c => decide (l < c))).or due.head?
  | none => due.head?

/-- A position's drive value taken at its row slot: when it became non-zero, and its debt cleared at 0 or with a fault (R209, R211). -/
def Dev.posTake (s : Dev) (p : Nat) : Dev :=
  let d := (s.chanOf (16 + p)).drive.toNat / 64
  let dark := s.posFaulted p
  s.modPos p (fun x => { x with
    d14 := d, nonZero := if d = 0 then none else some (x.nonZero.getD s.clk.now),
    debt := if d = 0 || dark then 0 else x.debt, w := 0, due := false, undo := none, back := x.back && dark,
    blank := if x.back && !dark then s.clk.now + 262144 else x.blank })

/-- A position's pulse in a driven slot (R201, R206, R209). -/
def Dev.posPulse (s : Dev) (p : Nat) (probe : Bool) : Dev :=
  let x := s.posOf p
  let dark := s.posFaulted p || !s.colEn (p % 64) || s.colScale (p % 64) = 0
  let w := posWidth (s.rb 0x3000 2) s.mtx.f (p / 64) (p % 64) x.d14
  if dark then s
  else if probe then s.setPos p { x with
    w := 128, due := true, undo := some (x.debt, x.lastProbe), debt := x.debt + (128 - (w : Int)), lastProbe := some s.clk.now }
  else
    let paid := posPaid w x.debt
    let w' := ((w : Int) - paid).toNat
    s.setPos p { x with w := w', debt := x.debt - paid, due := s.rb 0x3000 3 && decide (128 ≤ w') }

/-- The levels of a row's positions taken at its slot: under ROW_JUMP, and at the first slot after entry to HOLD (R92, R203). Row 0's slot
starts with the frame, whose start has taken its levels with the factors of the frame before (R217). -/
def Dev.rowLevels (s : Dev) (row : Nat) : Dev :=
  let first := s.inHold && s.mtx.holdRows.toNat.testBit row
  let s := s.modMtx (fun m => { m with holdRows := m.holdRows &&& ~~~ BitVec.ofNat 16 (2 ^ row) })
  if (s.rb 0x3000 1 || first) && !(row = 0 && s.isServed .frame) then
    let s := s.applyLive (fun off g => match g with
      | .owner _ => decide (0x4410 + 64 * row ≤ off) && decide (off < 0x4450 + 64 * row)
      | _ => false)
    forEach (upTo 64) (fun s c => s.takeLevel (16 + 64 * row + c)) s
  else s

/-- The start of row slot `k` (R197, R198, R201, R203). -/
def Dev.rowSlot (s : Dev) (k : Nat) : Dev :=
  let s := s.applyLive (fun _ g => g = .rowSlot)
  let s := s.rowLevels k
  let drive := s.mtxMayDrive
  let s := s.modMtx (fun m => { m with
    slot := if m.busy then k else m.slot, slotAt := s.clk.now, cut := false, sinksOff := false, driving := drive,
    lastRow := if m.driving && s.rowEn m.slot then some m.slot else none, probedWas := tabGet none m.lastProbed k })
  let s := forEach (upTo 64) (fun s c => s.posTake (64 * k + c)) s
  if drive && s.rowEn k then
    let pr := s.probeChoice k
    let s := match pr with
      | some c => s.modMtx (fun m => { m with lastProbed := tabSet none m.lastProbed k (some c) })
      | none => s
    forEach (upTo 64) (fun s c => s.posPulse (64 * k + c) (pr = some c)) s
  else s

/-! ### The slot's sequence (Table MTX-1) -/

/-- Ticks since the present slot began. -/
def Dev.slotTick (s : Dev) : Nat := s.clk.now - s.mtx.slotAt

/-- The row that is being discharged: the one switched on in the slot before, until tick 128. -/
def Dev.rowDischarge (s : Dev) : Option Nat := if s.mtx.driving && decide (s.slotTick < 128) then s.mtx.lastRow else none

/-- How far below VROW, in mV, a column is precharged: PRE_V, until tick 192, on enabled columns; none where it is not driven so. -/
def Dev.colPrecharge (s : Dev) (c : Nat) : Option Nat :=
  let v := s.rf 0x3000 12 8
  if s.mtx.driving && decide (s.slotTick < 192) && s.colEn c && v ≠ 0 then some (100 * v) else none

/-- The row whose switch is on: the slot's row from tick 224 on, if it is enabled and the switch has not been turned off early. -/
def Dev.rowOn (s : Dev) : Option Nat :=
  if s.mtx.driving && !s.mtx.cut && s.rowEn s.mtx.slot && decide (224 ≤ s.slotTick) then some s.mtx.slot else none

/-- The end of a pulse of `w` steps, in sixteenths of a tick after the slot's start: 15/16 tick a step from tick 256 on (R202). -/
def pulseEnd16 (w : Nat) : Nat := 4096 + 15 * w

/-- Whether column `c`'s sink conducts, `sub` sixteenths into the present tick (R198, R202). -/
def Dev.sinkOn (s : Dev) (c sub : Nat) : Bool :=
  let t := 16 * s.slotTick + sub
  s.mtx.driving && !s.mtx.sinksOff && decide (4096 ≤ t) && decide (t < pulseEnd16 (s.posOf (64 * s.mtx.slot + c)).w)

/-- Whether a position's pulse has ended by the end of the present tick. -/
def Dev.pulseOver (s : Dev) (p : Nat) : Bool := decide (pulseEnd16 (s.posOf p).w < 16 * (s.slotTick + 1))

/-- ROW_SLOT_START (R198). -/
def execRowSlotStart (s : State) : Host.Outcome State Fault Refusal :=
  onDev (fun s =>
    if s.coreOn && s.clk.running && s.gridNow 4096 0 && !s.isServed .rowSlot then
      (s.serve .rowSlot).rowSlot (s.wheelN / 4096 % 16)
    else s) s

/-! ### The scan frame -/

/-- The headroom servo's step at a frame's end (R204); `was` says that HDRM_EN was in force in the frame that ends. CODE holds in READY and
SHADOW; in HOLD the servo goes on where samples are taken (log entry 28). -/
def Dev.headroom (s : Dev) (was : Bool) : Dev :=
  let m := s.mtx
  let s := match m.frameMin with
    | some (v, c) => s.modMtx (fun m => { m with minMv := BitVec.ofNat 16 v, minCol := BitVec.ofNat 6 c, frameMin := none })
    | none => s
  if !s.rb 0x3000 5 || !was then s.modMtx (fun m => { m with code := 0, sinceStep := 0 })
  else if s.pwr.mode ≠ .run && !s.inHold then s.modMtx (fun m => { m with sinceStep := m.sinceStep + 1 })
  else
    let since := m.sinceStep + 1
    let target := 10 * s.rf 0x3010 7 0
    let hyst := 10 * s.rf 0x3010 15 8
    let rate := s.rf 0x3010 23 16
    match m.frameMin with
    | none => s.modMtx (fun m => { m with sinceStep := since })
    | some (v, _) =>
      if v < 350 then (s.modMtx (fun m => { m with code := m.code - 8, sinceStep := 0 })).setFlag 0x301C 0
      else if v < target && decide (rate ≤ since) then s.modMtx (fun m => { m with code := m.code - 1, sinceStep := 0 })
      else if target + hyst < v && decide (rate ≤ since) then
        s.modMtx (fun m => { m with code := min (s.rf 0x3010 31 24) (m.code + 1), sinceStep := 0 })
      else s.modMtx (fun m => { m with sinceStep := since })

/-- Whether a committed value of a register takes effect at a boundary of this tick (R18, R468). -/
def Dev.commitDue (s : Dev) (off : Nat) : Bool :=
  match s.commitBefore off with
  | none => (tabGet none s.regs.commit off).isSome
  | some w => w.isSome

/-- The rows and columns that a change of ROW_EN or COL_EN, or a staged commit, touches at a frame start are blanked for 4 frames (R210). -/
def Dev.blankChanged (old s : Dev) : Dev :=
  let t := s.clk.now + 262144
  let s := forEach (upTo 16) (fun s r =>
    if old.rowEn r ≠ s.rowEn r then s.modMtx (fun m => { m with rowBlank := tabSet 0 m.rowBlank r t }) else s) s
  forEach (upTo 64) (fun s c =>
    if old.colEn c ≠ s.colEn c || old.commitDue (0x3100 + 4 * c) || old.colScale c ≠ s.colScale c then s.modMtx (fun m => { m with colBlank := tabSet 0 m.colBlank c t })
    else s) s

/-- The live and committed fields of the MTX_ block and the matrix channels' owners take effect (R11, R213, R237). -/
def Dev.mtxFields (s : Dev) : Dev :=
  let s := s.applyLive (fun off g => match g with
    | .frame => decide (0x3000 ≤ off) && decide (off < 0x3800)
    | .owner _ => decide (0x4410 ≤ off)
    | _ => false)
  s.applyDue (fun off => decide (0x3000 ≤ off) && decide (off < 0x3800))

/-- The matrix at a scan-frame start: its fields, its sequencer, the headroom servo and the levels of all positions (R197, R201, R203,
R204, R213). -/
def Dev.mtxFrame (s : Dev) : Dev :=
  let s' := s.mtxFields.headroom (s.rb 0x3000 5)
  let s' := Dev.blankChanged s s'
  let on := s'.rb 0x3000 0
  let s' := s'.modMtx (fun m => { m with
    busy := on, waitFrame := false, f := s'.wheelN / 65536 % 4,
    blank := if on && !m.busy then s'.clk.now + 262144 else m.blank })
  forEach (upTo 1024) (fun s p => s.takeLevel (16 + p)) s'

/-! ### Diagnosis -/

/-- The class of a position sample (Table MTX-2): 0 good, 1 open-like, 2 short-like; the sink current in µA, i_col in 1/63 µA, voltages
in mV. -/
def classPos (shortV vcolMv isUa icol63 rowMv vrowMv : Nat) : Nat :=
  if decide (630 * isUa < icol63) && decide (vrowMv ≤ rowMv + 300) then 1
  else if decide (shortV ≠ 0) && decide (shortV * 100 ≤ vcolMv) && decide (icol63 ≤ 126 * isUa) then 2
  else 0

/-- A position faulted: its bit and event; its debt is cleared (R208, R209). -/
def Dev.posFault (s : Dev) (p cls : Nat) : Dev :=
  let s := s.setFlag ((if cls = 1 then 0x3200 else 0x3280) + 4 * (p / 32)) (p % 32)
  (s.modPos p (fun x => { x with debt := 0 })).eventOk (0x0400 + cls) (16 + p)

/-- A classed sample at the evidence count (R208). -/
def Dev.posCount (s : Dev) (p cls : Nat) : Dev :=
  if cls = 0 then s.modPos p (fun x => { x with cnt := 0, cls := 0 })
  else
    let s := s.modPos p (fun x => { x with cls := cls, cnt := if x.cls = cls then x.cnt + 1 else 1 })
    if s.rf 0x300C 7 0 ≤ (s.posOf p).cnt && !s.posFaulted p then s.posFault p cls else s

/-- A headroom reading (R204). -/
def Dev.noteHeadroom (s : Dev) (p vcolMv : Nat) : Dev :=
  let c := p % 64
  let lower := match s.mtx.frameMin with
    | some (v, _) => decide (vcolMv < v)
    | none => true
  s.modMtx (fun m => { m with
    hdrmCol := tabSet 0 m.hdrmCol c (BitVec.ofNat 16 vcolMv),
    frameMin := if !s.posFaulted p && lower then some (vcolMv, c) else m.frameMin })

/-- MATRIX_SAMPLE (R202, R204, R206 to R208): the sample of position `p` in the present slot, from the tick in which its pulse ends on. -/
def execMatrixSample (p : Fin 1024) (vcolMv isUa rowMv vrowMv : Nat) (s : State) : Host.Outcome State Fault Refusal :=
  onDev (fun s =>
    let x := s.posOf p
    if s.coreOn && x.due && s.mtx.driving && s.mtx.slot = p / 64 && (s.pwr.mode = .run || s.inHold) && s.pulseOver p then
      let s := s.modPos p (fun x => { x with due := false })
      if s.posBlanked p then s
      else
        let c := p % 64
        let s := s.noteHeadroom p vcolMv
        let s := s.modPos p (fun x => { x with lastSample := some s.clk.now, undo := none })
        s.posCount p (classPos (s.rf (0x3100 + 4 * c) 22 16) vcolMv isUa (s.icol63 c) rowMv vrowMv)
    else s) s

/-- The row switch of the present slot turned off early: no sample of a pulse that had not ended, and a probe among those not made (R200,
R212). -/
def Dev.cutSlot (s : Dev) : Dev :=
  let row := s.mtx.slot
  let short (c : Nat) : Bool := (s.posOf (64 * row + c)).due && !s.pulseOver (64 * row + c)
  let unprobe := (upTo 64).any (fun c => short c && (s.posOf (64 * row + c)).undo.isSome)
  let s' := s.modMtx (fun m => { m with
    cut := true, lastProbed := if unprobe then tabSet none m.lastProbed row m.probedWas else m.lastProbed })
  forEach (upTo 64) (fun s' c =>
    if short c then s'.modPos (64 * row + c) (fun x =>
      match x.undo with
      | some (d, q) => { x with due := false, undo := none, debt := d, lastProbe := q }
      | none => { x with due := false })
    else s') s'

/-- The slot's switch and sinks off at once (R200, Table MOD-5). -/
def Dev.cutPulses (s : Dev) : Dev := s.cutSlot.modMtx (fun m => { m with sinksOff := true })

/-- ROW_OVER_CURRENT (R200): the row is off for the rest of its slot, and the fault is reported. -/
def execRowOverCurrent (s : State) : Host.Outcome State Fault Refusal :=
  onDev (fun s =>
    if s.coreOn && s.mtx.driving && !s.mtx.cut then (s.cutPulses.setFlag 0x3020 s.mtx.slot).setFlag 0x301C 2 else s) s

/-- MTX_FLT_CLEAR (R208): the bits cleared; a position with neither bit left returns at its next row slot with its count at 0. -/
def Dev.mtxFltClear (s : Dev) (short : Bool) (w : Nat) (bits : BitVec 32) : Dev :=
  let off := (if short then 0x3280 else 0x3200) + 4 * w
  forEach (upTo 32) (fun s b =>
    if bits.toNat.testBit b && s.rb off b then
      let s := s.clearFlags off (BitVec.ofNat 32 (2 ^ b))
      s.modPos (32 * w + b) (fun x => { x with cnt := 0, cls := 0, back := true })
    else s) s

/-! ### VROW lockout -/

/-- VROW_LOCKOUT (R61): the rows turn off at once, the sinks at the next row slot; diagnosis is suspended. -/
def execVrowLockout (s : State) : Host.Outcome State Fault Refusal :=
  onDev (fun s =>
    if s.pwr.vrowLow then s
    else
      let drove := s.mtx.driving
      let s := s.modPwr (fun p => { p with vrowLow := true, vrowSusp := true, vrowEnd := none })
      if drove then (s.cutSlot.setFlag 0x301C 1).eventOk 0x0403 0 else s) s

/-- VROW_LOCKOUT_EXIT (R61). -/
def execVrowLockoutExit (s : State) : Host.Outcome State Fault Refusal :=
  onDev (fun s =>
    if s.pwr.vrowLow then s.modPwr (fun p => { p with vrowLow := false, vrowEnd := some (s.clk.now + 8192) }) else s) s

/-- VROW_SUSPENSION_END (R61, R210): diagnosis resumes after 4 frames of blanking. -/
def execVrowSuspensionEnd (s : State) : Host.Outcome State Fault Refusal :=
  onDev (fun s =>
    match s.pwr.vrowEnd with
    | some t =>
      if t ≤ s.clk.now then
        (s.modPwr (fun p => { p with vrowSusp := false, vrowEnd := none })).modMtx (fun m => { m with blank := s.clk.now + 262144 })
      else s
    | none => s) s

/-- The matrix off at once, for a HOLD with its outputs off (Table MOD-5). -/
def Dev.haltMatrix (s : Dev) : Dev := if s.mtx.driving then s.cutPulses.modMtx (fun m => { m with driving := false }) else s

end Sys2Proof.Machine
end

