-- ==== Sys2Proof/Machine/Colour.lean ====
section
/-! DEFINITION. Chapter 08: temperatures (R218 to R221), temperature trim (R222), the light-sensor loops (R223 to R229), derating (R230,
R231), the frame evaluation (R217), and the scan-frame start that runs it. -/

namespace Sys2Proof.Machine

/-- A frame's share of a second: 3,000 frames of 65,536 ticks. -/
def framesPerS : Nat := 3000

/-! ### Temperatures -/

/-- T_die, the highest of the four sensors, in 1/16 °C (R218). -/
def Dev.tDie (s : Dev) : Int :=
  max (max (tabGet 0 s.clr.dieT 0) (tabGet 0 s.clr.dieT 1)) (max (tabGet 0 s.clr.dieT 2) (tabGet 0 s.clr.dieT 3))

/-- NTC_FAIL_T in 1/16 °C (R219). -/
def Dev.ntcFail16 (s : Dev) : Int := 16 * s.rf 0x3800 23 16

/-- Entry `i` of an input's table (R219, Table CLR-4). -/
def Dev.ntcEntry (s : Dev) (a i : Nat) : Int :=
  let o := 0x3B40 + 0x40 * a + 4 * (i / 2)
  signed (if i % 2 = 0 then s.rf o 15 0 else s.rf o 31 16) 16

/-- The temperature of a code (R219). -/
def Dev.ntcTemp (s : Dev) (a c : Nat) : Int :=
  let e0 := s.ntcEntry a (c / 256)
  e0 + Int.fdiv ((s.ntcEntry a (c / 256 + 1) - e0) * ((c % 256 : Nat) : Int)) 256

/-- The reading of an NTC input taken at a frame start (R217, R219, R233). -/
def Dev.takeNtc (s : Dev) (a : Nat) : Dev :=
  let bit : BitVec 4 := BitVec.ofNat 4 (2 ^ a)
  if !s.rb 0x3800 (4 + a) then
    { s with clr := { s.clr with
      ntcSeen := s.clr.ntcSeen &&& ~~~ bit, ntcBadNow := s.clr.ntcBadNow &&& ~~~ bit, ntcCode := tabSet none s.clr.ntcCode a none } }
  else
    match tabGet none s.clr.ntcCode a with
    | some c =>
      let bad := decide (c ≤ 16) || decide (4079 ≤ c)
      let t := if bad then s.ntcFail16 else s.ntcTemp a c
      let s := { s with clr := { s.clr with
        ntcSeen := s.clr.ntcSeen ||| bit, ntcCode := tabSet none s.clr.ntcCode a none, ntcT := tabSet 0 s.clr.ntcT a t,
        ntcBadNow := if bad then s.clr.ntcBadNow ||| bit else s.clr.ntcBadNow &&& ~~~ bit } }
      if bad then s.setFlag 0x3828 (25 + a) else s
    | none =>
      if s.clr.ntcSeen.toNat.testBit a then s
      else { s with clr := { s.clr with ntcT := tabSet 0 s.clr.ntcT a s.ntcFail16 } }

/-- The source temperature of class `k` in 1/16 °C (Table CLR-2); for SRC 5, that of its matrix positions. -/
def Dev.srcTemp (s : Dev) (k : Nat) : Int :=
  let src := s.rf (clsOff k) 2 0
  if 1 ≤ src && src ≤ 4 then
    let a := src - 1
    if s.rb 0x3800 (4 + a) && s.clr.ntcSeen.toNat.testBit a && !s.clr.ntcBadNow.toNat.testBit a then tabGet 0 s.clr.ntcT a
    else s.ntcFail16
  else s.tDie

/-- The reference channel of a class. -/
def Dev.refCh (s : Dev) (k : Nat) : Nat := s.rf (clsOff k + 4) 10 0

/-- The class temperature with the rise of its reference channel (R221). -/
def Dev.classTemp (s : Dev) (k : Nat) : Int :=
  s.srcTemp k + ((s.rf (clsOff k) 23 16 * 16 * (s.chanOf (s.refCh k)).drive.toNat / 2 ^ 20 : Nat) : Int)

/-- A string's junction estimate: T_REF before its first sample (R220). -/
def Dev.tj16 (s : Dev) (n : Nat) : Int :=
  if (s.strOf n).tjSeen then (s.strOf n).tj16 else 16 * s.rf (0x3A44 + 0x10 * n) 31 24

/-! ### Trim and derating -/

/-- Entry `i` of a class's trim table (R222). -/
def Dev.ttEntry (s : Dev) (k i : Nat) : Nat :=
  let o := clsOff k + 0x18 + 4 * (i / 2)
  if i % 2 = 0 then s.rf o 15 0 else s.rf o 31 16

/-- The temperature trim of a class at a temperature (R222). -/
def Dev.trimAt (s : Dev) (k : Nat) (t16 : Int) : Nat :=
  if !s.rb 0x3800 0 then 0x8000
  else
    let u := (clampI (-320) 2240 t16 + 320).toNat
    let i := u / 320
    if i = 8 then s.ttEntry k 8
    else
      let e0 : Int := s.ttEntry k i
      (e0 + Int.fdiv ((s.ttEntry k (i + 1) - e0) * ((u % 320 : Nat) : Int)) 320).toNat

/-- A derating curve: KNEE, SLOPE and FLOOR at a temperature (R230). -/
def derateAt (knee slope floorPct : Nat) (t16 : Int) : Nat :=
  let excess := (max 0 (t16 - 16 * knee)).toNat
  max (32768 - 32768 * slope * excess / 16000) (floorPct * 32768 / 100)

/-- The applied factor after one evaluation (R230). -/
def derateStep (knee slope floorPct hyst : Nat) (t16 : Int) (a : Nat) : Nat :=
  let f := derateAt knee slope floorPct t16
  let g := derateAt knee slope floorPct (t16 + 16 * hyst)
  if f < a then f else if a < g then g else a

/-- The factor that the derating register at `off` gives (Table CLR-6). -/
def Dev.derate (s : Dev) (off : Nat) (t16 : Int) (a : Nat) : Nat :=
  derateStep (s.rf off 7 0) (s.rf off 15 8) (s.rf off 22 16) (s.rf off 27 24) t16 a

/-- THERM_DERATE when a factor leaves unity (R231). -/
def Dev.tellDerate (s : Dev) (was now_ bit detail : Nat) : Dev :=
  if was = 0x8000 && now_ ≠ 0x8000 then (s.setFlag 0x3828 bit).eventOk 0x0503 detail else s

/-- The die factor (R230). -/
def Dev.evalDie (s : Dev) : Dev :=
  let was := s.clr.dieFact
  let f := if s.rb 0x3800 1 then s.derate 0x3820 s.tDie was else 0x8000
  ({ s with clr := { s.clr with dieFact := f } }).tellDerate was f 24 0x80

/-- A lamp factor after one evaluation: unity with LAMP SLOPE 0 (R230). -/
def Dev.lampStep (s : Dev) (k : Nat) (t16 : Int) (a : Nat) : Nat :=
  if s.rf (clsOff k + 0x14) 15 8 = 0 then 0x8000 else s.derate (clsOff k + 0x14) t16 a

/-- Temperature, trim and lamp factor of a class (R217 step 2). On a shadow, the lamp factors come from the partner (R350). -/
def Dev.evalClass (s : Dev) (k : Nat) : Dev :=
  let t := s.classTemp k
  let was := (s.clsOf k).lamp
  let lamp := if s.pwr.mode = .shadow then was else s.lampStep k t was
  (s.modCls k (fun x => { x with t16 := t, tt := s.trimAt k t, lamp := lamp })).tellDerate was lamp (16 + k) k

/-- Trim and lamp factor of a string of an SRC 5 class, from its own estimate (R221, R230, R231). -/
def Dev.evalString (s : Dev) (n : Nat) : Dev :=
  if s.isVf n && !s.isMember n then
    let k := s.classOf n
    let t := s.tj16 n
    let was := (s.strOf n).lamp
    let lamp := if s.pwr.mode = .shadow then was else s.lampStep k t was
    (s.modStr n (fun x => { x with tt := s.trimAt k t, lamp := lamp })).tellDerate was lamp (16 + k) (k + 256 * (0x80 + n))
  else s

/-- A class's SRC changes by a set-up write: strings that come to keep their own factor start at the class's, and a class that leaves SRC
5 starts at the lowest factor that applied to any of its channels: its strings' own, and the class's where a column belongs to it (R230). -/
def Dev.srcChange (s : Dev) (k old new : Nat) : Dev :=
  let strs := (upTo 16).filter (fun n => !s.isMember n && s.classOf n = k)
  if new = 5 && old ≠ 5 then forEach strs (fun s n => s.modStr n (fun x => { x with lamp := (s.clsOf k).lamp })) s
  else if old = 5 && new ≠ 5 then
    let cols := (upTo 64).any (fun c => s.rf (0x3100 + 4 * c) 10 8 = k)
    let fs := (if cols then [(s.clsOf k).lamp] else []) ++ strs.map (fun n => (s.strOf n).lamp)
    let was := (s.clsOf k).lamp
    let now_ := fs.min?.getD was
    (s.modCls k (fun x => { x with lamp := now_ })).tellDerate was now_ (16 + k) k
  else s

/-! ### The light-sensor loop -/

/-- Whether a class's reference channel is being driven (R224). -/
def Dev.refDriven (s : Dev) (k : Nat) : Bool :=
  let c := s.refCh k
  s.pwr.mode = .run &&
    (if c < 16 then !(s.strOf (s.leadOf c)).faulted && !(s.strOf (s.leadOf c)).dropout else !s.posFaulted (c - 16))

/-- X: the reference channel's drive value with the loop trim left out (R224). -/
def Dev.loopX (s : Dev) (k : Nat) : Nat :=
  let c := s.refCh k
  let f := s.factorsOf c
  chainD (s.chanOf c).level.toNat (f.take 1 ++ f.drop 2)

/-- The loop states of Table CLR-3. -/
def loopOff : Nat := 0
def loopWait : Nat := 1
def loopClosed : Nat := 2
def loopLost : Nat := 3
def loopFrozen : Nat := 4

/-- The applied loop trim (R225). -/
def Cls.applied (x : Cls) : Nat := x.trim / 65536

/-- A class that enters a loop state: the good count and the waits start again (R227, R228). -/
def Cls.enter (x : Cls) (st target : Nat) : Cls :=
  { x with
    state := st, target := target, good := 0, hold := 0, armed := false, returning := false,
    probing := x.probing && decide (st = loopClosed) }

/-- The target after a valid sample (R224). An expected reading of 0 leaves it to a free value within its limits. -/
def Dev.loopTarget (s : Dev) (k expected reading : Nat) : Dev :=
  let t := (s.clsOf k).applied
  let lo := s.rf (clsOff k + 0xC) 15 0
  let hi := s.rf (clsOff k + 0xC) 31 16
  if expected = 0 then
    let (v, s) := s.draw
    s.modCls k (fun x => { x with target := clampN lo hi (v.toNat % 65536) })
  else
    let d := Int.fdiv ((t : Int) * ((expected : Int) - reading) * s.rf (clsOff k + 8) 23 16) (256 * expected)
    s.modCls k (fun x => { x with target := (clampI lo hi (t + d)).toNat })

/-- The spread of X over the samples of a window. -/
def winSpread (w : List (Nat × Nat)) : Nat :=
  (w.foldl (fun m e => max m e.2) 0) - (w.foldl (fun m e => min m e.2) (2 ^ 20))

/-- Whether 16 samples carry one reading while X moved by more than a fiftieth of its largest (R226). -/
def winFrozen (w : List (Nat × Nat)) : Bool :=
  decide (16 ≤ w.length) && w.all (fun e => e.1 = (w.headD (0, 0)).1) &&
    decide (w.foldl (fun m e => max m e.2) 0 < 50 * winSpread w)

/-- A valid sample processed (R223, R224, R226, R227). -/
def Dev.loopSample (s : Dev) (k reading seq xVal : Nat) : Dev :=
  let x := s.clsOf k
  let driven := s.refDriven k
  let first := x.win.isEmpty
  let changed := first || x.lastRead ≠ reading
  let win := if driven then ((reading, xVal) :: x.win).take 16 else x.win
  let good := changed || decide (50 * winSpread win ≤ xVal)
  let s := s.setCls k { x with
    win := win, lastSeq := some seq, fresh := false, lastRead := reading, lostFrames := 0,
    good := if good then x.good + 1 else 0, runTrim := if changed then x.applied else x.runTrim,
    probeRd := if x.probing then reading :: x.probeRd else x.probeRd }
  if x.state = loopClosed && decide (16384 ≤ xVal) && decide ((s.chanOf (s.refCh k)).drive.toNat < 2 ^ 20 - 1) && driven then
    s.loopTarget k (s.rf (clsOff k + 4) 31 16 * xVal / 2 ^ 20) reading
  else s

/-- Feedback lost or frozen: the loop opens, with its flag and event (R228). -/
def Dev.loopOpen (s : Dev) (k : Nat) (frozen : Bool) (lastGood : Nat) : Dev :=
  if frozen then
    ((s.modCls k (fun x => { x.enter loopFrozen lastGood with lastGood := lastGood, frozenNext := false })).setFlag
      0x3828 (8 + k)).eventOk 0x0502 k
  else ((s.modCls k (fun x => x.enter loopLost x.applied)).setFlag 0x3828 k).eventOk 0x0501 k

/-- The transitions of one class (R226, R228). -/
def Dev.loopStates (s : Dev) (k : Nat) : Dev :=
  let x := s.clsOf k
  let o := clsOff k
  let driven := s.refDriven k
  if !s.rb o 8 then if x.state = loopOff then s else s.modCls k (fun x => { x.enter loopOff 0x8000 with frozenNext := false, lostFrames := 0 })
  else if x.state = loopOff then
    s.modCls k (fun x => { x.enter loopWait x.applied with fresh := true, frozenNext := false, lostFrames := 0 })
  else
    let frozen := (driven && winFrozen x.win) || x.frozenNext
    let lastGood := if x.frozenNext then x.probeTrim else x.runTrim
    let lost := driven && decide (4 * s.rf (o + 8) 11 0 ≤ x.lostFrames)
    let s := s.modCls k (fun x => { x with frozenNext := false })
    if frozen && x.state ≠ loopFrozen then s.loopOpen k true lastGood
    else if lost && (x.state = loopWait || x.state = loopClosed) then s.loopOpen k false 0
    else if x.state = loopWait && decide (8 ≤ x.good) && s.rf (o + 4) 31 16 ≠ 0 then s.modCls k (fun x => x.enter loopClosed x.target)
    else if (x.state = loopLost || x.state = loopFrozen) && decide (8 ≤ x.good) && (x.armed || s.rb o 12) then
      s.modCls k (fun x => x.enter loopClosed x.applied)
    else s

/-- The feedback of one class in a frame (R217 step 3). -/
def Dev.loopFeedback (s : Dev) (k xVal : Nat) : Dev :=
  let x := s.clsOf k
  let valid := match x.sample with
    | some (_, q) => s.rb (clsOff k) 8 && (x.fresh || x.lastSeq ≠ some q)
    | none => false
  let s := s.modCls k (fun x => { x with
    sample := none, hold := if x.state = loopLost || x.state = loopFrozen then x.hold + 1 else 0,
    lostFrames := if !valid && s.rb (clsOff k) 8 && x.state ≠ loopOff && s.refDriven k then x.lostFrames + 1 else x.lostFrames })
  let s := match x.sample with
    | some (r, q) => if valid then s.loopSample k r q xVal else s
    | none => s
  s.loopStates k

/-- One slew step of the loop trim (R225). -/
def Dev.slewTrim (s : Dev) (k : Nat) : Dev :=
  let x := s.clsOf k
  let rate := s.rf (clsOff k + 8) 31 24
  let step := (if x.returning then min rate 10 else rate) * 2147483648 / 3000000
  let goal := 65536 * x.target
  s.setCls k { x with trim := if x.trim < goal then min goal (x.trim + step) else max goal (x.trim - step) }

/-- Whether a probe that ended shows a frozen sensor (R226): the mean of its readings exceeds the mean before it by less than a 128th. -/
def probeFrozen (rd base : List Nat) : Bool :=
  decide (2 ≤ rd.length) && !base.isEmpty && decide (128 * base.length * rd.sum < 129 * rd.length * base.sum)

/-- A dither probe advances or ends, and the wait for the next one runs (R229). -/
def Dev.probeFrame (s : Dev) (k xVal : Nat) : Dev :=
  let x := s.clsOf k
  let want := s.rb (clsOff k) 14 && x.state = loopClosed && decide (65536 ≤ xVal)
  let x := { x with probeFrames := if want then x.probeFrames + 1 else 0 }
  if !x.probing then s.setCls k x
  else if 1 < x.probeLeft then s.setCls k { x with probeLeft := x.probeLeft - 1 }
  else s.setCls k { x with
    probing := false, probeLeft := 0, frozenNext := s.refDriven k && probeFrozen x.probeRd x.probeBase }

/-- The four die readings taken at a frame start (R218). -/
def Dev.takeDie (s : Dev) (die : List Int) : Dev :=
  { s with clr := { s.clr with
    dieT := forEach (upTo 4) (fun m i => tabSet 0 m i (die.getD i (tabGet 0 s.clr.dieT i))) s.clr.dieT } }

/-- The colour evaluation at a scan-frame start (R217). On a shadow, the loops make no transitions of their own (R350). -/
def Dev.evaluate (s : Dev) (die : List Int) : Dev :=
  let s := s.applyLive (fun off g => g = .frame && decide (0x3800 ≤ off) && decide (off < 0x4000))
  let s := s.applyDue (fun off => decide (0x3800 ≤ off) && decide (off < 0x4000))
  let xs := (upTo 8).map (fun k => s.loopX k)
  let s := s.takeDie die
  let s := forEach (upTo 4) (fun s a => s.takeNtc a) s
  let s := (forEach (upTo 8) (fun s k => s.evalClass k) s).evalDie
  let s := forEach (upTo 16) (fun s n => s.evalString n) s
  let k := ((upTo 4).filter (fun a => s.rb 0x3800 (4 + a))).length
  let s : Dev := if k = 0 then s.adcChoose 1 else { s with ntcConv := true, clr := { s.clr with ntcEnd := s.clk.now + 64 * k } }
  if s.pwr.mode = .shadow then s
  else
    let s := forEach (upTo 8) (fun s k => s.loopFeedback k (xs.getD k 0)) s
    let s := forEach (upTo 8) (fun s k => s.slewTrim k) s
    forEach (upTo 8) (fun s k => s.probeFrame k (xs.getD k 0)) s

/-- Whether the hold timer of class `k` starts the return now (R228). -/
def Dev.loopHoldDue (s : Dev) (k : Nat) : Bool :=
  let x := s.clsOf k
  s.pwr.mode ≠ .shadow && (x.state = loopLost || x.state = loopFrozen) && s.rb (clsOff k) 13 && !x.returning &&
    decide (framesPerS * s.rf (clsOff k + 0x10) 7 0 ≤ x.hold)

/-- Whether a dither probe of class `k` starts now (R229). -/
def Dev.ditherDue (s : Dev) (k : Nat) : Bool :=
  let x := s.clsOf k
  s.pwr.mode ≠ .shadow && x.state = loopClosed && s.rb (clsOff k) 14 && !x.probing && decide (framesPerS * s.rf (clsOff k + 0x10) 15 8 ≤ x.probeFrames)

/-! ### The commands -/

/-- SCAN_FRAME_START (R197, R217): the matrix begins its frame, then the colour stage evaluates. `die` holds the four die readings, in
1/16 °C, made in the frame before. -/
def execScanFrameStart (die : List Int) (s : State) : Host.Outcome State Fault Refusal :=
  onDev (fun s =>
    if s.coreOn && s.clk.running && s.gridNow 65536 0 && !s.isServed .frame then
      ((s.serve .frame).mtxFrame).evaluate die
    else s) s

/-- NTC_CONVERSIONS_END (R219, R299): after 64 ticks for each enabled input, the codes, and ADC1 is free to choose its next work. -/
def execNtcConversionsEnd (codes : List Nat) (s : State) : Host.Outcome State Fault Refusal :=
  onDev (fun s =>
    if s.coreOn && s.ntcConv && decide (s.clr.ntcEnd ≤ s.clk.now) then
      let m := forEach (upTo 4) (fun m a =>
        if s.rb 0x3800 (4 + a) then
          match codes[a]? with
          | some c => tabSet none m a (some (min c 4095))
          | none => m
        else m) s.clr.ntcCode
      ({ s with ntcConv := false, clr := { s.clr with ntcCode := m } }).adcChoose 1
    else s) s

/-- LOOP_HOLD_TIMER (R228): an open loop's hold timer has reached HOLD_T with RETURN set, and the return to unity begins. -/
def execLoopHoldTimer (k : Fin 8) (s : State) : Host.Outcome State Fault Refusal :=
  onDev (fun s =>
    if s.loopHoldDue k then s.modCls k (fun x => { x with target := 0x8000, returning := true }) else s) s

/-- DITHER_PROBE (R229): PROBE_INT seconds have passed in CLOSED with X at 65,536 or more, and a probe starts. -/
def execDitherProbe (k : Fin 8) (s : State) : Host.Outcome State Fault Refusal :=
  onDev (fun s =>
    if s.ditherDue k then
      s.modCls k (fun x => { x with
        probing := true, probeLeft := 4 * s.rf (clsOff k + 8) 11 0, probeRd := [], probeBase := (x.win.take 4).map (·.1),
        probeTrim := x.applied, probeFrames := 0 })
    else s) s

/-- CLR_ARM (R228): an ARM strobe, ignored in a loop that is not open. -/
def Dev.clrArm (s : Dev) (bits : BitVec 8) : Dev :=
  forEach (upTo 8) (fun s k =>
    if bits.toNat.testBit k && ((s.clsOf k).state = loopLost || (s.clsOf k).state = loopFrozen) then
      s.modCls k (fun x => { x with armed := true })
    else s) s

end Sys2Proof.Machine
end

