-- ==== Sys2Proof/Machine/Power.lean ====
section
/-! DEFINITION. Chapter 03 and the rails of chapter 02: HOLD (R92, R93, R99), mode requests and sleep (R79 to R82, R100), the resets (R94,
R95, R52, R53, R58), wake sources and the wake sequence up to the Wheel (R83 to R90), and DOZE events (R91). -/

namespace Sys2Proof.Machine

/-! ### HOLD -/

/-- A channel's stepwise value becomes its safe level on the tick of entry to HOLD, and a waiting HANDOFF is dropped (R92). -/
def Dev.safeStep (s : Dev) (c : Nat) : Dev :=
  let x := s.chanKeep c
  let v := BitVec.ofNat 16 (s.safeLevel c)
  if (s.chanOf c).step = v && !(s.chanOf c).handoff then s else s.setChan c { x with step := v, handoff := false }

/-- The light outputs off at once (Table MOD-5). -/
def Dev.lightsOff (s : Dev) : Dev := s.haltStrings.haltMatrix

/-- What LIMP adds: the Hoop and Ozhild off, Harps stopped with their pins high-Z (R93). -/
def Dev.limpOff (s : Dev) : Dev := ((s.hoopStop.modOzh (fun z => { z with busy := false })).stopHarps).floatPins (BitVec.allOnes 32)

/-- The actions of a cause of HOLD that is already in force, by cause (Table MOD-5). -/
def Dev.causeActs (s : Dev) : Dev :=
  let s := if s.holdDark then s.lightsOff else s
  if s.inHold && s.hasCause causeLimp then s.limpOff else s

/-- Entry to HOLD (R92): cues complete with STATE, Ripeners stop, every channel's stepwise value becomes its safe level, carrier
outputs go low. An entry to sleep under way is abandoned. -/
def Dev.enterHold (s : Dev) : Dev :=
  let s := match s.pwr.sleepTo with
    | some m => (s.modPwr (fun p => { p with sleepTo := none, latched := none })).eventOk 0x0202 m.code
    | none => s
  let s := s.modPwr (fun p => { p with mode := .hold, transAt := some s.clk.now })
  let s := s.discardCues
  let s := forEach (upTo 12) (fun s n => s.modRip n Rip.stopped) s
  let s := forEach (upTo 1040) (fun s c => s.safeStep c) s
  let s := s.carriersOff.modMtx (fun m => { m with waitFrame := false, holdRows := BitVec.allOnes 16 })
  (s.eventOk 0x0204 s.pwr.cause.toNat).causeActs

/-- A HOLD cause set: in READY, RUN and SHADOW it brings HOLD (R79, R92). -/
def Dev.setCause (s : Dev) (i : Nat) : Dev :=
  let s := s.modPwr (fun p => { p with cause := p.cause ||| BitVec.ofNat 5 (2 ^ i) })
  if s.inHold then s.causeActs
  else if s.coreOn && (s.pwr.mode = .ready || s.pwr.mode = .run || s.pwr.mode = .shadow) then s.enterHold
  else s

/-- A HOLD cause cleared (R99, R445). -/
def Dev.dropCause (s : Dev) (i : Nat) : Dev := s.modPwr (fun p => { p with cause := p.cause &&& ~~~ BitVec.ofNat 5 (2 ^ i) })

/-- HOLD left for READY: the owner table is in force again and channels keep their stepwise values (R79, R92). -/
def Dev.leaveHold (s : Dev) : Dev :=
  (s.modPwr (fun p => { p with mode := .ready })).modMtx (fun m => { m with holdRows := 0 }) |>.eventOk 0x0205 0

/-- THERMAL_SHUTDOWN (R232): a die sensor above 150 °C. -/
def execThermalShutdown (sensor : Fin 4) (s : State) : Host.Outcome State Fault Refusal :=
  onDev (fun s =>
    if s.coreOn && !s.hasCause causeThermal then ((s.setFlag 0x82C 0).eventOk 0x0504 sensor.val).setCause causeThermal else s) s

/-- THERMAL_RELEASE (R99, R232): all four sensors below 130 °C; with THERM_AUTO and no other cause HOLD ends at once. Matrix sampling is
blanked on the return (R210). -/
def execThermalRelease (s : State) : Host.Outcome State Fault Refusal :=
  onDev (fun s =>
    if s.coreOn && s.hasCause causeThermal then
      let s := (s.dropCause causeThermal).modMtx (fun m => { m with blank := s.clk.now + 262144 })
      if s.inHold && s.pwr.cause = 0 && s.rb 0x81C 2 then s.leaveHold else s
    else s) s

/-! ### Resets -/

/-- The set-up registers of the radio's block. -/
def ozhReg (off : Nat) : Bool := decide (0x8000 ≤ off) && decide (off < 0x9000)

/-- The set-up registers of the always-on domain (R96). -/
def aonReg (off : Nat) : Bool := [0x80C, 0x810, 0x814, 0x818, 0x81C, 0x82C].contains off

/-- The slot that a target's update sequence writes: the Steward's that does not run (in REFUSE, that ACTIVE does not name), or the
Rind's that does not run (R419, R443). -/
def Dev.updSlot (s : Dev) (k : Nat) : Nat :=
  if k = 0 then (if s.flt.refuse then 1 - s.flt.active else 1 - s.flt.running) else 2 + (1 - s.br.run)

/-- The image slots after a reset: an open sequence leaves its slot EMPTY (R443). -/
def Dev.slotsAfter (s : Dev) : Tab Slot :=
  forEach [0, 1] (fun m k =>
    if (s.updOf k).open_ then tabSet {} m (s.updSlot k) { tabGet {} m (s.updSlot k) with st := 0 } else m) s.flt.slots

/-- The device with IO3 and CORE reset, or unpowered: what the always-on domain, the flash and the outside keep (R94 to R97). -/
def Dev.coreReset (s : Dev) : Dev :=
  let fresh : Dev := {}
  let kept := s.resetRegs aonReg
  { fresh with
    out := s.out, free := s.free, regs := kept.regs,
    clk := { fresh.clk with
      now := s.clk.now, wheel := s.clk.wheel, woscCal := s.clk.woscCal, role := s.clk.role, refHz := s.clk.refHz, limp := s.clk.limp },
    pwr := { s.pwr with
      cause := 0, dozeEvent := false, dozeWake := false, sleepTo := none, request := none, asked := none, retValid := false },
    ring := { fresh.ring with perst := s.ring.perst },
    pins := { ext := s.pins.ext },
    trips := { fresh.trips with syncIn := s.trips.syncIn, level := s.trips.level, since := s.trips.since, filt := s.trips.filt },
    ozh := { fresh.ozh with fc := s.ozh.fc },
    ozhKept := s.ozhKept,
    flt := { fresh.flt with
      slots := s.slotsAfter, active := s.flt.active, running := s.flt.running, fellBack := s.flt.fellBack, reverted := s.flt.reverted,
      reason := s.flt.reason, mismatch := s.flt.mismatch, verState := s.flt.verState, trial := s.flt.trial, trialAt := s.flt.trialAt,
      haltAt := if s.coreOn && !s.flt.dbgHalt then s.clk.now else s.flt.haltAt },
    br := { s.br with queue := [], told := false, eInHi := 0, rtimeHi := 0 } }

/-- The device held in a power-on reset: nothing kept but flash, the outside, and the rails' levels (R53, R55, R94). -/
def Dev.porReset (s : Dev) : Dev :=
  let c := s.coreReset
  let fresh : Dev := {}
  { c with
    regs := {}, clk := { fresh.clk with now := s.clk.now, refHz := s.clk.refHz }, ozh := {}, ozhKept := none,
    pwr := { fresh.pwr with
      woscRc := s.pwr.woscRc,
      v3Low := s.pwr.v3Low, vinLow := s.pwr.vinLow, vrowLow := s.pwr.vrowLow, vioLow := s.pwr.vioLow, vbatLow := s.pwr.vbatLow,
      vinEnd := s.pwr.vinEnd, vrowEnd := s.pwr.vrowEnd, vinSusp := s.pwr.vinSusp, vrowSusp := s.pwr.vrowSusp } }

/-- VAULT without a saved context: with RET_EN = 0 the retention SRAM is not kept (R94, R97). -/
def Dev.dropRetention (s : Dev) : Dev :=
  if s.rb 0x81C 0 then s else { s.modPwr (fun p => { p with retained := false }) with ozhKept := none }

/-- A supply reset: the Wheel goes on from the copy of the last press, its count begun at the reset (R95), retention is kept if RET_EN = 1 (R94),
and FLT_RESET_WHY says why (R435). While the PLL stands still the stored Wheel and its count go on. -/
def Dev.supplyReset (s : Dev) (why : Nat) : Dev :=
  let on := s.clk.running
  (s.coreReset.modPwr (fun p => { p with
    storedWheel := if on then p.wheelCopy + 4096 else p.storedWheel, woscCount := if on then 0 else p.woscCount,
    resetWhy := why })).dropRetention

/-! ### The wake sequence -/

/-- A wake sequence begins with a cause (R83 to R85): step 1 waits for V3. -/
def Dev.beginWake (s : Dev) (cause pin : Nat) : Dev :=
  s.modPwr (fun p => { p with
    wake := if p.v3Low then .v3wait else .buck, stepAt := s.clk.now, wakeStart := s.clk.now, wakeCause := cause, wakePin := pin,
    fromDoze := p.mode = .doze, dozeWake := false, latched := none, clkAttempts := 0 })

/-- A RESTART (R79, R94): a warm reset, then a wake sequence with cause 8. It ends the limp clock (R90). -/
def Dev.restart (s : Dev) (why : Nat) : Dev :=
  (((s.supplyReset why).modClk (fun c => { c with limp := false })).modPwr (fun p => { p with mode := .ready })).beginWake 8 0

/-- A wake that ends in VAULT: HIO is off with its pins high-Z, the sequence and a DOZE event are over, and retention goes as RET_EN says
(R59, R87, R97, R98). -/
def Dev.toVault (s : Dev) : Dev :=
  { (s.modPwr (fun p => { p with mode := .vault, wake := .idle, dozeWake := false, dozeEvent := false })).dropRetention with
    pins := { ext := s.pins.ext } }

/-- The VAULT lock after a third PGOOD failure, else VAULT (R87, R88). -/
def Dev.pgoodFail (s : Dev) : Dev :=
  let n := s.pwr.pgoodFails + 1
  if 3 ≤ n then (s.toVault.modPwr (fun p => { p with pgoodFails := 3, lastFail := 1, vaultLock := true })).setFlag 0x82C 2
  else s.toVault.modPwr (fun p => { p with pgoodFails := n, lastFail := 1 })

/-- Loss of V3 or VCORE in any mode but VAULT sets PWR_FLAGS.V3_LOST (Table MOD-2). -/
def Dev.noteV3Lost (s : Dev) : Dev := if s.pwr.mode = .vault then s else s.setFlag 0x82C 5

/-- A wake sequence cut by the loss of V3 waits for it in step 1; a cut DOZE event, which no wake source began, does not go on (R98, log
entry 22). -/
def Dev.waitV3 (s : Dev) (doze : Bool) : Dev := if doze || s.pwr.vaultLock then s else s.modPwr (fun p => { p with wake := .v3wait })

/-- V3 enters lockout (R57, R58, R79, R98). -/
def Dev.v3Down (s : Dev) : Dev :=
  if s.pwr.v3Low then s
  else
    let s := s.modPwr (fun p => { p with v3Low := true })
    match s.pwr.wake with
    | .por => s
    | .idle => if s.pwr.mode = .vault then s else (s.noteV3Lost.supplyReset 3).toVault
    | .v3wait => s
    | .buck => s.noteV3Lost.pgoodFail.waitV3 s.pwr.dozeWake
    | _ => ((s.noteV3Lost.supplyReset 3).toVault).waitV3 s.pwr.dozeWake

/-- V3_LOCKOUT (R58). -/
def execV3Lockout (s : State) : Host.Outcome State Fault Refusal := onDev (fun s => s.v3Down) s

/-- V3 leaves lockout: a waiting sequence starts again with its clock attempts not yet made, and VAULT is left with cause 2 (R58, R83, R89,
R98). -/
def Dev.v3Up (s : Dev) : Dev :=
  if !s.pwr.v3Low then s
  else
    let s := s.modPwr (fun p => { p with v3Low := false })
    match s.pwr.wake with
    | .v3wait => s.modPwr (fun p => { p with wake := .buck, stepAt := s.clk.now, clkAttempts := 0 })
    | .idle => if s.pwr.mode = .vault && !s.pwr.vaultLock then s.beginWake 2 0 else s
    | _ => s

/-- V3_LOCKOUT_EXIT (R83). -/
def execV3LockoutExit (s : State) : Host.Outcome State Fault Refusal := onDev (fun s => s.v3Up) s

/-- VCORE_PGOOD_LOSS (R52, R79): CORE is reset and the device enters VAULT; with V3 out of lockout the wake sequence starts at once. -/
def execVcorePgoodLoss (s : State) : Host.Outcome State Fault Refusal :=
  onDev (fun s =>
    let powered := match s.pwr.wake with
      | .por => false
      | .v3wait => false
      | .buck => false
      | .idle => s.coreOn
      | _ => true
    if powered then
      let s := (s.noteV3Lost.supplyReset 3).toVault
      if s.pwr.v3Low then s else s.beginWake 2 0
    else s) s

/-- VBAT_LOW (R53): a power-on reset of everything but the Rind, held until VBAT rises. -/
def execVbatLow (s : State) : Host.Outcome State Fault Refusal :=
  onDev (fun s => (s.modPwr (fun p => { p with vbatLow := true })).porReset) s

/-- RST_N (R94): low for 2 wake-oscillator periods, it resets as power-on does. -/
def execRstN (s : State) : Host.Outcome State Fault Refusal := onDev (fun s => s.porReset) s

/-- The reset is released: a wake sequence, or VAULT with V3 in lockout (R79). -/
def Dev.release (s : Dev) (cause : Nat) : Dev :=
  if s.pwr.v3Low then s.modPwr (fun p => { p with wake := .idle, mode := .vault }) else s.beginWake cause 0

/-- POWER_ON_RESET (R54, R79): VBAT above its lockout; without a crystal on WX_IN and WX_OUT the wake oscillator runs from its internal
RC. -/
def execPowerOnReset (p : PowerUp) (s : State) : Host.Outcome State Fault Refusal :=
  onDev (fun s =>
    if s.pwr.wake = .por then (s.modPwr (fun x => { x with vbatLow := false, v3Low := !p.v3, woscRc := !p.wx })).release 0 else s) s

/-- RST_N_RELEASE (R79). -/
def execRstNRelease (s : State) : Host.Outcome State Fault Refusal :=
  onDev (fun s => if s.pwr.wake = .por && !s.pwr.vbatLow then s.release 1 else s) s

/-- RESTART (R94): PWR_CMD.RESTART. -/
def Dev.restartCmd (s : Dev) : Dev := if s.coreOn then s.restart 1 else s

/-- PLL_LOCK_LOSS (R435): outside the limp clock, a RESTART with FLT_RESET_WHY 2. -/
def execPllLockLoss (s : State) : Host.Outcome State Fault Refusal :=
  onDev (fun s => if s.clk.pllLock && !s.clk.limp then s.restart 2 else s) s

/-! ### Sleep and mode requests -/

/-- The radio's context as retention saves it (R97). -/
def Dev.keepOzh (s : Dev) : OzhKept := ⟨s.ozh, s.regs.force.filter (fun e => ozhReg e.1), s.regs.written.filter (fun e => ozhReg e.1)⟩

/-- The radio's context taken back from retention; its frame counter never falls (R86, R96, R97). -/
def Dev.restoreOzh (s : Dev) : Dev :=
  match s.ozhKept with
  | some k =>
    let r := s.regs
    let s := s.setRegs { r with
      force := tabOver regReset ozhReg k.force r.force, written := tabOver regReset ozhReg k.written r.written }
    { s with ozh := { k.z with fc := max k.z.fc s.ozh.fc } }
  | none => s

/-- A word of a test of each pin. -/
def pinMask (p : Nat → Bool) : BitVec 32 := (upTo 32).foldl (fun w i => setBitTo w i (p i)) 0

/-- What HIO holds through DOZE: the drivers and levels at entry, or those it holds already (R59, R276). -/
def Dev.heldPins (s : Dev) : BitVec 32 × BitVec 32 :=
  match s.pins.held with
  | some h => h
  | none => (pinMask s.pinDriven, pinMask s.pinOut)

/-- IO3 and CORE lose power for a mode asleep: the Wheel stored, its count begun, retention saved; HIO holds its outputs in DOZE (R35, R59, R82,
R96, R97). -/
def Dev.sleepNow (s : Dev) (m : Mode) : Dev :=
  let keep := decide (m = Mode.doze) || s.rb 0x81C 0
  let held := s.heldPins
  let ozh := s.keepOzh
  let l := s.pwr.latched
  let s := (s.modPwr (fun p => { p with storedWheel := s.clk.wheel, woscCount := 0 })).coreReset
  let s := { s with
    pins := { ext := s.pins.ext, held := if m = Mode.doze then some held else none }, ozhKept := if keep then some ozh else none }
  let s := s.modPwr (fun p => { p with mode := m, retained := keep, sleepStart := s.clk.now, dozeStart := s.clk.now })
  match l with
  | some (c, pin) => s.beginWake c pin
  | none => s

/-- An entry to sleep begins (R82): outputs stop, cues complete with STATE, waiting entries and shadows are written; with the link down
the device sleeps at once. -/
def Dev.beginSleep (s : Dev) (m : Mode) : Dev :=
  let s := s.modPwr (fun p => { p with sleepTo := some m, sleepStart := s.clk.now, latched := none })
  s.discardCues.flushWhey.syncShadows

/-- SLEEP_LINK_READY (R82): the link rests, or is not up, and the device sleeps. -/
def execSleepLinkReady (s : State) : Host.Outcome State Fault Refusal :=
  onDev (fun s =>
    match s.pwr.sleepTo with
    | some m => s.sleepNow m
    | none => s) s

/-- Outputs start as on entry to RUN from READY: the matrix at the next scan frame, strings and carriers at their own boundaries
(Table MOD-2); matrix sampling is blanked (R210). -/
def Dev.startOutputs (s : Dev) : Dev := s.modMtx (fun m => { m with waitFrame := true, blank := s.clk.now + 262144 })

/-- SLEEP_ABORT (R82): more than 2 s without the link at rest. A wake source latched during the entry is dropped with it (DESIGN CHOICE, log entry
21). -/
def execSleepAbort (s : State) : Host.Outcome State Fault Refusal :=
  onDev (fun s =>
    match s.pwr.sleepTo with
    | some m =>
      if s.pwr.sleepStart + 393216000 < s.clk.now then
        let s := (s.modPwr (fun p => { p with sleepTo := none, latched := none })).eventOk 0x0202 m.code
        if s.pwr.mode = .run then s.startOutputs else s
      else s
    | none => s) s

/-- A mode request judged (R79, R82): its status, and the state. HOST leaves HOLD only when no other cause remains. -/
def Dev.modeRequest (s : Dev) (m : Mode) : Status × Dev :=
  if m = s.pwr.mode then (.ok, s)
  else if s.pwr.sleepTo.isSome then (.state, s)
  else match s.pwr.mode, m with
    | .ready, .run => (.ok, (s.modPwr (fun p => { p with mode := .run })).startOutputs)
    | .run, .ready => (.ok, s.modPwr (fun p => { p with mode := .ready }))
    | .ready, .hold => (.ok, s.setCause causeHost)
    | .run, .hold => (.ok, s.setCause causeHost)
    | .shadow, .hold => (.ok, s.setCause causeHost)
    | .ready, .vault => (.ok, s.beginSleep .vault)
    | .run, .vault => (.ok, s.beginSleep .vault)
    | .ready, .doze => (.ok, s.beginSleep .doze)
    | .run, .doze => (.ok, s.beginSleep .doze)
    | .hold, .ready =>
      if s.pwr.cause.toNat / 2 = 0 then (.ok, (s.dropCause causeHost).leaveHold) else (.state, s)
    | _, _ => (.state, s)

/-- The mode a completion reports as the mode after (Table DSC-6): the one asked for when entry to sleep has begun. -/
def Dev.modeAfter (s : Dev) : Nat := (s.pwr.sleepTo.getD s.pwr.mode).code

/-- TRANS_BUSY (R79). -/
def Dev.transBusy (s : Dev) : Bool := s.pwr.wake ≠ .idle || s.pwr.sleepTo.isSome

/-- A PWR_MODE_REQ write taken at a press: it waits while a transition runs or the Steward is halted (R11, R80, R100), and goes on to the
first press after its end (DESIGN CHOICE, log entry 21). It is judged with the tick's other transitions (R81). -/
def Dev.requestPress (s : Dev) : Dev :=
  match s.pwr.request with
  | some (m, t) =>
    if t < s.clk.now && !s.transBusy && !s.flt.dbgHalt then s.modPwr (fun p => { p with request := none, asked := some m }) else s
  | none => s

/-- A request judged at the end of its tick: after a transition of a higher rank it completes with STATE and is not carried out (R81). -/
def Dev.modeJudge (s : Dev) (m : Mode) : Status × Dev :=
  if s.transBusy || s.pwr.transAt = some s.clk.now then (.state, s) else s.modeRequest m

/-! ### Wake sources -/

/-- HIO is given back to its registers, which have owners for no pin (R49, R264). -/
def Dev.releasePins (s : Dev) : Dev := if s.pins.held.isSome then { s with pins := { ext := s.pins.ext } } else s

/-- HOLD in place of a target mode while any cause is present: the limp clock, a refused boot, or a cause set before (R89, R92, R440). -/
def Dev.holdInstead (s : Dev) : Dev :=
  let c := s.pwr.cause ||| (if s.clk.limp then BitVec.ofNat 5 (2 ^ causeLimp) else 0) |||
    (if s.flt.refuse then BitVec.ofNat 5 (2 ^ causeRefuse) else 0)
  let s := s.modPwr (fun p => { p with cause := c })
  if c = 0 then s else s.enterHold

/-- A wake into its target mode with the CORE running: READY, or RUN with AUTO_RUN for a wake from sleep; a limp clock, a refused boot or
any other HOLD cause brings HOLD instead (R79, R85, R89, R92, R440). -/
def Dev.enterTarget (s : Dev) : Dev :=
  let run := s.rb 0x81C 1 && !(s.pwr.wakeCause = 0 || s.pwr.wakeCause = 1 || s.pwr.wakeCause = 8)
  let t := BitVec.ofNat 32 (s.clk.now - s.pwr.wakeStart)
  let s := s.modPwr (fun p => { p with
    wake := .idle, dozeEvent := false, dozeWake := false, mode := .ready, pgoodFails := 0, wakeTime := t })
  let s := if s.anyWhey then
      s.eventOk 0x0201 (s.pwr.wakeCause + 256 * b2n s.pwr.fromDoze + 65536 * t.toNat)
    else s
  let s := s.releasePins.holdInstead
  if s.inHold then s
  else if run then (s.modPwr (fun p => { p with mode := .run })).startOutputs else s

/-- A wake source arrives (R83, R84, R88): from a sleep it starts the sequence, during entry to sleep it is latched, and in a DOZE event
it makes the event a wake. -/
def Dev.wakeSource (s : Dev) (cause pin : Nat) (vault doze en : Bool) : Dev :=
  let fits (m : Mode) : Bool := (m = .vault && vault) || (m = .doze && doze)
  if !en || s.pwr.vaultLock then s
  else match s.pwr.sleepTo with
    | some m => if fits m && s.pwr.latched.isNone then s.modPwr (fun p => { p with latched := some (cause, pin) }) else s
    | none =>
      if !fits s.pwr.mode then s
      else if s.pwr.dozeEvent then
        (s.modPwr (fun p => { p with wakeCause := cause, wakePin := pin, fromDoze := true, wakeStart := s.clk.now })).enterTarget
      else if s.pwr.dozeWake then
        s.modPwr (fun p => { p with wakeCause := cause, wakePin := pin, fromDoze := true, wakeStart := s.clk.now, dozeWake := false })
      else if s.pwr.wake = .idle then s.beginWake cause pin
      else s

/-- WAKE_EDGE (R83): a rising edge on WAKE. -/
def execWakeEdge (s : State) : Host.Outcome State Fault Refusal :=
  onDev (fun s => s.wakeSource 3 0 true true (s.rb 0x80C 0)) s

/-- VAULT_ALARM (R83). -/
def execVaultAlarm (s : State) : Host.Outcome State Fault Refusal :=
  onDev (fun s => s.wakeSource 4 0 true false (s.rf 0x818 31 0 ≠ 0)) s

/-- PERST_N_DEASSERT (R83). -/
def execPerstNDeassert (s : State) : Host.Outcome State Fault Refusal :=
  onDev (fun s => (s.modRing (fun r => { r with perst := false })).wakeSource 5 0 false true (s.rb 0x80C 1)) s

/-- HOOP_SIGNAL_DETECT (R83): a signal on UP or BR. -/
def execHoopSignalDetect (s : State) : Host.Outcome State Fault Refusal :=
  onDev (fun s => s.wakeSource 6 0 false true (s.rb 0x80C 2)) s

/-- Whether PWR_WAKE_PIN watches an edge of a pin (Table MOD-10). -/
def Dev.wakePinHit (s : Dev) (pin : Nat) (rising : Bool) : Bool :=
  (upTo 4).any (fun k => s.rf 0x810 (8 * k + 4) (8 * k) = pin &&
    (s.rf 0x810 (8 * k + 6) (8 * k + 5) = 3 || s.rf 0x810 (8 * k + 6) (8 * k + 5) = (if rising then 1 else 2)))

/-- WAKE_PIN_EDGE (R83). -/
def execWakePinEdge (pin : Fin 32) (rising : Bool) (s : State) : Host.Outcome State Fault Refusal :=
  onDev (fun s => s.wakeSource 7 pin false true (s.rb 0x80C 3 && s.wakePinHit pin rising)) s

/-- VAULT_LOCK_RELEASE (R88): WAKE high for 65,536 wake-oscillator periods. -/
def execVaultLockRelease (s : State) : Host.Outcome State Fault Refusal :=
  onDev (fun s =>
    if s.pwr.vaultLock then (s.modPwr (fun p => { p with vaultLock := false, pgoodFails := 0 })).beginWake 9 0 else s) s

/-! ### The steps of the sequence -/

/-- A step of the sequence ends and the next begins. -/
def Dev.wakeStep (s : Dev) (w : Wake) : Dev := s.modPwr (fun p => { p with wake := w, stepAt := s.clk.now })

/-- VCORE_PGOOD (R85, step 2). -/
def execVcorePgood (s : State) : Host.Outcome State Fault Refusal :=
  onDev (fun s => if s.pwr.wake = .buck then s.wakeStep .refMeas else s) s

/-- PGOOD_TIMEOUT (R87): 2 ms without PGOOD. -/
def execPgoodTimeout (s : State) : Host.Outcome State Fault Refusal :=
  onDev (fun s => if s.pwr.wake = .buck && decide (s.pwr.stepAt + 393216 ≤ s.clk.now) then s.pgoodFail else s) s

/-- The clock step begins: the crystal, or the PLL with REFCLK; an attempt is counted (R85, R89). -/
def Dev.clockStep (s : Dev) : Dev :=
  (s.modPwr (fun p => { p with clkAttempts := p.clkAttempts + 1 })).wakeStep (if s.clk.src = .refclk then .pll else .crystal)

/-- Whether a frequency lies within 1% of 24.576 MHz (R22). -/
def refGood (hz : Nat) : Bool := decide (24330240 ≤ hz) && decide (hz ≤ 24821760)

/-- REFERENCE_MEASURED (R22, step 3): REFIN has been measured at `hz`, 0 where it does not toggle, and the step's fixed 2,048 ticks are over. Under
the limp clock, which persists, the sequence goes on with its lock (R89, R90). -/
def execReferenceMeasured (hz : Nat) (s : State) : Host.Outcome State Fault Refusal :=
  onDev (fun s =>
    if s.pwr.wake = .refMeas && decide (s.pwr.stepAt + 2048 ≤ s.clk.now) then
      let s := s.modClk (fun c => { c with refHz := hz, src := if refGood hz then .refclk else .xtal })
      if s.clk.limp then s.wakeStep .limpPll else s.clockStep
    else s) s

/-- CRYSTAL_AMPLITUDE_GOOD (R85, step 4). -/
def execCrystalAmplitudeGood (s : State) : Host.Outcome State Fault Refusal :=
  onDev (fun s => if s.pwr.wake = .crystal then s.wakeStep .pll else s) s

/-- A step of the clock that times out: how long it may take, and its code in LAST_FAIL_STEP (Table MOD-4, Table MOD-10). -/
def clockLimit : Wake → Option (Nat × Nat)
  | .crystal => some (983040, 2)
  | .pll => some (39322, 3)
  | _ => none

/-- CLOCK_STEP_TIMEOUT (R89): a pause before the next attempt, or after the fourth the limp clock. -/
def execClockStepTimeout (s : State) : Host.Outcome State Fault Refusal :=
  onDev (fun s =>
    match clockLimit s.pwr.wake with
    | some (lim, code) =>
      if s.pwr.stepAt + lim ≤ s.clk.now then
        (s.modPwr (fun p => { p with lastFail := code })).wakeStep (if 4 ≤ s.pwr.clkAttempts then .limpPll else .pause)
      else s
    | none => s) s

/-- CLOCK_RETRY_PAUSE_END (R89): 1 ms later, from step 4. -/
def execClockRetryPauseEnd (s : State) : Host.Outcome State Fault Refusal :=
  onDev (fun s => if s.pwr.wake = .pause && decide (s.pwr.stepAt + 196608 ≤ s.clk.now) then s.clockStep else s) s

/-- PLL_LOCK (R85, step 5). -/
def execPllLock (s : State) : Host.Outcome State Fault Refusal :=
  onDev (fun s =>
    if s.pwr.wake = .pll then (s.modClk (fun c => { c with pllLock := true })).wakeStep .wheelWait else s) s

/-- LIMP_CLOCK_LOCK (R89, R90): the PLL locks to the RC oscillator. -/
def execLimpClockLock (s : State) : Host.Outcome State Fault Refusal :=
  onDev (fun s =>
    if s.pwr.wake = .limpPll then
      ((s.modClk (fun c => { c with pllLock := true, limp := true, src := .limp })).setFlag 0x82C 1).wakeStep .wheelWait
    else s) s

/-- What a radio follower adds to its re-derived Wheel for a sleep: the drift of its time parent, kept with the radio context (R382). -/
def Dev.sleepDrift (s : Dev) (ticks : Nat) : Int :=
  match s.ozhKept with
  | some k => if s.clk.role = .radio then Int.tdiv ((tabGet {} k.z.nbrs k.z.parent.toNat).delta * ticks) 1000000000 else 0
  | none => 0

/-- WHEEL_SET (R25, R35, R96, step 6): the count takes the `periods` that have passed since it was last brought up to date; the Wheel is 0 after a
power-on reset, else re-derived from the count; a follower is then in HOLDOVER. A DOZE event goes on with the Steward's task, but on the
limp clock it ends in HOLD (R89, R91). -/
def execWheelSet (periods : BitVec 48) (s : State) : Host.Outcome State Fault Refusal :=
  onDev (fun s =>
    if s.pwr.wake = .wheelWait then
      let s := s.modPwr (fun p => { p with woscCount := p.woscCount + periods })
      let slept := s.pwr.woscCount.toNat * s.clk.woscCal.toNat / 1024
      let w : Wheel := if s.pwr.cold then 0 else s.pwr.storedWheel + BitVec.ofNat 64 slept + BitVec.ofInt 64 (s.sleepDrift slept)
      let follower := !s.pwr.cold && s.clk.role ≠ .master
      let s := s.modClk (fun c => { c with
        wheel := w, prev := w, running := true, served := [], role := if follower then c.role else .master,
        fstate := if follower then .holdover else .synced })
      let s := if s.pwr.cold then s else s.setFlag 0x42C 6
      let s := if follower then (s.setFlag 0x42C 0).eventOk 0x0102 s.clk.role.code else s
      let s := s.modPwr (fun p => { p with cold := false, wheelCopy := w })
      if s.pwr.dozeWake && !s.clk.limp then
        s.restoreOzh.modPwr (fun p => { p with wake := .idle, dozeWake := false, dozeEvent := true, retValid := p.retained })
      else (s.modPwr (fun p => { p with dozeWake := false })).wakeStep .steward
    else s) s

/-! ### DOZE -/

/-- DOZE_TIMER (R91): the timer's expiry runs steps 1 to 6 for a DOZE event; during an event it starts nothing. -/
def execDozeTimer (s : State) : Host.Outcome State Fault Refusal :=
  onDev (fun s =>
    if s.pwr.mode = .doze && s.pwr.wake = .idle && !s.pwr.dozeEvent && s.rf 0x814 23 0 ≠ 0 then
      s.modPwr (fun p => { p with
        wake := if p.v3Low then .v3wait else .buck, stepAt := s.clk.now, dozeStart := s.clk.now, wakeStart := s.clk.now, dozeWake := true,
        clkAttempts := 0 })
    else s) s

/-- DOZE_EVENT_SLEEP (R91): the Wheel is stored and the device sleeps again; no event is sent. -/
def execDozeEventSleep (s : State) : Host.Outcome State Fault Refusal :=
  onDev (fun s =>
    if s.pwr.dozeEvent && !s.flt.dbgHalt then
      let start := s.pwr.dozeStart
      (s.sleepNow .doze).modPwr (fun p => { p with dozeStart := start })
    else s) s

/-- DOZE_EVENT_STAY_AWAKE (R91): cause 10. -/
def execDozeEventStayAwake (s : State) : Host.Outcome State Fault Refusal :=
  onDev (fun s =>
    if s.pwr.dozeEvent && !s.flt.dbgHalt then
      (s.modPwr (fun p => { p with wakeCause := 10, wakePin := 0, fromDoze := true })).enterTarget
    else s) s

/-- DOZE_OVERRUN (R91): the event outlasts DOZE_MAX, and the device enters READY, or HOLD while a cause is present (R92). No wake source ended
the sleep: cause, FROM_DOZE, WAKE_TIME and PGOOD_FAILS stay as they were and no WAKE is sent (DESIGN CHOICE, log entry 22). -/
def execDozeOverrun (s : State) : Host.Outcome State Fault Refusal :=
  onDev (fun s =>
    if s.pwr.dozeEvent && decide (s.pwr.dozeStart + 196608 * s.rf 0x81C 15 8 < s.clk.now) then
      let s := s.modPwr (fun p => { p with mode := .ready, dozeEvent := false })
      ((s.setFlag 0x82C 4).eventOk 0x0203 0).releasePins.holdInstead
    else s) s

end Sys2Proof.Machine
end

