-- ==== Sys2Proof/Machine/Faults.lean ====
section
/-! DEFINITION. Chapter 16: device faults (R429 to R433), the watchdog (R434), the debug halt (R437), image checks and boot (R438 to R442), the
image update sequence (R443) and the trial (R444); and the end of the wake sequence (R85, R86). -/

namespace Sys2Proof.Machine

/-! ### Device faults -/

/-- A device fault set: its FLT_DEV bit, FLT_LAST, event FAULT and HOLD cause FAULT (R430, R431). A bit that stays 1 sends nothing. -/
def Dev.raiseDev (s : Dev) (bit code : Nat) : Dev :=
  if s.rb 0xA008 bit then s else ((s.setFlag 0xA008 bit).reportFault code).setCause causeFault

/-- HOOP_HOLD_EXPIRED (R334): the HOOP_HOLD-th press of a unit that is still cut off raises the isolation fault, once per cut. -/
def Dev.holdExpired (s : Dev) : Bool :=
  s.fabricOn && s.cutOff && s.rb 0x7000 6 && !s.hoop.isoRaised && decide (s.rf 0x7014 15 0 ≤ s.hoop.holdCnt)

/-- HOOP_HOLD_EXPIRED (R334). -/
def execHoopHoldExpired (s : State) : Host.Outcome State Fault Refusal :=
  onDev (fun s =>
    if s.holdExpired then ((s.modHoop (fun h => { h with isoRaised := true })).hoopFlag 7).raiseDev 0 0x10 else s) s

/-- FLT_DEV_CLEAR (R433): HOOP_ISO clears only while the unit is not cut off. -/
def Dev.fltDevClear (s : Dev) (bits : BitVec 2) : Dev :=
  let s := if bits.toNat.testBit 0 && !(s.fabricOn && s.cutOff) then s.clearFltDev 1 else s
  if bits.toNat.testBit 1 then s.clearFltDev 2 else s

/-! ### Images -/

/-- Bytes `i` to `i + n - 1` of a slot (R438). -/
def Dev.slotBytes (s : Dev) (k i n : Nat) : List Byte := (upTo n).map (fun j => BitVec.ofNat 8 (s.flashByte k (i + j)))

/-- The size of a slot: 2 MiB for the Steward's, 128 KiB for the Rind's (R438). -/
def slotSize (k : Nat) : Nat := if k < 2 then 2097152 else 131072

/-- Whether the header fields an image must carry as given are so (R439, Table FLT-2). -/
def Dev.headerGood (s : Dev) (k : Nat) : Bool :=
  s.flashLe k 0 4 = 0x4D49445A && s.flashByte k 4 = 1 && s.flashByte k 5 = k / 2 && s.flashLe k 6 2 = 0 && s.flashByte k 11 = 0 &&
    s.flashLe k 56 8 = 0

/-- Whether LENGTH fits the slot (R438, R439). -/
def Dev.lengthGood (s : Dev) (k : Nat) : Bool :=
  let n := s.flashLe k 20 4
  decide (128 ≤ n) && decide (n ≤ slotSize k) && n % 16 = 0

/-- Whether BODY_HASH matches the body (R439). -/
def Dev.hashGood (s : Dev) (k : Nat) : Bool :=
  sha256 (s.slotBytes k 128 (s.flashLe k 20 4 - 128)) = s.slotBytes k 24 32

/-- Whether the signature verifies under Urlyn's key (R439). -/
def Dev.signGood (s : Dev) (k : Nat) : Bool := ecdsaVerify Config.vendorKey (s.slotBytes k 0 64) (s.slotBytes k 64 64)

/-- Whether the silicon range holds ID_REV, 0x21 (R439, Table FLT-3). -/
def Dev.siliconGood (s : Dev) (k : Nat) : Bool := decide (s.flashByte k 12 ≤ 0x21) && decide (0x21 ≤ s.flashByte k 13)

/-- The first failed item of a slot's check, as FLT_VER_STATE.REASON codes it; 0 when it passes (R439, Table FLT-4). -/
def Dev.imgReason (s : Dev) (k : Nat) : Nat :=
  if (s.slotOf k).st = 0 then 6
  else if !s.headerGood k then 1
  else if !s.lengthGood k then 2
  else if !s.hashGood k then 3
  else if !s.signGood k then 4
  else if !s.siliconGood k then 5
  else 0

/-- A slot's STATE: EMPTY 0, VALID 1, BAD 2, PENDING 3, WRITING 4 (R439). -/
def Dev.setSlotSt (s : Dev) (k st : Nat) : Dev := s.setSlot k { s.slotOf k with st := st }

/-- FLT_VER_STATE.STATE judged (R441), and VERSION_STATE sent after a boot and on a change. -/
def Dev.judgeVersion (s : Dev) (boot : Bool) : Dev :=
  let s := if s.br.on && !s.flt.refuse then
      s.modFlt (fun f => { f with mismatch := s.flashByte s.flt.running 10 ≠ s.br.mbx.toNat })
    else s
  let st := if s.flt.refuse then 3 else if s.flt.mismatch then 1 else if s.flt.fellBack then 2 else 0
  let was := s.flt.verState
  let s := s.modFlt (fun f => { f with verState := st })
  if boot || st ≠ was then s.eventOk 0x0D02 st else s

/-- The boot ROM's choice among the active slot and the other one, or REFUSE (R440, steps 2 to 4). -/
def Dev.bootActive (s : Dev) : Dev :=
  let a := s.flt.active
  let ra := s.imgReason a
  let note (s : Dev) : Dev := if s.flt.reason = 0 then s.modFlt (fun f => { f with reason := ra }) else s
  if ra = 0 then s.modFlt (fun f => { f with running := a, fellBack := false, refuse := false, trial := false })
  else if s.imgReason (1 - a) = 0 then
    (note s).modFlt (fun f => { f with running := 1 - a, fellBack := true, refuse := false, trial := false })
  else (note s).modFlt (fun f => { f with refuse := true, fellBack := false, trial := false })

/-- The cold boot of the Steward (R440): a PENDING slot is tried first. -/
def Dev.boot (s : Dev) : Dev :=
  let s := s.modFlt (fun f => { f with reason := 0, reverted := false, mismatch := false })
  match [0, 1].find? (fun k => (s.slotOf k).st = 3) with
  | some p =>
    let r := s.imgReason p
    if r = 0 then
      s.modFlt (fun f => { f with running := p, trial := true, trialAt := s.clk.now, refuse := false, fellBack := false })
    else ((s.setSlotSt p 2).modFlt (fun f => { f with reverted := true, reason := r })).bootActive
  | none => s.bootActive

/-- The time from `haltAt` to now does not count towards the trial (R437, R444). -/
def Dev.trialResumes (s : Dev) : Dev :=
  s.modFlt (fun f => { f with trialAt := if f.trial then f.trialAt + (s.clk.now - f.haltAt) else f.trialAt })

/-- FLT_DBG.EN as every reset leaves it (R436). -/
def Dev.debugOff (s : Dev) : Dev := s.resetRegs (fun off => off ≠ 0xA0C0)

/-- STEWARD_BOOT_DONE (R85 to R86, R440, R441): with valid retention the Steward resumes, else it boots; then the target mode is
entered. `intact` says that the retention SRAM was found intact. -/
def execStewardBootDone (intact : Bool) (s : State) : Host.Outcome State Fault Refusal :=
  onDev (fun s =>
    if s.pwr.wake = .steward then
      let resume := s.pwr.retained && intact
      let s := if resume then s.restoreOzh.trialResumes else s.boot
      let s := s.modPwr (fun p => { p with retValid := resume, retained := resume })
      s.enterTarget.judgeVersion (!resume)
    else s) s

/-! ### The watchdog and the trial -/

/-- Whether the Steward runs (R80, R434). -/
def Dev.stewardRuns (s : Dev) : Bool := s.enginesOn && !s.flt.refuse && !s.flt.dbgHalt

/-- A watchdog expiry in a trial ends it: the slot is BAD and the previous active slot boots (R444). -/
def Dev.trialFail (s : Dev) : Dev :=
  let s := (s.setSlotSt s.flt.running 2).modFlt (fun f => { f with reverted := true, trial := false })
  let s := s.bootActive.judgeVersion true
  if s.flt.refuse then s.setCause causeRefuse else s

/-- WATCHDOG_EXPIRY (R94, R434, R444). -/
def execWatchdogExpiry (s : State) : Host.Outcome State Fault Refusal :=
  onDev (fun s =>
    if s.stewardRuns then
      let now := s.clk.now
      let repeated := match s.flt.wdogAt with
        | [_, t] => decide (now ≤ t + 1966080000)
        | _ => false
      let s := s.modFlt (fun f => { f with wdogCnt := satInc f.wdogCnt, wdogAt := (now :: f.wdogAt).take 2 })
      let s := (s.debugOff.setFlag 0x82C 3).eventOk 0x0206 0
      let s := if s.flt.trial then s.trialFail else s
      if repeated then s.raiseDev 1 0x11 else s
    else s) s

/-- Whether a trial has run its 2 s (R444). -/
def Dev.trialDue (s : Dev) : Bool := s.stewardRuns && s.flt.trial && decide (s.flt.trialAt + 393216000 ≤ s.clk.now)

/-- TRIAL_PASS (R444): the slot is VALID and ACTIVE names it. -/
def execTrialPass (s : State) : Host.Outcome State Fault Refusal :=
  onDev (fun s =>
    if s.trialDue then
      let k := s.flt.running
      ((s.setSlotSt k 1).modFlt (fun f => { f with active := k, trial := false })).judgeVersion true
    else s) s

/-! ### The debug halt -/

/-- DEBUG_HALT (R256, R277, R436, R437): only while FLT_DBG.EN is 1. -/
def execDebugHalt (s : State) : Host.Outcome State Fault Refusal :=
  onDev (fun s =>
    if s.coreOn && s.rb 0xA0C0 0 && !s.flt.dbgHalt then
      let s := s.modFlt (fun f => { f with dbgHalt := true, haltAt := s.clk.now })
      let s := forEach (upTo 12) (fun s n => if s.rb 0x4000 n then s.modRip n (fun r => { r with dbgPause := true }) else s) s
      forEach (upTo 8) (fun s n => s.harpHalt n) s
    else s) s

/-- What resumes at the end of a debug halt, but for the descriptors that wait (R256, R277, R437). -/
def Dev.haltEnds (s : Dev) : Dev :=
  let s := s.trialResumes.modFlt (fun f => { f with dbgHalt := false })
  let s := forEach (upTo 12) (fun s n => s.modRip n (fun r => { r with dbgPause := false })) s
  (forEach (upTo 8) (fun s n => s.harpResume n) s).enumRelease

/-! ### The image update sequence -/

/-- PROGRESS and the slot as an IMAGE_UPDATE completion gives them (Table DSC-6). -/
def Dev.imgDetail (s : Dev) (k : Nat) : Nat := 16 * (s.updOf k).count + 2 ^ 32 * s.updSlot k

/-- BEGIN: refused, or the slot is erased and marked WRITING; the completion follows the erase (R443). -/
def Dev.imgBegin (s : Dev) (k len : Nat) : Option Status × Dev :=
  if (s.updOf k).open_ then (some .state, s)
  else if len % 16 ≠ 0 || len < 128 || slotSize (2 * k) < len then (some .param, s)
  else
    let s := s.setSlot (s.updSlot k) { st := 4, len := len }
    (none, s.setUpd k { open_ := true, erasing := true, length := len })

/-- Sixteen bytes placed in a slot. -/
def Slot.place (x : Slot) (off : Nat) (bs : List Byte) : Slot :=
  { x with bytes := (bs.take 16).zipIdx.foldl (fun m e => tabSet 0xFF m (off + e.2) e.1) x.bytes }

/-- Whether the unit just written completes its 4 KiB page, or the image (R443). -/
def Upd.pageFull (u : Upd) (unit : Nat) : Bool :=
  u.count * 16 = u.length || (upTo 256).all (fun i => tabGet false u.got (unit / 256 * 256 + i))

/-- DATA: one unit of 16 bytes; a full page, or the last unit, is programmed (R443). -/
def Dev.imgData (s : Dev) (k unit : Nat) (bs : List Byte) : Status × Dev :=
  let u := s.updOf k
  if u.bad then (.faulted, s)
  else if !u.open_ || u.erasing || u.valid || u.length ≤ 16 * unit || tabGet false u.got unit then (.state, s)
  else
    let s := s.setSlot (s.updSlot k) ((s.slotOf (s.updSlot k)).place (16 * unit) bs)
    let u := { u with got := tabSet false u.got unit true, count := u.count + 1 }
    (.ok, s.setUpd k { u with programming := u.pageFull unit })

/-- The status of VERIFY's image check: KIND, MAGIC or silicon range, and the header's other fixed fields, give VERSION; hash or
signature give SECURITY (R443). -/
def verifyStatus (reason : Nat) : Status := if reason = 0 then .ok else if reason = 3 || reason = 4 then .security else .version

/-- VERIFY (R439, R443). `extra` is the Rind's own check (R419). -/
def Dev.imgVerify (s : Dev) (k : Nat) (extra : Status) : Status × Dev :=
  let u := s.updOf k
  if u.bad then (.faulted, s)
  else if !u.open_ || u.erasing || u.count * 16 ≠ u.length then (.state, s)
  else
    let st := verifyStatus (s.imgReason (s.updSlot k))
    let st := if st = .ok then extra else st
    let s := s.setSlotSt (s.updSlot k) (if st = .ok then 1 else 2)
    (st, s.setUpd k { u with valid := st = .ok })

/-- ACTIVATE for the Steward: the slot is PENDING and the sequence closed (R443). -/
def Dev.imgActivate (s : Dev) (k : Nat) : Status × Dev :=
  if !(s.updOf k).open_ || !(s.updOf k).valid then (.state, s)
  else
    let slot := s.updSlot k
    (.ok, (if k = 0 then s.setSlotSt slot 3 else s).setUpd k {})

/-- ABORT: the sequence closes and the slot is EMPTY; during the erase it comes out of order (R443). -/
def Dev.imgAbort (s : Dev) (k : Nat) : Status × Dev :=
  let u := s.updOf k
  if !u.open_ || u.erasing then (.state, s) else (.ok, (s.setSlot (s.updSlot k) {}).setUpd k {})

/-- IMAGE_ERASE_DONE (R443): BEGIN completes. -/
def execImageEraseDone (rind : Bool) (s : State) : Host.Outcome State Fault Refusal :=
  onDev (fun s =>
    let k := b2n rind
    if (s.updOf k).erasing then
      let s := s.setUpd k { s.updOf k with erasing := false }
      s.landFlights (fun f => f.await = .erase rind) .ok (s.imgDetail k)
    else s) s

end Sys2Proof.Machine
end

