-- ==== Sys2Proof/Machine/Ozhild.lean ====
section
/-! DEFINITION. Chapter 14: the Ozhild radio. Air frames and their security (R362 to R368, R391 to R395), slots and cells (R369 to R373),
acknowledgement and back-off (R374 to R376), fast cells (R377 to R379), time (R381 to R384), joining (R385), sleepy nodes (R386), routing
and relaying (R387 to R390), key indexes (R396, R397) and the OZH_ strobes (R400, R401). -/

namespace Sys2Proof.Machine

/-! ### Time, slots and channels -/

/-- The ASN at a Wheel value (R369). -/
def Dev.asnAt (s : Dev) (w : Nat) : Nat := (Int.emod (((w / 98304 : Nat) : Int) + s.ozh.asnOfs) (2 ^ 40)).toNat

/-- The present ASN. -/
def Dev.asn (s : Dev) : Nat := s.asnAt s.wheelN

/-- MESH_ID (Table OZH-9). -/
def Dev.meshId (s : Dev) : Nat := s.rf 0x8010 15 0

/-- The slotframe's length: SF_LEN on the coordinator, else what the parent's beacons say (R370, Table OZH-9). -/
def Dev.sfLen (s : Dev) : Nat := max 1 (if s.isCoord then s.rf 0x8010 26 16 else s.ozh.sfLen)

/-- The channels that a block mask leaves (R373). -/
def openChans (block : BitVec 40) : List Nat := (upTo 40).filter (fun c => !block.toNat.testBit c)

/-- The hop table (R373). -/
def hopTable (mesh : Nat) (block : BitVec 40) (j : Nat) : Nat :=
  let u := openChans block
  u.getD ((17 * j + mesh) % 40 % max u.length 1) 0

/-- The channel of a slot (R373). -/
def Dev.hopChan (s : Dev) (asn chofs : Nat) : Nat := hopTable s.meshId s.ozh.block ((asn + chofs) % 40)

/-- Ticks that a PSDU of n bytes takes on air, rounded up (R362). -/
def airTicks (n : Nat) : Nat := ceilDiv (786432 * (n + 9)) 1000

/-- Whether the Wheel, counting forward, arrives at or passes a value on this tick (R27). -/
def Dev.wheelHits (s : Dev) (w : Nat) : Bool := decide (s.clk.prev.toNat < w) && decide (w ≤ s.wheelN)

/-- The network access word (R362). -/
def Dev.accessWord (s : Dev) : Word := BitVec.ofNat 32 (0x4D2B0000 + s.meshId)

/-- The predicted error of a node that is not SYNCED, in ticks (R383). -/
def Dev.predErr (s : Dev) : Nat :=
  if s.clk.fstate = .synced then 0
  else 16 + s.rf 0x8020 17 0 * (s.clk.now - s.ozh.lastEx.getD s.clk.now) / 1000000000

/-! ### Keys, nonces and counters -/

/-- The key derivation of R391. -/
def kdf (k : BitVec 128) (label context : List Byte) : BitVec 128 :=
  aesCmac k ([1] ++ label ++ [0] ++ context ++ [0x00, 0x80])

/-- The join key of a node and the link key of a sender (R391). -/
def joinKey (nk : BitVec 128) (eui : BitVec 64) : BitVec 128 := kdf nk [0x4F, 0x5A, 0x4A] (beBytes eui.toNat 8)
def linkKey (nk : BitVec 128) (eui : BitVec 64) (session : Word) (i : Nat) : BitVec 128 :=
  kdf nk [0x4F, 0x5A, 0x4C] (beBytes eui.toNat 8 ++ beBytes session.toNat 4 ++ beBytes i 4)

/-- The nonce (R392). -/
def ozNonce (eui : BitVec 64) (fc level : Nat) : List Byte := beBytes eui.toNat 8 ++ beBytes fc 4 ++ [BitVec.ofNat 8 level]

/-- A payload secured at a level: level 1 authenticates it, 5 and 6 also encrypt it (R365, R392). -/
def ozSeal (key : BitVec 128) (nonce : List Byte) (level : Nat) (hdr clear : List Byte) : List Byte :=
  if level = 1 then clear ++ ccmSeal key nonce (hdr ++ clear) [] 4
  else ccmSeal key nonce hdr clear (if level = 6 then 8 else 4)

/-- A secured payload opened; none where its MIC fails (R392). -/
def ozOpen (key : BitVec 128) (nonce : List Byte) (level : Nat) (hdr body : List Byte) : Option (List Byte) :=
  if level = 1 then
    let clear := body.take (body.length - 4)
    (ccmOpen key nonce (hdr ++ clear) (body.drop (body.length - 4)) 4).map (fun _ => clear)
  else ccmOpen key nonce hdr body (if level = 6 then 8 else 4)

/-- OZH_EUI (Table OZH-9). -/
def Dev.ozhEui (s : Dev) : BitVec 64 := s.force 0x802C ++ s.force 0x8028

/-- The level of a type (Table OZH-2). -/
def ozLevel (type : Nat) (mic8 : Bool) : Nat :=
  match type with
  | 0 => 1
  | 2 => 1
  | 6 => 1
  | 1 => if mic8 then 6 else 5
  | 3 => if mic8 then 6 else 5
  | _ => 5

/-- A routing entry as its twelve bytes (R387). -/
def routeBytes (e : OzRoute) : List Byte :=
  leBytes e.lo.toNat 2 ++ leBytes e.hi.toNat 2 ++ leBytes e.next.toNat 2 ++ leBytes e.owner.toNat 2 ++
    [BitVec.ofNat 8 (b2n e.valid + 2 * b2n e.drop + 4 * b2n e.auto), 0, 0, 0]

/-- A routing entry from its twelve bytes. -/
def routeOfBytes (bs : List Byte) : OzRoute :=
  ⟨BitVec.ofNat 16 (leAt bs 0 2), BitVec.ofNat 16 (leAt bs 2 2), BitVec.ofNat 16 (leAt bs 4 2), BitVec.ofNat 16 (leAt bs 6 2),
    bitOf (byteAt bs 8) 0, bitOf (byteAt bs 8) 1, bitOf (byteAt bs 8) 2⟩

/-- A neighbour's entry. -/
def Dev.nbrOf (s : Dev) (a : BitVec 16) : Nbr := tabGet {} s.ozh.nbrs a.toNat
def Dev.setNbr (s : Dev) (a : BitVec 16) (x : Nbr) : Dev := s.modOzh (fun z => { z with nbrs := tabSet {} z.nbrs a.toNat x })

/-- The counters accepted move with a change of key index (R395). -/
def nbrsMoved (m : Tab Nbr) : Tab Nbr :=
  m.foldl (fun t e => tabSet {} t e.1 { e.2 with fcOld := e.2.fcNow, fcNow := none }) []

/-- The next key index is in force, with the outgoing counter at 0 (R393, R394, R396). -/
def Dev.nextIndex (s : Dev) : Dev :=
  let asn := s.asn
  s.modOzh (fun z => { z with
    keyIdx := z.keyIdx + 1, prevUntil := some (asn + 65536), fc := 0, warnTold := false, exhTold := false, nbrs := nbrsMoved z.nbrs })

/-- The coordinator announces a switch 32,768 slots ahead (R396); during a debug halt (R399), or while a switch of the block mask is pending, it waits. -/
def Dev.rekey (s : Dev) : Dev :=
  if s.flt.dbgHalt then s.modOzh (fun z => { z with rekeyLater := true })
  else match s.ozh.switch with
  | some w => if w.block.isSome then s.modOzh (fun z => { z with rekeyLater := true }) else s
  | none => s.modOzh (fun z => { z with switch := some ⟨s.asn + 32768, none⟩ })

/-- The detail of a RADIO_SEND completion: attempts, channel and ASN of the final attempt (Table DSC-6). -/
def Dev.sendDetail (s : Dev) (f : TxFrame) : Nat :=
  let (_, asn, chan) := f.last.getD (0, s.ozh.slotAsn, s.ozh.chan)
  f.tries % 256 + 256 * chan + 65536 * (asn % 2 ^ 32)

/-- The RADIO_SEND that a frame belongs to completes; its AT_EXEC is the start of the slot of the final attempt, of the present slot where
there was none (R161). -/
def Dev.endSend (s : Dev) (f : TxFrame) (st : Status) : Dev :=
  match f.ref with
  | some r =>
    let mine (g : Flight) : Bool := g.await = .radio r
    let at_ := BitVec.ofNat 48 ((f.last.map (·.1)).getD s.ozh.slotAt)
    (s.ring.flights.filter mine).foldl (fun s g => s.complete g.job st at_ (s.sendDetail f)) (s.dropFlights mine)
  | none => s

/-- Frames of the queues given up: RADIO_SEND and own DESC flights complete with a status (R397). -/
def Dev.dropQueues (s : Dev) (st : Status) : Dev :=
  let fs := s.ozh.queue ++ s.ozh.held
  let s := s.modOzh (fun z => { z with queue := [], held := [], await := none })
  fs.foldl (fun s f =>
    let s := s.endSend f st
    match f.orig with
    | some (o, q) =>
      if o = s.ozhAddr then
        s.landFlightsNow (fun g => match g.await with
          | .remote _ _ => g.job.d.target.toNat / 4096 = 2 && g.job.d.seq = q
          | _ => false) st 0
      else s
    | none => s) s

/-- The outgoing counter judged: FC_WARN with REKEY_REQ, and FC_EXH (R397). -/
def Dev.judgeFc (s : Dev) : Dev :=
  let s :=
    if decide (2 ^ 32 - 2 ^ 16 ≤ s.ozh.fc) && !s.ozh.warnTold then
      let s := ((s.modOzh (fun z => { z with warnTold := true })).ozhFlag 1).eventOk 0x0B03 s.ozhAddr.toNat
      if s.isCoord then (if s.rb 0x8000 4 then s.rekey else s) else s.sendCmd 0 ([0x07] ++ leBytes s.ozh.fc 4)
    else s
  if s.fcExhausted && !s.ozh.exhTold then
    (((s.modOzh (fun z => { z with exhTold := true })).ozhFlag 2).eventOk 0x0B04 s.ozhAddr.toNat).dropQueues .security
  else s

/-- A counter for a new frame (R393). -/
def Dev.takeFc (s : Dev) : Nat × Dev := (s.ozh.fc, (s.modOzh (fun z => { z with fc := z.fc + 1 })).judgeFc)

/-! ### Frames out -/

/-- The frame control byte (Table OZH-1). -/
def fcf (type : Nat) (ack pend mic8 : Bool) (keysel : Nat) : Byte :=
  BitVec.ofNat 8 (type + 8 * b2n ack + 16 * b2n pend + 32 * b2n mic8 + 64 * (keysel % 2))

/-- A PSDU of this unit with the full header, under its own link key (R364, R365, R391). -/
def Dev.ownPsdu (s : Dev) (type : Nat) (dst : BitVec 16) (ack pend : Bool) (clear : List Byte) (fc idx level : Nat) : List Byte :=
  let hdr := [fcf type ack pend (level = 6) idx] ++ leBytes dst.toNat 2 ++ leBytes s.ozhAddr.toNat 2 ++ leBytes fc 3
  hdr ++ ozSeal (linkKey (s.ozh.nk.getD 0) s.ozhEui s.ozh.session idx) (ozNonce s.ozhEui fc level) level hdr clear

/-- A PSDU put on air at an offset from the slot's start, on the slot's channel at the power of TXPWR, behind the network access word and with
its CRC-24 (R362, R363, R373). -/
def Dev.onAir (s : Dev) (offset : Nat) (psdu : List Byte) : Dev :=
  (s.emit (.radio s.ozh.chan offset (signed (s.rf 0x8000 15 8) 8) s.accessWord psdu (crc24 psdu))).modOzh (fun z => { z with
    chAtt := tabSet 0 z.chAtt z.chan (satInc (tabGet 0 z.chAtt z.chan)) })

/-- Whether this unit may send under its key: a key, and a counter that is not used up (R391, R397). -/
def Dev.maySend (s : Dev) : Bool := s.haveKey && !s.fcExhausted

/-- An ACK for a received frame, 8,192 ticks after its last bit (R374). -/
def Dev.sendAck (s : Dev) (dst : BitVec 16) (start n : Nat) (pend busy : Bool) : Dev :=
  if !s.maySend then s
  else
    let idx := s.ozh.keyIdx.toNat
    let (fc, s) := s.takeFc
    let corr := unsignedBits ((start : Int) - (s.ozh.slotAt + 4096 : Nat)) 16
    let off := (((start : Int) - s.ozh.slotAt).toNat + airTicks n + 8192)
    s.onAir off (s.ownPsdu 2 dst false pend (leBytes corr 2 ++ [BitVec.ofNat 8 (b2n busy)]) fc idx 1)

/-! ### The end of an attempt -/

/-- Which back-off queue a frame belongs to. -/
def Dev.beOf (s : Dev) (a : BitVec 16) : Nat := tabGet (s.rf 0x801C 6 4) s.ozh.be a.toNat

/-- A failure in a shared cell: a count of cells to skip, drawn from 0 to 2^BE − 1, and a larger BE (R376). -/
def Dev.backOff (s : Dev) (a : BitVec 16) : Dev :=
  let b := s.beOf a
  let (v, s) := s.draw
  s.modOzh (fun z => { z with
    skip := tabSet 0 z.skip a.toNat (v.toNat % 2 ^ b), be := tabSet (s.rf 0x801C 6 4) z.be a.toNat (min (b + 1) (s.rf 0x801C 10 8)) })

/-- A success: BE back at BE_MIN (R376). -/
def Dev.backIn (s : Dev) (a : BitVec 16) : Dev :=
  s.modOzh (fun z => { z with be := tabSet (s.rf 0x801C 6 4) z.be a.toNat (s.rf 0x801C 6 4), skip := tabSet 0 z.skip a.toNat 0 })

/-- The parent is lost: flag, event with its address, and its timing no longer followed (R34, R384). -/
def Dev.parentLost (s : Dev) : Dev :=
  if s.ozh.st = 3 && !s.isCoord then
    let p := s.ozh.parent
    (((s.modOzh (fun z => { z with st := 4, joinParent := none, joinBeacons := 0, joinFc := none, joinWait := none, rescanAt := none })).ozhFlag
      0).eventOk 0x0B02 p.toNat).refLost .radio
  else s

/-- A frame leaves the queues for good: what waits for it completes, and an undelivered DESC is answered to ORIG (R161, R375, R384, R388). -/
def Dev.frameDone (s : Dev) (f : TxFrame) (ok : Bool) : Dev :=
  let s := s.modOzh (fun z => { z with queue := z.queue.erase f, held := z.held.erase f })
  let s := s.endSend f (if ok then .ok else .timeout)
  let s :=
    if ok then s
    else match f.orig with
      | some (o, q) =>
        if o = s.ozhAddr then
          s.landFlightsNow (fun g => match g.await with
            | .remote _ _ => g.job.d.target.toNat / 4096 = 2 && g.job.d.seq = q
            | _ => false) .timeout 0
        else s.radioCpl o ⟨0, BitVec.ofNat 8 Status.timeout.code, q, s.short, 0⟩
      | none => s
  if f.nbr = s.ozh.parent && f.ackReq then
    let n : Nat := if ok then 0 else s.ozh.fails + 1
    let s := s.modOzh (fun z => { z with fails := n })
    if 8 ≤ n then s.parentLost else s
  else s

/-- The frame whose ACK is awaited: the first for its neighbour, held ones in a follow-on slot (R375, R386). -/
def Dev.awaited (s : Dev) : Option TxFrame :=
  match s.ozh.await with
  | some (a, _, _) => (s.ozh.queue.find? (fun f => f.nbr = a && f.fc.isSome)).or (s.ozh.held.find? (fun f => f.nbr = a && f.fc.isSome))
  | none => none

/-- An attempt counted on its frame. -/
def Dev.putFrame (s : Dev) (old new : TxFrame) : Dev :=
  let swap (l : List TxFrame) : List TxFrame := l.map (fun f => if f = old then new else f)
  s.modOzh (fun z => { z with queue := swap z.queue, held := swap z.held })

/-- The attempt in progress fails (R375, R376). -/
def Dev.attemptFails (s : Dev) : Dev :=
  match s.ozh.await, s.awaited with
  | some (a, _, shared), some f =>
    let s := s.modOzh (fun z => { z with
      await := none, follow := none, chFail := tabSet 0 z.chFail z.chan (satInc (tabGet 0 z.chFail z.chan)) })
    let s := if shared then s.backOff a else s
    if f.limit ≤ f.tries && f.heldAt.isNone then s.frameDone f false else s
  | _, _ => s.modOzh (fun z => { z with await := none })

/-! ### Sending in a cell -/

/-- The clear body of a frame, and whether it can go at all (R383, R397). -/
def Dev.mayTransmit (s : Dev) (guard : Nat) : Bool := s.maySend && decide (s.predErr ≤ guard)

/-- Whether listening before talk finds the channel busy: the measured energy is a free value (R398). -/
def Dev.ccaBusy (s : Dev) : Bool × Dev :=
  if s.rb 0x8000 5 then
    let (v, s) := s.draw
    (decide (signed (s.rf 0x8000 23 16) 8 < signed v.toNat 8), s)
  else (false, s)

/-- A frame sent at the TX offset of the present slot (R372, R375). `pend` says that more is held. -/
def Dev.txFrame (s : Dev) (f : TxFrame) (shared pend : Bool) : Dev :=
  if !s.mayTransmit 2048 then s
  else
    let (busy, s) := s.ccaBusy
    if busy then
      let s := (s.modOzh (fun z => { z with ccaBusy := satInc z.ccaBusy, chFail := tabSet 0 z.chFail z.chan (satInc (tabGet 0 z.chFail z.chan)) }))
      let s := if shared then s.backOff f.nbr else s
      let g := { f with busy := f.busy + 1 }
      let s := s.putFrame f g
      if 16 ≤ g.busy then (s.ozhFlag 6).frameDone g false else s
    else
      let idx := match f.fc with
        | some (_, i) => i
        | none => s.ozh.keyIdx.toNat
      let (fc, s) := match f.fc with
        | some (c, _) => (c, s)
        | none => s.takeFc
      let g := { f with fc := some (fc, idx), tries := f.tries + 1, busy := 0, last := some (s.ozh.slotAt, s.ozh.slotAsn, s.ozh.chan) }
      let s := s.putFrame f g
      let psdu := s.ownPsdu f.type f.nbr f.ackReq pend f.body fc idx (ozLevel f.type (s.rb 0x8000 6))
      let s := (s.onAir 4096 psdu).modOzh (fun z => { z with slotKind := 1 })
      if f.ackReq then
        s.modOzh (fun z => { z with await := some (f.nbr, z.slotAt + 4096 + airTicks psdu.length + 8192, shared) })
      else s.frameDone g true

/-- The payload of an own beacon (Table OZH-3). -/
def Dev.beaconBody (s : Dev) : List Byte :=
  let z := s.ozh
  let t := s.tempo
  let key := match z.switch with
    | some w => w.block.isNone
    | none => false
  let blk := match z.switch with
    | some w => w.block
    | none => none
  let sw := match z.switch with
    | some w => w.asn
    | none => 0
  let tempo := t.anchored && s.tempoGiven
  leBytes s.asn 5 ++ leBytes s.meshId 2 ++ leBytes s.sfLen 2 ++
    [BitVec.ofNat 8 (b2n (s.rb 0x8000 3) + 2 * b2n tempo + 4 * b2n key + 8 * b2n blk.isSome), z.depth] ++ leBytes z.keyIdx.toNat 1 ++
    leBytes sw 2 ++ leBytes (blk.getD z.block).toNat 5 ++ leBytes (unsignedBits t.a 48) 6 ++ leBytes t.pq 6 ++ leBytes t.k0 4 ++ leBytes s.tempoL 1

/-- BEACON_TX (R367, R371). An exhausted coordinator moves to the next key index here (R397). -/
def Dev.sendBeacon (s : Dev) (chofs : Nat) : Dev :=
  let s := if s.isCoord && s.fcExhausted then s.nextIndex else s
  if !s.mayTransmit 2048 then s
  else
    let (busy, s) := s.ccaBusy
    if busy then s.modOzh (fun z => { z with ccaBusy := satInc z.ccaBusy })
    else
      let idx := s.ozh.keyIdx.toNat
      let (fc, s) := s.takeFc
      let asn := s.asn
      (s.onAir 4096 (s.ownPsdu 0 0xFFFF false false s.beaconBody fc idx 1)).modOzh (fun z => { z with
        slotKind := 4, joinCell := some (asn + 1, chofs) })

/-- A JOIN_RSP to a joiner: under its join key, its EUI-64 and the counter of its request (R385, R392). A busy channel leaves it for the next
answer slot (R398). -/
def Dev.sendJoinRsp (s : Dev) : Dev :=
  match s.ozh.joinRsps with
  | (q, body) :: rest =>
    let (busy, s) := s.ccaBusy
    if busy then s.modOzh (fun z => { z with ccaBusy := satInc z.ccaBusy })
    else
    let s := s.modOzh (fun z => { z with joinRsps := rest, slotKind := 9 })
    let hdr := [fcf 3 false false false 0] ++ leBytes 0xFFFE 2 ++ leBytes s.ozhAddr.toNat 2 ++ leBytes q.fc 3
    s.onAir 4096 (hdr ++ ozSeal (joinKey (s.ozh.nk.getD 0) q.eui) (ozNonce q.eui q.fc 5) 5 hdr body)
  | [] => s

/-! ### The slot -/

/-- The two words of a cell. -/
def cellOff (i : Nat) : Nat := 0x8200 + 8 * i
def Dev.cellKind (s : Dev) (i : Nat) : Nat := s.rf (cellOff i) 18 16
def Dev.cellNbr (s : Dev) (i : Nat) : BitVec 16 := BitVec.ofNat 16 (s.rf (cellOff i + 4) 15 0)
def Dev.cellChofs (s : Dev) (i : Nat) : Nat := s.rf (cellOff i) 15 10

/-- The entries that cover a slot offset, lowest index first (R370). -/
def Dev.cellsAt (s : Dev) (off : Nat) : List Nat :=
  (upTo 128).filter (fun i => s.cellKind i ≠ 0 && decide (s.rf (cellOff i) 9 0 ≤ off) &&
    decide (off ≤ s.rf (cellOff i) 9 0 + s.rf (cellOff i + 4) 25 16))

/-- The first queued frame that a TX cell to a neighbour may carry: frames to one neighbour leave in order (R375). -/
def Dev.frameFor (s : Dev) (a : BitVec 16) : Option TxFrame := s.ozh.queue.find? (fun f => f.nbr = a)

/-- The frame that a shared cell may carry: the first of a queue whose back-off allows it (R376); with NBR 0xFFFF any neighbour's. -/
def Dev.sharedFrame (s : Dev) (a : BitVec 16) : Option TxFrame :=
  s.ozh.queue.find? (fun f => (a = 0xFFFF || f.nbr = a || f.nbr = 0xFFFF) && tabGet 0 s.ozh.skip f.nbr.toNat = 0)

/-- A shared cell toward a neighbour, or any, passes for the queues that back off (R376). -/
def Dev.countSkips (s : Dev) (a : BitVec 16) : Dev :=
  s.modOzh (fun z => { z with skip := z.skip.foldl (fun m e => tabSet 0 m e.1 (if a = 0xFFFF || e.1 = a.toNat then e.2 - 1 else e.2)) [] })

/-- Whether the table holds a TX or SHARED cell toward the parent (R371). -/
def Dev.hasParentCell (s : Dev) : Bool :=
  (upTo 128).any (fun i => (s.cellKind i = 1 || s.cellKind i = 3) && (s.cellNbr i = s.ozh.parent || (s.cellKind i = 3 && s.cellNbr i = 0xFFFF)))

/-- A POLL for the parent queued by a sleepy node in a DOZE event, where one of the slot's cells is a TX or SHARED cell to it (R386). -/
def Dev.queuePoll (s : Dev) (cells : List Nat) : Dev :=
  let p := s.ozh.parent
  if s.ozhRole = 2 && s.pwr.dozeEvent && s.ozh.st = 3 && s.ozh.queue.isEmpty &&
      (!s.hasParentCell || cells.any (fun i =>
        (s.cellKind i = 1 && s.cellNbr i = p) || (s.cellKind i = 3 && (s.cellNbr i = p || s.cellNbr i = 0xFFFF)))) then
    s.sendCmd p [0x03]
  else s

/-- A cell of a slot takes its action. -/
def Dev.tune (s : Dev) (kind : Nat) (nbr : BitVec 16) (asn chofs : Nat) : Dev :=
  let c := s.hopChan asn chofs
  s.modOzh (fun z => { z with slotKind := kind, slotNbr := nbr, chofs := chofs, chan := c })

/-- A shared cell: sends, or receives (R370, R376). -/
def Dev.sharedCell (s : Dev) (nbr : BitVec 16) (asn chofs : Nat) : Dev :=
  let s := s.tune 3 nbr asn chofs
  match s.sharedFrame nbr with
  | some f => (s.countSkips nbr).txFrame f (f.nbr ≠ 0xFFFF) false
  | none => s.countSkips nbr

/-- Whether an entry acts in its slot (R370, R386). -/
def Dev.cellActs (s : Dev) (i : Nat) : Bool :=
  match s.cellKind i with
  | 1 => (s.frameFor (s.cellNbr i)).isSome
  | 2 => s.ozhRole ≠ 2
  | 3 => true
  | 4 => s.ozhRole ≠ 2 && s.ozh.st = 3
  | 5 => true
  | _ => false

/-- The action of an entry (R370). -/
def Dev.cellAct (s : Dev) (i asn : Nat) : Dev :=
  let nbr := s.cellNbr i
  let ch := s.cellChofs i
  match s.cellKind i with
  | 1 =>
    let s := s.tune 0 nbr asn ch
    match s.frameFor nbr with
    | some f => s.txFrame f false false
    | none => s
  | 3 => s.sharedCell nbr asn ch
  | 4 => (s.tune 0 0xFFFF asn ch).sendBeacon ch
  | k => s.tune k nbr asn ch

/-- The follow-on slot of R386: the parent sends the next held frame, the node listens. -/
def Dev.followAct (s : Dev) (nbr : BitVec 16) (asn chofs : Nat) (send : Bool) : Dev :=
  let s := s.modOzh (fun z => { z with follow := none })
  if send then
    let s := s.tune 0 nbr asn chofs
    match s.ozh.held.filter (fun f => f.nbr = nbr) with
    | f :: more => s.txFrame f false (!more.isEmpty)
    | [] => s
  else s.tune 11 nbr asn chofs

/-- Whether this unit looks for a parent or waits for a JOIN_RSP (R385). -/
def Dev.seeking (s : Dev) : Bool := !s.isCoord && (s.ozh.st = 1 || s.ozh.st = 2 || s.ozh.st = 4)

/-- The JOIN_REQ sent in the parent's join cell, on the parent's timing: its preamble begins at Wheel value w (R371, R385). A busy channel
leaves it unsent, and so unanswered (R398). -/
def Dev.sendJoinReq (s : Dev) (parent : BitVec 16) (asn chofs w : Nat) : Dev :=
  match s.ozh.jk with
  | some jk =>
    if s.fcExhausted then s
    else
      let (v, s) := s.draw
      let s := (s.tune 0 parent asn chofs).modOzh (fun z => { z with
        st := 2, joinFc := some z.fc, joinChofs := chofs, joinWait := some (asn + (8 + v.toNat % 57) * s.sfLen) })
      let (busy, s) := s.ccaBusy
      if busy then s.modOzh (fun z => { z with ccaBusy := satInc z.ccaBusy })
      else
        let (fc, s) := s.takeFc
        let member : Byte := 3
        let body := [0x01] ++ leBytes s.ozhEui.toNat 8 ++ [member, BitVec.ofNat 8 s.ozhRole] ++ leBytes (s.rf 0x8030 15 0) 2
        let hdr := [fcf 3 false false false 0] ++ leBytes parent.toNat 2 ++ leBytes 0xFFFE 2 ++ leBytes fc 3
        s.onAir (w - s.ozh.slotAt) (hdr ++ ozSeal jk (ozNonce s.ozhEui fc 1) 1 hdr body)
  | none => s

/-- The action of the slot that begins (R370, R371, R377, R385, R386). -/
def Dev.slotAct (s : Dev) : Dev :=
  let asn := s.asn
  let cells := s.cellsAt (asn % s.sfLen)
  let fast := cells.filter (fun i => s.cellKind i = 6 || s.cellKind i = 7)
  let followNow := match s.ozh.follow with
    | some (a, n, c, t) => if a = asn then some (n, c, t) else none
    | none => none
  let mine (d : Nat) : Option Nat := match s.ozh.joinCell with
    | some (a, c) => if a + d = asn then some c else none
    | none => none
  let theirs : Option Nat := match s.ozh.parentJoin with
    | some (a, c) => if a = asn && s.ozh.st = 3 && !s.hasParentCell then some c else none
    | none => none
  let ask := match s.ozh.joinTx with
    | some (w, p, c) => if s.seeking && s.ozh.slotAt ≤ w && w < s.ozh.slotAt + 98304 && !s.flt.dbgHalt then some (w, p, c) else none
    | none => none
  let s := s.modOzh (fun z => { z with joinTx := none })
  match followNow with
  | some (n, c, t) => s.followAct n asn c t
  | none => match ask with
  | some (w, p, c) => s.sendJoinReq p asn c w
  | none =>
    if !fast.isEmpty then
      let tx := fast.filter (fun i => s.cellKind i = 6)
      let rx := fast.any (fun i => s.cellKind i = 7)
      (s.tune (if rx then 7 else 6) 0xFFFF asn (s.cellChofs (fast.headD 0))).modOzh (fun z => { z with
        txLanes := tx.foldl (fun m i => m ||| BitVec.ofNat 4 (2 ^ s.rf (cellOff i) 21 20)) 0 })
    else match (if s.rb 0x8000 3 then mine 0 else none), (if s.ozh.joinRsps.isEmpty then none else mine 1) with
      | some c, _ => s.tune 8 0xFFFF asn c
      | _, some c => (s.tune 9 0xFFFF asn c).sendJoinRsp
      | _, _ =>
        let s := s.queuePoll cells
        match cells.find? (fun i => s.cellActs i) with
        | some i => s.cellAct i asn
        | none => match theirs with
          | some c => s.sharedCell s.ozh.parent asn c
          | none =>
            if s.seeking then
              if s.ozh.joinFc.isSome then s.tune 10 0xFFFF asn s.ozh.joinChofs
              else
                let (v, s) := s.draw
                s.modOzh (fun z => { z with slotKind := 10, slotNbr := 0xFFFF, chofs := 0, chan := v.toNat % 40 })
            else s

/-- The unacknowledged fast frame of the last slot: sent again, or given up at the attempt limit (R378). -/
def Dev.fastMiss (s : Dev) : Dev :=
  if s.ozh.fastSent.isSome then
    s.modOzh (fun z => { z with
      fastSent := none,
      fastQ := match z.fastQ with
        | f :: fs => if s.macLimit ≤ f.tries then fs else f :: fs
        | [] => [] })
  else s

/-- Ozhild starts: the coordinator forms its mesh, a router or sleepy node with a join key seeks a parent (R369, R385, R400); a unit that has
taken over a network state goes on in it (R355). -/
def Dev.ozhBegin (s : Dev) : Dev :=
  let s := s.modOzh (fun z => { z with busy := true })
  if s.ozh.st = 3 then s
  else if s.isCoord then
    s.modOzh (fun z => { z with
      st := 3, depth := 0, asnOfs := -((s.wheelN / 98304 : Nat) : Int), block := BitVec.ofNat 40 (s.rf 0x8018 7 0 * 2 ^ 32 + s.rf 0x8014 31 0) })
  else if s.ozh.jk.isSome then s.modOzh (fun z => { z with st := 1, joinParent := none, joinBeacons := 0, joinFc := none, joinTx := none })
  else s

/-- Ozhild stops (R400). -/
def Dev.ozhEnd (s : Dev) : Dev :=
  ((s.dropQueues .state).modOzh (fun z => { z with
    busy := false, st := 0, slotKind := 0, await := none, follow := none, joinCell := none, parentJoin := none, joinRsps := [], joinPend := [],
    fastQ := [], fastSent := none, joinTx := none, txLanes := 0 })).refGone .radio

/-- Whether an Ozhild slot starts on this tick (R369). -/
def Dev.slotDue (s : Dev) : Bool := s.coreOn && s.clk.running && s.gridNow 98304 0 && !s.isServed .slot

/-- SLOT_START (R370, R400). -/
def Dev.slotStart (s : Dev) : Dev :=
  if !s.slotDue then s
  else
    let was := s.rb 0x8000 0
    let s := (s.serve .slot).applyLive (fun _ g => g = .slot)
    let en := s.rb 0x8000 0
    let allowed := s.pwr.mode ≠ .shadow && !(s.inHold && s.hasCause causeLimp)
    let s := if en && !s.ozh.busy && allowed then s.ozhBegin else if !en && s.ozh.busy && !was then s.ozhEnd else s
    let asn := s.asn
    let s := s.fastMiss.modOzh (fun z => { z with
      slotAt := s.wheelN - s.wheelN % 98304, slotAsn := asn, slotKind := 0, slotNbr := 0xFFFF, lanes := 0, txLanes := 0 })
    if s.ozhOn && en && allowed then s.slotAct else s

/-- SLOT_START (R370). -/
def execSlotStart (s : State) : Host.Outcome State Fault Refusal := onDev (fun s => s.slotStart) s

/-! ### What falls within a slot -/

/-- A fast frame without addresses: FCF and counter (Table OZH-2). -/
def Dev.fastPsdu (s : Dev) (type level : Nat) (clear : List Byte) (fc idx : Nat) : List Byte :=
  let hdr := [fcf type false false false idx] ++ leBytes fc 3
  hdr ++ ozSeal (linkKey (s.ozh.nk.getD 0) s.ozhEui s.ozh.session idx) (ozNonce s.ozhEui fc level) level hdr clear

/-- A fast lane of this unit reaches its TX tick (R377, R378). -/
def Dev.fastLane (s : Dev) (l : Nat) : Dev :=
  if s.ozh.txLanes.toNat.testBit l && s.wheelHits (s.ozh.slotAt + 18432 * l + 1024) && s.ozh.fastSent.isNone && s.mayTransmit 1024 then
    match s.ozh.fastQ with
    | f :: fs =>
      if f.at_ + 1024 ≤ s.clk.now then
        let idx := match f.fc with
          | some (_, i) => i
          | none => s.ozh.keyIdx.toNat
        let (fc, s) := match f.fc with
          | some (c, _) => (c, s)
          | none => s.takeFc
        (s.onAir (18432 * l + 1024) (s.fastPsdu 5 5 [f.code, f.value] fc idx)).modOzh (fun z => { z with
          fastSent := some l, fastQ := { f with fc := some (fc, idx), tries := f.tries + 1 } :: fs })
      else s
    | [] => s
  else s

/-- The FAST_ACK of a unit with a FAST_RX cell (R377). -/
def Dev.fastAckOut (s : Dev) : Dev :=
  if s.ozh.slotKind = 7 && s.wheelHits (s.ozh.slotAt + 81920) && s.mayTransmit 1024 then
    let idx := s.ozh.keyIdx.toNat
    let (fc, s) := s.takeFc
    s.onAir 81920 (s.fastPsdu 6 1 [s.ozh.lanes.setWidth 8] fc idx)
  else s

/-- Whether drift compensation runs: the parent is the Wheel's reference (R382). -/
def Dev.driftOn (s : Dev) : Bool := s.clk.role = .radio && s.clk.running

/-- Ozhild on a tick: fast lanes, the FAST_ACK, and the drift accumulator (R377, R382). -/
def Dev.ozhTick (s : Dev) : Dev :=
  let s := if s.ozhOn && (s.ozh.slotKind = 6 || s.ozh.slotKind = 7) then (forEach (upTo 4) (fun s l => s.fastLane l) s).fastAckOut else s
  if s.driftOn then s.modOzh (fun z => { z with driftAcc := z.driftAcc + (tabGet {} z.nbrs z.parent.toNat).delta.natAbs }) else s

/-- Whether the accumulator has passed 10^9 (R382). -/
def Dev.driftDue (s : Dev) : Bool := s.driftOn && decide (1000000000 < s.ozh.driftAcc)

/-- DRIFT_COMPENSATION (R382): the Wheel advances by 2 or holds for one tick. -/
def execDriftCompensation (s : State) : Host.Outcome State Fault Refusal :=
  onDev (fun s =>
    if s.driftDue then
      let d := (s.nbrOf s.ozh.parent).delta
      (s.modOzh (fun z => { z with driftAcc := z.driftAcc - 1000000000 })).modClk (fun c => { c with
        skip := if 0 < d then c.skip + 1 else c.skip - 1 })
    else s) s

/-! ### Frames in -/

/-- A received frame after every check: type, SRC, ACK_REQ, PEND, clear payload, whether it is a duplicate, and the counter that made it. -/
structure OzRx where
  type : Nat
  src : BitVec 16
  ackReq : Bool
  pend : Bool
  clear : List Byte
  dup : Bool
  fc : Nat
  idx : Nat
deriving DecidableEq, Repr

/-- Whether the receiver is open for a normal frame of its own network, by when its preamble begins (R362, R370, R372, R383). -/
def Dev.rxOpen (s : Dev) (rx : RadioRx) : Bool :=
  let k := s.ozh.slotKind
  rx.access = s.accessWord &&
  let start := rx.start
  let late := ((start : Int) - (s.ozh.slotAt + 4096 : Nat)).natAbs
  s.ozhOn && s.pwr.mode ≠ .shadow &&
    (k = 10 || ((k = 2 || k = 3 || k = 5 || k = 8 || k = 11) && decide (late ≤ 2048 + min s.predErr 49152)))

/-- Whether PSDU length and control bits fit a type (R365, Table OZH-2). -/
def psduFits (n type : Nat) (fcfB : Nat) : Bool :=
  let mic8 := bitOf fcfB 5
  !bitOf fcfB 7 && decide (1 ≤ n) && decide (n ≤ 48) && (!mic8 || type = 1 || type = 3) &&
    (match type with
      | 0 => n = 48
      | 1 => decide ((if mic8 then 22 else 18) ≤ n) && decide (n ≤ (if mic8 then 25 else 21))
      | 2 => n = 15
      | 3 => decide (13 ≤ n)
      | 4 => decide (22 ≤ n)
      | 5 => n = 10
      | 6 => n = 9
      | _ => false)

/-- The counter nearest above the highest accepted one whose low 24 bits match (R395). -/
def fcNear (last : Option Nat) (low : Nat) : Nat :=
  match last with
  | none => low
  | some l => l + (low + 2 ^ 24 - l % 2 ^ 24) % 2 ^ 24

/-- The key indexes tried for a frame (R394): the one in force or the one before by parity, and the next one on a node. -/
def Dev.tryIdx (s : Dev) (keysel : Nat) : List Nat :=
  let i := s.ozh.keyIdx.toNat
  if i % 2 = keysel then [i]
  else
    (match s.ozh.prevUntil with
      | some u => if s.asn < u && decide (0 < i) then [i - 1] else []
      | none => []) ++ (if s.isCoord then [] else [i + 1])

/-- The highest counter accepted from a neighbour under a key index. -/
def Dev.lastFc (s : Dev) (x : Nbr) (idx : Nat) : Option Nat :=
  let i := s.ozh.keyIdx.toNat
  if idx = i then x.fcNow else if idx < i then x.fcOld else none

/-- A frame opened under one of the key indexes: index, counter and clear payload. -/
def Dev.openWith (s : Dev) (x : Nbr) (hdr body : List Byte) (low level : Nat) : List Nat → Option (Nat × Nat × List Byte)
  | [] => none
  | i :: is =>
    let fc := fcNear (s.lastFc x i) low
    match ozOpen (linkKey (s.ozh.nk.getD 0) x.eui x.session i) (ozNonce x.eui fc level) level hdr body with
    | some c => some (i, fc, c)
    | none => s.openWith x hdr body low level is

/-- A frame from a known neighbour judged: replay, MIC, duplicate; an accepted next index is adopted (R394, R395). The counter is not yet
recorded. -/
def Dev.judgeFrame (s : Dev) (a : BitVec 16) (type fcfB level : Nat) (hdr body : List Byte) (low : Nat) : Option OzRx × Dev :=
  let x := s.nbrOf a
  let ks := (s.tryIdx (b2n (bitOf fcfB 6)))
  let far := ks.any (fun i => match s.lastFc x i with
    | some l => decide (2 ^ 23 ≤ fcNear (some l) low - l)
    | none => false)
  let fail (s : Dev) : Option OzRx × Dev := (none, (s.modOzh (fun z => { z with micFail := satInc z.micFail })).ozhFlag 3)
  if !x.known || !s.haveKey then fail s
  else if far then (none, (s.modOzh (fun z => { z with replay := satInc z.replay })).ozhFlag 4)
  else match s.openWith x hdr body low level ks with
    | none => fail s
    | some (i, fc, clear) =>
      let s :=
        if s.ozh.keyIdx.toNat < i then
          let t := s.nextIndex
          t.modOzh (fun z => { z with switch := match z.switch with
            | some w => if w.block.isNone then none else some w
            | none => none })
        else s
      (some ⟨type, a, bitOf fcfB 3, bitOf fcfB 4, clear, s.lastFc (s.nbrOf a) i = some fc, fc, i⟩, s)

/-- The counter of an accepted frame recorded (R395). -/
def Dev.noteFc (s : Dev) (r : OzRx) : Dev :=
  let x := s.nbrOf r.src
  s.setNbr r.src (if r.idx = s.ozh.keyIdx.toNat then { x with fcNow := some r.fc } else { x with fcOld := some r.fc })

/-- A timing exchange with a neighbour: its drift estimate, kept for the time parent and 15 others, and for the time parent of a joined node a correction of the Wheel (R381,
R382). -/
def Dev.exchange (s : Dev) (a : BitVec 16) (e : Int) : Dev :=
  let x := s.nbrOf a
  let p := s.ozh.parent
  let kept := a = p || x.lastEx.isSome || decide (s.ozh.nbrs.countP (fun e => e.1 ≠ p.toNat && e.2.lastEx.isSome) < 15)
  let delta := match x.lastEx with
    | some t => if t < s.clk.now then
        clampI (-200000) 200000 (x.delta + Int.tdiv (Int.tdiv (e * 1000000000) ((s.clk.now - t : Nat) : Int)) 4)
      else x.delta
    | none => x.delta
  let s := if kept then s.setNbr a { x with delta := delta, lastEx := some s.clk.now } else s
  if a = s.ozh.parent && s.ozh.st = 3 && !s.isCoord then (s.modOzh (fun z => { z with lastEx := some s.clk.now })).refSync .radio e else s

/-- A frame with the full header received: CRC, form, address and security (R362, R365, R392 to R395); the time of a frame from a known
neighbour is taken. A level of 0 means the type's own. -/
def Dev.rxFrame (s : Dev) (rx : RadioRx) (level : Nat) : Option OzRx × Dev :=
  let fcfB := byteAt rx.psdu 0
  let type := fcfB % 8
  let dst := BitVec.ofNat 16 (leAt rx.psdu 1 2)
  let src := BitVec.ofNat 16 (leAt rx.psdu 3 2)
  if !s.rxOpen rx then (none, s)
  else if crc24 rx.psdu ≠ rx.crc then (none, s.modOzh (fun z => { z with crcErr := satInc z.crcErr }))
  else if !psduFits rx.psdu.length type fcfB || 5 ≤ type then (none, s)
  else if dst ≠ s.ozhAddr && dst ≠ 0xFFFF then (none, s)
  else if s.ozh.slotKind = 2 && s.ozh.slotNbr ≠ 0xFFFF && s.ozh.slotNbr ≠ src then (none, s)
  else
    let lv := if level = 0 then ozLevel type (bitOf fcfB 5) else level
    match s.judgeFrame src type fcfB lv (rx.psdu.take 8) (rx.psdu.drop 8) (leAt rx.psdu 5 3) with
    | (some r, s) =>
      let s := if src = s.ozh.parent then s.modOzh (fun z => { z with rssi := rx.rssi }) else s
      (some r, s.exchange src ((s.ozh.slotAt + 4096 : Nat) - (rx.start : Int)))
    | (none, s) => (none, s)

/-- Whether frames are held for a child (R386). -/
def Dev.holdsFor (s : Dev) (a : BitVec 16) : Bool := s.ozh.held.any (fun f => f.nbr = a)

/-- A frame taken in: handled once, its counter recorded, and acknowledged; BUSY leaves it unhandled and its counter unrecorded (R374, R386, R395). PEND from a parent
and held frames for a child make the next slot a follow-on slot. -/
def Dev.accept (s : Dev) (rx : RadioRx) (r : OzRx) (handle : Dev → OzRx → Bool × Dev) : Dev :=
  let (busy, t) := if r.dup then (false, s) else handle s r
  let unicast := leAt rx.psdu 1 2 ≠ 0xFFFF
  let s := if r.dup || (busy && unicast) then t else t.noteFc r
  let asn := s.ozh.slotAsn
  let more := s.holdsFor r.src
  let s := if r.ackReq && unicast then s.sendAck r.src rx.start rx.psdu.length more busy else s
  if r.ackReq && unicast && more then s.modOzh (fun z => { z with follow := some (asn + 1, r.src, z.chofs, true) })
  else if r.pend && unicast then s.modOzh (fun z => { z with follow := some (asn + 1, r.src, z.chofs, false) })
  else s

/-! ### Relaying -/

/-- A frame with a network header that this unit originates or relays, by its ORIG, FINAL and HOPS (R366). -/
def netOrig (c : List Byte) : BitVec 16 := BitVec.ofNat 16 (leAt c 0 2)
def netFinal (c : List Byte) : BitVec 16 := BitVec.ofNat 16 (leAt c 2 2)
def netHops (c : List Byte) : Nat := byteAt c 4 % 16

/-- The ORIG and SEQ that an undelivered DESC is answered to (R388, Table OZH-7). -/
def descOrig (type : Nat) (c : List Byte) : Option (BitVec 16 × BitVec 16) :=
  if type = 4 then some (netOrig c, BitVec.ofNat 16 (leAt c 7 2)) else none

/-- A frame with its HOPS replaced. -/
def withHops (c : List Byte) (h : Nat) : List Byte := putBytes c 4 (leBytes h 1)

/-- The relay hardware on a frame with a network header: consumed, sent on, both, or discarded (R388); its own broadcast
that comes back is no frame for it (R143). It answers whether there was no room. -/
def Dev.relayNet (s : Dev) (r : OzRx) (consume : Dev → Bool × Dev) : Bool × Dev :=
  let c := r.clear
  let final := netFinal c
  let hops := netHops c
  let answer (s : Dev) (st : Status) : Dev := match descOrig r.type c with
    | some (o, q) => s.radioCpl o ⟨0, BitVec.ofNat 8 st.code, q, s.short, 0⟩
    | none => s
  let drop (s : Dev) : Dev := (s.modOzh (fun z => { z with hopDrop := satInc z.hopDrop })).ozhFlag 9
  if final = s.ozhAddr then consume s
  else if final = 0xFFFF && netOrig c = s.ozhAddr then (false, s)
  else if final = 0xFFFF then
    let (busy, s) := consume s
    if s.ozhRole = 2 || hops ≤ 1 then (busy, s)
    else match s.queueFrame ⟨0xFFFF, r.type, false, withHops c (hops - 1), none, 0, 1, 0, none, none, none, none⟩ with
      | some t => (busy, t)
      | none => (busy, s.ozhFlag 5)
  else if s.ozhRole = 2 then (false, s)
  else if hops ≤ 1 then (false, drop s)
  else match s.nextHop final with
    | .drop => (false, s)
    | .nowhere => (false, answer s .unreachable)
    | .to a =>
      match s.queueFrame ⟨a, r.type, true, withHops c (hops - 1), none, 0, s.macLimit, 0, none, descOrig r.type c, none, none⟩ with
      | some t => (false, t)
      | none => (true, s.ozhFlag 5)

/-- DATA consumed: event RADIO_RX (R161, R390). -/
def Dev.consumeData (s : Dev) (c : List Byte) : Bool × Dev :=
  let n := c.length - 5
  (false, s.eventOk (0x0B10 + n) ((netOrig c).toNat + 65536 * leAt (c.drop 5) 0 n))

/-- The descriptor that a compressed form spells (R389, Table OZH-7). -/
def descOfAir (c : List Byte) : Desc :=
  let fl := byteAt c 6
  let plen := byteAt c 9 % 32
  let at_ := bitOf fl 0
  let body := c.drop (if at_ then 16 else 10)
  let target := if netFinal c = 0xFFFF then 0x2FFF else 0x2000 + (netFinal c).toNat % 4096
  ⟨c.getD 5 0, c.getD 6 0, BitVec.ofNat 16 (leAt c 7 2), BitVec.ofNat 16 target, if at_ then BitVec.ofNat 48 (leAt c 10 6) else 0,
    (body.take plen ++ List.replicate 20 0).take 20⟩

/-- A DESC consumed into ring LR, or answered with FULL when it is full (R129, R389). -/
def Dev.consumeAir (s : Dev) (c : List Byte) : Bool × Dev :=
  if s.ring.lr.length < 64 then
    let og : Origin := if netFinal c = 0xFFFF then .nobody else .radio (netOrig c)
    (false, s.modRing (fun r => { r with lr := r.lr ++ [⟨.lr, og, descOfAir c, 0, none, false⟩] }))
  else if netFinal c = 0xFFFF then (false, s)
  else (false, s.radioCpl (netOrig c) ⟨0, BitVec.ofNat 8 Status.full.code, BitVec.ofNat 16 (leAt c 7 2), s.short, 0⟩)

/-- The compressed form of a descriptor, after the network header (R389). -/
def airOfDesc (d : Desc) : List Byte :=
  let p := (d.payload ++ List.replicate 20 0).take 20
  let plen := (upTo 20).foldl (fun m i => if byteAt p i ≠ 0 then i + 1 else m) 0
  [d.op, d.flags] ++ leBytes d.seq.toNat 2 ++ leBytes plen 1 ++ (if d.flag 0 then leBytes d.at48.toNat 6 else []) ++ p.take plen

/-! ### Joining and routes -/

/-- The way from the coordinator to a node, by the addresses of its hops (R385). -/
def pathTo (nodes : List Node) : Nat → BitVec 16 → List (BitVec 16)
  | 0, a => [a]
  | n + 1, a => match nodes.find? (fun x => x.short = a) with
    | some x => if x.via = 0 then [a] else pathTo nodes n x.via ++ [a]
    | none => [a]

/-- The first free entry from index 511 downward (R387). -/
def freeRoute (m : Tab OzRoute) : Option Nat :=
  (upTo 512).reverse.find? (fun i => match m.find? (fun e => e.1 = i) with
    | some e => !e.2.valid
    | none => true)

/-- The default of an unlisted routing entry. -/
def noRoute : OzRoute := ⟨0, 0, 0, 0, false, false, false⟩

/-- An AUTO entry toward a node for an owner: an entry next to its range is extended, else a free one is taken (R387). The index and the table,
or none where no entry is free. -/
def addRoute (m : Tab OzRoute) (owner next a : BitVec 16) : Option (Nat × Tab OzRoute) :=
  match m.find? (fun e => e.2.valid && e.2.auto && e.2.owner = owner && e.2.next = next && (e.2.hi + 1 = a || a + 1 = e.2.lo)) with
  | some e => some (e.1, tabSet noRoute m e.1 { e.2 with lo := if a + 1 = e.2.lo then a else e.2.lo, hi := if e.2.hi + 1 = a then a else e.2.hi })
  | none => match freeRoute m with
    | some i => some (i, tabSet noRoute m i ⟨a, a, next, owner, true, false, true⟩)
    | none => none

/-- The AUTO entries of a node along its way: one for the coordinator and one for each router (R387). The indexes written. -/
def addRoutes (m : Tab OzRoute) (a : BitVec 16) : List (BitVec 16) → BitVec 16 → Option (List Nat × Tab OzRoute)
  | [], _ => some ([], m)
  | h :: hs, owner =>
    match addRoute m owner h a with
    | some (i, m) => (addRoutes m a hs h).map (fun r => (i :: r.1, r.2))
    | none => none

/-- ROUTE_SET for an entry that belongs to a router (R387). -/
def Dev.sendRoute (s : Dev) (i : Nat) : Dev :=
  let e := tabGet noRoute s.ozh.routes i
  if e.owner = 0 then s else s.sendCmd e.owner ([0x05] ++ leBytes i 2 ++ routeBytes e)

/-- A node's AUTO entries removed: ranges are shortened or split (R387). -/
def Dev.dropRoutes (s : Dev) (a : BitVec 16) : Dev :=
  (s.ozh.routes.filter (fun e => e.2.valid && e.2.auto && decide (e.2.lo.toNat ≤ a.toNat) && decide (a.toNat ≤ e.2.hi.toNat))).foldl (fun s e =>
    let x := e.2
    let put (s : Dev) (i : Nat) (y : OzRoute) : Dev := (s.modOzh (fun z => { z with routes := tabSet noRoute z.routes i y })).sendRoute i
    if x.lo = x.hi then put s e.1 { x with valid := false }
    else if x.lo = a then put s e.1 { x with lo := a + 1 }
    else if x.hi = a then put s e.1 { x with hi := a - 1 }
    else
      let s := put s e.1 { x with hi := a - 1 }
      match freeRoute s.ozh.routes with
      | some i => put s i { x with lo := a + 1 }
      | none => s) s

/-- The address given to a joiner (R385). -/
def joinAddr (nodes : List Node) (eui : BitVec 64) (req : BitVec 16) : BitVec 16 :=
  let taken (a : BitVec 16) : Bool := nodes.any (fun x => x.short = a && x.eui ≠ eui)
  if req ≠ 0 && req.toNat < 0xFFFE && !taken req then req
  else BitVec.ofNat 16 (((upTo 1026).find? (fun i => !nodes.any (fun x => x.short = BitVec.ofNat 16 (i + 1)))).getD 0 + 1)

/-- An answer sent back the way its request came (R385). -/
def Dev.answerJoin (s : Dev) (q : JoinReq) (body : List Byte) : Dev :=
  if q.child = 0xFFFE then s.modOzh (fun z => { z with joinRsps := z.joinRsps ++ [(q, body)] })
  else match s.queueFrame ⟨q.child, 3, true, body, none, 0, s.macLimit, 0, none, none, none, none⟩ with
    | some t => t
    | none => s.ozhFlag 5

/-- A refusal (R385). -/
def joinRefusal (st : Nat) : List Byte := [0x02, BitVec.ofNat 8 st] ++ List.replicate 30 0

/-- The coordinator answers a JOIN_REQ (R385, R387). `body` is EUI-64, MEMBER, ROLE and REQ_ADDR. -/
def Dev.coordJoin (s : Dev) (q : JoinReq) (body : List Byte) : Dev :=
  let role := byteAt body 9
  let old := s.ozh.nodes.find? (fun x => x.eui = q.eui)
  if !s.rb 0x8000 3 then s.answerJoin q (joinRefusal 3)
  else if old.isNone && decide (1024 ≤ s.ozh.nodes.length) then s.answerJoin q (joinRefusal 1)
  else
    let a := joinAddr s.ozh.nodes q.eui (BitVec.ofNat 16 (leAt body 10 2))
    let s := match old with
      | some x => s.dropRoutes x.short
      | none => s
    let via : BitVec 16 := if q.child = 0xFFFE then 0 else q.child
    let ses := s.ozh.sessionCtr + 1
    let nodes := ⟨q.eui, a, ses, role, via⟩ :: s.ozh.nodes.filter (fun x => x.eui ≠ q.eui)
    let way := pathTo nodes 8 a
    match addRoutes s.ozh.routes a way 0 with
    | none => (s.ozhFlag 7).answerJoin q (joinRefusal 2)
    | some (is, m) =>
      let s := s.modOzh (fun z => { z with routes := m, nodes := nodes, sessionCtr := ses })
      let s := is.foldl (fun s i => s.sendRoute i) s
      let s := if via = 0 then s.setNbr a { ({} : Nbr) with eui := q.eui, session := ses, role := role, known := true } else s
      let info := [0x04] ++ leBytes q.eui.toNat 8 ++ leBytes a.toNat 2 ++ leBytes ses.toNat 4 ++ leBytes role 1
      let s := (way.dropLast).foldl (fun s h => s.sendCmd h info) s
      let s := s.eventOk 0x0B01 a.toNat
      let key := s.ozh.nk.getD 0
      s.answerJoin q ([0x02, 0] ++ leBytes a.toNat 2 ++ leBytes ses.toNat 4 ++ leBytes s.ozh.keyIdx.toNat 4 ++
        beBytes key.toNat 16 ++ leBytes s.ozh.session.toNat 4)

/-- A JOIN_REQ handled: answered by the coordinator, passed on by a router (R385). A debug halt delays it (R399). -/
def Dev.handleJoin (s : Dev) (q : JoinReq) (body : List Byte) : Dev :=
  if s.flt.dbgHalt then s.modOzh (fun z => { z with later := z.later ++ [(q, body)] })
  else if s.isCoord then s.coordJoin q body
  else if s.ozh.st = 3 then
    match s.queueFrame ⟨s.ozh.parent, 3, true, [0x01] ++ body, none, 0, s.macLimit, 0, none, none, none, none⟩ with
    | some t => t.modOzh (fun z => { z with joinPend := z.joinPend ++ [q] })
    | none => s.ozhFlag 5
  else s

/-- JOIN_REQ (R385): from a joiner in the join cell, under its own join key, or passed on by a router. -/
def Dev.joinReqRx (s : Dev) (rx : RadioRx) : Dev :=
  if leAt rx.psdu 3 2 = 0xFFFE then
    let body := rx.psdu.drop 8
    let eui := BitVec.ofNat 64 (leAt body 1 8)
    let fc := leAt rx.psdu 5 3
    if !s.rxOpen rx || leAt rx.psdu 1 2 ≠ s.ozhAddr.toNat || byteAt rx.psdu 0 % 8 ≠ 3 then s
    else if crc24 rx.psdu ≠ rx.crc then s.modOzh (fun z => { z with crcErr := satInc z.crcErr })
    else if !s.haveKey then s
    else match ozOpen (joinKey (s.ozh.nk.getD 0) eui) (ozNonce eui fc 1) 1 (rx.psdu.take 8) body with
      | some c => if byteAt c 0 = 1 && c.length = 13 then s.handleJoin ⟨eui, fc, 0xFFFE⟩ (c.drop 1) else s
      | none => (s.modOzh (fun z => { z with micFail := satInc z.micFail })).ozhFlag 3
  else match s.rxFrame rx 0 with
    | (some r, t) =>
      if r.type = 3 && byteAt r.clear 0 = 1 && r.clear.length = 13 then
        t.accept rx r (fun s r => (false, s.handleJoin ⟨BitVec.ofNat 64 (leAt r.clear 1 8), 0, r.src⟩ (r.clear.drop 1)))
      else s
    | (none, t) => t

/-- JOIN_REQ (R385). -/
def execJoinReq (rx : RadioRx) (s : State) : Host.Outcome State Fault Refusal := onDev (fun s => s.joinReqRx rx) s

/-- The joiner finishes, or is refused (R385). The parent's EUI-64, which no frame gives, is a free value. -/
def Dev.joinFinish (s : Dev) (c : List Byte) (parent : BitVec 16) : Dev :=
  if byteAt c 1 = 0 then
    let a := BitVec.ofNat 16 (leAt c 2 2)
    let (v, s) := s.draw
    let nk := BitVec.ofNat 128 ((c.drop 12).take 16 |>.foldl (fun n b => 256 * n + b.toNat) 0)
    let s := s.modOzh (fun z => { z with
      st := 3, short := a, session := BitVec.ofNat 32 (leAt c 4 4), keyIdx := BitVec.ofNat 32 (leAt c 8 4), nk := some nk, fc := 0,
      warnTold := false, exhTold := false, prevUntil := none, parent := parent, depth := BitVec.ofNat 8 (z.joinDepth + 1), rssi := z.joinRssi,
      fails := 0, lastEx := some s.clk.now, joinFc := none, joinWait := none, joinParent := none, joinBeacons := 0 })
    let x := s.nbrOf parent
    let s := s.setNbr parent { x with eui := v, session := BitVec.ofNat 32 (leAt c 28 4), known := true, fcNow := none, fcOld := none }
    s.eventOk 0x0B01 a.toNat
  else
    let asn := s.asn
    (s.modOzh (fun z => { z with
      st := 1, joinParent := none, joinBeacons := 0, joinFc := none, joinWait := none, rescanAt := some (asn + 65536) })).ozhFlag 8

/-- JOIN_RSP (R385): to the joiner under its join key, which a debug halt of its Steward keeps waiting (R399), or to a router that passes it on. -/
def Dev.joinRspRx (s : Dev) (rx : RadioRx) : Dev :=
  if leAt rx.psdu 1 2 = 0xFFFE then
    match s.ozh.jk, s.ozh.joinFc with
    | some jk, some fc =>
      if !s.rxOpen rx || byteAt rx.psdu 0 % 8 ≠ 3 then s
      else if crc24 rx.psdu ≠ rx.crc then s.modOzh (fun z => { z with crcErr := satInc z.crcErr })
      else match ozOpen jk (ozNonce s.ozhEui fc 5) 5 (rx.psdu.take 8) (rx.psdu.drop 8) with
        | some c =>
          let parent := BitVec.ofNat 16 (leAt rx.psdu 3 2)
          if byteAt c 0 ≠ 2 || c.length ≠ 32 then s
          else if s.flt.dbgHalt then s.modOzh (fun z => { z with rspLater := some (c, parent) })
          else s.joinFinish c parent
        | none => (s.modOzh (fun z => { z with micFail := satInc z.micFail })).ozhFlag 3
    | _, _ => s
  else match s.rxFrame rx 0 with
    | (some r, t) =>
      if r.type = 3 && byteAt r.clear 0 = 2 && r.clear.length = 32 then
        t.accept rx r (fun s r => (false, match s.ozh.joinPend with
          | q :: qs =>
            let s := s.modOzh (fun z => { z with joinPend := qs })
            s.answerJoin q (if q.child = 0xFFFE then putBytes r.clear 28 (leBytes s.ozh.session.toNat 4) else r.clear)
          | [] => s))
      else s
    | (none, t) => t

/-- JOIN_RSP (R385). -/
def execJoinRsp (rx : RadioRx) (s : State) : Host.Outcome State Fault Refusal := onDev (fun s => s.joinRspRx rx) s

/-- The CHOFS under which a beacon was heard: the lowest that gives its channel (R373). -/
def Dev.chofsOf (s : Dev) (asn chan : Nat) : Nat := ((upTo 40).find? (fun c => s.hopChan asn c = chan)).getD 0

/-- A beacon heard by a unit that seeks a parent (R369, R385): the better parent by DEPTH and RSSI, whose eight beacons, with ASN
continuous between them, are taken as timing exchanges before the request goes out in its join cell. -/
def Dev.seekBeacon (s : Dev) (src : BitVec 16) (c : List Byte) (rx : RadioRx) : Dev :=
  let depth := byteAt c 10
  if leAt c 5 2 ≠ s.meshId || !bitOf (byteAt c 9) 0 || 8 ≤ depth || s.ozh.rescanAt.isSome || s.ozh.jk.isNone then s
  else
    let asn := leAt c 0 5
    let better := match s.ozh.joinParent with
      | none => true
      | some p => p ≠ src && (decide (depth < s.ozh.joinDepth) || (depth = s.ozh.joinDepth && decide (s.ozh.joinRssi < rx.rssi)))
    let goesOn := match s.ozh.joinLast with
      | some (t, a) => decide ((((rx.start : Int) - t) - ((asn : Int) - a) * 98304).natAbs ≤ 2048)
      | none => false
    let mine := decide (s.ozh.joinParent = some src)
    if !better && !mine then s
    else
      let s := if better then s.modOzh (fun z => { z with joinParent := some src, joinDepth := depth, joinFc := none, joinWait := none }) else s
      let s := if better || !goesOn then
          s.modOzh (fun z => { z with joinBeacons := 0, asnOfs := (asn : Int) - ((rx.start / 98304 : Nat) : Int) })
        else s
      let s := s.modOzh (fun z => { z with
        joinRssi := rx.rssi, sfLen := leAt c 7 2, block := BitVec.ofNat 40 (leAt c 14 5), joinBeacons := z.joinBeacons + 1,
        joinLast := some (rx.start, asn) })
      let s := s.exchange src ((s.ozh.slotAt + 4096 : Nat) - (rx.start : Int))
      if 8 ≤ s.ozh.joinBeacons && s.ozh.joinFc.isNone then
        let chofs := s.chofsOf asn s.ozh.chan
        s.modOzh (fun z => { z with joinTx := some (rx.start + 98304, src, chofs) })
      else s

/-- A pending switch taken from a beacon: the first ASN after it whose low 16 bits match (R396). -/
def switchAsn (asn low : Nat) : Nat := asn + 1 + (low + 65536 - (asn + 1) % 65536) % 65536

/-- What a joined node takes from its parent's beacon (R43, R367, R371, R396). -/
def Dev.parentBeacon (s : Dev) (c : List Byte) (rx : RadioRx) : Dev :=
  let asn := leAt c 0 5
  let fl := byteAt c 9
  let blk := BitVec.ofNat 40 (leAt c 14 5)
  let at_ := switchAsn asn (leAt c 12 2)
  let s := s.modOzh (fun z => { z with
    sfLen := leAt c 7 2, rssi := rx.rssi, depth := BitVec.ofNat 8 (byteAt c 10 + 1),
    parentJoin := if bitOf fl 0 then some (asn + 1, z.chofs) else none,
    block := if bitOf fl 3 then z.block else blk,
    switch := if bitOf fl 3 then some ⟨at_, some blk⟩ else if bitOf fl 2 then some ⟨at_, none⟩ else none })
  if bitOf fl 1 then s.tempoAdopt .radio (resolve s.wheelN (BitVec.ofNat 48 (leAt c 19 6))) (leAt c 25 6) (leAt c 31 4) (byteAt c 35) else s

/-- BEACON (R367): a seeking unit, which has no key, reads it as it stands, but not while a debug halt delays its join (R399); a joined one takes
it after its checks. -/
def Dev.beaconRx (s : Dev) (rx : RadioRx) : Dev :=
  if s.seeking then
    if !s.rxOpen rx || rx.psdu.length ≠ 48 || byteAt rx.psdu 0 % 8 ≠ 0 then s
    else if crc24 rx.psdu ≠ rx.crc then s.modOzh (fun z => { z with crcErr := satInc z.crcErr })
    else if s.flt.dbgHalt || 16 ≤ byteAt rx.psdu 17 then s
    else s.seekBeacon (BitVec.ofNat 16 (leAt rx.psdu 3 2)) ((rx.psdu.drop 8).take 36) rx
  else match s.rxFrame rx 0 with
    | (some r, t) =>
      if r.type = 0 && decide (byteAt r.clear 9 < 16) then
        t.accept rx r (fun s r => (false, if r.src = s.ozh.parent && !s.isCoord then s.parentBeacon r.clear rx else s))
      else s
    | (none, t) => t

/-- BEACON (R367). -/
def execBeacon (rx : RadioRx) (s : State) : Host.Outcome State Fault Refusal := onDev (fun s => s.beaconRx rx) s

/-! ### The rows of received frames -/

/-- A row of a type, or of a command with a network header, acts on its own frames. -/
def Dev.netRow (s : Dev) (rx : RadioRx) (type : Nat) (fits : List Byte → Bool) (consume : Dev → OzRx → Bool × Dev) : Dev :=
  match s.rxFrame rx 0 with
  | (some r, t) =>
    if r.type = type && fits r.clear then t.accept rx r (fun s r => s.relayNet r (fun s => consume s r)) else s
  | (none, t) => t

/-- The payload lengths of the commands after their code (Table OZH-4). -/
def cmdLength : Nat → Nat
  | 0x04 => 15
  | 0x05 => 14
  | 0x07 => 4
  | 0x10 => 16
  | _ => 0

/-- Whether a clear payload is a command of a code, after its network header: as long as it is, with no reserved bit set (R365, R366). -/
def isCmd (code : Nat) (c : List Byte) : Bool :=
  c.length = 6 + cmdLength code && byteAt c 5 = code && decide (byteAt c 4 < 16) &&
    (code ≠ 5 || (decide (byteAt c 16 < 8) && (c.drop 17).all (· = 0)))

/-- Whether a clear payload is a compressed descriptor (R365, Table OZH-7). -/
def isAirDesc (c : List Byte) : Bool :=
  decide (byteAt c 4 < 16) && decide (byteAt c 9 ≤ 20) && c.length = (if bitOf (byteAt c 6) 0 then 16 else 10) + byteAt c 9

/-- DATA (R390). -/
def execData (rx : RadioRx) (s : State) : Host.Outcome State Fault Refusal :=
  onDev (fun s => s.netRow rx 1 (fun c => decide (byteAt c 4 < 16)) (fun s r => s.consumeData r.clear)) s

/-- DESC_FRAME (R389). -/
def execDescFrame (rx : RadioRx) (s : State) : Host.Outcome State Fault Refusal :=
  onDev (fun s => s.netRow rx 4 isAirDesc (fun s r => s.consumeAir r.clear)) s

/-- POLL (R386): the ACK carries PEND when frames are held. -/
def execPoll (rx : RadioRx) (s : State) : Host.Outcome State Fault Refusal :=
  onDev (fun s =>
    match s.rxFrame rx 0 with
    | (some r, t) => if r.type = 3 && isCmd 0x03 r.clear then t.accept rx r (fun s _ => (false, s)) else s
    | (none, t) => t) s

/-- CHILD_INFO (R368, R392): a neighbour-table entry for a node on this router's way. -/
def execChildInfo (rx : RadioRx) (s : State) : Host.Outcome State Fault Refusal :=
  onDev (fun s => s.netRow rx 3 (isCmd 0x04) (fun s r =>
    let c := r.clear.drop 6
    (false, s.setNbr (BitVec.ofNat 16 (leAt c 8 2)) { ({} : Nbr) with
      eui := BitVec.ofNat 64 (leAt c 0 8), session := BitVec.ofNat 32 (leAt c 10 4), role := byteAt c 14, known := true }))) s

/-- ROUTE_SET (R387): an entry of this router's own table. -/
def execRouteSet (rx : RadioRx) (s : State) : Host.Outcome State Fault Refusal :=
  onDev (fun s => s.netRow rx 3 (isCmd 0x05) (fun s r =>
    let i := leAt r.clear 6 2
    (false, if i < 512 then s.modOzh (fun z => { z with routes := tabSet noRoute z.routes i (routeOfBytes (r.clear.drop 8)) }) else s))) s

/-- The coordinator forgets a node and its AUTO routes (R387); a debug halt delays it (R399). -/
def Dev.forgetNode (s : Dev) (a : BitVec 16) : Dev :=
  if s.flt.dbgHalt then s.modOzh (fun z => { z with leaves := z.leaves ++ [a] })
  else (s.dropRoutes a).modOzh (fun z => { z with nodes := z.nodes.filter (fun x => x.short ≠ a) })

/-- LEAVE (R387). -/
def execLeave (rx : RadioRx) (s : State) : Host.Outcome State Fault Refusal :=
  onDev (fun s => s.netRow rx 3 (isCmd 0x06) (fun s r =>
    (false, if s.isCoord then s.forgetNode (netOrig r.clear) else s))) s

/-- REKEY_REQ (R396): with AUTO_REKEY the coordinator moves to the next index. -/
def execRekeyReq (rx : RadioRx) (s : State) : Host.Outcome State Fault Refusal :=
  onDev (fun s => s.netRow rx 3 (isCmd 0x07) (fun s _ => (false, if s.isCoord && s.rb 0x8000 4 then s.rekey else s))) s

/-- OZH_CPL (R119, R389): matched by SEQ to the descriptor this unit sent. -/
def execOzhCpl (rx : RadioRx) (s : State) : Host.Outcome State Fault Refusal :=
  onDev (fun s => s.netRow rx 3 (isCmd 0x10) (fun s r =>
    let e := entryOfBytes (r.clear.drop 6)
    (false, s.landRemote (fun f => match f.await with
      | .remote _ _ => f.job.d.target.toNat / 4096 = 2 && f.job.d.seq = e.code
      | _ => false) e))) s

/-- ACK (R375, R381, R386): the attempt succeeds unless BUSY; TCORR from the parent is a timing exchange; PEND opens a follow-on slot. -/
def Dev.ackRx (s : Dev) (rx : RadioRx) : Dev :=
  match s.ozh.await, s.awaited with
  | some (a, due, _), some f =>
    let src := BitVec.ofNat 16 (leAt rx.psdu 3 2)
    if rx.access ≠ s.accessWord || 512 + min s.predErr 49152 < ((rx.start : Int) - due).natAbs then s
    else if crc24 rx.psdu ≠ rx.crc then s.modOzh (fun z => { z with crcErr := satInc z.crcErr })
    else if !psduFits rx.psdu.length (byteAt rx.psdu 0 % 8) (byteAt rx.psdu 0) || byteAt rx.psdu 0 % 8 ≠ 2 || src ≠ a ||
        leAt rx.psdu 1 2 ≠ s.ozhAddr.toNat then s
    else match s.judgeFrame src 2 (byteAt rx.psdu 0) 1 (rx.psdu.take 8) (rx.psdu.drop 8) (leAt rx.psdu 5 3) with
      | (none, t) => t
      | (some r, t) =>
        if 2 ≤ byteAt r.clear 2 then s
        else
        let t := if src = t.ozh.parent then t.modOzh (fun z => { z with rssi := rx.rssi }) else t
        let t := (t.noteFc r).exchange src (signed (leAt r.clear 0 2) 16)
        if bitOf (byteAt r.clear 2) 0 then t.attemptFails
        else
          let asn := t.ozh.slotAsn
          let t := (t.modOzh (fun z => { z with await := none })).backIn a
          let t := t.frameDone f true
          if r.pend then t.modOzh (fun z => { z with follow := some (asn + 1, a, z.chofs, false) })
          else if t.holdsFor a && f.heldAt.isSome then t.modOzh (fun z => { z with follow := some (asn + 1, a, z.chofs, true) })
          else t
  | _, _ => s

/-- ACK (R375). -/
def execAck (rx : RadioRx) (s : State) : Host.Outcome State Fault Refusal := onDev (fun s => s.ackRx rx) s

/-- Whether the ACK window of the attempt has closed (R372, R383). -/
def Dev.ackClosed (s : Dev) : Bool :=
  match s.ozh.await with
  | some (_, due, _) => decide (due + 512 + min s.predErr 49152 + 18874 ≤ s.wheelN)
  | none => false

/-- ACK_WINDOW_CLOSE (R375). -/
def execAckWindowClose (s : State) : Host.Outcome State Fault Refusal :=
  onDev (fun s =>
    if s.ackClosed then (s.modOzh (fun z => { z with noAck := satInc z.noAck })).attemptFails else s) s

/-! ### Fast frames in -/

/-- A frame without addresses from a known neighbour (R378, R379). -/
def Dev.fastFrom (s : Dev) (rx : RadioRx) (type level : Nat) (a : BitVec 16) : Option OzRx × Dev :=
  let b := byteAt rx.psdu 0
  if !s.ozhOn || s.pwr.mode = .shadow || rx.access ≠ s.accessWord then (none, s)
  else if crc24 rx.psdu ≠ rx.crc then (none, s.modOzh (fun z => { z with crcErr := satInc z.crcErr }))
  else if b % 8 ≠ type || !psduFits rx.psdu.length type b then (none, s)
  else s.judgeFrame a type b level (rx.psdu.take 4) (rx.psdu.drop 4) (leAt rx.psdu 1 3)

/-- The lane in whose window a preamble began (Table OZH-6). -/
def Dev.laneOf (s : Dev) (start : Nat) : Option Nat :=
  (upTo 4).find? (fun l => decide (((start : Int) - (s.ozh.slotAt + 18432 * l + 1024 : Nat)).natAbs ≤ 1024 + min s.predErr 49152))

/-- FAST (R379): a MARK on the parent; a duplicate only sets its lane bit. -/
def Dev.fastRx (s : Dev) (rx : RadioRx) : Dev :=
  if s.ozh.slotKind ≠ 7 then s
  else match s.laneOf rx.start with
    | none => s
    | some l =>
      match (s.cellsAt (s.ozh.slotAsn % s.sfLen)).find? (fun i => s.cellKind i = 7 && s.rf (cellOff i) 21 20 = l) with
      | none => s
      | some i =>
        let a := s.cellNbr i
        match s.fastFrom rx 5 5 a with
        | (none, t) => t
        | (some r, t) =>
          let t := t.modOzh (fun z => { z with lanes := z.lanes ||| BitVec.ofNat 4 (2 ^ l) })
          if r.dup then t
          else
            let t := t.noteFc r
            let code := byteAt r.clear 0
            let v := byteAt r.clear 1
            let t := t.deliverMark (t.rf 0x8024 26 24) code (BitVec.ofNat 32 (65536 * a.toNat + v))
            if t.rb 0x8024 27 then t.eventOk 0x0B12 (a.toNat + 65536 * code + 2 ^ 24 * v) else t

/-- FAST (R379). -/
def execFast (rx : RadioRx) (s : State) : Host.Outcome State Fault Refusal := onDev (fun s => s.fastRx rx) s

/-- FAST_ACK (R378, R381): the acknowledged frame leaves the queue; the arrival is a timing exchange. -/
def Dev.fastAckRx (s : Dev) (rx : RadioRx) : Dev :=
  if s.ozh.txLanes = 0 || 1024 + min s.predErr 49152 < ((rx.start : Int) - (s.ozh.slotAt + 81920 : Nat)).natAbs then s
  else match s.fastFrom rx 6 1 s.ozh.parent with
    | (none, t) => t
    | (some r, t) =>
      if 16 ≤ byteAt r.clear 0 then s
      else
        let t := (t.modOzh (fun z => { z with rssi := rx.rssi })).noteFc r
        let t := t.exchange s.ozh.parent ((s.ozh.slotAt + 81920 : Nat) - (rx.start : Int))
        match t.ozh.fastSent with
        | some l => if bitOf (byteAt r.clear 0) l then t.modOzh (fun z => { z with fastSent := none, fastQ := z.fastQ.drop 1 }) else t
        | none => t

/-- FAST_ACK (R378). -/
def execFastAck (rx : RadioRx) (s : State) : Host.Outcome State Fault Refusal := onDev (fun s => s.fastAckRx rx) s

/-! ### Timers -/

/-- Whether the parent has given no timing exchange for PARENT_TMO × 64 slots (R384). -/
def Dev.parentTmoDue (s : Dev) : Bool :=
  s.ozhOn && !s.isCoord && s.ozh.st = 3 &&
    (match s.ozh.lastEx with
      | some t => decide (t + s.rf 0x801C 31 16 * 64 * 98304 ≤ s.clk.now)
      | none => false)

/-- PARENT_TIMEOUT (R384). -/
def execParentTimeout (s : State) : Host.Outcome State Fault Refusal := onDev (fun s => if s.parentTmoDue then s.parentLost else s) s

/-- Whether an unanswered join request is to be repeated (R385). -/
def Dev.joinRetryDue (s : Dev) : Bool :=
  s.ozhOn && s.ozh.st = 2 && (match s.ozh.joinWait with
    | some a => decide (a ≤ s.asn)
    | none => false)

/-- JOIN_RETRY (R385): the request goes out again after the parent's next beacon. -/
def execJoinRetry (s : State) : Host.Outcome State Fault Refusal :=
  onDev (fun s => if s.joinRetryDue then s.modOzh (fun z => { z with joinFc := none, joinWait := none }) else s) s

/-- Whether a refused joiner scans again (R385). -/
def Dev.rescanDue (s : Dev) : Bool := match s.ozh.rescanAt with
  | some a => s.ozhOn && decide (a ≤ s.asn)
  | none => false

/-- JOIN_RESCAN (R385). -/
def execJoinRescan (s : State) : Host.Outcome State Fault Refusal :=
  onDev (fun s => if s.rescanDue then s.modOzh (fun z => { z with rescanAt := none, st := 1 }) else s) s

/-- The held frame that has waited 16,384 slots (R386). -/
def Dev.heldExpired (s : Dev) : Option TxFrame :=
  s.ozh.held.find? (fun f => match f.heldAt with
    | some t => decide (t + 16384 ≤ s.wheelN / 98304)
    | none => false)

/-- HELD_FRAME_EXPIRY (R386). -/
def execHeldFrameExpiry (s : State) : Host.Outcome State Fault Refusal :=
  onDev (fun s =>
    match s.heldExpired with
    | some f => if s.ozhOn then s.frameDone f false else s
    | none => s) s

/-- Whether the announced ASN has come (R396). -/
def Dev.switchDue (s : Dev) : Bool := s.ozhOn && (match s.ozh.switch with
  | some w => decide (w.asn ≤ s.asn)
  | none => false)

/-- KEY_SWITCH (R396): the next key index, or the new block mask; a mask that waited is announced next, or a rekey that waited. -/
def execKeySwitch (s : State) : Host.Outcome State Fault Refusal :=
  onDev (fun s =>
    if !s.switchDue then s
    else match s.ozh.switch with
      | some w =>
        let s := match w.block with
          | none => s.nextIndex
          | some m => s.modOzh (fun z => { z with block := m })
        let asn := s.asn
        let s := s.modOzh (fun z => { z with
          switch := z.blockWait.map (fun m => ⟨asn + 32768, some m⟩), blockWait := none })
        if s.ozh.rekeyLater && s.isCoord && s.ozh.switch.isNone && !s.flt.dbgHalt then
          (s.modOzh (fun z => { z with rekeyLater := false })).rekey
        else s
      | none => s) s

/-! ### Strobes -/

/-- JOIN (R385): a router or sleepy node with a join key seeks a parent. -/
def Dev.ozhJoin (s : Dev) : Dev :=
  if s.ozhOn && s.pwr.mode ≠ .shadow && !s.isCoord && s.ozh.jk.isSome then
    s.modOzh (fun z => { z with st := 1, joinParent := none, joinBeacons := 0, joinFc := none, joinWait := none, rescanAt := none })
  else s

/-- LEAVE (R368, R387): the node sends LEAVE to the coordinator and no longer follows its parent. -/
def Dev.ozhLeave (s : Dev) : Dev :=
  if s.ozhOn && !s.isCoord && (s.ozh.st = 3 || s.ozh.st = 4) then
    ((s.sendCmd 0 [0x06]).modOzh (fun z => { z with st := 0 })).refGone .radio
  else s

/-- REKEY (R396): on the coordinator. -/
def Dev.ozhRekey (s : Dev) : Dev := if s.ozhOn && s.isCoord then s.rekey else s

/-- STAT_CLR (R401): the counters cleared. -/
def Dev.statClr (s : Dev) : Dev :=
  s.modOzh (fun z => { z with
    crcErr := 0, micFail := 0, replay := 0, noAck := 0, ccaBusy := 0, hopDrop := 0, chAtt := [], chFail := [] })

/-! ### COMMIT -/

/-- The block mask that a COMMIT would put in force. -/
def Dev.blockStaged (s : Dev) : BitVec 40 :=
  BitVec.ofNat 40 ((s.writtenBefore 0x8018).toNat % 256 * 2 ^ 32 + (s.writtenBefore 0x8014).toNat)

/-- Whether a staged block mask would leave fewer than 15 channels (Table OZH-8). -/
def Dev.blockBad (s : Dev) : Bool :=
  (tabGet false s.regs.staged 0x8014 || tabGet false s.regs.staged 0x8018) && decide ((openChans s.blockStaged).length < 15)

/-- A committed block mask: at once where no mesh runs, else announced by the coordinator (R396). -/
def Dev.newBlock (s : Dev) (m : BitVec 40) : Dev :=
  if !s.ozh.busy then s.modOzh (fun z => { z with block := m })
  else if !s.isCoord then s
  else if s.ozh.switch.isSome then s.modOzh (fun z => { z with blockWait := some m })
  else
    let asn := s.asn
    s.modOzh (fun z => { z with switch := some ⟨asn + 32768, some m⟩ })

/-- The staged key installed as KEY_SEL names it, and OZH_KEY set to 0 (R400). -/
def Dev.installKey (s : Dev) : Dev :=
  let bytes := (upTo 4).flatMap (fun j => leBytes (s.writtenBefore (0x8050 + 4 * j)).toNat 4)
  let k := BitVec.ofNat 128 (bytes.foldl (fun n b => 256 * n + b.toNat) 0)
  let jk := s.rb 0x804C 0
  let s := s.modOzh (fun z => if jk then { z with jk := some k } else { z with nk := some k })
  forEach (upTo 4) (fun s j =>
    let t := s.setBoth (0x8050 + 4 * j) 0
    t.setRegs { t.regs with staged := tabSet false t.regs.staged (0x8050 + 4 * j) false }) s

/-- A COMMIT of the OZH_ block (R400): the key installed and the mask put in force; a mask that leaves fewer than 15 channels stays staged. -/
def Dev.ozhCommit (s : Dev) : Dev :=
  let keyed := (upTo 4).any (fun j => tabGet false s.regs.staged (0x8050 + 4 * j))
  let masked := (tabGet false s.regs.staged 0x8014 || tabGet false s.regs.staged 0x8018) && !s.blockBad
  let s := if keyed then s.installKey else s
  if masked then
    let m := s.blockStaged
    let own (o : Nat) : Bool := o = 0x8014 || o = 0x8018
    ((s.commitWhere own).applyCommit own).newBlock m
  else s

/-! ### The end of a debug halt -/

/-- Joins, LEAVEs and rekeys that a debug halt delayed (R399). -/
def Dev.ozhRelease (s : Dev) : Dev :=
  let qs := s.ozh.later
  let gone := s.ozh.leaves
  let rsp := s.ozh.rspLater
  let rk := s.ozh.rekeyLater
  let s := s.modOzh (fun z => { z with later := [], leaves := [], rspLater := none, rekeyLater := false })
  let s := match rsp with
    | some (c, p) => s.joinFinish c p
    | none => s
  let s := gone.foldl (fun s a => s.forgetNode a) s
  let s := qs.foldl (fun s q => s.handleJoin q.1 q.2) s
  if rk && s.isCoord then s.rekey else s

end Sys2Proof.Machine
end

