-- ==== Sys2Proof/Machine/Twin.lean ====
section
/-! DEFINITION. Chapter 13: twin pairs. Heartbeats and the partner they show (R343 to R345), mirror frames out and in (R346 to R349), roles
(R351), detection and takeover (R352 to R355, R359), swaps (R356) and splits (R357, R358). -/

namespace Sys2Proof.Machine

/-! ### Heartbeats -/

/-- The codes of ROLE (Table TWN-5) and of the Tempo STATE (Table WHL-11). -/
def TRole.code : TRole → Nat
  | .unpaired => 0
  | .active => 1
  | .shadow => 2

def tRoleOf : Nat → TRole
  | 1 => .active
  | 2 => .shadow
  | _ => .unpaired

def TState.code : TState → Nat
  | .off => 0
  | .run => 1
  | .hold => 2
  | .stopped => 3

def tStateOf : Nat → TState
  | 1 => .run
  | 2 => .hold
  | 3 => .stopped
  | _ => .off

/-- STAT.CURRENT (R349). -/
def Dev.twinCurrent (s : Dev) : Bool := s.twin.current

/-- The heartbeat that this unit sends at a press (Table TWN-1). -/
def Dev.hbBytes (s : Dev) : List Byte :=
  let t := s.twin
  let turn := match t.lastCap with
    | some c => (16 * s.clk.now - c) % 2 ^ 20
    | none => 0
  let body := [0xBC, 0xB9,
      BitVec.ofNat 8 (t.role.code + 4 * b2n s.faultN + 8 * b2n s.twinCurrent + 16 * b2n t.resync + 32 * s.pwr.mode.code), t.hbSeq] ++
    leBytes s.wheelN 8 ++ [0] ++ leBytes t.epoch.toNat 4 ++ leBytes s.hoopId.toNat 2 ++ leBytes Config.eui.toNat 8 ++ leBytes turn 3 ++
    [t.echo, 0] ++ leBytes t.linkDly 3 ++ leBytes t.ackSeq.toNat 4 ++ List.replicate 7 0
  body ++ syncCrc body

/-- Whether a received heartbeat is valid (R344). -/
def hbValid (c : SyncRx) : Bool :=
  c.codesOk && c.bytes.length = 48 && c.bytes.drop 46 = syncCrc c.bytes && byteAt c.bytes 1 = 0xB9

/-- The tick of capture in sixteenths. -/
def Dev.cap16 (s : Dev) (c : SyncRx) : Nat := 16 * s.clk.now + c.frac16.toNat

/-- A delay sample from TURN and ECHO (R315, R345). A sender that has captured no heartbeat yet sends TURN 0. -/
def Dev.twinDelay (s : Dev) (c : SyncRx) : Dev :=
  let t := s.twin
  let turn : Nat := leAt c.bytes 27 3 % 2 ^ 20
  match t.sentHb.find? (fun e => e.1 = c.bytes.getD 30 0) with
  | some e =>
    if turn = 0 then s
    else
      let sample := Int.tdiv ((s.cap16 c : Int) - e.2 - turn) 2
      let d : Int := if t.dlyFresh then sample else (t.linkDly : Int) + Int.tdiv (sample - t.linkDly) 16
      s.modTwin (fun t => { t with linkDly := d.toNat, dlyFresh := false })
  | none => s

/-- What a valid heartbeat tells of the partner (R344). -/
def Dev.notePartner (s : Dev) (c : SyncRx) : Dev :=
  let b := byteAt c.bytes 2
  let bs := c.bytes
  s.modTwin (fun t => { t with
    pRole := tRoleOf (b % 4), pFault := bitOf b 2, pCurrent := bitOf b 3, pResync := bitOf b 4, pMode := b / 32,
    pEpoch := BitVec.ofNat 32 (leAt bs 13 4), pId := BitVec.ofNat 12 (leAt bs 17 2), pEui := BitVec.ofNat 64 (leAt bs 19 8),
    goodHb := min 3 (t.goodHb + 1), partner := t.partner || decide (3 ≤ t.goodHb + 1), lastHb := some s.clk.now, missed := 0,
    echo := bs.getD 3 0, lastCap := some (s.cap16 c) })

/-! ### Roles -/

/-- A sticky bit of TWN_FLAGS. -/
def Dev.twinFlag (s : Dev) (i : Nat) : Dev := s.setFlag 0x7810 i

/-- LINK_LOST: its flag and event with the epoch (R352, R358). -/
def Dev.linkLostTwin (s : Dev) : Dev := (s.twinFlag 2).eventOk 0x0A03 s.twin.epoch.toNat

/-- The detail of a TWIN_CTL completion: epoch and role (Table DSC-6). -/
def Dev.twinDetail (s : Dev) : Nat := s.twin.epoch.toNat + 2 ^ 32 * s.twin.role.code

/-- Whether a flight is a TWIN_CTL SWAP that waits for its press on this unit, and whether it is one that this unit has executed at all (R356). -/
def isSwapHere (f : Flight) : Bool :=
  match f.await with
  | .swap _ => true
  | _ => false
def isSwapFlight (f : Flight) : Bool :=
  match f.await with
  | .swap _ => true
  | .swapAsk _ _ => true
  | _ => false

/-- A pending swap ends without being carried out (R351, R356). -/
def Dev.dropSwap (s : Dev) : Dev := (s.landFlightsNow isSwapFlight .state s.twinDetail).modTwin (fun t => { t with swapAt := none })

/-- The mirror state of a role that begins afresh. -/
def Twin.fresh0 (t : Twin) : Twin :=
  { t with
    told := {}, deltas := [], image := [], imgOn := false, imgEnd := none, ripTold := [], ripTurn := 0, harpTurn := 0, resync := false,
    synced := false, current := false, fresh := true, ripSnaps := [], harpSnaps := [], ozhSnap := none, swapAt := none,
    takeDue := false, takeBusy := false, takeWheel := none, strStart := 0, mtxStart := false }

/-- Entry to SHADOW (R350, R351): engines stop, Harp pins are high-Z, the outputs and the radio's transmission are off. HOLD, which Table MOD-2
leaves only for READY, stays until its causes clear (log entry 63). -/
def Dev.enterShadow (s : Dev) (keepCues : Bool) : Dev :=
  let s := if keepCues then s else s.discardCues
  let s := s.modRing (fun r => { r with cues := r.cues.filter (fun c => c.out) })
  let s := forEach (upTo 12) (fun s n => s.modRip n Rip.stopped) s
  let s := s.stopHarps.floatPins (BitVec.allOnes 32)
  let s := s.lightsOff.carriersOff
  let s := s.modPwr (fun p => { p with mode := if p.mode = .hold then .hold else .shadow })
  s.modTwin (fun t => { t.fresh0 with role := .shadow, resync := true, mseq := 0, ackSeq := 0 })

/-- A unit becomes ACTIVE with a new epoch, and mirroring starts (Table TWN-3). -/
def Dev.enterActive (s : Dev) : Dev :=
  let e := BitVec.ofNat 32 (max s.twin.epoch.toNat s.twin.pEpoch.toNat + 1)
  let s := s.modTwin (fun t => { t.fresh0 with role := .active, epoch := e })
  s.modTwin (fun t => { t with told := s.toldNow })

/-- A split of two ACTIVE units: the one with the higher epoch, then the lower ID, then the lower EUI-64 goes on; the other releases the lamps
(R357). -/
def Dev.split (s : Dev) : Dev :=
  let t := s.twin
  let s := (s.twinFlag 1).eventOk 0x0A02 t.epoch.toNat
  let own := s.hoopId.toNat
  let wins :=
    if t.epoch ≠ t.pEpoch then decide (t.pEpoch.toNat < t.epoch.toNat)
    else if own ≠ t.pId.toNat then decide (own < t.pId.toNat)
    else decide (Config.eui.toNat < t.pEui.toNat)
  if wins then s else s.dropSwap.enterShadow false

/-! ### Takeover -/

/-- A Ripener as its snapshot shows it, its fades ahead by the steps since (R354). -/
def Dev.ripRestored (s : Dev) (r : RipSnap) : Rip :=
  let steps := s.wheelN / 512 - r.tick / 512
  let outs := r.fades.foldl (fun m e => tabSet 0 m e.1 (tabGet 0 m e.1 - e.2 * steps)) r.outs
  { run := r.run, hostPause := r.hostPause, latch := r.latch, regs := r.regs.zipIdx.foldl (fun m e => tabSet 0 m e.2 e.1) [], ctx := r.ctx,
    frame := r.frame, handler := r.handler, mask := r.mask, group := r.group, outs := outs,
    fades := r.fades.filter (fun e => tabGet 0 outs e.1 ≠ 0), lastStep := r.tick }

/-- The Ripeners, the Harps' queues and the Ozhild network state from the snapshots (R354, R355). -/
def Dev.restoreMirror (s : Dev) : Dev :=
  let s := forEach (upTo 12) (fun s n => match tabGet none s.twin.ripSnaps n with
    | some r => if r.run then s.setRip n (s.ripRestored r) else s
    | none => s) s
  let s := forEach (upTo 8) (fun s n => match tabGet none s.twin.harpSnaps n with
    | some (_, tx) => s.modHarp n (fun h => { h with st := 0, tx := tx })
    | none => s) s
  match s.twin.ozhSnap with
  | some z => s.modOzh (fun o => { o with
      st := z.st, asnOfs := z.asnOfs, nk := z.nk, jk := z.jk, keyIdx := z.keyIdx, session := z.session, short := z.short, depth := z.depth,
      parent := z.parent, meshId := z.meshId, sfLen := z.sfLen, block := z.block, sessionCtr := z.sessionCtr, nbrs := z.nbrs,
      nodes := z.nodes, routes := z.routes })
  | none => s

/-- The new active unit (Table TWN-4): role, epoch and mode, the Wheel's role, the frame counter's leap, the key index that the SEC record's byte names
(log entry 46), and the mirrored engines. -/
def Dev.takeover (s : Dev) : Dev :=
  let stale := !s.twin.current
  let s := s.restoreMirror
  let fc := s.twin.secFc.toNat + 2 ^ 20
  let s := s.enterActive.modTwin (fun t => { t with
    takeBusy := true, takeWheel := some s.wheel32, takeAt := s.clk.now, takeDur := 0, strStart := BitVec.allOnes 16, mtxStart := true })
  let s := s.twinFlag 0
  let s := if stale then s.twinFlag 3 else s
  let s := s.eventOk 0x0A01 s.twin.epoch.toNat
  let s := (s.modPwr (fun p => { p with mode := .run, transAt := some s.clk.now })).modMtx (fun m => { m with
    waitFrame := false, blank := s.clk.now + 262144 })
  let key := (s.twin.secKey.map (fun k => s.ozh.keyIdx + (k - s.ozh.keyIdx.setWidth 8).setWidth 32)).getD s.ozh.keyIdx
  let s := (s.refGone .twin).modOzh (fun z => { z with fc := fc, keyIdx := key, warnTold := false, exhTold := false })
  let s := forEach (upTo 6) (fun s n => s.modCar n (fun c => { c with acc := 0 })) s
  let s := s.judgeFc
  s.modTwin (fun t => { t with told := s.toldNow })

/-- Whether a failure of the partner makes this unit take over: TAKE_EN, and RUN or HOLD in its last valid heartbeat (R352). -/
def Dev.mayTake (s : Dev) : Bool :=
  s.twin.role = .shadow && s.pwr.mode = .shadow && s.rb 0x7800 6 && (s.twin.pMode = 3 || s.twin.pMode = 5)

/-- A failure of the partner detected by the shadow: a takeover, which is weighed at the end of the tick against its other transitions (R81), or
LINK_LOST (R352). A pending SWAP ends. -/
def Dev.detect (s : Dev) : Dev :=
  if s.mayTake then s.dropSwap.modTwin (fun t => { t with takeDue := true })
  else if s.twin.role = .shadow && s.pwr.mode = .shadow then s.linkLostTwin
  else s

/-- The takeover of a tick on which no transition of a higher rank began (R81, R352); one that loses is not carried out later. -/
def Dev.takeoverJudge (s : Dev) : Dev :=
  if s.twin.takeDue then
    let s := s.modTwin (fun t => { t with takeDue := false })
    if s.twin.role = .shadow && s.pwr.mode = .shadow then s.takeover else s
  else s

/-- HEARTBEAT (R344, R345, R348, R351, R352, R357). -/
def Dev.heartbeatRx (s : Dev) (c : SyncRx) : Dev :=
  let s := s.lineGroups 2 c.syms
  if !s.twinOn then s
  else if !hbValid c then s.modTwin (fun t => { t with goodHb := if t.partner then t.goodHb else 0 })
  else
    let bs := c.bytes
    let faulted := s.twin.pFault
    let s := (s.twinDelay c).notePartner c
    let dly : Nat := leAt bs 32 3 % 2 ^ 20
    let t := s.twin
    match t.role with
    | .shadow =>
      let s :=
        if t.pRole = .active && dly ≠ 0xFFFFF then
          s.refSync .twin (roundAway (((leAt bs 4 8 : Nat) : Int) * 16 + (byteAt bs 12 % 16 : Nat) + dly -
            (s.wheelN * 16 + c.frac16.toNat : Nat)) 16)
        else s
      if t.pFault && (!faulted || s.rb 0x7800 6) then s.detect else s
    | .active =>
      if t.pRole = .active then s.split
      else if t.pRole = .shadow && t.pResync && !t.imgOn &&
          (match t.imgEnd with
            | some e => decide (e + 8192 ≤ s.clk.now)
            | none => true) then s.startImage
      else s
    | .unpaired =>
      if s.rb 0x7800 7 && t.partner && t.pRole = .active && decide (t.epoch.toNat < t.pEpoch.toNat) && s.pwr.sleepTo.isNone &&
          (s.pwr.mode = .ready || s.pwr.mode = .run) then s.enterShadow false
      else s

/-- HEARTBEAT (R344). -/
def execHeartbeat (c : SyncRx) (s : State) : Host.Outcome State Fault Refusal := onDev (fun s => s.heartbeatRx c) s

/-- Whether a heartbeat is to be counted missed now (R344). -/
def Dev.hbMissDue (s : Dev) : Bool :=
  s.twinOn && (match s.twin.lastHb with
    | some h => decide (h + 4096 * (s.twin.missed + 1) + 8 ≤ s.clk.now)
    | none => false)

/-- A missed heartbeat counted; the third makes the partner unseen, and is a failure (R344, R352, R358). -/
def Dev.heartbeatMiss (s : Dev) : Dev :=
  if !s.hbMissDue then s
  else
    let s := s.modTwin (fun t => { t with missed := t.missed + 1, goodHb := 0 })
    if s.twin.missed ≠ 3 then s
    else
      let s := (s.modTwin (fun t => { t with partner := false, dlyFresh := true, linkDly := 0xFFFFF, sentHb := [], lastCap := none })).refLost
        .twin
      match s.twin.role with
      | .shadow => s.detect
      | .active => s.dropSwap.linkLostTwin
      | .unpaired => s

/-- HEARTBEAT_MISSED (R344). -/
def execHeartbeatMissed (s : State) : Host.Outcome State Fault Refusal := onDev (fun s => s.heartbeatMiss) s

/-- What the partner-fault pin reads: its synchronised sample, without INV and FILT (R62, R264, R342). -/
def Dev.pfltHigh (s : Dev) : Bool := !s.pwr.vioLow && s.pins.syncd.toNat.testBit (s.rf 0x7800 4 0)

/-- A tick of the partner-fault pin: how long it has read low (R352). -/
def Dev.pfltTick (s : Dev) : Dev :=
  let n := if !s.rb 0x7800 5 || s.pfltHigh then 0 else if s.twin.pfltCnt < 32 then s.twin.pfltCnt + 1 else s.twin.pfltCnt
  if n = s.twin.pfltCnt then s else s.modTwin (fun t => { t with pfltCnt := n })

/-- PFLT_LOW (R352): the partner-fault pin has read low for 32 consecutive ticks. A pin that stays low takes over once TAKE_EN allows it. -/
def execPfltLow (s : State) : Host.Outcome State Fault Refusal :=
  onDev (fun s =>
    if s.coreOn && s.rb 0x7800 5 && decide (32 ≤ s.twin.pfltCnt) && (s.twin.pfltCnt = 32 || s.mayTake) then
      (s.modTwin (fun t => { t with pfltCnt := 33 })).detect
    else s) s

/-- A string that takes over part-way through its dimming period: an ANALOG one as a whole period, a PULSED one what is left of its pulse
(R353). -/
def Dev.strTake (s : Dev) (l : Nat) : Dev :=
  let d := (s.chanOf l).drive.toNat
  if !(s.strMayRun l && !(s.activePhases l).isEmpty) then s
  else
    let p := s.dimP l
    let gone := (s.wheelN + p - s.dimPhase l) % p
    let s := (s.beginPeriod l d true).modStr l (fun x => if x.pulsed then
        let w := x.width - 16 * gone
        { x with width := w, sampleDue := x.sampleDue && decide (6288 ≤ w), pulseEnd := s.clk.now + w / 16 }
      else { x with pulseEnd := s.clk.now + (p - gone) })
    (((s.setShares l).startPulse l).noteActive l).modStr l (fun x => { x with busy := true })

/-- After a takeover each string starts at its next converter cycle, and the matrix at its next row slot; TAKE_DUR holds the ticks to the last
start (Table TWN-4, Table TWN-5). -/
def Dev.takeoverTick (s : Dev) : Dev :=
  let took (s : Dev) : Dev := s.modTwin (fun t => { t with takeDur := BitVec.ofNat 16 (s.clk.now - t.takeAt) })
  let s := if s.twin.strStart = 0 then s
    else forEach (upTo 16) (fun s n =>
      if s.twin.strStart.toNat.testBit n && s.gridNow (s.convT n) (n * s.convT n / 16) then
        let s := s.modTwin (fun t => { t with strStart := t.strStart &&& ~~~ BitVec.ofNat 16 (2 ^ n) })
        if s.isMember n || (s.strOf n).switching then s
        else
          let s := s.strTake n
          if (s.strOf n).switching then took s else s
      else s) s
  if s.twin.mtxStart && s.mtx.driving then took (s.modTwin (fun t => { t with mtxStart := false })) else s

/-! ### Mirror frames out -/

/-- The lamp factor that a CLR record carries for a class: its own, or for SRC 5 the lowest that applies to any channel of it, so that light
never rises at a takeover because of derating (R234; DESIGN CHOICE, log entry 64). -/
def Dev.toldLamp (s : Dev) (k : Nat) : Nat :=
  ((upTo 16).filter (fun n => s.isVf n && s.classOf n = k)).foldl (fun m n => min m (s.lampOf n)) (s.clsOf k).lamp

/-- The colour classes as a CLR record carries them (Table TWN-2). -/
def Dev.clrRec (s : Dev) : MirRec :=
  .clr ((upTo 8).map (fun k =>
    let x := s.clsOf k
    ⟨s.toldLamp k, x.trim, x.target, x.state, x.returning, x.hold, x.good, x.lastGood⟩))

/-- The records that open every frame (R347). -/
def Dev.mirHead (s : Dev) : List MirRec :=
  let t := s.tempo
  [.sec (BitVec.ofNat 32 s.ozh.fc) (s.ozh.keyIdx.setWidth 8),
    .tempo (BitVec.ofInt 48 t.a) (BitVec.ofNat 48 t.pq) (BitVec.ofNat 32 t.k0) (BitVec.ofNat 8 t.sNow) (BitVec.ofNat 8 s.tempoL)
      (BitVec.ofNat 8 t.st.code), s.clrRec]

/-- The records of a queue that still fit, and those that wait: one that does not fit holds back all behind it (R347). -/
def takeFit (cap : Nat) : List MirRec → List MirRec × List MirRec
  | [] => ([], [])
  | r :: rs =>
    if recSize r ≤ cap then
      let (a, b) := takeFit (cap - recSize r) rs
      (r :: a, b)
    else ([], r :: rs)

/-- Packets for the partner that leave in this section, within its symbols; what is left of them (R346). -/
def Dev.partnerSend (s : Dev) : Nat → Nat → Nat × Dev
  | 0, cap => (cap, s)
  | fuel + 1, cap =>
    let q := s.portOf 2
    match nextPacket s.clk.now q.txq with
    | some e =>
      if pktSymbols e.1 ≤ cap then
        ((s.setPort 2 { q with txq := q.txq.erase e }).emit (.packet 2 e.1)).partnerSend fuel (cap - pktSymbols e.1)
      else (cap, s)
    | none => (cap, s)

/-- The Ripeners whose snapshots are sent: those that run, and those last told as running, from the turn on (R347). -/
def Dev.snapTurns (s : Dev) : List (Fin 12) :=
  let us := (List.finRange 12).filter (fun n => (s.ripSnap n).run || s.twin.ripTold.contains n.val)
  us.filter (fun n => decide (s.twin.ripTurn ≤ n.val)) ++ us.filter (fun n => decide (n.val < s.twin.ripTurn))

/-- The rolling snapshots of a frame (R347). -/
def Dev.rolling (s : Dev) (cap : Nat) : List MirRec × Dev :=
  let turns := s.snapTurns
  let (rips, _) := takeFit cap (turns.map (fun n => .ripSnap (s.ripSnap n)))
  let sent := turns.take rips.length
  let cap := cap - recsSize rips
  let harp := s.harpSnap (Fin.ofNat 8 s.twin.harpTurn)
  let (rest, _) := takeFit cap [harp, .ozhSnap s.ozhNet]
  let told := sent.foldl (fun l n => if (s.ripSnap n).run then (if l.contains n.val then l else n.val :: l) else l.filter (· ≠ n.val))
    s.twin.ripTold
  (rips ++ rest, s.modTwin (fun t => { t with
    ripTold := told, ripTurn := match sent.getLast? with
      | some n => (n.val + 1) % 12
      | none => t.ripTurn,
    harpTurn := if rest.isEmpty then t.harpTurn else (t.harpTurn + 1) % 8 }))

/-- The mirror frame of the active unit at a press (R346 to R348): 10,192 symbols. -/
def Dev.mirrorSend (s : Dev) : Dev :=
  let head := s.mirHead
  let cap := 10192 - recsSize head - 24
  let t := s.twin
  let (out, wait) := takeFit cap (if t.imgOn then t.image else t.deltas)
  let done := t.imgOn && wait.isEmpty
  let s := s.modTwin (fun t =>
    if t.imgOn then { t with image := wait, imgOn := !done, imgEnd := if done then some s.clk.now else t.imgEnd } else { t with deltas := wait })
  let (cap, s) := s.partnerSend 64 (cap - recsSize out)
  let (snaps, s) := if t.imgOn then ([], s) else s.rolling cap
  let seq := s.twin.mseq + 1
  (s.modTwin (fun t => { t with mseq := seq })).emit
    (.mirror (head ++ out ++ snaps) seq (s.twin.deltas.isEmpty && !s.twin.imgOn) done)

/-! ### The twin at a press -/

/-- The swap press of a planned swap (R356): the active unit enters SHADOW, the shadow takes over, and SWAP completes with AT_EXEC = B. -/
def Dev.swapPress (s : Dev) : Dev :=
  match s.twin.swapAt with
  | none => s
  | some b =>
    if s.pressIndex < b then s
    else
      let s := s.modTwin (fun t => { t with swapAt := none })
      let s : Dev := match s.twin.role with
        | .active => s.enterShadow true
        | .shadow => if s.pwr.mode = Mode.shadow then s.takeover else s
        | .unpaired => s
      let p := s.ring.flights.filter isSwapHere
      p.foldl (fun s f => s.complete f.job .ok (BitVec.ofNat 48 (4096 * b)) s.twinDetail) (s.dropFlights isSwapHere)

/-- The twin's work at a press, after its live fields have taken effect: a due swap, the heartbeat and the section behind it (R343,
R346). -/
def Dev.twinPress (s : Dev) : Dev :=
  if !s.twinOn then s
  else
    let s := s.swapPress
    let s := s.modTwin (fun t => { t with hbSeq := t.hbSeq + 1 })
    let s := (s.emit (.heartbeat s.hbBytes)).modTwin (fun t => { t with
      sentHb := ((t.hbSeq, 16 * s.clk.now) :: t.sentHb).take 4, takeBusy := false, takeTime := t.takeWheel.getD t.takeTime,
      takeWheel := none })
    if s.twin.role = .active then s.mirrorSend else (s.partnerSend 64 10192).2

/-! ### Mirror frames in -/

/-- A mirrored register written (R350): in force, or its shadow copy, without regard to access class. -/
def Dev.mirSetup (s : Dev) (off : Nat) (staged : Bool) (v : Word) : Dev :=
  let fs := regFields off
  if staged then (s.setRegs { s.regs with
      written := tabSet (regReset off) s.regs.written off (takeFields Fld.isStaged v (s.written off) fs) }).markStaged off
  else
    s.setRegs { s.regs with
      force := tabSet (regReset off) s.regs.force off (takeFields Fld.isRw v (s.force off) fs),
      written := tabSet (regReset off) s.regs.written off (takeFields (fun f => f.isRw && !f.isStaged) v (s.written off) fs) }

/-- The Tempo grid of a TEMPO record (R350). -/
def Dev.mirTempo (s : Dev) (a : Short) (pq : BitVec 48) (beat : Word) (sN l st : Byte) : Dev :=
  let u := s.tempo
  let state := tStateOf st.toNat
  let a := resolve s.wheelN a
  let on := decide (state ≠ .off)
  let moved := !u.anchored || beatNear u.a u.pq u.k0 s.wheelN ≠ beatNear a pq.toNat beat.toNat s.wheelN
  let s := s.modTempo (fun u => { u with
    st := state, runs := on, anchored := on && u.anchored, a := a, pq := pq.toNat, k0 := beat.toNat, l := l.toNat })
  let s := if on && moved then s.tempoAnchor else s
  s.modTempo (fun u => { u with sNow := if moved then sN.toNat else u.sNow, halted := state = .stopped })

/-- A class of a CLR record; strings that keep their own factor take the record's (R234, R350, log entry 64). -/
def Dev.mirClass (s : Dev) (k : Nat) (r : ClrRec) : Dev :=
  let s := forEach (upTo 16) (fun s n => if s.isVf n && s.classOf n = k then s.modStr n (fun x => { x with lamp := r.lamp }) else s) s
  s.modCls k (fun x => { x with
    lamp := r.lamp, trim := r.trim, target := r.target, state := r.state, returning := r.returning, hold := r.hold, good := r.good,
    lastGood := r.lastGood })

/-- A channel of a CHAN record. -/
def Dev.mirChan (s : Dev) (c : Nat) (v : BitVec 16 × Byte × BitVec 16) : Dev :=
  (s.modChan c (fun x => { x with step := v.1, handoff := false, was := none, shift := v.2.2 })).setBothField (ownOff c) (ownLo c + 7)
    (ownLo c) v.2.1.toNat

/-- The origin of a mirrored cue. A local ring's sender is named by no record: where its completion goes is a free value. -/
def Dev.mirOrigin (s : Dev) (o : Nat) : Src × Origin × Dev :=
  if o < 8 then (.ring (Fin.ofNat 8 o), .mirror o, s)
  else
    let (v, s) := s.draw
    if o = 0x11 then (.lr, .radio (v.setWidth 16), s) else (.lh, .hoop (v.setWidth 12) ((v >>> 16).setWidth 16), s)

/-- A cue of a CUE_ADD record, in the place of one with its index. -/
def Dev.mirCue (s : Dev) (idx o : Nat) (acc : Short) (d : Desc) : Dev :=
  let t := resolve (resolve s.wheelN acc).toNat d.at48
  let (src, og, s) := s.mirOrigin o
  s.modRing (fun r => { r with
    cues := r.cues.filter (fun c => c.idx ≠ idx) ++ [⟨idx, ⟨src, og, d, r.serial, some idx, false⟩, acc, t, false, false⟩],
    serial := r.serial + 1 })

/-- One record applied (R348, R350). -/
def Dev.mirApply (s : Dev) : MirRec → Dev
  | .sec fc key => s.modTwin (fun t => { t with secFc := fc, secKey := some key })
  | .tempo a pq beat sN l st => s.mirTempo a pq beat sN l st
  | .clr cs => cs.zipIdx.foldl (fun s e => if e.2 < 8 then s.mirClass e.2 e.1 else s) s
  | .setup off staged v => if mirReg off then s.mirSetup off staged v else s
  | .cult off ws => ws.zipIdx.foldl (fun s e => if off + e.2 < 8192 then s.setCult (off + e.2) e.1 else s) s
  | .chan first cs => cs.zipIdx.foldl (fun s e => if first + e.2 < 1040 then s.mirChan (first + e.2) e.1 else s) s
  | .cueAdd idx o acc d => s.mirCue idx o.toNat acc d
  | .cueDone idx _ => s.freeCue idx
  | .ripSnap r => s.modTwin (fun t => { t with ripSnaps := tabSet none t.ripSnaps r.n (some r) })
  | .harpSnap n pocket tx =>
    let s := pocket.zipIdx.foldl (fun s e => if e.2 < 32 then s.setBoth (0x5600 + 4 * (32 * n.val + e.2)) e.1 else s) s
    s.modTwin (fun t => { t with harpSnaps := tabSet none t.harpSnaps n (some (pocket, tx)) })
  | .ozhSnap z => s.modTwin (fun t => { t with ozhSnap := some z })
  | .swap b => s.modTwin (fun t => { t with swapAt := some b })

/-- MIRROR_FRAME_END (R348, R349): the shadow applies the frame, or discards it and asks for a full image. The frame after a discarded one is
taken whatever its MSEQ (DESIGN CHOICE, log entry 44). -/
def Dev.mirrorEnd (s : Dev) (recs : List MirRec) (mseq : BitVec 32) (empty done good : Bool) : Dev :=
  if !(s.twinOn && s.twin.role = .shadow && s.pwr.mode = .shadow) then s
  else if good && (s.twin.fresh || mseq = s.twin.mseq + 1) then
    let s := recs.foldl (fun s r => s.mirApply r) s
    s.modTwin (fun t =>
      let synced := t.synced || done
      { t with mseq := mseq, ackSeq := mseq, fresh := false, synced := synced, resync := t.resync && !done, current := synced && empty })
  else
    (s.modTwin (fun t => { t with resync := true, synced := false, current := false, fresh := true })).twinFlag 4

/-- MIRROR_FRAME_END (R348). -/
def execMirrorFrameEnd (recs : List MirRec) (mseq : BitVec 32) (empty done good : Bool) (s : State) : Host.Outcome State Fault Refusal :=
  onDev (fun s => s.mirrorEnd recs mseq empty done good) s

/-- SNAP_AGE: the largest age of a running Ripener's snapshot, in press periods (R349). -/
def Dev.snapAge (s : Dev) : Nat :=
  satN 8 ((s.twin.ripSnaps.map (fun e => match e.2 with
    | some r => if r.run then (s.wheelN - r.tick) / 4096 else 0
    | none => 0)).foldl max 0)

/-! ### TWIN_CTL -/

/-- The tick by which a remote completion is due, 0 for none (R119, R144). -/
def Dev.remoteDue (s : Dev) (d : Desc) : Nat := if d.flag 3 then s.clk.now + 4096 * s.rf 0x1020 15 0 else 0

/-- A TWIN_CTL action ends with a status. -/
def Dev.twinEnd (s : Dev) (j : Job) (st : Status) : Dev := s.completeNow j st s.twinDetail

/-- PAIR_ACTIVE (Table TWN-3). -/
def Dev.pairActive (s : Dev) (j : Job) : Dev :=
  if s.brMode ≠ 2 || s.twin.role ≠ .unpaired || !(s.pwr.mode = .ready || s.pwr.mode = .run) then s.twinEnd j .state
  else if !s.twin.partner then s.twinEnd j .unreachable
  else s.enterActive.twinEnd j .ok

/-- PAIR_SHADOW (Table TWN-3). -/
def Dev.pairShadow (s : Dev) (j : Job) : Dev :=
  if s.brMode ≠ 2 || s.twin.role ≠ .unpaired || !(s.pwr.mode = .ready || s.pwr.mode = .run) || s.pwr.sleepTo.isSome then s.twinEnd j .state
  else if !s.twin.partner then s.twinEnd j .unreachable
  else if s.twin.pRole ≠ .active then s.twinEnd j .state
  else (s.enterShadow false).twinEnd j .ok

/-- UNPAIR (Table TWN-3): the shadow goes to READY and no longer follows the link. -/
def Dev.unpair (s : Dev) (j : Job) : Dev :=
  if s.brMode ≠ 2 || s.twin.role = .unpaired then s.twinEnd j .state
  else
    let shadow := decide (s.twin.role = .shadow)
    let s := s.dropSwap.modTwin (fun t => { t.fresh0 with role := .unpaired })
    let s := if shadow then (s.discardCues.refGone .twin).modPwr (fun p => if p.mode = .shadow then { p with mode := .ready } else p) else s
    s.twinEnd j .ok

/-- SWAP (R356): the active unit fixes the press; the shadow passes the request to it. -/
def Dev.swapCtl (s : Dev) (j : Job) : Dev :=
  let t := s.twin
  if s.brMode ≠ 2 || t.role = .unpaired || t.swapAt.isSome then s.twinEnd j .state
  else if !t.partner then s.twinEnd j .unreachable
  else if t.role = .active then
    if t.pCurrent then
      let b := ceilDiv s.wheelN 4096 + 4
      (s.modTwin (fun t => { t with swapAt := some b, deltas := t.deltas ++ [.swap b] })).fly j (.swap b)
    else s.twinEnd j .state
  else if t.current then
    let tag := s.ring.tag + 1
    let s := s.modRing (fun r => { r with tag := tag })
    (s.partnerPacket 0x01 tag j.d.bytes).fly j (.swapAsk tag (s.remoteDue j.d))
  else s.twinEnd j .state

/-- STATUS. -/
def Dev.twinStatus (s : Dev) (j : Job) : Dev := s.twinEnd j (if s.brMode ≠ 2 then .state else .ok)

end Sys2Proof.Machine
end

