-- ==== Sys2Proof/Machine/Rind.lean ====
section
/-! DEFINITION. Chapter 15: the Rind. Windows and registration (R404 to R408), records and the ledger (R410 to R415), the event log (R416),
sealing (R417), tamper (R418), its images (R419, R426), the mailbox (R420, R421), and start and stop (R403, R424). -/

namespace Sys2Proof.Machine

/-- A command that acts on the device and on the Rind. -/
def onBoth (f : Dev → Rind → Dev × Rind) (s : State) : Host.Outcome State Fault Refusal :=
  .next { s with dev := (f s.dev s.rind).1.settle, rind := (f s.dev s.rind).2 }

/-! ### Measurement -/

/-- p of a window in µW, as numerator over SHUNT × 10^12 (R404). -/
def pNum (c : Cal) (w : RindWindow) : Int :=
  (w.rawProd - c.ov * w.rawNv - c.oi * w.rawMv + c.oi * c.ov) * (1000000 + c.ki) * (1000000 + c.kv)

/-- i of a window in mA, as numerator over SHUNT × 10^6 (R404). -/
def iNum (c : Cal) (w : RindWindow) : Int := (w.rawNv - c.oi) * (1000000 + c.ki)

/-- v of a window in mV, as numerator over 10^6 (R404). -/
def vNum (c : Cal) (w : RindWindow) : Int := (w.rawMv - c.ov) * (1000000 + c.kv)

/-- The timebase class of a window: 0 CHECKED, 1 UNCHECKED, 2 FAULTED (Table RND-1). -/
def winClass (w : WinResult) : Nat :=
  if w.limp then 2
  else if w.cut then 1
  else if 983040 < ((w.raw.c : Int) - 196608000).natAbs then 2
  else 0

/-- ROSC_CAL (R406). -/
def roscCal (hist : List Nat) : Nat := if hist.isEmpty then 196608000 else roundDiv hist.sum hist.length

/-- The duration d of a window in ticks of the nominal clock (Table RND-1). -/
def winTicks (hist : List Nat) (w : WinResult) : Nat := if winClass w = 0 then w.raw.c else roscCal hist

/-- Whether a window with a calibrated shunt registers nothing: negative power, or below the start threshold (R406). -/
def winIdle (c : Cal) (w : RindWindow) : Bool := decide (pNum c w < 0) || decide (iNum c w < 80000 * 1000000)

/-- The energy of a window of `d` ticks in µWh (R406). -/
def winEnergy (c : Cal) (w : RindWindow) (d : Nat) : Nat :=
  if winIdle c w then 0 else roundDiv ((pNum c w).toNat * d) (c.shunt.toNat * 1000000000000 * 196608000 * 3600)

/-- p in units of 0.1 W (Table RND-10). -/
def winPower (c : Cal) (w : RindWindow) : Int := Int.fdiv (pNum c w) (c.shunt * 100000 * 1000000000000)

/-- The energy of stage `k` in a window (R407), in µWh. -/
def stageEnergy (c : Cal) (w : RindWindow) (d k : Nat) : Nat :=
  roundDiv (w.strUw.getD k 0 * ((1000000 : Int) + tabGet 0 c.kstr k).toNat * d) (1000000 * 196608000 * 3600)

/-! ### Registers in their reported units -/

/-- RTIME in ms, E_IN and E_SUSP in mWh rounded down, ON_S in s (R406). -/
def Rind.rtime (r : Rind) : Nat := r.rtimeUs / 1000
def Rind.eInMwh (r : Rind) : Nat := r.eIn / 1000
def Rind.eSuspMwh (r : Rind) : Nat := r.eSusp / 1000
def Rind.onS (r : Rind) : Nat := r.onUs / 1000000
def Rind.eStrMwh (r : Rind) (k : Nat) : Nat := tabGet 0 r.eStr k / 1000

/-- POLICY bits (Table RND-7). -/
def Rind.tamperEn (r : Rind) : Bool := r.cal.policy.toNat.testBit 1
def Rind.traced (r : Rind) : Bool := r.cal.policy.toNat.testBit 0

/-- Whether RTAMP is watched and reads open (R418). -/
def Rind.tamperOpen (r : Rind) : Bool := r.tamper && r.tamperEn

/-- A flag of the record in progress set (Table RND-4). -/
def Rind.flag (r : Rind) (i : Nat) : Rind := { r with rflags := r.rflags ||| BitVec.ofNat 8 (2 ^ i) }

/-- The flags whose conditions hold at the start of a record's first window. -/
def Rind.flags0 (r : Rind) : Byte := BitVec.ofNat 8 (16 * b2n r.tamperOpen + 32 * b2n r.romOnly + 64 * b2n (!r.sealed))

/-! ### The event log -/

/-- An entry written to the event log (R416). -/
def Rind.logEvent (r : Rind) (code cause : Nat) (detail : List Byte) : Rind :=
  let body := [BitVec.ofNat 8 code, BitVec.ofNat 8 cause] ++ leBytes r.evtcnt 2 ++ leBytes r.recno 4 ++ leBytes r.rtime 6 ++
    (detail ++ List.replicate 34 0).take 34
  let chain := (sha256 (r.chain ++ body)).take 16
  { r with log := tabSet [] r.log (r.evtcnt % 128) (body ++ chain), evtcnt := r.evtcnt + 1, chain := chain }

/-! ### Records -/

/-- What RTAMP reads brought into the event log where TAMPER_EN = 1 and the log does not say it yet (R418). -/
def Rind.noteTamper (r : Rind) : Rind :=
  if !r.tamperEn then { r with tamperTold := false }
  else if r.tamper && !r.tamperTold then { ((r.flag 4).logEvent 0x08 0 []) with tamperTold := true }
  else if !r.tamper && r.tamperTold then { (r.logEvent 0x09 0 []) with tamperTold := false }
  else r

/-- Bytes 20 to 115 of a SEAL record (Table RND-5). -/
def sealBytes (c : Cal) : List Byte :=
  let four (v : Int) : List Byte := leBytes (unsignedBits v 32) 4
  leBytes c.meterId.toNat 8 ++ four c.shunt ++ four c.ki ++ four c.kv ++ four c.oi ++ four c.ov ++ leBytes c.interval 2 ++
    [c.policy.setWidth 8, 0] ++ (upTo 16).flatMap (fun k => four (tabGet 0 c.kstr k))

/-- Bytes 20 to 115 of any other record (Table RND-4). -/
def Rind.recordBytes (r : Rind) (tag wheel : Nat) : List Byte :=
  leBytes r.eInMwh 8 ++ leBytes (r.eInMwh - r.startE) 4 ++ leBytes r.eSuspMwh 4 ++ leBytes r.onS 4 ++ leBytes r.evtcnt 2 ++ leBytes tag 2 ++
    leBytes wheel 8 ++ (upTo 16).flatMap (fun k => leBytes (r.eStrMwh k) 4)

/-- A record of a type, signed (R413, R414). -/
def Rind.recordOf (r : Rind) (type wheel : Nat) : List Byte :=
  let tag := (r.closeTag.getD 0).toNat
  let body := [BitVec.ofNat 8 type, r.rflags] ++ leBytes r.runLr.toNat 2 ++ leBytes r.recno 4 ++ leBytes r.startMs 6 ++ leBytes r.rtime 6 ++
    (if type = 3 then sealBytes r.cal else r.recordBytes tag wheel) ++ r.chain.take 4 ++ r.prev
  body ++ Config.rindSign r.recno body

/-- Whether the record that the next one replaces has not been collected (R415). -/
def Rind.overwrites (r : Rind) : Bool :=
  decide (256 ≤ r.recno) && (match r.ackno with
    | some a => decide (a < r.recno - 256)
    | none => true)

/-- A record ends at this window's end: it is signed, and the next one begins (R412, R413, R415). -/
def Rind.endRecord (r : Rind) (type wheel : Nat) : Rind :=
  let r := if r.overwrites then (r.flag 7).logEvent 0x0A 0 (leBytes (r.recno - 256) 4) else r
  let bytes := r.recordOf type wheel
  { r with
    pendRec := r.pendRec ++ [(r.recno, bytes)], recno := r.recno + 1, prev := (sha256 bytes).take 8, rflags := r.flags0,
    startMs := r.rtime, startE := r.eInMwh, closeTag := none }

/-! ### The Rind's images -/

/-- LR_ID and MBX_IF of the image in one of the Rind's slots (Table FLT-2). -/
def Dev.slotLr (s : Dev) (k : Nat) : BitVec 16 := BitVec.ofNat 16 (s.flashLe (2 + k) 14 2)
def Dev.slotMbx (s : Dev) (k : Nat) : Byte := BitVec.ofNat 8 (s.flashByte (2 + k) 10)

/-- RND_IMG_HASH for a running slot (Table RND-10); the boot ROM's where no image runs. -/
def Dev.slotHash (s : Dev) (rom : Bool) (k : Nat) : List Byte :=
  sha256 (Config.lrPart (if rom then [] else s.slotBytes (2 + k) 0 (min (s.flashLe (2 + k) 20 4) 131072)))

/-- The Rind runs the image of a slot. -/
def Rind.runs (r : Rind) (s : Dev) (k : Nat) : Rind :=
  { r with slot := k, romOnly := false, runLr := s.slotLr k, lastLr := s.slotLr k }

/-- The handed-over image takes over at a window's end (R419): log, IMAGE flag, and a trial of 4 windows. -/
def Rind.takeOver (r : Rind) (s : Dev) (k : Nat) : Rind :=
  let prev := if r.romOnly then none else some r.slot
  let detail := leBytes r.runLr.toNat 2 ++ leBytes (s.slotLr k).toNat 2 ++ (s.slotHash r.romOnly r.slot).take 12 ++
    (s.slotHash false k).take 12
  ({ (r.runs s k).logEvent 0x02 0 detail with trial := some { prev := prev } }).flag 5

/-- A failed image is left for the one before it (R419). -/
def Rind.revert (r : Rind) (s : Dev) (t : RindTrial) : Rind :=
  let r := r.logEvent 0x04 0 (leBytes r.runLr.toNat 2)
  match t.prev with
  | some k => { r.runs s k with trial := none }
  | none => { r with romOnly := true, runLr := 0, trial := none }

/-! ### The window -/

/-- CAL_SET parameters: whether a value is in range, and its effect (Table RND-7). -/
def calFits (param : Nat) (v : Int) : Bool :=
  let within (lo hi : Int) : Bool := decide (lo ≤ v) && decide (v ≤ hi)
  match param with
  | 0 => within 100 100000
  | 1 => within (-50000) 50000
  | 2 => within (-50000) 50000
  | 3 => within (-1000000) 1000000
  | 4 => within (-1000) 1000
  | 5 => within 1 240
  | 6 => within 0 3
  | 7 => true
  | 8 => true
  | p => decide (16 ≤ p) && decide (p ≤ 31) && within (-50000) 50000

def calSetTo (c : Cal) (param : Nat) (v : Int) : Cal :=
  match param with
  | 0 => { c with shunt := v }
  | 1 => { c with ki := v }
  | 2 => { c with kv := v }
  | 3 => { c with oi := v }
  | 4 => { c with ov := v }
  | 5 => { c with interval := v.toNat }
  | 6 => { c with policy := BitVec.ofInt 2 v }
  | 7 => { c with meterId := (c.meterId &&& 0xFFFFFFFF00000000) ||| BitVec.ofNat 64 (unsignedBits v 32) }
  | 8 => { c with meterId := (c.meterId &&& 0x00000000FFFFFFFF) ||| BitVec.ofNat 64 (unsignedBits v 32 * 2 ^ 32) }
  | p => { c with kstr := tabSet 0 c.kstr (p - 16) v }

/-- The parameters with those that wait for the next window end. -/
def Rind.calSoon (r : Rind) : Cal := r.calNext.foldl (fun c e => calSetTo c e.1 e.2) r.cal

/-- The energies and times of a window registered, with its flags and clock events (R405 to R407, R416). `e` is the energy that counts. -/
def Rind.registered (r : Rind) (w : WinResult) (e : Nat) : Rind :=
  let cls := winClass w
  let d := winTicks r.cHist w
  let on := decide (5600 * 1000000 ≤ vNum r.cal w.raw)
  let us := roundDiv (d * 1000000) 196608000
  let r := if cls = 2 && !r.clockFault then { r with clockFault := true, faultRun := 0, faultE := r.eSusp } else r
  let first := decide (cls = 2) && r.faultRun = 0
  let r := { r with
    eIn := if cls = 2 then r.eIn else r.eIn + e, eSusp := if cls = 2 then r.eSusp + e else r.eSusp,
    eStr := forEach (upTo 16) (fun m k => tabSet 0 m k (tabGet 0 m k + stageEnergy r.cal w.raw d k)) r.eStr,
    rtimeUs := r.rtimeUs + us, onUs := if on then r.onUs + us else r.onUs, cls := cls, winCnt := (r.winCnt + 1) % 256,
    cHist := if cls = 0 then (w.raw.c :: r.cHist).take 16 else r.cHist, faultRun := if cls = 2 then r.faultRun + 1 else r.faultRun }
  let met : Byte := BitVec.ofNat 8 (b2n (cls = 2) + 2 * b2n (cls = 1) + 4 * b2n w.raw.overrange)
  let r := { r with rflags := r.rflags ||| r.flags0 ||| met }
  let r := if first then r.logEvent 0x05 (b2n w.limp) (leBytes w.raw.c 4) else r
  if cls = 0 && r.clockFault then
    { (r.logEvent 0x06 0 (leBytes r.faultRun 4 ++ leBytes ((r.eSusp - r.faultE) / 1000) 4)) with clockFault := false }
  else r

/-- What a window's end brings beyond registration: stored parameters, a sealing, and the record it may end (R412, R417, R426). `image` says that
an image has taken over. -/
def Rind.closeWindow (r : Rind) (before wheel : Nat) (image : Bool) : Rind :=
  let step := r.cal.interval * 60000
  let due := decide (before / max step 1 < r.rtime / max step 1)
  let sealing := r.sealReq && !r.romOnly
  let r := { r with
    cal := r.calSoon, calNext := [], sealReq := false,
    nonce := match r.nonce with
      | some (v, n) => if n ≤ 1 then none else some (v, n - 1)
      | none => none }
  let r := if sealing then { r with eIn := 0, eSusp := 0, eStr := [], onUs := 0, rtimeUs := 0, faultE := 0, startE := 0 } else r
  let r :=
    if image then r.endRecord 4 wheel
    else if sealing then r.endRecord 3 wheel
    else if r.closeTag.isSome && !r.romOnly then r.endRecord 2 wheel
    else if due then r.endRecord 1 wheel
    else r
  let r := r.noteTamper
  if sealing then
    let r := { (r.logEvent 0x01 0 (leBytes r.cal.meterId.toNat 8 ++ leBytes r.runLr.toNat 2)) with sealed := true }
    { r with rflags := r.flags0 }
  else r

/-- One window's result taken by the core (R406). With no SHUNT set, the spec states no energy: it is a free value. -/
def rindWindow (s : Dev) (r : Rind) (w : WinResult) : Dev × Rind :=
  let blind := decide (r.cal.shunt = 0)
  let (v, t) := s.draw
  let s := if blind then t else s
  let e := if blind then v.toNat else winEnergy r.cal w.raw (winTicks r.cHist w)
  let p := if blind then v.toInt else winPower r.cal w.raw
  let before := r.rtime
  let was := r.clockFault
  let r := r.registered w e
  let s := s.modBr (fun b => { b with
    clkFault := r.clockFault,
    copy := { b.copy with p := p, rawNv := w.raw.rawNv, rawMv := w.raw.rawMv, clk := clampI (-2147483648) 2147483647 ((w.raw.c : Int) - 196608000) } })
  let s := if r.clockFault && !was && s.mbxOpen then s.eventOk 0x0C01 (r.recno % 2 ^ 32) else s
  match s.br.handed with
  | some k => (s.modBr (fun b => { b with handed := none }), (r.takeOver s k).closeWindow before w.wheel true)
  | none => (s, r.closeWindow before w.wheel false)

/-- The bridge's copies refreshed from the Rind's registers (R422); a change of image is compared with the Steward's MBX_IF (R441). -/
def Dev.refresh (s : Dev) (r : Rind) : Dev :=
  let mbx : Byte := if r.romOnly then 0 else s.slotMbx r.slot
  let changed := s.br.mbx ≠ mbx || !s.br.on
  let s := s.modBr (fun b => { b with
    on := true, clkFault := r.clockFault, mbx := mbx, run := r.slot,
    copy := { b.copy with
      sealed := r.sealed, tamper := r.tamperOpen, romOnly := r.romOnly, cls := r.cls, slot := r.slot, winCnt := r.winCnt, rflags := r.rflags,
      recno := r.recno, ackno := r.ackno.getD 0, evtcnt := r.evtcnt, eIn := r.eInMwh, eSusp := r.eSuspMwh, onS := r.onS, rtime := r.rtime,
      rosc := roscCal r.cHist, lr := r.runLr, mbx := mbx, eStr := forEach (upTo 16) (fun m k => tabSet 0 m k (r.eStrMwh k)) [],
      iStr := r.iStr, cal := r.cal, hash := s.slotHash r.romOnly r.slot } })
  if changed && s.coreOn then s.judgeVersion false else s

/-- The windows of a list taken in order. -/
def rindWindows (s : Dev) (r : Rind) (ws : List WinResult) : Dev × Rind :=
  ws.foldl (fun a w => rindWindow a.1 a.2 w) (s, r)

/-- WHEEL_END: the Wheel at the window's end, 0 without a system clock (Table RND-4). -/
def Dev.wheelEnd (s : Dev) : Nat := if s.clk.running then s.wheelN else 0

/-- The result of the window that ends now, and the next window begun (R404, R405). -/
def Dev.winResult (s : Dev) (w : RindWindow) : WinResult := { raw := w, limp := s.br.limpSeen, cut := s.br.clkCut, wheel := s.wheelEnd }
def Dev.windowBegins (s : Dev) : Dev := s.modBr (fun b => { b with limpSeen := false, clkCut := false })

/-- RIND_WINDOW_END (R405 to R407, R412, R417, R419): an image on trial whose core leaves results with the hardware has 4 windows to complete 2;
otherwise the image before it runs again and takes them. -/
def execRindWindowEnd (w : RindWindow) (s : State) : Host.Outcome State Fault Refusal :=
  onBoth (fun s r =>
    if !r.on then (s, r)
    else match r.trial with
      | none =>
        let (s, r) := rindWindow s.windowBegins r (s.winResult w)
        (s.refresh r, r)
      | some t =>
        let ws := t.held ++ [s.winResult w]
        let s := s.windowBegins
        let n := t.ended + 1
        if w.held && n < 4 then (s, { r with trial := some { t with ended := n, held := ws } })
        else if w.held then
          let (s, r) := rindWindows s (r.revert s t) ws
          (s.refresh r, r)
        else
          let done := t.done + ws.length
          let r := { r with trial := if 2 ≤ done then none else some { t with ended := n, done := done, held := [] } }
          let (s, r) := if 4 ≤ n && done < 2 then rindWindows s (r.revert s t) ws else rindWindows s r ws
          (s.refresh r, r)) s

/-- RND_RECORD (R412, R421): the oldest signed record is complete in the ledger ring, and reported while the mailbox is open. -/
def execRndRecord (s : State) : Host.Outcome State Fault Refusal :=
  onBoth (fun s r =>
    match r.pendRec with
    | (n, bytes) :: rest =>
      if r.on then
        let s := s.modBr (fun b => { b with newest := some n })
        (if s.mbxOpen then s.eventOk 0x0C03 (n % 2 ^ 32) else s, { r with ring := tabSet [] r.ring (n % 256) bytes, pendRec := rest })
      else (s, r)
    | [] => (s, r)) s

/-- RIND_STAGE_CURRENT (R408): each stage's average current over the preceding 65,536 ticks, in mA, passes to STR_. -/
def execRindStageCurrent (ma : List Nat) (s : State) : Host.Outcome State Fault Refusal :=
  onBoth (fun s r =>
    if r.on && s.coreOn && s.clk.running && s.gridNow 65536 0 && !s.isServed .stageCurrent then
      let m := forEach (upTo 16) (fun m k => tabSet 0 m k (ma.getD k 0)) ([] : Tab Nat)
      ((s.serve .stageCurrent).modBr (fun b => { b with stage := m }), { r with iStr := m })
    else (s, r)) s

/-! ### Start, stop and tamper -/

/-- VRIND_LOSS (R403, R411, R424): what is not in the ledger is lost. -/
def execVrindLoss (s : State) : Host.Outcome State Fault Refusal :=
  onBoth (fun s r =>
    if !r.on then (s, r)
    else
      (s.modBr (fun b => { b with
          on := false, clkFault := false, queue := [], recBuf := [], evtBuf := [], stage := [], eInHi := 0, rtimeHi := 0,
          copy := { ({} : RindCopy) with recno := b.copy.recno } }),
        { r with
          on := false, cHist := [], cls := 0, winCnt := 0, closeTag := none, nonce := none, sealReq := false, iStr := [],
          trial := r.trial.map (fun t => { t with held := [] }), lost := (r.recno, r.rtime) })) s

/-- The slot that the Rind's boot ROM runs: the one that ran last, else the other, else none (R403). -/
def Dev.rindSlot (s : Dev) (last : Nat) : Option Nat :=
  if s.imgReason (2 + last) = 0 then some last else if s.imgReason (2 + (1 - last)) = 0 then some (1 - last) else none

/-- VRIND_RISE (R403, R424, R426): the Rind starts, logs SUPPLY_RETURN, and in the boot ROM ROM_ONLY. -/
def execVrindRise (s : State) : Host.Outcome State Fault Refusal :=
  onBoth (fun s r =>
    if r.on then (s, r)
    else
      let s := s.windowBegins
      let r := { r with on := true }
      let r := match s.rindSlot r.slot with
        | some k => if k = r.slot then r.runs s k else { r.runs s k with trial := none }
        | none => { r with romOnly := true, runLr := 0, trial := none }
      let r := (r.logEvent 0x07 0 (leBytes r.lost.1 4 ++ leBytes r.lost.2 6)).flag 3
      let r := if r.romOnly then r.logEvent 0x0C 0 [BitVec.ofNat 8 (s.imgReason 2), BitVec.ofNat 8 (s.imgReason 3)] else r
      let r := { r with rflags := (r.rflags ||| r.flags0) }.noteTamper
      (s.refresh r, r)) s

/-- RTAMP has come to read `open_` (R418); without VRIND nothing is logged until the Rind starts again. -/
def Rind.setTamper (r : Rind) (open_ : Bool) : Rind :=
  let r := { r with tamper := open_ }
  if r.on then r.noteTamper else r

/-- TAMPER_OPEN (R418). -/
def execTamperOpen (s : State) : Host.Outcome State Fault Refusal := onBoth (fun s r => (s, r.setTamper true)) s

/-- TAMPER_CLOSED (R418). -/
def execTamperClosed (s : State) : Host.Outcome State Fault Refusal := onBoth (fun s r => (s, r.setTamper false)) s

/-! ### The mailbox -/

/-- The flight of a request answered: status, RESULT and VALUE beside the flags (R162, R420). A refused request carries no value. -/
def Dev.answerReq (s : Dev) (r : Rind) (m : Msg) (st : Status) (result value : Nat) : Dev :=
  let detail := if st = .ok then result + 256 * (b2n r.sealed + 2 * b2n r.tamperOpen) + 65536 * (value % 2 ^ 32) else 0
  s.landFlightsNow (fun f => match f.await with
    | .rind ref _ => ref = m.ref
    | _ => false) st detail

/-- The Rind serves the request at the front of the mailbox if it is the row's: its arguments, status, RESULT and VALUE (R420). -/
def serveReq (req : Nat) (body : Dev → Rind → List Byte → Status × Nat × Nat × Dev × Rind) (s : State) :
    Host.Outcome State Fault Refusal :=
  onBoth (fun s r =>
    match s.br.queue with
    | m :: rest =>
      if m.req = req && s.mbxOpen && r.on then
        let (st, res, v, t, r') := body (s.modBr (fun b => { b with queue := rest })) r m.args
        (t.answerReq r' m st res v, r')
      else (s, r)
    | [] => (s, r)) s

/-- STATUS (R420): the number of the next record. -/
def execStatus (s : State) : Host.Outcome State Fault Refusal := serveReq 0x01 (fun s r _ => (.ok, 0, r.recno, s, r)) s

/-- A record number that the ring holds (R415). -/
def Rind.heldRec (r : Rind) (n : Nat) : Option (List Byte) :=
  let b := tabGet [] r.ring (n % 256)
  if !b.isEmpty && leAt b 4 4 = n then some b else none

/-- An event number, modulo 2^16, that the log holds (R416). -/
def Rind.heldEvt (r : Rind) (n : Nat) : Option (List Byte) :=
  let b := tabGet [] r.log (n % 128)
  if !b.isEmpty && leAt b 2 2 = n then some b else none

/-- A request for something not held: RESULT 1, and no stated VALUE. -/
def notHeld (s : Dev) (r : Rind) : Status × Nat × Nat × Dev × Rind :=
  let (v, s) := s.draw
  (.ok, 1, v.toNat, s, r)

/-- FETCH (R420): a record into RND_REC. -/
def execFetch (s : State) : Host.Outcome State Fault Refusal :=
  serveReq 0x02 (fun s r a =>
    match r.heldRec (leAt a 0 4) with
    | some b => (.ok, 0, leAt a 0 4, s.modBr (fun x => { x with recBuf := b }), r)
    | none => notHeld s r) s

/-- FETCH_EVENT (R420): an event entry into RND_EVT. -/
def execFetchEvent (s : State) : Host.Outcome State Fault Refusal :=
  serveReq 0x03 (fun s r a =>
    match r.heldEvt (leAt a 0 2) with
    | some b => (.ok, 0, leAt a 0 2, s.modBr (fun x => { x with evtBuf := b }), r)
    | none => notHeld s r) s

/-- ACK (R415, R420): records up to RECNO are collected; a number not yet written is out of range. -/
def execRindAck (s : State) : Host.Outcome State Fault Refusal :=
  serveReq 0x04 (fun s r a =>
    let n := leAt a 0 4
    if n < r.recno then
      let m := max n (r.ackno.getD 0)
      (.ok, 0, m, s, { r with ackno := some m })
    else (.param, 0, 0, s, r)) s

/-- CLOSE_PERIOD (R412, R425): the window in progress ends in a PERIOD record with the TAG. -/
def execClosePeriod (s : State) : Host.Outcome State Fault Refusal :=
  serveReq 0x05 (fun s r a => (.ok, 0, r.recno, s, { r with closeTag := some (BitVec.ofNat 16 (leAt a 0 2)) })) s

/-- CAL_SET (R417, Table RND-7): the value applies from the next window end. -/
def execCalSet (s : State) : Host.Outcome State Fault Refusal :=
  serveReq 0x10 (fun s r a =>
    let param := byteAt a 0
    let raw := leAt a 4 4
    let v := signed raw 32
    if r.sealed then (.security, 0, 0, s, r)
    else if calFits param v then
      (.ok, 0, raw, s, { r with calNext := r.calNext ++ [(param, v)] }.logEvent 0x0B 0 ([BitVec.ofNat 8 param] ++ leBytes raw 4))
    else (.param, 0, 0, s, r)) s

/-- SEAL_PREPARE (R417): a nonce, a free value, valid for 10 windows. -/
def execSealPrepare (s : State) : Host.Outcome State Fault Refusal :=
  serveReq 0x11 (fun s r _ =>
    if r.sealed then (.security, 0, 0, s, r)
    else
      let (v, s) := s.draw
      let n : BitVec 32 := v.setWidth 32
      (.ok, 0, n.toNat, s, { r with nonce := some (n, 10) })) s

/-- SEAL_COMMIT (R417): with the nonce, a SHUNT and a closed enclosure, the Rind seals at the next window end. -/
def execSealCommit (s : State) : Host.Outcome State Fault Refusal :=
  serveReq 0x12 (fun s r a =>
    let good := match r.nonce with
      | some (n, _) => n.toNat = leAt a 0 4
      | none => false
    if r.sealed || !good || r.tamper && (r.calSoon.policy.toNat.testBit 1) || r.calSoon.shunt = 0 then (.security, 0, 0, s, r)
    else (.ok, 0, r.recno, s, { r with sealReq := true, nonce := none })) s

/-! ### The Rind's own image checks -/

/-- The Rind's check beyond R439 (R419): in SEALED, another LR_ID needs LR_UPDATE = TRACED. -/
def Rind.lrCheck (r : Rind) (lr : BitVec 16) : Status :=
  if r.sealed && lr ≠ (if r.romOnly then r.lastLr else r.runLr) && !r.traced then .security else .ok

/-- IMAGE_REFUSED for a failed VERIFY (R416, R419): signature, silicon range, or LR policy. -/
def Rind.refused (r : Rind) (lr : BitVec 16) (reason : Nat) : Rind :=
  let log (k : Nat) : Rind := r.logEvent 0x03 0 (leBytes lr.toNat 2 ++ [BitVec.ofNat 8 k])
  if reason = 3 || reason = 4 then log 0
  else if reason = 5 then log 1
  else if reason = 0 then log 2
  else r

end Sys2Proof.Machine
end

