-- ==== Sys2Proof/Machine/Flags.lean ====
section
/-! DEFINITION. What every status register reads: the words that the read-only fields of each block compose from the state, and the word that
a read of any set-up register returns (Table SCP-3, R16, R20, and the register tables of the chapters). -/

namespace Sys2Proof.Machine

/-! ### Time and power -/

/-- The codes of STATE, WORD_STATE and SRC (Tables WHL-6 and WHL-8). -/
def FState.code : FState → Nat
  | .free => 0
  | .synced => 1
  | .holdover => 2

def WordState.code : WordState → Nat
  | .off => 0
  | .acquire => 1
  | .locked => 2
  | .holdover => 3

def ClkSrc.code : ClkSrc → Nat
  | .xtal => 0
  | .refclk => 1
  | .limp => 2

/-- TMP_BUSY: TMP_EN as it is in force (R47). -/
def Dev.tmpBusy (s : Dev) : Bool := s.rb 0x440 0

/-- WHL_ (Tables WHL-5 to WHL-11). -/
def Dev.whlWord (s : Dev) (off : Nat) : Word :=
  let c := s.clk
  match off with
  | 0x400 => c.wheel.setWidth 32
  | 0x404 => c.nowHi
  | 0x408 => at_ c.role.code 0 ||| at_ c.fstate.code 4 ||| bitAt c.limp 8
  | 0x414 => at_ c.src.code 0 ||| bitAt c.pllLock 2 ||| bitAt s.wordBusy 3 ||| at_ c.wordState.code 4 |||
      bitAt (s.rb 0x410 0 && c.role ≠ .master) 6 ||| at_ (unsignedBits c.wordSteer 16) 16
  | 0x424 => at_ (unsignedBits c.lastErr 16) 0
  | 0x428 => c.woscCal
  | 0x44C => at_ (s.tempo.pq / 65536) 0
  | 0x450 => at_ (s.tempo.pq % 65536) 0
  | 0x454 => s.tempo.beat
  | 0x458 => at_ s.tempo.st.code 0 ||| bitAt s.tmpBusy 2
  | _ => 0

/-- PWR_ (Table MOD-9, Table MOD-10). -/
def Dev.pwrWord (s : Dev) (off : Nat) : Word :=
  let p := s.pwr
  match off with
  | 0x800 => at_ p.mode.code 0 ||| bitAt s.transBusy 3 ||| at_ p.cause.toNat 4 ||| bitAt p.retValid 9
  | 0x820 => at_ p.wakeCause 0 ||| at_ p.wakePin 4 ||| bitAt p.fromDoze 9
  | 0x824 => at_ p.pgoodFails 0 ||| at_ p.clkAttempts 4 ||| at_ p.lastFail 8
  | 0x828 => p.wakeTime
  | _ => 0

/-! ### Rings -/

/-- ENG_BUSY: some ring does not read STOPPED (R137). -/
def Dev.engBusy (s : Dev) : Bool :=
  (upTo 8).any (fun n => (s.curdOf n).st ≠ .stopped) || (upTo 4).any (fun m => (s.wheyOf m).st ≠ .stopped)

/-- RING_ (Tables RING-4 to RING-8). -/
def Dev.ringWord (s : Dev) (off : Nat) : Word :=
  let r := s.ring
  if off = 0x1000 then at_ s.ifMinor 0 ||| at_ s.ifMajor 8 ||| at_ r.servedMinor.toNat 16 ||| at_ r.abiState 24
  else if off = 0x100C then bitAt s.engBusy 0 ||| at_ r.cues.length 16
  else if off = 0x1014 then r.errAddr.setWidth 32
  else if off = 0x1018 then (r.errAddr >>> 32).setWidth 32
  else if off = 0x101C then at_ r.lostEvt 0 ||| at_ r.lostCpl 16
  else if 0x1100 ≤ off && off < 0x1200 && off % 32 = 0x18 then
    let n := (off - 0x1100) / 32
    at_ (s.curdState (Fin.ofNat 8 n)).code 16 ||| at_ (s.curdOf n).err 20
  else if 0x1200 ≤ off && off < 0x1280 && off % 32 = 0x18 then
    let m := (off - 0x1200) / 32
    at_ (s.wheyState m).code 24 ||| at_ (s.wheyOf m).err 28
  else 0

/-! ### Strings, matrix and colour -/

/-- Bits [i] of a word from a test of each number. -/
def bitsWhere (n : Nat) (p : Nat → Bool) : Nat := ((upTo n).filter p).foldl (fun a i => a + 2 ^ i) 0

/-- STAT.XCHK_OFF: the cross-check is enabled and suspended (R193). -/
def Dev.xchkOff (s : Dev) : Bool := !s.br.on || s.br.clkFault

/-- STR_ (Tables STR-4 to STR-7). -/
def Dev.strWord (s : Dev) (off : Nat) : Word :=
  if off = 0x2024 then at_ (bitsWhere 16 (fun n => (s.strOf n).act)) 0
  else if 0x2100 ≤ off && off < 0x2300 then
    let n := (off - 0x2100) / 32
    let x := s.strOf n
    if off % 32 = 0x10 then
      bitAt (s.strOf (s.leadOf n)).busy 0 ||| bitAt x.pulsed 1 ||| bitAt x.dropout 2 ||| bitAt (x.ovpHit || x.ovpLast) 3 ||| bitAt x.faulted 4 |||
        bitAt s.xchkOff 5 ||| bitAt (s.isMember n) 6 ||| at_ (if s.isMember n then 0 else (s.activePhases n).length) 8 |||
        at_ x.drive.toNat 12
    else if off % 32 = 0x14 then at_ x.vos.toNat 0 ||| at_ x.ima.toNat 16
    else 0
  else 0

/-- MTX_ (Tables MTX-3 and MTX-4). -/
def Dev.mtxWord (s : Dev) (off : Nat) : Word :=
  let m := s.mtx
  if off = 0x3014 then bitAt m.busy 0 ||| bitAt m.driving 1 ||| at_ (m.f % 4) 4 ||| at_ (m.slot % 16) 8 ||| at_ m.code 16
  else if off = 0x3018 then at_ m.minMv.toNat 0 ||| at_ m.minCol.toNat 16
  else if 0x3300 ≤ off && off < 0x3400 then at_ (tabGet 0 m.hdrmCol ((off - 0x3300) / 4)).toNat 0
  else 0

/-- Two signed 16-bit readings packed in a word. -/
def pair16 (a b : Int) : Word := at_ (unsignedBits a 16) 0 ||| at_ (unsignedBits b 16) 16

/-- The temperature that CLS_k.TEMP shows: for SRC 5, that of REF_CH (Table CLR-6). -/
def Dev.shownTemp (s : Dev) (k : Nat) : Int :=
  if s.rf (clsOff k) 2 0 = 5 && s.isVf (s.refCh k) then s.tj16 (s.leadOf (s.refCh k)) else (s.clsOf k).t16

/-- The trim and lamp factor that it shows. -/
def Dev.shownTt (s : Dev) (k : Nat) : Nat := if s.rf (clsOff k) 2 0 = 5 then s.ttOf (s.refCh k) else (s.clsOf k).tt
def Dev.shownLamp (s : Dev) (k : Nat) : Nat := if s.rf (clsOff k) 2 0 = 5 then s.lampOf (s.refCh k) else (s.clsOf k).lamp

/-- CLR_ (Tables CLR-4 to CLR-7). -/
def Dev.clrWord (s : Dev) (off : Nat) : Word :=
  let die (i : Nat) : Int := tabGet 0 s.clr.dieT i
  let ntc (i : Nat) : Int := tabGet 0 s.clr.ntcT i
  if off = 0x3810 then pair16 (die 0) (die 1)
  else if off = 0x3814 then pair16 (die 2) (die 3)
  else if off = 0x3818 then pair16 (ntc 0) (ntc 1)
  else if off = 0x381C then pair16 (ntc 2) (ntc 3)
  else if off = 0x3824 then at_ s.clr.dieFact 0
  else if 0x3840 ≤ off && off < 0x3A40 then
    let k := (off - 0x3840) / 64
    let x := s.clsOf k
    match (off - 0x3840) % 64 with
    | 0x30 => at_ x.state 0 ||| bitAt x.returning 3 ||| bitAt x.probing 4 ||| at_ x.applied 16
    | 0x34 => at_ (unsignedBits (s.shownTemp k) 16) 0 ||| at_ (s.shownTt k) 16
    | 0x38 => at_ (s.shownLamp k) 0 ||| at_ (x.lastSeq.getD 0) 16
    | 0x3C => at_ x.lastRead 0 ||| at_ x.lastGood 16
    | _ => 0
  else if 0x3A40 ≤ off && off < 0x3B40 && off % 16 = 8 then
    let n := (off - 0x3A40) / 16
    at_ (unsignedBits (s.tj16 n) 16) 0 ||| at_ (s.strOf n).vf.toNat 16
  else 0

/-! ### Engines -/

/-- RIP_ (Tables RIP-3 and RIP-4). -/
def Dev.ripWordAt (s : Dev) (off : Nat) : Word :=
  if off = 0x4010 then at_ (bitsWhere 12 (fun n => (s.ripOf n).code ≠ 0)) 0
  else if 0x4100 ≤ off && off < 0x4400 then
    let r := s.ripOf ((off - 0x4100) / 64)
    match (off - 0x4100) % 64 with
    | 0x04 =>
      at_ r.code 0 ||| bitAt r.hostPause 3 ||| bitAt r.dbgPause 4 ||| at_ (match r.handler with
        | some h => h.val
        | none => 0) 6 ||| at_ (bitsWhere 4 (fun h => r.latched h)) 8 ||| at_ r.fcause 12 ||| at_ r.pcShown 16
    | 0x08 => r.trigOvf
    | 0x0C => at_ r.mask.toNat 0
    | 0x10 => r.a 0
    | 0x14 => r.a 1
    | 0x18 => r.a 2
    | 0x1C => r.a 3
    | _ => 0
  else 0

/-- HRP_ (Tables HRP-4 and HRP-5). -/
def Dev.hrpWord (s : Dev) (off : Nat) : Word :=
  if off = 0x500C then at_ (bitsWhere 8 (fun n => (s.harpOf n).st ≠ 0)) 0
  else if off = 0x5020 then at_ (bitsWhere 32 s.pinLevel) 0
  else if 0x5100 ≤ off && off < 0x5300 then
    let n := (off - 0x5100) / 64
    let h := s.harpOf n
    match (off - 0x5100) % 64 with
    | 0x0C => at_ h.st 0 ||| at_ h.pc.toNat 8 ||| at_ h.tx.length 16 ||| at_ h.rx.length 24 ||| bitAt (s.harpUnowned n) 31
    | 0x10 => h.s
    | 0x14 => h.x
    | 0x18 => h.y
    | 0x1C => h.t
    | 0x20 => h.rxOvf
    | _ => 0
  else 0

/-- CAR_ (Tables CAR-4 and CAR-6). -/
def Dev.carWord (s : Dev) (off : Nat) : Word :=
  if off = 0x6008 then at_ (bitsWhere 6 (fun n => (s.carOf n).busy)) 0
  else if 0x6100 ≤ off && off < 0x6280 then
    let c := s.carOf ((off - 0x6100) / 64)
    match (off - 0x6100) % 64 with
    | 0x38 =>
      bitAt c.busy 0 ||| bitAt c.driving 1 ||| bitAt c.cut 2 ||| bitAt c.latched 3 ||| bitAt (s.refreshNow ((off - 0x6100) / 64)) 4 ||| bitAt c.srvStale 5 |||
        at_ c.cNow 12
    | 0x3C => at_ (unsignedBits c.acc 24) 0
    | _ => 0
  else 0

/-- ADC_ (Tables CAR-4 and CAR-7); sequences 0 to 3 run on ADC0 and 4 to 7 on ADC1. -/
def Dev.adcWord (s : Dev) (off : Nat) : Word :=
  if off = 0x680C then
    at_ (bitsWhere 8 (fun q => (s.seqOf q).pend)) 0 ||| at_ (bitsWhere 8 (fun q => (s.seqOf q).running)) 8 |||
      bitAt ((upTo 4).any (fun q => (s.seqOf q).running)) 16 |||
      bitAt ([4, 5, 6, 7].any (fun q => (s.seqOf q).running) || s.ntcConv) 17 ||| bitAt s.ntcConv 18
  else if 0x6900 ≤ off && off < 0x6B00 then
    let q := s.seqOf ((off - 0x6900) / 64)
    let k := (off - 0x6900) % 64
    if k = 0x0C then q.stamp
    else if 0x10 ≤ k && k < 0x20 then
      let j := (k - 0x10) / 2
      at_ (tabGet 0 q.res j).toNat 0 ||| at_ (tabGet 0 q.res (j + 1)).toNat 16
    else if k = 0x20 then at_ q.ovr.toNat 0
    else if k = 0x24 then q.runs
    else 0
  else 0

/-! ### Fabric, twin and radio -/

/-- UPSTREAM_OK as this unit sends it (R314, R334). -/
def Dev.upSent (s : Dev) : Bool := s.fabricOn && (s.isRoot || ((s.portOf 0).link = 2 && s.hoop.upOk))

/-- HOOP_SHIFT_STAT.BUSY: the source runs, or a read of it is outstanding (R340). -/
def Dev.shiftBusy (s : Dev) : Bool := s.rf 0x7200 1 0 ≠ 0 || s.hoop.hdrOut ≠ 0 || !s.hoop.reading.isEmpty

/-- HOOP_ (Tables HOOP-8 and HOOP-11). -/
def Dev.hoopWord (s : Dev) (off : Nat) : Word :=
  let h := s.hoop
  match off with
  | 0x700C =>
    bitAt h.busy 0 ||| bitAt h.enumBusy 1 ||| bitAt s.upSent 2 ||| bitAt (s.fabricOn && s.cutOff) 3 ||| bitAt h.holding 4 |||
      bitAt s.unaddressed 5 ||| bitAt h.dup 6 ||| bitAt h.loop 7 ||| at_ s.depthField 8
  | 0x7018 => at_ h.leadMin 8
  | 0x701C => at_ s.cumField 0
  | 0x7024 => at_ h.found 0 ||| at_ h.dups 16
  | 0x7028 => at_ h.maxDepth 0 ||| at_ h.epoch.toNat 16
  | 0x702C => at_ h.maxCum 0
  | 0x7204 => bitAt s.shiftBusy 0 ||| bitAt (!h.reading.isEmpty) 1
  | 0x7208 => h.gen
  | 0x7248 => at_ h.shiftBad.toNat 0
  | _ =>
    if 0x7100 ≤ off && off < 0x7160 then
      let q := s.portOf ((off - 0x7100) / 32)
      match (off - 0x7100) % 32 with
      | 0x00 => at_ q.link 0 ||| bitAt q.signal 2 ||| at_ q.farId.toNat 16
      | 0x04 => at_ q.dly 0
      | 0x08 => at_ q.codeErr.toNat 0 ||| at_ q.syncBad.toNat 16
      | 0x0C => at_ q.pktErr.toNat 0 ||| at_ q.drop.toNat 16
      | 0x10 => at_ q.txq.length 0
      | _ => 0
    else 0

/-- TWN_ (Table TWN-5). -/
def Dev.twnWord (s : Dev) (off : Nat) : Word :=
  let t := s.twin
  match off with
  | 0x7804 =>
    at_ t.role.code 0 ||| at_ t.pRole.code 2 ||| bitAt t.partner 4 ||| bitAt s.twinCurrent 5 ||| bitAt t.takeBusy 6 ||| bitAt t.resync 7 |||
      at_ (satN 4 t.missed) 8 ||| at_ s.snapAge 16
  | 0x7808 => t.epoch
  | 0x780C => t.pEpoch
  | 0x7814 => at_ t.linkDly 0
  | 0x7818 => if t.role = .shadow then t.ackSeq else t.mseq
  | 0x781C => t.takeTime
  | 0x7820 => at_ t.takeDur.toNat 0
  | _ => 0

/-- OZH_ (Tables OZH-9 to OZH-11). -/
def Dev.ozhWord (s : Dev) (off : Nat) : Word :=
  let z := s.ozh
  match off with
  | 0x8008 =>
    bitAt z.busy 0 ||| at_ z.st 1 ||| bitAt z.nk.isSome 4 ||| bitAt z.jk.isSome 5 ||| bitAt z.switch.isSome 6 ||| at_ z.depth.toNat 8 |||
      at_ s.ozhAddr.toNat 16
  | 0x8034 => at_ (s.asn % 2 ^ 32) 0
  | 0x8038 => at_ z.asnHi.toNat 0
  | 0x803C => at_ (satN 32 z.fc) 0
  | 0x8040 => z.keyIdx
  | 0x8044 => at_ z.parent.toNat 0 ||| at_ (unsignedBits z.rssi 8) 16
  | 0x8048 => at_ (unsignedBits (tabGet {} z.nbrs z.parent.toNat).delta 32) 0
  | 0x8060 => at_ z.crcErr.toNat 0 ||| at_ z.micFail.toNat 16
  | 0x8064 => at_ z.replay.toNat 0 ||| at_ z.noAck.toNat 16
  | 0x8068 => at_ z.ccaBusy.toNat 0 ||| at_ z.hopDrop.toNat 16
  | _ =>
    if 0x8100 ≤ off && off < 0x81A0 then
      let c := (off - 0x8100) / 4
      at_ (tabGet 0 z.chAtt c).toNat 0 ||| at_ (tabGet 0 z.chFail c).toNat 16
    else 0

/-! ### The Rind's window, and faults -/

/-- RND_ as the bridge gives it (Table RND-10, R422): 0 at every offset but RND_HOST while the Rind has no power (R424). -/
def Dev.rndWord (s : Dev) (off : Nat) : Word :=
  let c := s.br.copy
  if !s.br.on then 0
  else if 0x9080 ≤ off && off < 0x90C0 then at_ (tabGet 0 c.eStr ((off - 0x9080) / 4) % 2 ^ 32) 0
  else if 0x90C0 ≤ off && off < 0x9100 then at_ (tabGet 0 c.iStr ((off - 0x90C0) / 4)) 0
  else if 0x9140 ≤ off && off < 0x9180 then at_ (unsignedBits (tabGet 0 c.cal.kstr ((off - 0x9140) / 4)) 32) 0
  else if 0x9200 ≤ off && off < 0x92C0 then at_ (leAt s.br.recBuf (off - 0x9200) 4) 0
  else if 0x92C0 ≤ off && off < 0x9300 then at_ (leAt s.br.evtBuf (off - 0x92C0) 4) 0
  else if 0x9300 ≤ off && off < 0x9340 then at_ (leAt Config.rindPubkey (off - 0x9300) 4) 0
  else if 0x9340 ≤ off && off < 0x9360 then at_ (leAt c.hash (off - 0x9340) 4) 0
  else match off with
    | 0x9000 =>
      bitAt true 0 ||| bitAt c.sealed 1 ||| bitAt s.mbxOpen 2 ||| at_ c.cls 3 ||| bitAt c.tamper 5 ||| at_ c.slot 6 ||| bitAt c.romOnly 7 |||
        at_ c.winCnt 8
    | 0x9004 => at_ c.rflags.toNat 0
    | 0x9008 => at_ (c.recno % 2 ^ 32) 0
    | 0x900C => at_ (c.ackno % 2 ^ 32) 0
    | 0x9010 => at_ (c.evtcnt % 2 ^ 32) 0
    | 0x9014 => at_ (c.eIn % 2 ^ 32) 0
    | 0x9018 => s.br.eInHi
    | 0x901C => at_ (c.eSusp % 2 ^ 32) 0
    | 0x9020 => at_ (c.onS % 2 ^ 32) 0
    | 0x9024 => at_ (c.rtime % 2 ^ 32) 0
    | 0x9028 => s.br.rtimeHi
    | 0x902C => at_ (unsignedBits c.p 32) 0
    | 0x9030 => at_ (unsignedBits c.rawNv 32) 0
    | 0x9034 => at_ (unsignedBits c.rawMv 32) 0
    | 0x9038 => at_ (unsignedBits c.clk 32) 0
    | 0x903C => at_ c.rosc 0
    | 0x9040 => at_ c.lr.toNat 0 ||| at_ c.mbx.toNat 16
    | 0x9100 => at_ (unsignedBits c.cal.shunt 32) 0
    | 0x9104 => at_ (unsignedBits c.cal.ki 32) 0
    | 0x9108 => at_ (unsignedBits c.cal.kv 32) 0
    | 0x910C => at_ (unsignedBits c.cal.oi 32) 0
    | 0x9110 => at_ (unsignedBits c.cal.ov 32) 0
    | 0x9114 => at_ (c.cal.interval % 256) 0 ||| at_ c.cal.policy.toNat 16
    | 0x9118 => c.cal.meterId.setWidth 32
    | 0x911C => (c.cal.meterId >>> 32).setWidth 32
    | _ => 0

/-- A header field of the running Steward image; 0 where none runs. -/
def Dev.runField (s : Dev) (i n : Nat) : Nat := if s.flt.refuse then 0 else s.flashLe s.flt.running i n

/-- A header field of a slot, which an EMPTY slot has not. -/
def Dev.slotField (s : Dev) (k i n : Nat) : Nat := if (s.slotOf k).st = 0 then 0 else s.flashLe k i n

/-- ID_ and FLT_ (Tables FLT-3 and FLT-4). -/
def Dev.fltWord (s : Dev) (off : Nat) : Word :=
  let f := s.flt
  match off with
  | 0x0 => at_ Config.vendor.toNat 0 ||| at_ 0x0D96 16
  | 0x4 => at_ 3 0 ||| at_ 7 8 ||| at_ 1 16
  | 0x8 => at_ 0x21 0
  | 0xC => Config.eui.setWidth 32
  | 0x10 => (Config.eui >>> 32).setWidth 32
  | 0x14 => at_ (s.runField 16 4) 0
  | 0x18 => at_ (s.runField 8 3) 0
  | 0x1C => at_ Config.romVer.toNat 0
  | 0xA000 => bitAt s.faultN 0 ||| bitAt f.dbgHalt 1
  | 0xA004 => at_ f.local_.toNat 0
  | 0xA014 => at_ f.cfgOff.toNat 0 ||| at_ f.cfgSrc.toNat 16
  | 0xA018 => at_ f.cfgCnt.toNat 0
  | 0xA01C => at_ f.last.toNat 0
  | 0xA020 => at_ f.wdogCnt.toNat 0
  | 0xA024 => at_ s.pwr.resetWhy 0
  | 0xA040 =>
    at_ f.verState 0 ||| bitAt f.fellBack 2 ||| bitAt f.mismatch 3 ||| bitAt f.reverted 4 ||| bitAt f.trial 5 ||| at_ f.running 6 |||
      at_ f.active 7 ||| at_ f.reason 8
  | _ =>
    if 0xA080 ≤ off && off < 0xA0C0 then
      let k := (off - 0xA080) / 16
      if 2 ≤ k && !s.br.on then 0
      else match off % 16 with
        | 0x0 => at_ (s.slotOf k).st 0
        | 0x4 => at_ (s.slotField k 16 4) 0
        | 0x8 => at_ (s.slotField k 8 3) 0
        | _ => at_ (s.slotField k 12 2) 0 ||| at_ (s.slotField k 14 2) 16
    else 0

/-! ### A read of a set-up register -/

/-- The word that the read-only and sealed fields of the register at an offset compose. -/
def Dev.roWord (s : Dev) (off : Nat) : Word :=
  if off < 0x400 then s.fltWord off
  else if off < 0x800 then s.whlWord off
  else if off < 0x1000 then s.pwrWord off
  else if off < 0x2000 then s.ringWord off
  else if off < 0x3000 then s.strWord off
  else if off < 0x3800 then s.mtxWord off
  else if off < 0x4000 then s.clrWord off
  else if off < 0x5000 then s.ripWordAt off
  else if off < 0x6000 then s.hrpWord off
  else if off < 0x6800 then s.carWord off
  else if off < 0x7000 then s.adcWord off
  else if off < 0x7800 then s.hoopWord off
  else if off < 0x8000 then s.twnWord off
  else if off < 0x9000 then s.ozhWord off
  else if off < 0xA000 then s.rndWord off
  else s.fltWord off

/-- Where a read of a field of each class comes from (Table SCP-3). HOOP_ID reads 0 on the root (Table HOOP-8). -/
def Dev.readField (s : Dev) (off : Nat) (ro : Word) (f : Fld) : Nat :=
  match f.acc with
  | .ro => fieldOf ro f.hi f.lo
  | .seal => fieldOf ro f.hi f.lo
  | .live _ => fieldOf (s.written off) f.hi f.lo
  | .staged _ => fieldOf (s.written off) f.hi f.lo
  | .idle _ => if off = 0x7008 && s.isRoot then 0 else s.rf off f.hi f.lo
  | .w1c => s.rf off f.hi f.lo
  | .wo => 0

/-- A 32-bit read of the register at an aligned offset: 0 where no register stands (R16) and while the blocks have no power (R20). -/
def Dev.readReg (s : Dev) (off : Nat) : Word :=
  if s.coreOn then
    let ro := s.roWord off
    (regFields off).foldl (fun w f => setField w f.hi f.lo (s.readField off ro f)) 0
  else 0

end Sys2Proof.Machine
end

