-- ==== Sys2Proof/Machine/Operands.lean ====
section
/-! DEFINITION. The operand forms of set-up traffic: which part of a block an RW-idle field is judged against, which encodings of a field are
not reserved, what each field of a write comes to (Table SCP-3, R12 to R15), and where a refused write is recorded. -/

namespace Sys2Proof.Machine

/-! ### Idle parts (R12) -/

/-- An enable as a read shows it: the last value written (Table SCP-3). -/
def Dev.enRead (s : Dev) (off i : Nat) : Bool := (s.written off).toNat.testBit i

/-- Whether string `n` is idle: its lead's EN reads 0 and the lead is not busy; a member's own EN is ignored (R195). -/
def Dev.strIdle (s : Dev) (n : Nat) : Bool := !s.enRead (strOff (s.leadOf n)) 0 && !(s.strOf (s.leadOf n)).busy

/-- Whether Harp `n` is idle (R279). -/
def Dev.harpIdle (s : Dev) (n : Nat) : Bool := !s.enRead (hrpOff n) 0 && (s.harpOf n).st = 0

/-- Whether the part of a block that the field at an offset is judged against is idle (R12, and each chapter's rule on parts); `v` is the
value to be written. A pin changes hands between two idle Harps (R264). -/
def Dev.partIdle (s : Dev) (off v : Nat) : Part → Bool
  | .whlWord => !s.enRead 0x410 0 && !s.wordBusy
  | .whlTmp => !s.enRead 0x440 0 && !s.tmpBusy
  | .ringEng => !s.enRead 0x1008 0 && !s.engBusy
  | .curd => let n := (off - 0x1100) / 0x20; !s.enRead (curdOff n + 0x18) 0 && (s.curdOf n).st = .stopped
  | .whey => let m := (off - 0x1200) / 0x20; !s.enRead (wheyOff m + 0x18) 0 && (s.wheyOf m).st = .stopped
  | .str => s.strIdle ((off - 0x2100) / 0x20)
  | .strBankA => (upTo 8).all s.strIdle
  | .strBankB => (upTo 8).all (fun n => s.strIdle (n + 8))
  | .mtx => !s.enRead 0x3000 0 && !s.mtx.busy
  | .clr => let k := (off - 0x3840) / 0x40; !s.enRead (clsOff k) 8 && (s.clsOf k).state = loopOff
  | .rip => (s.ripOf ((off - 0x4100) / 0x40)).code = 0
  | .hrp => s.harpIdle ((off - 0x5100) / 0x40)
  | .hrpMem16 => s.harpIdle ((off - 0x5400) / 0x40)
  | .hrpMem32 => s.harpIdle ((off - 0x5600) / 0x80)
  | .pinOwn j =>
    let own := s.pinOwner (8 * ((off - 0x5010) / 4) + j)
    (own = 8 || s.harpIdle own) && (v = 8 || s.harpIdle v)
  | .car => let n := (off - 0x6100) / 0x40; !s.enRead (carOff n) 0 && !(s.carOf n).busy
  | .seq => let q := (off - 0x6900) / 0x40; !s.enRead (seqOff q) 0 && !(s.seqOf q).pend && !(s.seqOf q).running
  | .hoopFab => !s.enRead 0x7000 0 && !s.hoop.busy
  | .hoopShift => s.rf 0x7200 1 0 = 0 && !s.shiftBusy
  | .ozh => !s.enRead 0x8000 0 && !s.ozh.busy

/-! ### Reserved encodings (R15) -/

/-- Whether the encoding `v` of a field is not reserved; `w` is the register's word as the write leaves it. A SIZE that would leave the BASE in
force misaligned is taken as reserved too (DESIGN CHOICE, log entry 62). -/
def Dev.legalNow (s : Dev) (off : Nat) (w : Word) (v : Nat) : Legal → Bool
  | .any => true
  | .range lo hi => decide (lo ≤ v) && decide (v ≤ hi)
  | .oneOf vs => vs.contains v
  | .align8 => v % 8 = 0
  | .beMin => decide (1 ≤ v) && decide (v ≤ 5) && decide (v ≤ fieldOf w 10 8)
  | .beMax => decide (1 ≤ v) && decide (v ≤ 5) && decide (fieldOf w 6 4 ≤ v)
  | .ccaThr => decide (-90 ≤ signed v 8) && decide (signed v 8 ≤ -50)
  | .txpwr => decide (-20 ≤ signed v 8) && decide (signed v 8 ≤ 10)
  | .curdBase => v % min (32 * 2 ^ s.rf (off + 0x18) 4 1) 4096 = 0
  | .wheyBase => v % min (16 * 2 ^ s.rf (off + 0x18) 4 1) 4096 = 0
  | .curdSize => decide (4 ≤ v) && decide (v ≤ 12) && (s.force (off - 0x18)).toNat % min (32 * 2 ^ v) 4096 = 0
  | .wheySize => decide (4 ≤ v) && decide (v ≤ 12) && (s.force (off - 0x18)).toNat % min (16 * 2 ^ v) 4096 = 0
  | .even => v % 2 = 0
  | .harpInstr => harpLegal v
  | .iset => v = 0 || decide (28 ≤ v)
  | .joinBank => v % 2 = 0
  | .link => v = 0 || (off - 0x6100) / 0x40 % 2 = 1
  | .loopLim => decide (fieldOf w 15 0 ≤ fieldOf w 31 16)
  | .ownerCode => decide (v ≤ 2) || (decide (0x10 ≤ v) && decide (v ≤ 0x1B))
  | .rebaseThr => decide (fieldOf (s.written 0x41C) 23 0 ≤ v)
  | .stepThr => decide (v ≤ (s.written 0x420).toNat)
  | .routeRange => decide (fieldOf w 11 0 ≤ v)
  | .shiftLen => v % 2 = 0 && decide (v ≤ 8192)
  | .shortVMtx => v = 0 || (decide (5 ≤ v) && decide (v ≤ 120))
  | .shortVStr => v = 0 || (decide (2 ≤ v) && decide (v ≤ 200))
  | .slope => v = 0 || (decide (5 ≤ v) && decide (v ≤ 100))
  | .srvHi => decide (fieldOf (s.written (off - 4)) 19 0 ≤ v)

/-! ### What a write of one field comes to -/

/-- The blocks whose set-up a shadow takes from its partner (R346, R350). -/
def mirBlock (off : Nat) : Bool :=
  (decide (0x2000 ≤ off) && decide (off < 0x7000)) || (decide (0x440 ≤ off) && decide (off ≤ 0x448))

/-- Whether a field takes writes from a unit in SHADOW: a W1C bit does, the rest of a mirrored block's set-up does not (R350). -/
def Dev.shadowRefuses (s : Dev) (off : Nat) : Bool := s.pwr.mode = .shadow && mirBlock off

/-- Whether this write would set ENG_EN before the host's ABI is accepted (R126). -/
def Dev.abiRefuses (s : Dev) (off : Nat) (f : Fld) (v : Nat) : Bool :=
  off = 0x1008 && f.lo = 0 && v = 1 && !s.enRead 0x1008 0 && s.ring.abiState ≠ 1

/-- Whether this write would enable a ring that the update-only form has not (R127); it is refused with status PARAM, as a reserved value is
(DESIGN CHOICE, log entry 62). -/
def Dev.updateRefuses (s : Dev) (off : Nat) (f : Fld) (v : Nat) : Bool :=
  s.flt.refuse && f.lo = 0 && v = 1 &&
    ((upTo 8).any (fun n => n ≠ 0 && off = curdOff n + 0x18) || (upTo 4).any (fun m => m ≠ 0 && off = wheyOff m + 0x18))

/-- How the write of value `v` to one field is refused; none where it is accepted or ignored (R10, R12, R15, R126). A write of the shift
source's own enable is judged as an enable is (R340). -/
def Dev.fieldRefused (s : Dev) (off : Nat) (w : Word) (f : Fld) (v : Nat) : Option Status :=
  let judged := if s.legalNow off w v f.legal then none else some .param
  match f.acc with
  | .ro => none
  | .w1c => none
  | .seal => some .locked
  | .wo => if s.shadowRefuses off && v ≠ 0 then some .locked else none
  | .live _ =>
    if s.shadowRefuses off then some .locked
    else if s.abiRefuses off f v then some .version
    else if s.updateRefuses off f v then some .param
    else judged
  | .staged _ => if s.shadowRefuses off then some .locked else judged
  | .idle p =>
    if s.shadowRefuses off then some .locked
    else if v = s.readField off 0 f then none
    else if off = 0x7200 && f.lo = 0 then (if v = 1 && s.shiftBusy && s.rf 0x7200 1 0 = 0 then some .locked else judged)
    else if s.partIdle off v p then judged else some .locked

/-- Whether a mask selects some bit of a field (R166); a register write selects all. -/
def Fld.touched (f : Fld) (mask : Word) : Bool := fieldOf mask f.hi f.lo ≠ 0

/-- The one status that a write refused on some field reports: LOCKED (or VERSION) before PARAM (R12, R15, R126). -/
def Dev.writeRefused (s : Dev) (off : Nat) (w mask : Word) : Option Status :=
  let bad := (regFields off).filterMap (fun f => if f.touched mask then s.fieldRefused off w f (fieldOf w f.hi f.lo) else none)
  if bad.contains .locked then some .locked
  else if bad.contains .version then some .version
  else if bad.contains .param then some .param
  else none

/-! ### Where a refused write is recorded (R12) -/

/-- The register that holds CFG_REJECT in the block of an offset; the ID_ and FLT_ blocks have none (R446). -/
def rejectOff (off : Nat) : Option Nat :=
  if off < 0x400 then none
  else if off < 0x800 then some 0x42C
  else if off < 0x1000 then some 0x82C
  else if off < 0x2000 then some 0x1010
  else if off < 0x3000 then some 0x2020
  else if off < 0x3800 then some 0x301C
  else if off < 0x4000 then some 0x3828
  else if off < 0x5000 then some 0x4008
  else if off < 0x6000 then some 0x5008
  else if off < 0x6800 then some 0x6004
  else if off < 0x7000 then some 0x6808
  else if off < 0x7800 then some 0x7010
  else if off < 0x8000 then some 0x7810
  else if off < 0x9000 then some 0x800C
  else if off < 0xA000 then some 0x9044
  else none

/-- The block's CFG_REJECT set and the offset and source recorded (R12, Table FLT-4). -/
def Dev.recordReject (s : Dev) (src : BitVec 16) (off : Nat) : Dev :=
  let s := match rejectOff off with
    | some r => s.setFlag r 31
    | none => s
  s.modFlt (fun f => { f with cfgOff := BitVec.ofNat 16 off, cfgSrc := src, cfgCnt := satInc f.cfgCnt })

/-- A write rejected outside a SETUP_WRITE: recorded, and reported as event CFG_REJECTED (R12, Table DSC-8). -/
def Dev.rejectWrite (s : Dev) (src : BitVec 16) (off : Nat) (st : Status) : Dev :=
  (s.recordReject src off).event 0x0001 st (off + 65536 * src.toNat)

end Sys2Proof.Machine
end

