-- ==== Sys2Proof/Machine/Setup.lean ====
section
/-! DEFINITION. Set-up traffic (R9 to R20, R128): register writes and reads with their side effects, strobes and clears, over BAR0, BAR2, the
Hoop and SETUP_WRITE. Every row of a write goes through `Dev.writeReg`. -/

namespace Sys2Proof.Machine

/-! ### Strobes and clears -/

/-- Whether an offset lies in a range. -/
def inRange (lo hi off : Nat) : Bool := decide (lo ≤ off) && decide (off < hi)

/-- The accepted bits of W1C and WO fields that a write carries as 1. A sticky bit that its condition sets on this tick ends the tick
set (R19). -/
def Dev.oneBits (s : Dev) (off : Nat) (w mask : Word) : Word :=
  (regFields off).foldl (fun m f =>
    match f.acc, s.fieldRefused off w f (fieldOf (w &&& mask) f.hi f.lo) with
    | .w1c, none => m ||| (maskW f.hi f.lo &&& w &&& mask &&& ~~~ s.setNow off)
    | .wo, none => m ||| (maskW f.hi f.lo &&& w &&& mask)
    | _, _ => m) 0

/-- One action where a bit of a strobe word is set. -/
def strobe (b : Word) (i : Nat) (f : Dev → Dev) (s : Dev) : Dev := if b.toNat.testBit i then f s else s

/-- HOOP_CMD (R328, R329, R341): the slice fields take effect at once; ENUM acts on the root; RSW_GO waits for the press. DESIGN CHOICE (log
entry 61): several strobes of one write act in the order of their bits. -/
def Dev.hoopCmd (s : Dev) (b : Word) : Dev :=
  let own := inRange 0x7000 0x7800
  let s := strobe b 0 (fun s => (s.commitWhere own).applyCommit own) s
  let s := strobe b 1 (fun s => if s.isRoot then s.enumRequest else s) s
  strobe b 2 (fun s => s.modHoop (fun h => { h with rswGo := true })) s

/-- OZH_CMD (R385, R396, R400, R401). DESIGN CHOICE (log entry 61): several strobes of one write act in the order of their bits. -/
def Dev.ozhCmd (s : Dev) (b : Word) : Dev :=
  strobe b 4 Dev.statClr (strobe b 3 Dev.ozhRekey (strobe b 2 Dev.ozhLeave (strobe b 1 Dev.ozhJoin (strobe b 0 Dev.ozhCommit s))))

/-- What the bits written as 1 to the W1C and WO fields of a register do, after the write's fields are stored (DESIGN CHOICE, log entry
61). -/
def Dev.strobes (s : Dev) (off : Nat) (b : Word) : Dev :=
  if b = 0 then s
  else if inRange 0x3200 0x3280 off then s.mtxFltClear false ((off - 0x3200) / 4) b
  else if inRange 0x3280 0x3300 off then s.mtxFltClear true ((off - 0x3280) / 4) b
  else match off with
    | 0x808 => s.restartCmd
    | 0x2004 => s.commitWhere (inRange 0x2000 0x3000)
    | 0x2010 => s.strFltClear false (b.setWidth 16)
    | 0x2014 => s.strFltClear true (b.setWidth 16)
    | 0x2018 => s.strPhClear false (b.setWidth 16)
    | 0x201C => s.strPhClear true (b.setWidth 16)
    | 0x3004 => s.commitWhere (inRange 0x3000 0x3800)
    | 0x3804 => strobe b 8 (fun s => s.commitWhere (inRange 0x3800 0x4000)) (s.clrArm (b.setWidth 8))
    | 0x4004 => s.commitWhere (inRange 0x4000 0x5000)
    | 0x5004 =>
      forEach (upTo 8) (fun s n => strobe b (8 + n) (fun s => s.flushRx n) (strobe b n (fun s => s.flushTx n) s)) s
    | 0x6004 => (s.carLatchClear (fieldOf b 13 8)).clearFlags off (b &&& ~~~ maskW 13 8)
    | 0x6804 => s.adcStart (fieldOf b 7 0)
    | 0x7004 => s.hoopCmd b
    | 0x8004 => s.ozhCmd b
    | 0xA008 => s.fltDevClear (b.setWidth 2)
    | _ => s.clearFlags off b

/-! ### The fields that a write stores -/

/-- One accepted field stored; an owner byte acts as an OWNER with HANDOFF 0 (R237). -/
def Dev.storeOne (s : Dev) (off : Nat) (f : Fld) (v : Nat) : Dev :=
  match f.acc with
  | .live (.owner j) => s.setOwner (4 * ((off - 0x4400) / 4) + j) v false
  | _ => s.storeField off f v

/-- The accepted fields of a write stored (R10, R13, R14); all are judged on the state before the write. -/
def Dev.storeAll (s : Dev) (off : Nat) (w mask : Word) : Dev :=
  (regFields off).foldl (fun t f =>
    let v := fieldOf w f.hi f.lo
    if f.touched mask && (s.fieldRefused off w f v).isNone then t.storeOne off f v else t) s

/-- Pins whose owner the write changed become high-Z inputs (R264). -/
def Dev.pinsChanged (old s : Dev) (r : Nat) : Dev :=
  s.floatPins (BitVec.ofNat 32 (bitsWhere 32 (fun p => p / 8 = r && s.pinOwner p ≠ old.pinOwner p)))

/-- What an accepted write does beside storing its fields: owners, joined queues, colour sources, the ABI and mode requests (R82, R126,
R230, R264, R273). -/
def Dev.afterStore (old s : Dev) (off : Nat) (w mask : Word) : Dev :=
  if inRange 0x5010 0x5020 off then old.pinsChanged s ((off - 0x5010) / 4)
  else if inRange 0x5100 0x5300 off && off % 0x40 = 0 then
    let n := (off - 0x5100) / 0x40
    if s.rf off 17 16 ≠ old.rf off 17 16 then (s.flushTx n).flushRx n else s
  else if inRange 0x3840 0x3A40 off && (off - 0x3840) % 0x40 = 0 then
    s.srcChange ((off - 0x3840) / 0x40) (old.rf off 2 0) (s.rf off 2 0)
  else if off = 0x1004 && (old.writeRefused off w mask).isNone then s.judgeAbi (s.rf off 15 8) (s.rf off 7 0)
  else if off = 0x804 && mask.toNat % 8 ≠ 0 && (old.writeRefused off w mask).isNone then
    s.modPwr (fun p => { p with request := (modeOfCode (fieldOf w 2 0)).map (fun m => (m, s.clk.now)) })
  else s

/-- The accepted part of a write takes its place: fields, their side effects, then clears and strobes. -/
def Dev.putWord (s : Dev) (off : Nat) (w mask : Word) : Dev :=
  (s.afterStore (s.storeAll off w mask) off w mask).strobes off (s.oneBits off w mask)

/-- Whether a write strobes an OZH_ COMMIT of a mask that stays staged (Table OZH-8). -/
def Dev.maskRefused (s : Dev) (off : Nat) (w mask : Word) : Bool :=
  off = 0x8004 && (w &&& mask).toNat.testBit 0 && s.blockBad

/-! ### Writes -/

/-- A 32-bit aligned set-up write over PCIe or the Hoop (R10 to R20): accepted field by field, with one report of what was refused. -/
def Dev.writeReg (s : Dev) (src : BitVec 16) (off : Nat) (w : Word) : Dev :=
  if (regRow off).isNone then s
  else if !s.coreOn then s.rejectWrite src off .locked
  else
    let all := BitVec.allOnes 32
    let t := s.putWord off w all
    match s.writeRefused off w all with
    | some st => t.rejectWrite src off st
    | none => if s.maskRefused off w all then t.rejectWrite src off .param else t

/-- A masked read-modify-write, which takes effect whole or not at all (R166): its status, and the state. -/
def Dev.setupWrite (s : Dev) (src : BitVec 16) (off : Nat) (value mask : Word) : Status × Dev :=
  if (regRow off).isNone then (.ok, s)
  else if !s.coreOn then (.locked, s.recordReject src off)
  else
    let w := (s.readReg off &&& ~~~ mask) ||| (value &&& mask)
    match s.writeRefused off w mask with
    | some st => (st, s.recordReject src off)
    | none =>
      let t := s.putWord off w mask
      if s.maskRefused off w mask then (.param, t.recordReject src off) else (.ok, t)

/-- Whether some byte of an access falls on an offset that holds a register (R9, R16). -/
def anyRegister (off size : Nat) : Bool := (upTo size).any (fun i => (regRow ((off + i) / 4 * 4)).isSome)

/-- A BAR0 write (R9): 32 bits aligned, 64 bits aligned as two, anything else rejected or ignored. -/
def Dev.writeBar0 (s : Dev) (src : BitVec 16) (off size : Nat) (v : BitVec 64) : Dev :=
  if size = 4 && off % 4 = 0 then s.writeReg src off (v.setWidth 32)
  else if size = 8 && off % 8 = 0 then (s.writeReg src off (v.setWidth 32)).writeReg src (off + 4) ((v >>> 32).setWidth 32)
  else if anyRegister off size then s.rejectWrite src off .locked
  else s

/-- A 32-bit word of the MSI-X table written (R104, R123). -/
def Dev.writeMsix (s : Dev) (off : Nat) (w : Word) : Dev :=
  let v := (off - 0x800) / 16
  let x := s.msixOf v
  match off % 16 with
  | 0 => s.setMsix v { x with addr := (x.addr >>> 32 <<< 32) ||| w.setWidth 64 }
  | 4 => s.setMsix v { x with addr := (w.setWidth 64 <<< 32) ||| (x.addr.setWidth 32).setWidth 64 }
  | 8 => s.setMsix v { x with data := w }
  | _ => if w.toNat.testBit 0 then s.setMsix v { x with mask := true } else if x.mask then s.unmask v else s

/-- A BAR2 write (R104, R105): NUDGE, and the MSI-X table; anything else is ignored. -/
def Dev.writeBar2 (s : Dev) (off size : Nat) (v : BitVec 64) : Dev :=
  if !s.coreOn then s
  else if off = 0 && size = 4 then s.nudge (v.setWidth 32)
  else if inRange 0x800 0x880 off && size = 4 && off % 4 = 0 then s.writeMsix off (v.setWidth 32)
  else if inRange 0x800 0x880 off && size = 8 && off % 8 = 0 then
    (s.writeMsix off (v.setWidth 32)).writeMsix (off + 4) ((v >>> 32).setWidth 32)
  else s

/-! ### Reads -/

/-- What a read of a register latches (R45, R401, R422). -/
def Dev.latchHi (s : Dev) (off : Nat) : Dev :=
  if !s.coreOn then s
  else match off with
    | 0x400 => s.modClk (fun c => { c with nowHi := (c.wheel >>> 32).setWidth 32 })
    | 0x8034 =>
      let hi : Nat := s.asn / 2 ^ 32
      s.modOzh (fun z => { z with asnHi := BitVec.ofNat 8 hi })
    | 0x9014 => s.modBr (fun b => { b with eInHi := BitVec.ofNat 32 (b.copy.eIn / 2 ^ 32) })
    | 0x9024 => s.modBr (fun b => { b with rtimeHi := BitVec.ofNat 32 (b.copy.rtime / 2 ^ 32) })
    | _ => s

/-- The four bytes that a read of the register at an aligned offset returns, and what it latches. -/
def Dev.readWord (s : Dev) (off : Nat) : List Byte × Dev := (leBytes (s.readReg off).toNat 4, s.latchHi off)

/-- The registers of `n` words from an aligned offset on, read in ascending order. -/
def Dev.readWords (s : Dev) (off : Nat) : Nat → List Byte × Dev
  | 0 => ([], s)
  | n + 1 =>
    let r := s.readWord off
    let q := r.2.readWords (off + 4) n
    (r.1 ++ q.1, q.2)

/-- A 32-bit word of BAR2 (R104, Table RING-2): the MSI-X table and its Pending Bit Array; NUDGE and the unmapped offsets read 0. -/
def Dev.readBar2Word (s : Dev) (off : Nat) : Word :=
  if !s.coreOn then 0
  else if inRange 0x800 0x880 off then
    let x := s.msixOf ((off - 0x800) / 16)
    match off % 16 / 4 with
    | 0 => x.addr.setWidth 32
    | 1 => (x.addr >>> 32).setWidth 32
    | 2 => x.data
    | _ => bitAt x.mask 0
  else if off / 4 = 0x300 then at_ (bitsWhere 8 (fun v => (s.msixOf v).pend)) 0
  else 0

/-- A BAR2 read: each byte comes from the word that contains it; reading changes nothing (R104, R105). -/
def Dev.readBar2 (s : Dev) (off size : Nat) : List Byte :=
  (upTo size).map (fun i => BitVec.ofNat 8 ((s.readBar2Word ((off + i) / 4 * 4)).toNat / 2 ^ (8 * ((off + i) % 4))))

/-- A BAR0 read of any size and alignment: every register that holds one of its bytes is read, the lower address first, with the side
effects of that register's read, and each byte comes from the register that contains it (R9, R16, R45). -/
def Dev.readBar0 (s : Dev) (off size : Nat) : List Byte × Dev :=
  let r := s.readWords (off / 4 * 4) ((off % 4 + size + 3) / 4)
  ((r.1.drop (off % 4)).take size, r.2)

/-- Whether an access touches the register at `reg`. -/
def touches (reg off size : Nat) : Bool := decide (off < reg + 4) && decide (reg < off + size)

/-- A BAR0 read by the host that touches the LO register at `lo`: the reply, and what it latches (R9, R45). -/
def Dev.hostRead (s : Dev) (lo off size : Nat) : Dev :=
  if touches lo off size then (s.readBar0 off size).2.emit (.reply (s.readBar0 off size).1) else s

/-! ### The rows -/

/-- REGISTER_WRITE (R10). -/
def execRegisterWrite (src : BitVec 16) (bar : Bar) (off size : Nat) (val : BitVec 64) (s : State) : Host.Outcome State Fault Refusal :=
  onDev (fun s => match bar with
    | .bar0 => s.writeBar0 src off size val
    | .bar2 => s.writeBar2 off size val) s

/-- WHL_NOW_LO_READ (R45). -/
def execWhlNowLoRead (r : BarRead) (s : State) : Host.Outcome State Fault Refusal := onDev (fun s => s.hostRead 0x400 r.off r.size) s

/-- OZH_ASN_LO_READ (R401). -/
def execOzhAsnLoRead (r : BarRead) (s : State) : Host.Outcome State Fault Refusal := onDev (fun s => s.hostRead 0x8034 r.off r.size) s

/-- RND_E_IN_LO_READ (R422). -/
def execRndEInLoRead (r : BarRead) (s : State) : Host.Outcome State Fault Refusal := onDev (fun s => s.hostRead 0x9014 r.off r.size) s

/-- RND_RTIME_LO_READ (R422). -/
def execRndRtimeLoRead (r : BarRead) (s : State) : Host.Outcome State Fault Refusal := onDev (fun s => s.hostRead 0x9024 r.off r.size) s

/-- NUDGE (R112). -/
def execNudge (val : BitVec 32) (s : State) : Host.Outcome State Fault Refusal := onDev (fun s => s.writeBar2 0 4 (val.setWidth 64)) s

/-- MSIX_UNMASK (R123): the vector's mask bit written as 0, or the function mask of the capability set or cleared. -/
def execMsixUnmask (w : MaskWrite) (s : State) : Host.Outcome State Fault Refusal :=
  onDev (fun s => match w with
    | .vector v => s.writeBar2 (0x80C + 16 * v.val) 4 0
    | .function on => if s.coreOn then s.functionMask on else s) s

/-- RING_ABI_HOST_WRITE (R126). -/
def execRingAbiHostWrite (src : BitVec 16) (val : BitVec 32) (s : State) : Host.Outcome State Fault Refusal :=
  onDev (fun s => s.writeReg src 0x1004 val) s

/-- PWR_MODE_REQ (R82). -/
def execPwrModeReq (src : BitVec 16) (val : BitVec 32) (s : State) : Host.Outcome State Fault Refusal :=
  onDev (fun s => s.writeReg src 0x804 val) s

/-- RESTART (R94). -/
def execRestart (src : BitVec 16) (s : State) : Host.Outcome State Fault Refusal := onDev (fun s => s.writeReg src 0x808 1) s

/-- STR_COMMIT (R196). -/
def execStrCommit (src : BitVec 16) (s : State) : Host.Outcome State Fault Refusal := onDev (fun s => s.writeReg src 0x2004 1) s

/-- MTX_COMMIT (R213). -/
def execMtxCommit (src : BitVec 16) (s : State) : Host.Outcome State Fault Refusal := onDev (fun s => s.writeReg src 0x3004 1) s

/-- CLR_COMMIT (R235). -/
def execClrCommit (src : BitVec 16) (s : State) : Host.Outcome State Fault Refusal := onDev (fun s => s.writeReg src 0x3804 0x100) s

/-- CLR_ARM (R228). -/
def execClrArm (src : BitVec 16) (bits : BitVec 8) (s : State) : Host.Outcome State Fault Refusal :=
  onDev (fun s => s.writeReg src 0x3804 (bits.setWidth 32)) s

/-- RIP_COMMIT (R259). -/
def execRipCommit (src : BitVec 16) (s : State) : Host.Outcome State Fault Refusal := onDev (fun s => s.writeReg src 0x4004 1) s

/-- HOOP_COMMIT (R341). -/
def execHoopCommit (src : BitVec 16) (s : State) : Host.Outcome State Fault Refusal := onDev (fun s => s.writeReg src 0x7004 1) s

/-- OZH_COMMIT (R400). -/
def execOzhCommit (src : BitVec 16) (s : State) : Host.Outcome State Fault Refusal := onDev (fun s => s.writeReg src 0x8004 1) s

/-- FLUSH_TX (R273). -/
def execFlushTx (src : BitVec 16) (bits : BitVec 8) (s : State) : Host.Outcome State Fault Refusal :=
  onDev (fun s => s.writeReg src 0x5004 (bits.setWidth 32)) s

/-- FLUSH_RX (R273). -/
def execFlushRx (src : BitVec 16) (bits : BitVec 8) (s : State) : Host.Outcome State Fault Refusal :=
  onDev (fun s => s.writeReg src 0x5004 (bits.setWidth 32 <<< 8)) s

/-- ADC_START (R298). -/
def execAdcStart (src : BitVec 16) (bits : BitVec 8) (s : State) : Host.Outcome State Fault Refusal :=
  onDev (fun s => s.writeReg src 0x6804 (bits.setWidth 32)) s

/-- HOOP_ENUM (R329). -/
def execHoopEnum (src : BitVec 16) (s : State) : Host.Outcome State Fault Refusal := onDev (fun s => s.writeReg src 0x7004 2) s

/-- RSW_GO (R328). -/
def execRswGo (src : BitVec 16) (s : State) : Host.Outcome State Fault Refusal := onDev (fun s => s.writeReg src 0x7004 4) s

/-- OZH_JOIN (R385). -/
def execOzhJoin (src : BitVec 16) (s : State) : Host.Outcome State Fault Refusal := onDev (fun s => s.writeReg src 0x8004 2) s

/-- OZH_LEAVE (R368). -/
def execOzhLeave (src : BitVec 16) (s : State) : Host.Outcome State Fault Refusal := onDev (fun s => s.writeReg src 0x8004 4) s

/-- OZH_REKEY (R396). -/
def execOzhRekey (src : BitVec 16) (s : State) : Host.Outcome State Fault Refusal := onDev (fun s => s.writeReg src 0x8004 8) s

/-- STAT_CLR (R401). -/
def execStatClr (src : BitVec 16) (s : State) : Host.Outcome State Fault Refusal := onDev (fun s => s.writeReg src 0x8004 16) s

/-- STR_FLT_CLEAR (R189). -/
def execStrFltClear (src : BitVec 16) (short : Bool) (bits : BitVec 16) (s : State) : Host.Outcome State Fault Refusal :=
  onDev (fun s => s.writeReg src (if short then 0x2014 else 0x2010) (bits.setWidth 32)) s

/-- STR_PH_CLEAR (R194). -/
def execStrPhClear (src : BitVec 16) (sense : Bool) (bits : BitVec 16) (s : State) : Host.Outcome State Fault Refusal :=
  onDev (fun s => s.writeReg src (if sense then 0x201C else 0x2018) (bits.setWidth 32)) s

/-- MTX_FLT_CLEAR (R208). -/
def execMtxFltClear (src : BitVec 16) (short : Bool) (w : Fin 32) (bits : BitVec 32) (s : State) : Host.Outcome State Fault Refusal :=
  onDev (fun s => s.writeReg src ((if short then 0x3280 else 0x3200) + 4 * w.val) bits) s

/-- CAR_LATCH_CLEAR (R295). -/
def execCarLatchClear (src : BitVec 16) (bits : BitVec 6) (s : State) : Host.Outcome State Fault Refusal :=
  onDev (fun s => s.writeReg src 0x6004 (bits.setWidth 32 <<< 8)) s

/-- FLT_DEV_CLEAR (R433). -/
def execFltDevClear (src : BitVec 16) (bits : BitVec 2) (s : State) : Host.Outcome State Fault Refusal :=
  onDev (fun s => s.writeReg src 0xA008 (bits.setWidth 32)) s

/-- HRP_PIN_OWN_WRITE (R264). -/
def execHrpPinOwnWrite (src : BitVec 16) (r : Fin 4) (val : BitVec 32) (s : State) : Host.Outcome State Fault Refusal :=
  onDev (fun s => s.writeReg src (0x5010 + 4 * r.val) val) s

/-- RIP_OWN_WRITE (R237). -/
def execRipOwnWrite (src : BitVec 16) (q : Fin 260) (val : BitVec 32) (s : State) : Host.Outcome State Fault Refusal :=
  onDev (fun s => s.writeReg src (0x4400 + 4 * q.val) val) s

/-- A SETW consumed (R328): a SETUP_WRITE without completion; a refused one is reported by an event that names SRC. -/
def Dev.consumeSetw (s : Dev) (p : Packet) : Dev :=
  let off := leAt p.payload 0 2
  let mask := BitVec.ofNat 32 (leAt p.payload 8 4)
  let src : BitVec 16 := p.src.setWidth 16
  if off % 4 ≠ 0 then (if anyRegister off 4 then s.rejectWrite src off .locked else s)
  else match s.setupWrite src off (BitVec.ofNat 32 (leAt p.payload 4 4)) mask with
    | (.ok, t) => t
    | (st, t) => t.event 0x0001 st (off + 65536 * src.toNat)

/-- PKT_SETW (R328). -/
def execPktSetw (k : Fin 3) (r : PktRx) (s : State) : Host.Outcome State Fault Refusal :=
  onDev (fun s => s.pktRecv k r 0x04 (fun s => s.consumeSetw r.packet) id) s

/-- Packets that this unit has originated to its own ID, consumed (R325). -/
def Dev.ownPackets (s : Dev) : Dev :=
  s.hoop.own.foldl (fun s p => match p.type.toNat with
    | 2 => s.consumeCpl p
    | 3 => s.consumeEvt p
    | 4 => s.consumeSetw p
    | _ => s) (s.modHoop (fun h => { h with own := [] }))

end Sys2Proof.Machine
end

