-- ==== Sys2Proof/Machine/Press.lean ====
section
/-! DEFINITION. PRESS_BOUNDARY (R11): what happens at each press, in one order: RW-live fields of the press grid, PRESS latches and their
completions, then the press-grid work of the clock, the Tempo unit, the rings, the engines, the fabric and the twin. -/

namespace Sys2Proof.Machine

/-- What a PRESS does on this unit: hold buffer into shift values, then every staged field of every block committed (R154, R323). A staged
block mask that would leave too few channels stays staged and is reported (R15, Table OZH-8). -/
def Dev.pressLatch (s : Dev) : Dev :=
  let s := s.latchShift.commitWhere (fun off => decide (off < 0x8000))
  let s := s.applyCommit (inRange 0x7000 0x7800)
  let bad := s.blockBad
  let s := s.ozhCommit
  if bad then s.rejectWrite 0xFFFF 0x8014 .param else s

/-- Whether a flight waits for this press (R154, R321). -/
def Flight.pressHere (idx : Nat) (f : Flight) : Bool :=
  match f.await with
  | .press => true
  | .pressFabric b => decide (b ≤ idx)
  | _ => false

/-- The boundary that is the AT_EXEC of a PRESS: the announced one, or this one (R154, R321). -/
def Flight.pressAt (now : Short) (f : Flight) : Short :=
  match f.await with
  | .pressFabric b => BitVec.ofNat 48 (4096 * b)
  | _ => now

/-- PRESS descriptors, and the boundaries that the fabric has announced (R154, R321, R323, R338). -/
def Dev.pressLatches (s : Dev) : Dev :=
  let here := Flight.pressHere s.pressIndex
  let s := if s.ring.flights.any here || s.fabricLatch then s.pressLatch else s
  let fs := s.ring.flights.filter here
  (fs.foldl (fun s f => s.complete f.job .ok (f.pressAt s.short) 0) (s.dropFlights here)).closePress

/-- RIP_TRIG_OVF at the first press after the count rose, at most once per 48 presses (R252). -/
def Dev.ripPress (s : Dev) (n : Nat) : Dev :=
  let r := s.ripOf n
  let quiet := match r.ovfPress with
    | some p => decide (p + 48 ≤ s.pressIndex)
    | none => true
  if r.ovfNew && quiet then
    (s.setRip n { r with ovfNew := false, ovfPress := some s.pressIndex }).eventOk 0x0601 (n + 65536 * r.trigOvf.toNat)
  else s

/-- The press-grid work (R24, R30, R40, R111, R123, R133, R266, R274, R282, R294, R329, R340, R343). -/
def Dev.pressWork (s : Dev) (src bpm : Nat) : Dev :=
  let s := s.slewPress.wordPress
  let s := if s.pwr.mode = .shadow then s else s.tempoPress src bpm
  let s := s.ringPress
  let s := forEach (upTo 12) (fun s n => s.ripPress n) s
  let s := forEach (upTo 8) (fun s n => s.harpPress n) s
  s.carPresses.hoopPress.ownPackets.twinPress.requestPress

/-- A press (R11, Table SCP-4). The always-on domain takes a copy of the Wheel (R95). -/
def Dev.press (s : Dev) : Dev :=
  if !s.pressDue then s
  else
    let s := s.serve .press
    let s := s.modPwr (fun p => { p with wheelCopy := s.clk.wheel })
    if !s.coreOn then s
    else
      let src := s.tempoSrc
      let bpm := s.rf 0x444 15 0
      ((s.applyLive (fun _ g => g = .press)).pressLatches).pressWork src bpm

/-- PRESS_BOUNDARY (R11). -/
def execPressBoundary (s : State) : Host.Outcome State Fault Refusal := onDev (fun s => s.press) s

end Sys2Proof.Machine
end

