-- ==== Sys2Proof/Machine/Payload.lean ====
section
/-! DEFINITION. The forms of a curd descriptor (chapter 05): flags, target classes, the payload of every opcode with its reserved bytes and
ranges (Table DSC-1, Table DSC-2, Table DSC-7), and the modes that refuse an opcode (Table DSC-6). -/

namespace Sys2Proof.Machine

/-- Whether payload bytes `a` to `b - 1` are all 0. -/
def zeroBytes (d : Desc) (a b : Nat) : Bool := (upTo (b - a)).all (fun i => d.b (a + i) = 0)

/-- Whether every number below `n` satisfies a test. -/
def allBelow (n : Nat) (p : Nat → Bool) : Bool := (upTo n).all p

/-- Whether the payload of each opcode is well formed (Table DSC-7). -/
def levelFits (d : Desc) : Bool :=
  let n := d.b 28
  decide (1 ≤ n) && decide (n ≤ 4) && allBelow n (fun i => decide (d.v (12 + 4 * i) 2 ≤ 1039)) &&
    zeroBytes d (12 + 4 * n) 28 && zeroBytes d 29 32

def levelBlockFits (d : Desc) : Bool :=
  let n := d.b 14
  let k := d.b 15
  decide (1 ≤ n) && decide (n ≤ 8) && decide (1 ≤ k) && decide (k ≤ 64) && decide (d.v 12 2 + (n - 1) * k ≤ 1039) &&
    zeroBytes d (16 + 2 * n) 32

def ownerFits (d : Desc) : Bool :=
  decide (1 ≤ d.v 14 2) && decide (d.v 12 2 + d.v 14 2 ≤ 1040) &&
    (decide (d.b 16 ≤ 2) || (decide (0x10 ≤ d.b 16) && decide (d.b 16 ≤ 0x1B))) && decide (d.b 17 ≤ 1) && zeroBytes d 18 32

def ripenFits (d : Desc) : Bool :=
  decide (d.b 12 ≤ 11) && decide (d.b 13 ≤ 4) && decide (d.v 14 2 ≤ 8191) && decide (d.b 16 ≤ 3) && zeroBytes d 17 20 &&
    zeroBytes d 24 32

def cultureFits (d : Desc) : Bool :=
  let n := d.b 14
  decide (1 ≤ n) && decide (n ≤ 4) && decide (d.v 12 2 + n ≤ 8192) && zeroBytes d 15 16 && zeroBytes d (16 + 4 * n) 32

def harpLoadFits (d : Desc) : Bool :=
  let n := d.b 14
  decide (d.b 12 ≤ 7) && decide (1 ≤ n) && decide (n ≤ 8) && decide (d.b 13 + n ≤ 32) && zeroBytes d 15 16 &&
    allBelow n (fun i => harpLegal (d.v (16 + 2 * i) 2)) && zeroBytes d (16 + 2 * n) 32

def harpQueueFits (d : Desc) : Bool :=
  let n := d.b 13
  decide (d.b 12 ≤ 7) && decide (1 ≤ n) && decide (n ≤ 4) && zeroBytes d 14 16 && zeroBytes d (16 + 4 * n) 32

/-- CARRIER_SET: only the values that SET selects are judged (R158, R289). -/
def carrierFits (d : Desc) : Bool :=
  let set := d.b 13
  let val (i : Nat) : Nat := d.v (16 + 4 * i) 4
  decide (d.b 12 ≤ 5) && decide (1 ≤ set) && decide (set ≤ 15) && zeroBytes d 14 16 &&
    allBelow 4 (fun i => !bitOf set i || decide (val i < 2 ^ 20)) &&
    (!bitOf set 0 || (val 0 % 16 = 0 && decide (64 ≤ val 0 / 16))) &&
    (!bitOf set 1 || decide (val 1 ≤ 16 * 65535)) && (!bitOf set 2 || decide (val 2 ≤ 16 * 65535)) &&
    (!bitOf set 3 || val 3 % 16 = 0)

def readFits (d : Desc) : Bool :=
  let i := d.v 14 2
  zeroBytes d 13 14 && zeroBytes d 16 32 &&
    (match d.b 12 with
      | 0 => i % 4 = 0
      | 1 => decide (i ≤ 1039)
      | 2 => decide (i ≤ 8191)
      | 3 => decide (i ≤ 7)
      | _ => false)

def routeFits (d : Desc) : Bool :=
  zeroBytes d 13 14 &&
    (match d.b 12 with
      | 0 => decide (d.v 14 2 ≤ 255) && decide (bits (d.v 16 4) 11 0 ≤ bits (d.v 16 4) 23 12) && zeroBytes d 20 32
      | 1 => decide (d.v 14 2 ≤ 511) && decide (d.b 24 ≤ 3) && zeroBytes d 25 32
      | _ => false)

def radioFits (d : Desc) : Bool :=
  let n := d.b 14
  decide (1 ≤ n) && decide (n ≤ 4) && decide (d.b 15 ≤ 15) && zeroBytes d (16 + n) 32

def tempoFits (d : Desc) : Bool :=
  decide (1 ≤ d.b 12) && decide (d.b 12 ≤ 7) && zeroBytes d 13 14 && zeroBytes d 20 32 &&
    (!bitOf (d.b 12) 2 || (decide (2000 ≤ d.v 14 2) && decide (d.v 14 2 ≤ 40000)))

def fenceFits (d : Desc) : Bool :=
  decide (1 ≤ d.v 12 2) && decide (d.v 12 2 < 1024) && decide (d.b 14 ≤ 1) && zeroBytes d 15 32

def setupFits (d : Desc) : Bool := d.v 12 2 % 4 = 0 && zeroBytes d 14 16 && d.v 20 4 ≠ 0 && zeroBytes d 24 32

def imageFits (d : Desc) : Bool :=
  decide (d.b 12 < 16) &&
    (match d.b 12 % 8 with
      | 0 => zeroBytes d 13 16 && zeroBytes d 20 32
      | 1 => true
      | 2 => zeroBytes d 13 32
      | 3 => zeroBytes d 13 32
      | 4 => zeroBytes d 13 32
      | _ => false)

/-- The payload check of step 3, by opcode (Table DSC-3, Table DSC-7). -/
def payloadFits (d : Desc) : Bool :=
  match d.op.toNat with
  | 0x00 => zeroBytes d 12 32
  | 0x01 => levelFits d
  | 0x02 => levelBlockFits d
  | 0x03 => ownerFits d
  | 0x04 => decide (d.b 12 ≤ 1) && zeroBytes d 13 32
  | 0x05 => ripenFits d
  | 0x06 => cultureFits d
  | 0x07 => harpLoadFits d
  | 0x08 => harpQueueFits d
  | 0x09 => carrierFits d
  | 0x0A => readFits d
  | 0x0B => routeFits d
  | 0x0C => radioFits d
  | 0x0D => zeroBytes d 13 14
  | 0x0E => tempoFits d
  | 0x0F => fenceFits d
  | 0x10 => decide (d.b 12 ≤ 5) && zeroBytes d 13 32
  | 0x11 => setupFits d
  | 0x12 => imageFits d
  | 0x13 => decide (d.b 12 ≤ 1) && zeroBytes d 13 14 && zeroBytes d 16 32
  | 0x14 => decide (d.b 12 ≤ 4) && zeroBytes d 13 32
  | _ => false

/-! ### Targets -/

/-- Where a descriptor executes (Table DSC-2, R142, R143). -/
inductive Dest where
  | self
  | hoop (id : BitVec 12)
  | hoopAll
  | radio (a : BitVec 16)
  | radioAll
  | partner
deriving DecidableEq, Repr

/-- Whether the executing unit is named by TARGET: route-remote is set, and the descriptor did not come over a path, where route-remote
counts as clear (R170). -/
def isRemote (o : Src) (d : Desc) : Bool :=
  d.flag 4 &&
    (match o with
      | .ring _ => true
      | _ => false)

/-- The target class and its bits [11:0]. -/
def tClass (d : Desc) : Nat := d.target.toNat / 4096
def tLow (d : Desc) : Nat := d.target.toNat % 4096

/-- Whether the target class of a route-remote descriptor is not one of HOOP, RADIO and PARTNER as Table DSC-2 has them (R143). -/
def targetBad (d : Desc) : Bool := tClass d = 0 || decide (3 < tClass d) || (tClass d = 3 && tLow d ≠ 0)

/-- The target resolved (R143): this unit's own ID or address is this unit. -/
def Dev.destOf (s : Dev) (o : Src) (d : Desc) : Dest :=
  if !isRemote o d then .self
  else match tClass d with
    | 1 =>
      if tLow d = 0xFFF then .hoopAll
      else if !s.unaddressed && s.hoopId.toNat = tLow d then .self
      else .hoop (BitVec.ofNat 12 (tLow d))
    | 2 =>
      if tLow d = 0xFFF then .radioAll
      else if s.ozhAddr.toNat = tLow d then .self
      else .radio (BitVec.ofNat 16 (tLow d))
    | _ => .partner

/-! ### The first checks -/

/-- The opcodes that do not allow AT-valid, route-remote or a broadcast (Table DSC-6, Table DSC-3). -/
def noAt (op : Nat) : Bool := [0x0D, 0x0F, 0x12, 0x13].contains op
def noRemote (op : Nat) : Bool := [0x0F, 0x13].contains op
def noBroadcast (op : Nat) : Bool := [0x0A, 0x0F, 0x12, 0x0D, 0x13, 0x14].contains op

/-- Check 3 of Table DSC-3. -/
def malformed (o : Src) (d : Desc) : Bool :=
  let op := d.op.toNat
  d.flags.toNat / 32 ≠ 0 || (isRemote o d && (targetBad d || noRemote op)) || !payloadFits d || (d.flag 0 && noAt op) ||
    (isRemote o d && noBroadcast op && tLow d = 0xFFF && (tClass d = 1 || tClass d = 2))

/-- Checks 1 to 3 of Table DSC-3: the status of the first that fails. The ZD96 lacks no option (check 2). -/
def Dev.formRefused (s : Dev) (o : Src) (d : Desc) : Option Status :=
  let op := d.op.toNat
  if s.flt.refuse && !(op = 0x12 || op = 0x0A || op = 0x00) then some .version
  else if decide (0x14 < op) then some .opcode
  else if malformed o d then some .param
  else none

/-- Check 6 of Table DSC-3: whether the present mode refuses the opcode (Table DSC-6). -/
def Dev.modeRefuses (s : Dev) (d : Desc) : Bool :=
  let sh := s.pwr.mode = .shadow
  match d.op.toNat with
  | 0x01 => sh || s.holdDark
  | 0x02 => sh || s.holdDark
  | 0x03 => sh || s.inHold
  | 0x04 => sh || s.inHold
  | 0x05 => sh || s.inHold
  | 0x06 => sh
  | 0x07 => sh
  | 0x08 => sh
  | 0x09 => sh || s.inHold
  | 0x0C => sh || (s.inHold && s.hasCause causeLimp)
  | 0x0E => sh
  | 0x13 => sh
  | _ => false

end Sys2Proof.Machine
end

