-- ==== Sys2Proof/Machine/Accept.lean ====
section
/-! DEFINITION. How the ring engine accepts a descriptor (R115 to R120, R129, R143 to R145): when it may, the checks in their order, the cue
store, the hand-off of a route-remote descriptor, and what is left to execute. -/

namespace Sys2Proof.Machine

/-! ### When a source is served -/

/-- Whether a descriptor of the source waits in execution, so that only cues may follow it (R117, R437, R443). -/
def Dev.stewardWait (s : Dev) (o : Src) : Bool := s.ring.steward.any (fun j => j.isFrom o)

/-- Whether the source's ring runs and may complete: a host ring running with no completion waiting for its whey ring (R125); a local ring
always (R129). -/
def Dev.srcRuns (s : Dev) : Src → Bool
  | .ring n => (s.curdOf n).st = .running && !s.wheyBlocks (s.rf (curdOff n + 0x18) 9 8)
  | _ => true

/-- Whether the ring engine may accept the descriptor at the head of a source now: the mode, sleep entry, one in 32 ticks, fences, and
descriptors in execution (R82, R115, R117, R125, R164, R437). -/
def Dev.mayAccept (s : Dev) (o : Src) (d : Desc) : Bool :=
  s.enginesOn && s.pwr.sleepTo.isNone &&
    (match s.ring.lastAccept with
      | some t => decide (t + 32 ≤ s.clk.now)
      | none => true) &&
    s.srcRuns o && !s.fenceWait o && !s.fenceHolds o && (d.flag 0 || !s.stewardWait o)

/-- The number of a source, in the order in which rings are served (R115). -/
def srcNum : Src → Nat
  | .ring n => n.val
  | .lh => 8
  | .lr => 9

/-- The flags of a source that stalls: RING_STALL told for it, or a Hoop queue without room (R120, R326). -/
def Dev.setTold (s : Dev) (o : Src) : Dev :=
  match o with
  | .ring n => s.modCurd n (fun c => { c with told := true })
  | .lh => s.modRing (fun r => { r with lhTold := true })
  | .lr => s.modRing (fun r => { r with lrTold := true })

def Dev.isTold (s : Dev) : Src → Bool
  | .ring n => (s.curdOf n).told
  | .lh => s.ring.lhTold
  | .lr => s.ring.lrTold

def Dev.setRemWait (s : Dev) (o : Src) : Dev :=
  match o with
  | .ring n => s.modCurd n (fun c => { c with remWait := true })
  | _ => s

/-! ### Taking a descriptor off its ring -/

/-- The ring of the last descriptor of a burst, after its acceptance: the shadow, then the halt that the burst's failing part asks for, or
the next burst (R114, R115, R132). -/
def Dev.burstEnd (s : Dev) (n : Fin 8) : Dev :=
  match (s.curdOf n).haltAt with
  | some (e, a) => (s.abortCurd n e a).writeShadow n
  | none => (s.writeShadow n).startFetch

/-- The head of a source accepted (R116): the job, and the state with CI advanced. -/
def Dev.takeHead (s : Dev) (o : Src) (d : Desc) : Job × Dev :=
  let r := s.ring
  let s := s.modRing (fun r => { r with serial := r.serial + 1, lastAccept := some s.clk.now, turn := srcNum o })
  match o with
  | .ring n =>
    let c := s.curdOf n
    let s := s.setCurd n { c with ready := c.ready.tail, pend := c.pend - 1, told := false, remWait := false }
    let s := s.setBoth (curdOff n + 0x1C) (s.curdCi n + 1)
    (⟨o, .curd n, d, r.serial, none, false⟩, if c.ready.tail.isEmpty then s.burstEnd n else s)
  | .lh =>
    let og := match r.lh with
      | j :: _ => j.origin
      | [] => .nobody
    (⟨o, og, d, r.serial, none, false⟩, s.modRing (fun r => { r with lh := r.lh.tail, lhTold := false }))
  | .lr =>
    let og := match r.lr with
      | j :: _ => j.origin
      | [] => .nobody
    (⟨o, og, d, r.serial, none, false⟩, s.modRing (fun r => { r with lr := r.lr.tail, lrTold := false }))

/-- The head of a source accepted and completed without executing (R146). -/
def Dev.acceptEnd (s : Dev) (o : Src) (d : Desc) (st : Status) : Dev :=
  let (j, t) := s.takeHead o d
  t.completeNow j st 0

/-! ### Route-remote -/

/-- Whether a path leads to the target (check 4, R143, R325, R388). -/
def Dev.reaches (s : Dev) : Dest → Bool
  | .self => true
  | .hoop id => (s.deliverPort none id).isSome
  | .hoopAll => true
  | .radio a =>
    s.ozhOn && (match s.nextHop a with
      | .to _ => true
      | _ => false)
  | .radioAll => s.ozhOn
  | .partner => s.twinOn && s.twin.role ≠ .unpaired && s.twin.partner

/-- The queue of a port by which a descriptor would leave is full (R326). -/
def Dev.pathFull (s : Dev) : Dest → Bool
  | .hoop id => match s.deliverPort none id with
    | some k => decide (64 ≤ (s.portOf k).txq.length)
    | none => false
  | .partner => decide (64 ≤ (s.portOf 2).txq.length)
  | _ => false

/-- The tag of the next remote descriptor; an older one that was never answered gives its tag up (R119). -/
def Dev.nextTag (s : Dev) : BitVec 16 × Dev :=
  let t := s.ring.tag + 1
  (t, (s.modRing (fun r => { r with tag := t })).dropFlights (fun f => f.await = .remote t 0))

/-- A descriptor waits for the completion that its target returns (R119). -/
def Dev.flyRemote (s : Dev) (j : Job) (tag : BitVec 16) : Dev := s.fly j (.remote tag (s.remoteDue j.d))

/-- The hand-off of an accepted route-remote descriptor (R119, R143, R328, R346, R389). -/
def Dev.handOff (s : Dev) (j : Job) (dst : Dest) : Dev :=
  let src : BitVec 12 := if s.unaddressed then 0xFFF else s.hoopId
  match dst with
  | .hoop id =>
    let (tag, s) := s.nextTag
    (s.sendPacket 0x01 id tag j.d.bytes).flyRemote j tag
  | .hoopAll => (s.bcastPacket none (mkPacket 0x01 1 0 src 0 j.d.bytes)).completeNow j .ok 0
  | .partner =>
    let (tag, s) := s.nextTag
    (s.partnerPacket 0x01 tag j.d.bytes).flyRemote j tag
  | .radio a =>
    match s.originate 4 a (airOfDesc j.d) true s.macLimit none (some (s.ozhAddr, j.d.seq)) with
    | (.ok, t) =>
      let (tag, t) := t.nextTag
      t.flyRemote j tag
    | (st, t) => t.completeNow j st 0
  | .radioAll =>
    let (st, t) := s.originate 4 0xFFFF (airOfDesc j.d) false s.macLimit none none
    t.completeNow j st 0
  | .self => s

/-! ### The cue store -/

/-- The lowest free index of the cue store, of 4,096 entries. -/
def Dev.freeIdx (s : Dev) : Option Nat := (upTo 4096).find? (fun i => !s.ring.cues.any (fun c => c.idx = i))

/-- CUE_LATE_TOL in force (R37). -/
def Dev.lateTol (s : Dev) : Nat := s.rf 0x418 23 0

/-- POLICY of a source; the local rings follow STALL (R120). -/
def Dev.skips (s : Dev) : Src → Bool
  | .ring n => s.rb (curdOff n + 0x18) 10
  | _ => false

/-- A cue that finds the store full: SKIP completes it FULL; STALL leaves it on its ring, told once (R120). -/
def Dev.storeFull (s : Dev) (o : Src) (d : Desc) : Dev :=
  let s := s.setFlag 0x1010 3
  if s.skips o then s.acceptEnd o d .full
  else if s.isTold o then s
  else (s.setTold o).event 0x0002 .full (srcNum o)

/-- A cue enters the store (R37). -/
def Dev.storeCue (s : Dev) (o : Src) (d : Desc) (t : Int) (idx : Nat) : Dev :=
  let (j, u) := s.takeHead o d
  u.modRing (fun r => { r with cues := r.cues ++ [⟨idx, { j with cue := some idx }, s.short, t, false, false⟩] })

/-- A descriptor with AT-valid judged at acceptance (R37, R120); a job that executes at once is handed back. -/
def Dev.acceptCue (s : Dev) (o : Src) (d : Desc) : Dev × Option Job :=
  let t := resolve s.wheelN d.at48
  let late := (s.wheelN : Int) - t
  if 393216000 < -late then (s.acceptEnd o d .param, none)
  else if (s.lateTol : Int) < late then
    if d.flag 1 then (s.acceptEnd o d .late, none)
    else
      let (j, u) := s.takeHead o d
      (u, some { j with late := true })
  else if 0 < late then
    let (j, u) := s.takeHead o d
    (u, some j)
  else match s.freeIdx with
    | none => (s.storeFull o d, none)
    | some i => (s.storeCue o d t i, none)

/-! ### Acceptance -/

/-- A descriptor that this unit executes: check 6, then AT (Table DSC-3, R92). -/
def Dev.acceptSelf (s : Dev) (o : Src) (d : Desc) : Dev × Option Job :=
  if s.modeRefuses d then (s.acceptEnd o d .state, none)
  else if !d.flag 0 then
    let (j, u) := s.takeHead o d
    (u, some j)
  else if s.inHold then (s.acceptEnd o d .state, none)
  else s.acceptCue o d

/-- A descriptor for another unit: check 4, then the hand-off; a full queue stalls the ring (R119, R143, R144, R326). -/
def Dev.acceptRemote (s : Dev) (o : Src) (d : Desc) (dst : Dest) : Dev :=
  if !s.reaches dst then s.acceptEnd o d .unreachable
  else if s.pathFull dst then s.setRemWait o
  else
    let (j, u) := s.takeHead o d
    u.handOff j dst

/-- The head of source `o` accepted, when it is `d`, is of the row's kind, and may be accepted now: the state, and the job that executes at
once, if one does (R116, R145). -/
def Dev.acceptJob (s : Dev) (kind : Desc → Bool) (o : Src) (d : Desc) : Dev × Option Job :=
  if !((s.readyOf o).head? = some d && kind d && s.mayAccept o d) then (s, none)
  else match s.formRefused o d with
    | some st => (s.acceptEnd o d st, none)
    | none => match s.destOf o d with
      | .self => s.acceptSelf o d
      | dst => (s.acceptRemote o d dst, none)

/-- A row of the descriptor catalogue: acceptance, then the row's own effect. -/
def Dev.acceptRow (s : Dev) (kind : Desc → Bool) (body : Dev → Job → Dev) (o : Src) (d : Desc) : Dev :=
  match s.acceptJob kind o d with
  | (t, some j) => body t j
  | (t, none) => t

end Sys2Proof.Machine
end

