-- ==== Sys2Proof/Machine/Descriptors.lean ====
section
/-! DEFINITION. What each opcode does when it executes (R151 to R168, R255, R321, R351, R356, R443), the release of cues (R38), and the
descriptors that wait in execution. -/

namespace Sys2Proof.Machine

/-! ### Light -/

/-- Ticks from now to the last of the channels' next boundaries (Table DSC-6, APPLY_DELAY). -/
def Dev.applyDelay (s : Dev) (cs : List Nat) : Nat := (cs.map (fun c => s.chanBoundaryAfter c s.wheelN - s.wheelN)).foldl max 0

/-- Bit i set where the i-th channel will not have STEPWISE as its owner at that boundary (Table DSC-6, NOT_OWNED). -/
def Dev.notOwned (s : Dev) (cs : List Nat) : Nat :=
  cs.zipIdx.foldl (fun m e => if s.ownerWritten e.1 ≠ 0 then m + 2 ^ e.2 else m) 0

/-- The channels and levels of LEVEL and of LEVEL_BLOCK (Table DSC-7). -/
def levelPairs (d : Desc) : List (Nat × Nat) := (upTo (d.b 28)).map (fun i => (d.v (12 + 4 * i) 2, d.v (14 + 4 * i) 2))
def blockPairs (d : Desc) : List (Nat × Nat) := (upTo (d.b 14)).map (fun i => (d.v 12 2 + i * d.b 15, d.v (16 + 2 * i) 2))

/-- Stepwise values written (R152, R172). -/
def Dev.writeLevels (s : Dev) (j : Job) (ps : List (Nat × Nat)) : Dev :=
  let cs := ps.map (·.1)
  let t := ps.foldl (fun s p => s.setStep p.1 (BitVec.ofNat 16 p.2)) s
  t.completeNow j .ok (s.applyDelay cs + 2 ^ 32 * s.notOwned cs)

def Dev.levelBody (s : Dev) (j : Job) : Dev := s.writeLevels j (levelPairs j.d)
def Dev.blockBody (s : Dev) (j : Job) : Dev := s.writeLevels j (blockPairs j.d)

/-- OWNER (R153). -/
def Dev.ownerBody (s : Dev) (j : Job) : Dev :=
  let cs := (upTo (j.d.v 14 2)).map (fun i => j.d.v 12 2 + i)
  let t := cs.foldl (fun s c => s.setOwner c (j.d.b 16) (bitOf (j.d.b 17) 0)) s
  t.completeNow j .ok (s.applyDelay cs)

/-- The index of the first press at or after now (R154, R321). -/
def Dev.pressFrom (s : Dev) : Nat := ceilDiv s.wheelN 4096

/-- A PRESS that executes on the tick of a press acts there, whether or not that press has been served (R154). -/
def Dev.pressLocal (s : Dev) (j : Job) : Dev :=
  if s.clk.running && s.gridNow 4096 0 && s.isServed .press then (s.pressLatch).completeNow j .ok 0 else s.fly j .press

/-- PRESS (R154, R321, R322): with FABRIC the root announces the boundary to the whole fabric. -/
def Dev.pressBody (s : Dev) (j : Job) : Dev :=
  if !bitOf (j.d.b 12) 0 then s.pressLocal j
  else if !s.isRoot then s.completeNow j .state 0
  else
    let px := s.pressFrom
    let b := px + max (s.rf 0x7018 7 0) s.hoop.leadMin
    (s.modHoop (fun h => { h with
      announced := (px, b) :: h.announced.filter (fun a => decide (s.pressIndex ≤ a.2)),
      recorded := if h.recorded.contains b then h.recorded else h.recorded ++ [b] })).fly j (.pressFabric b)

/-! ### Engines -/

/-- RIPEN acts at the Ripener's next step (R155, R255). -/
def Dev.ripenBody (s : Dev) (j : Job) : Dev := s.fly j (.ripen (j.d.b 12))

/-- CULTURE_LOAD (R156). -/
def Dev.cultureBody (s : Dev) (j : Job) : Dev :=
  let off := j.d.v 12 2
  let t := forEach (upTo (j.d.b 14)) (fun s i => s.setCult (off + i) (BitVec.ofNat 32 (j.d.v (16 + 4 * i) 4))) s
  t.completeNow j .ok (off + j.d.b 14)

/-- One instruction of a Harp's memory written (R157, Table HRP-4): two to a register. -/
def Dev.setInstr (s : Dev) (n i w : Nat) : Dev :=
  let off := 0x5400 + 64 * n + 4 * (i / 2)
  s.setBothField off (16 * (i % 2) + 15) (16 * (i % 2)) w

/-- HARP_LOAD (R157): an idle Harp only. -/
def Dev.harpLoadBody (s : Dev) (j : Job) : Dev :=
  let n := j.d.b 12
  if !s.harpIdle n then (s.setFlag 0x5008 31).completeNow j .locked 0
  else
    let t := forEach (upTo (j.d.b 14)) (fun s i => s.setInstr n (j.d.b 13 + i) (j.d.v (16 + 2 * i) 2)) s
    t.completeNow j .ok (j.d.b 13 + j.d.b 14)

/-- HARP_QUEUE (R157): all words, or none. -/
def Dev.harpQueueBody (s : Dev) (j : Job) : Dev :=
  let n := j.d.b 12
  let room := s.txDepth n - (s.harpOf n).tx.length
  if room < j.d.b 13 then s.completeNow j .full room
  else
    let ws := (upTo (j.d.b 13)).map (fun i => BitVec.ofNat 32 (j.d.v (16 + 4 * i) 4))
    (s.modHarp n (fun h => { h with tx := h.tx ++ ws })).completeNow j .ok (room - j.d.b 13)

/-- Ticks to a pair's next carrier update on its present grid (R288); none for a SYNC-aligned pair that has seen no edge. -/
def Dev.updateDelay (s : Dev) (n : Nat) : Option Nat :=
  let r := s.carRef n
  let c := s.carOf r
  let per := s.carPeriod n
  let cyc := s.rf (carOff r) 11 8 + 1
  if s.carSync r then
    if c.begun then some ((c.start + c.len : Nat) - s.clk.now + ((cyc : Int) - 1 - c.q % (cyc : Int)) * per).toNat else none
  else
    let ph := s.carPhase n % per
    let b : Int := nextBoundary per ph s.wheelN
    let q := Int.fdiv (b - ph) per
    let q' := -(Int.fdiv (-q) cyc) * cyc
    some ((ph : Int) + q' * per - s.wheelN).toNat

/-- CARRIER_SET (R158, R289): the selected values wait for one carrier update; where none is due, its delay is a free value. -/
def Dev.carrierBody (s : Dev) (j : Job) : Dev :=
  let n := j.d.b 12
  let set := j.d.b 13
  let o := carOff n
  if !s.rb o 0 || s.inHold then s.completeNow j .state 0
  else
    let put (s : Dev) (i off : Nat) : Dev :=
      if bitOf set i then (s.setWrittenField off 19 0 (j.d.v (16 + 4 * i) 4)).markLive off else s
    let t := put (put (put (put s 0 (o + 4)) 1 (o + 8)) 2 (o + 0xC)) 3 (o + 0x10)
    match s.updateDelay n with
    | some d => t.completeNow j .ok d
    | none =>
      let (v, t) := t.draw
      t.completeNow j .ok (v.toNat % 2 ^ 32)

/-! ### READ and ROUTE -/

/-- A READ completes with its value and INDEX (Table DSC-6). -/
def Dev.readDone (s : Dev) (j : Job) (v : Nat) : Dev := s.completeNow j .ok (v % 2 ^ 32 + 2 ^ 32 * j.d.v 14 2)

/-- READ SPACE 0 (R159): as a BAR0 read, with what it latches. -/
def Dev.readSetupBody (s : Dev) (j : Job) : Dev :=
  let off := j.d.v 14 2
  (s.latchHi off).readDone j (s.readReg off).toNat

/-- What READ SPACE 1 shows of a channel (R159). -/
def Dev.channelValue (s : Dev) (c : Nat) : Nat :=
  let x := s.chanOf c
  if c < 16 && s.isMember c then x.step.toNat else x.level.toNat + 65536 * (x.drive.toNat / 16)

/-- READ SPACE 1. -/
def Dev.readChannelBody (s : Dev) (j : Job) : Dev := s.readDone j (s.channelValue (j.d.v 14 2))

/-- READ SPACE 2. -/
def Dev.readCultureBody (s : Dev) (j : Job) : Dev := s.readDone j (s.cultWord (j.d.v 14 2)).toNat

/-- READ SPACE 3 (R159): one word of a Harp's RX queue, with INDEX in byte 14 and the words left in byte 15. -/
def Dev.readHarpBody (s : Dev) (j : Job) : Dev :=
  let n := j.d.v 14 2
  match (s.harpOf n).rx with
  | w :: ws => (s.modHarp n (fun h => { h with rx := ws })).completeNow j .ok (w.toNat + 2 ^ 32 * n + 2 ^ 40 * ws.length)
  | [] => s.completeNow j .state 0

/-- ROUTE TABLE 0 (R160, R327): the entry's word, as a register write. -/
def Dev.routeHoopBody (s : Dev) (j : Job) : Dev :=
  let i := j.d.v 14 2
  (s.storeAll (0x7400 + 4 * i) (BitVec.ofNat 32 (j.d.v 16 4)) (BitVec.allOnes 32)).completeNow j .ok i

/-- ROUTE TABLE 1 (R160, R387): on the coordinator, which sends a router's entry on. -/
def Dev.routeOzhBody (s : Dev) (j : Job) : Dev :=
  let i := j.d.v 14 2
  if !s.isCoord then s.completeNow j .state 0
  else
    let e := routeOfBytes ((upTo 12).map (fun k => BitVec.ofNat 8 (j.d.b (16 + k))))
    ((s.modOzh (fun z => { z with routes := tabSet noRoute z.routes i e })).sendRoute i).completeNow j .ok i

/-! ### Radio, the Rind and the Tempo unit -/

/-- RADIO_SEND (R161, R390). -/
def Dev.radioSendBody (s : Dev) (j : Job) : Dev :=
  if !s.ozhOn then s.completeNow j .state 0
  else
    let ref := s.ozh.ref + 1
    let s := s.modOzh (fun z => { z with ref := ref })
    let data := (upTo (j.d.b 14)).map (fun i => BitVec.ofNat 8 (j.d.b (16 + i)))
    match s.originate 1 (BitVec.ofNat 16 (j.d.v 12 2)) data (bitOf (j.d.b 15) 0) (1 + bits (j.d.b 15) 3 1) (some ref) none with
    | (.ok, t) => t.fly j (.radio ref)
    | (st, t) => t.completeNow j st 0

/-- The request codes that the mailbox serves (Table RND-8). -/
def rindReqs : List Nat := [0x01, 0x02, 0x03, 0x04, 0x05, 0x10, 0x11, 0x12]

/-- The message of a RIND_REQUEST (R162). -/
def rindMsg (d : Desc) (ref : Nat) : Msg := ⟨d.b 12, BitVec.ofNat 16 (d.v 14 2), (upTo 16).map (fun i => BitVec.ofNat 8 (d.b (16 + i))), ref⟩

/-- A request goes into the mailbox. -/
def Dev.postRind (s : Dev) (d : Desc) (ref : Nat) : Dev :=
  let m := rindMsg d ref
  (s.modBr (fun b => { b with queue := b.queue ++ [m] })).emit (.rindMsg (BitVec.ofNat 8 m.req) m.tag m.args)

/-- RIND_REQUEST (R162, R420, R437). -/
def Dev.rindBody (s : Dev) (j : Job) : Dev :=
  if !s.mbxOpen then s.completeNow j .state 0
  else if !rindReqs.contains (j.d.b 12) then s.completeNow j .param 0
  else
    let ref := s.br.refs + 1
    let s := (s.modBr (fun b => { b with refs := ref })).fly j (.rind ref (s.clk.now + 19660800))
    if s.flt.dbgHalt then s.modRing (fun r => { r with steward := r.steward ++ [j] }) else s.postRind j.d ref

/-- TEMPO (R163): host mode only. -/
def Dev.tempoBody (s : Dev) (j : Job) : Dev :=
  if s.tempoSrc ≠ 1 then s.completeNow j .state 0
  else
    let set := j.d.b 12
    let s := s.tempoSet (bitOf set 0) (bitOf set 1) (j.d.v 16 4)
    let s := if bitOf set 2 then (s.setWrittenField 0x444 15 0 (j.d.v 14 2)).markLive 0x444 else s
    s.completeNow j .ok ((if s.tempo.runs then s.tempo.nextBeat else s.tempo.preK.getD 0) % 2 ^ 32)

/-! ### FENCE -/

/-- The sources that MASK names. -/
def fenceSrcs (mask : Nat) : List Src :=
  ((List.finRange 8).filter (fun n => bitOf mask n.val)).map Src.ring ++ (if bitOf mask 8 then [.lh] else []) ++
    (if bitOf mask 9 then [.lr] else [])

/-- Whether what a FENCE awaits has completed (R164). -/
def Dev.fenceDone (s : Dev) (j : Job) : Bool :=
  (fenceSrcs (j.d.v 12 2)).all (fun o => !s.outstanding o (bitOf (j.d.b 14) 0) j.serial)

/-- FENCE (R164): it completes with the ticks waited. -/
def Dev.fenceBody (s : Dev) (j : Job) : Dev :=
  if s.fenceDone j then s.completeNow j .ok 0
  else s.modRing (fun r => { r with fences := r.fences ++ [⟨j, s.clk.now⟩] })

/-- The waiting FENCE of a source, completed when what it awaits has completed. -/
def Dev.fenceEnd (s : Dev) (o : Src) : Dev :=
  match s.ring.fences.find? (fun f => f.job.isFrom o) with
  | some f =>
    if s.fenceDone f.job then
      (s.modRing (fun r => { r with fences := r.fences.erase f })).completeNow f.job .ok ((s.clk.now - f.start) % 2 ^ 32)
    else s
  | none => s

/-! ### MODE, SETUP_WRITE and DISCOVER -/

/-- A descriptor that waits in execution (R437, R443). -/
def Dev.holdJob (s : Dev) (j : Job) : Dev := s.modRing (fun r => { r with steward := r.steward ++ [j] })

/-- A body that waits while the Steward is halted (R437). -/
def Dev.unlessHalted (s : Dev) (j : Job) (body : Dev → Job → Dev) : Dev := if s.flt.dbgHalt then s.holdJob j else body s j

/-- MODE (R82): judged at the end of its tick with the tick's other transitions (R81). -/
def Dev.modeBody (s : Dev) (j : Job) : Dev :=
  s.unlessHalted j (fun s j =>
    match modeOfCode (j.d.b 12) with
    | some m => s.fly j (.mode m)
    | none => s.completeNow j .param s.modeAfter)

/-- The mode that a flight requests. -/
def Flight.modeAsked (f : Flight) : Option Mode :=
  match f.await with
  | .mode m => some m
  | _ => none

/-- A MODE descriptor judged: it completes on its tick with the mode after it (R81, R82, Table DSC-6). -/
def Dev.modeFlight (s : Dev) (f : Flight) : Dev :=
  match f.modeAsked with
  | some m =>
    let (st, t) := s.modeJudge m
    t.complete f.job st f.exec t.modeAfter
  | none => s

/-- The end of a tick: a takeover whose conditions arose on it, then the MODE requests, in the order of R81. Losses of V3 or VCORE and HOLD causes
have acted by now, and what they outrank is not carried out. -/
def Dev.arbitrate (s : Dev) : Dev :=
  let s := s.takeoverJudge
  let fs := s.ring.flights.filter (fun f => f.modeAsked.isSome)
  let s := if fs.isEmpty then s else fs.foldl Dev.modeFlight (s.dropFlights (fun f => f.modeAsked.isSome))
  match s.pwr.asked with
  | some m => ((s.modPwr (fun p => { p with asked := none })).modeJudge m).2
  | none => s

/-- The source that a rejected set-up write of a job is recorded under (Table FLT-4): the unit or node it came from. -/
def jobSource (s : Dev) : Origin → BitVec 16
  | .hoop src _ => src.setWidth 16
  | .partner _ => s.twin.pId.setWidth 16
  | .radio a => a
  | _ => 0xFFFF

/-- SETUP_WRITE (R128, R166). A RESTART is completed before it resets the ring engine. -/
def Dev.setupBody (s : Dev) (j : Job) : Dev :=
  let off := j.d.v 12 2
  let value := BitVec.ofNat 32 (j.d.v 16 4)
  let mask := BitVec.ofNat 32 (j.d.v 20 4)
  if off = 0x808 then ((s.completeNow j .ok (2 ^ 32 * off)).setupWrite 0xFFFF off value mask).2
  else
    let (st, t) := s.setupWrite (jobSource s j.origin) off value mask
    t.completeNow j st ((t.readReg off).toNat + 2 ^ 32 * off)

/-- DISCOVER ENUMERATE (R165, R329): the root's; it completes at the end of its own enumeration. -/
def Dev.enumerateBody (s : Dev) (j : Job) : Dev :=
  s.unlessHalted j (fun s j =>
    if !s.isRoot then s.completeNow j .state 0
    else (s.fly j (.enumEnd (s.hoop.epoch + 1))).enumRequest)

/-- DISCOVER ENTRY (R165). -/
def Dev.entryBody (s : Dev) (j : Job) : Dev :=
  s.unlessHalted j (fun s j =>
    if !s.isRoot then s.completeNow j .state 0
    else match s.hoop.enumList[j.d.v 14 2]? with
      | some r => s.completeNow j .ok (r.id.toNat + 65536 * r.depth + 2 ^ 32 * r.member.toNat + 2 ^ 40 * b2n r.dup)
      | none => s.completeNow j .param 0)

/-! ### IMAGE_UPDATE -/

/-- The target of an IMAGE_UPDATE: 0 Steward, 1 Rind. -/
def imgTarget (d : Desc) : Nat := bits (d.b 12) 4 3

/-- An action on a target; the Rind's needs the Rind to run (R419). -/
def Dev.imgAct (s : Dev) (j : Job) (body : Dev → Job → Dev) : Dev :=
  s.unlessHalted j (fun s j => if imgTarget j.d = 1 && !s.br.on then s.completeNow j .state 0 else body s j)

/-- An action completes with PROGRESS and the slot (Table DSC-6). -/
def Dev.imgEnd (s : Dev) (j : Job) (st : Status) (detail : Nat) : Dev := s.completeNow j st detail

/-- BEGIN. -/
def Dev.beginBody (s : Dev) (j : Job) : Dev :=
  s.imgAct j (fun s j =>
    let k := imgTarget j.d
    match s.imgBegin k (j.d.v 16 4) with
    | (some st, t) => t.imgEnd j st (t.imgDetail k)
    | (none, t) => t.fly j (.erase (k = 1)))

/-- DATA: it waits while a page is programmed (R443). -/
def Dev.dataBody (s : Dev) (j : Job) : Dev :=
  s.imgAct j (fun s j =>
    let k := imgTarget j.d
    if (s.updOf k).programming then s.holdJob j
    else
      let (st, t) := s.imgData k (j.d.v 13 3) ((upTo 16).map (fun i => BitVec.ofNat 8 (j.d.b (16 + i))))
      t.imgEnd j st (t.imgDetail k))

/-- ACTIVATE: a Rind slot is handed over; in REFUSE a Steward's restarts the device (R419, R443). -/
def Dev.activateBody (s : Dev) (j : Job) : Dev :=
  s.imgAct j (fun s j =>
    let k := imgTarget j.d
    let slot := s.updSlot k
    let detail := s.imgDetail k
    match s.imgActivate k with
    | (.ok, t) =>
      let t := if k = 1 then t.modBr (fun b => { b with handed := some (slot - 2) }) else t
      let t := t.imgEnd j .ok detail
      if k = 0 && t.flt.refuse then t.flushWhey.restart 1 else t
    | (st, t) => t.imgEnd j st detail)

/-- ABORT. -/
def Dev.abortBody (s : Dev) (j : Job) : Dev :=
  s.imgAct j (fun s j =>
    let k := imgTarget j.d
    let detail := s.imgDetail k
    let (st, t) := s.imgAbort k
    t.imgEnd j st detail)

/-- VERIFY (R419, R439, R443): for the Rind, its own check as well, and a log entry for what it refuses. It waits while the last page is
programmed. -/
def verifyBody (s : Dev) (r : Rind) (j : Job) : Dev × Rind :=
  let k := imgTarget j.d
  let u := s.updOf k
  if s.flt.dbgHalt || u.programming then (s.holdJob j, r)
  else if k = 1 && !s.br.on then (s.completeNow j .state 0, r)
  else
    let slot := s.updSlot k
    let lr := s.slotLr (slot - 2)
    let extra := if k = 1 then r.lrCheck lr else .ok
    let reason := s.imgReason slot
    let detail := s.imgDetail k
    let (st, t) := s.imgVerify k extra
    let judged := !u.bad && u.open_ && !u.erasing && u.count * 16 = u.length
    (t.imgEnd j st detail, if k = 1 && judged && st ≠ .ok then r.refused lr reason else r)

/-! ### Which body a descriptor has -/

/-- RIPEN, READ, ROUTE, DISCOVER, IMAGE_UPDATE and TWIN_CTL by their action bytes. -/
def Dev.readBody (s : Dev) (j : Job) : Dev :=
  match j.d.b 12 with
  | 0 => s.readSetupBody j
  | 1 => s.readChannelBody j
  | 2 => s.readCultureBody j
  | _ => s.readHarpBody j

def Dev.twinBody (s : Dev) (j : Job) : Dev :=
  match j.d.b 12 with
  | 0 => s.pairActive j
  | 1 => s.pairShadow j
  | 2 => s.unpair j
  | 3 => s.swapCtl j
  | _ => s.twinStatus j

def Dev.imageBody (s : Dev) (j : Job) : Dev :=
  match j.d.b 12 % 8 with
  | 0 => s.beginBody j
  | 1 => s.dataBody j
  | 3 => s.activateBody j
  | _ => s.abortBody j

/-- What an executing descriptor does, by opcode (Table DSC-6); VERIFY, which touches the Rind as well, is `verifyBody`. -/
def Dev.runBody (s : Dev) (j : Job) : Dev :=
  match j.d.op.toNat with
  | 0x00 => s.completeNow j .ok 0
  | 0x01 => s.levelBody j
  | 0x02 => s.blockBody j
  | 0x03 => s.ownerBody j
  | 0x04 => s.pressBody j
  | 0x05 => s.ripenBody j
  | 0x06 => s.cultureBody j
  | 0x07 => s.harpLoadBody j
  | 0x08 => s.harpQueueBody j
  | 0x09 => s.carrierBody j
  | 0x0A => s.readBody j
  | 0x0B => if j.d.b 12 = 0 then s.routeHoopBody j else s.routeOzhBody j
  | 0x0C => s.radioSendBody j
  | 0x0D => s.rindBody j
  | 0x0E => s.tempoBody j
  | 0x0F => s.fenceBody j
  | 0x10 => s.modeBody j
  | 0x11 => s.setupBody j
  | 0x12 => s.imageBody j
  | 0x13 => if j.d.b 12 = 0 then s.enumerateBody j else s.entryBody j
  | _ => s.twinBody j

/-! ### Cues -/

/-- The cue to release next: the earliest T that the Wheel has reached, and among equal ones the one accepted first (R38). -/
def Dev.cueDue (s : Dev) : Option Cue :=
  (s.ring.cues.filter (fun c => !c.out && decide (c.t ≤ (s.wheelN : Int)))).foldl (fun m c =>
    match m with
    | some b => if c.t < b.t || (c.t = b.t && c.job.serial < b.job.serial) then some c else m
    | none => some c) none

/-- Whether cues release: the store's domain runs, and the unit is no shadow (R350, Table MOD-1). -/
def Dev.cuesRun (s : Dev) : Bool := s.enginesOn && s.pwr.mode ≠ .shadow && s.clk.running

/-- One cue released (R38): judged against CUE_LATE_TOL, then executed. -/
def Dev.releaseCue (s : Dev) : Dev :=
  if !s.cuesRun then s
  else match s.cueDue with
    | none => s
    | some c =>
      let s := s.modRing (fun r => { r with cues := r.cues.map (fun e => if e.idx = c.idx then { e with out := true } else e) })
      let late := decide ((s.lateTol : Int) < (s.wheelN : Int) - c.t)
      if late && c.job.d.flag 1 then s.completeNow c.job .late 0
      else s.runBody { c.job with late := late }

/-! ### Descriptors that waited in execution -/

/-- One of them goes on: a RIND_REQUEST that has not timed out is posted, anything else executes (R437, R443). -/
def stewardStep (p : Dev × Rind) (j : Job) : Dev × Rind :=
  let (s, r) := p
  if j.d.op = 0x0D then
    match s.ring.flights.find? (fun f => f.job.serial = j.serial) with
    | some ⟨_, _, .rind ref _⟩ =>
      if s.mbxOpen then (s.postRind j.d ref, r)
      else (s.landFlightsNow (fun f => match f.await with
        | .rind q _ => q = ref
        | _ => false) .state 0, r)
    | _ => (s, r)
  else if j.d.op = 0x12 && j.d.b 12 % 8 = 2 then verifyBody s r j
  else (s.runBody j, r)

/-- All that waited, in order; those that still wait go back to the list, and a disabled ring stops behind its own (R134). -/
def stewardRun (s : Dev) (r : Rind) : Dev × Rind :=
  let (t, r) := s.ring.steward.foldl stewardStep (s.modRing (fun q => { q with steward := [] }), r)
  (t.stopRings, r)

end Sys2Proof.Machine
end

