-- ==== Sys2Proof/Machine/Rows.lean ====
section
/-! DEFINITION. The rows of the descriptor catalogue (chapter 05): each accepts the head of its source when that is a descriptor of its kind,
and gives it its effect; and the rows of what follows acceptance: releases, waits that end, and time-outs. -/

namespace Sys2Proof.Machine

/-! ### Kinds of descriptor -/

/-- The opcode. -/
def isOp (op : Nat) (d : Desc) : Bool := d.op.toNat = op

/-- The opcode, and the value of its action byte; the row of value 0 also takes the values above `top`, which no row has. -/
def isAct (op byte val top : Nat) (d : Desc) : Bool := isOp op d && (d.b byte = val || (val = 0 && decide (top < d.b byte)))

/-- IMAGE_UPDATE with an ACTION; BEGIN also takes the reserved ones. -/
def isImg (act : Nat) (d : Desc) : Bool := isOp 0x12 d && (d.b 12 % 8 = act || (act = 0 && decide (4 < d.b 12 % 8)))

/-- An opcode above 0x14 (R145). -/
def isUnknown (d : Desc) : Bool := decide (0x14 < d.op.toNat)

/-! ### Rows of the catalogue -/

/-- NOP (R151). -/
def execNop (o : Src) (d : Desc) (s : State) : Host.Outcome State Fault Refusal := onDev (fun s => s.acceptRow (isOp 0x00) (fun s j => s.completeNow j .ok 0) o d) s

/-- LEVEL (R152). -/
def execLevel (o : Src) (d : Desc) (s : State) : Host.Outcome State Fault Refusal := onDev (fun s => s.acceptRow (isOp 0x01) Dev.levelBody o d) s

/-- LEVEL_BLOCK (R152). -/
def execLevelBlock (o : Src) (d : Desc) (s : State) : Host.Outcome State Fault Refusal := onDev (fun s => s.acceptRow (isOp 0x02) Dev.blockBody o d) s

/-- OWNER (R153). -/
def execOwner (o : Src) (d : Desc) (s : State) : Host.Outcome State Fault Refusal := onDev (fun s => s.acceptRow (isOp 0x03) Dev.ownerBody o d) s

/-- PRESS (R154). -/
def execPress (o : Src) (d : Desc) (s : State) : Host.Outcome State Fault Refusal := onDev (fun s => s.acceptRow (isOp 0x04) Dev.pressBody o d) s

/-- RIPEN_START (R255). -/
def execRipenStart (o : Src) (d : Desc) (s : State) : Host.Outcome State Fault Refusal := onDev (fun s => s.acceptRow (isAct 0x05 13 0 4) Dev.ripenBody o d) s

/-- RIPEN_STOP (R255). -/
def execRipenStop (o : Src) (d : Desc) (s : State) : Host.Outcome State Fault Refusal := onDev (fun s => s.acceptRow (isAct 0x05 13 1 4) Dev.ripenBody o d) s

/-- RIPEN_PAUSE (R255). -/
def execRipenPause (o : Src) (d : Desc) (s : State) : Host.Outcome State Fault Refusal := onDev (fun s => s.acceptRow (isAct 0x05 13 2 4) Dev.ripenBody o d) s

/-- RIPEN_RESUME (R255). -/
def execRipenResume (o : Src) (d : Desc) (s : State) : Host.Outcome State Fault Refusal := onDev (fun s => s.acceptRow (isAct 0x05 13 3 4) Dev.ripenBody o d) s

/-- RIPEN_TRIGGER (R252). -/
def execRipenTrigger (o : Src) (d : Desc) (s : State) : Host.Outcome State Fault Refusal := onDev (fun s => s.acceptRow (isAct 0x05 13 4 4) Dev.ripenBody o d) s

/-- CULTURE_LOAD (R156). -/
def execCultureLoad (o : Src) (d : Desc) (s : State) : Host.Outcome State Fault Refusal := onDev (fun s => s.acceptRow (isOp 0x06) Dev.cultureBody o d) s

/-- HARP_LOAD (R157). -/
def execHarpLoad (o : Src) (d : Desc) (s : State) : Host.Outcome State Fault Refusal := onDev (fun s => s.acceptRow (isOp 0x07) Dev.harpLoadBody o d) s

/-- HARP_QUEUE (R157). -/
def execHarpQueue (o : Src) (d : Desc) (s : State) : Host.Outcome State Fault Refusal := onDev (fun s => s.acceptRow (isOp 0x08) Dev.harpQueueBody o d) s

/-- CARRIER_SET (R158). -/
def execCarrierSet (o : Src) (d : Desc) (s : State) : Host.Outcome State Fault Refusal := onDev (fun s => s.acceptRow (isOp 0x09) Dev.carrierBody o d) s

/-- READ_SETUP (R159). -/
def execReadSetup (o : Src) (d : Desc) (s : State) : Host.Outcome State Fault Refusal := onDev (fun s => s.acceptRow (isAct 0x0A 12 0 3) Dev.readSetupBody o d) s

/-- READ_CHANNEL (R159). -/
def execReadChannel (o : Src) (d : Desc) (s : State) : Host.Outcome State Fault Refusal := onDev (fun s => s.acceptRow (isAct 0x0A 12 1 3) Dev.readChannelBody o d) s

/-- READ_CULTURE (R159). -/
def execReadCulture (o : Src) (d : Desc) (s : State) : Host.Outcome State Fault Refusal := onDev (fun s => s.acceptRow (isAct 0x0A 12 2 3) Dev.readCultureBody o d) s

/-- READ_HARP_RX (R159). -/
def execReadHarpRx (o : Src) (d : Desc) (s : State) : Host.Outcome State Fault Refusal := onDev (fun s => s.acceptRow (isAct 0x0A 12 3 3) Dev.readHarpBody o d) s

/-- ROUTE_HOOP (R327). -/
def execRouteHoop (o : Src) (d : Desc) (s : State) : Host.Outcome State Fault Refusal := onDev (fun s => s.acceptRow (isAct 0x0B 12 0 1) Dev.routeHoopBody o d) s

/-- ROUTE_OZHILD (R160). -/
def execRouteOzhild (o : Src) (d : Desc) (s : State) : Host.Outcome State Fault Refusal := onDev (fun s => s.acceptRow (isAct 0x0B 12 1 1) Dev.routeOzhBody o d) s

/-- RADIO_SEND (R161). -/
def execRadioSend (o : Src) (d : Desc) (s : State) : Host.Outcome State Fault Refusal := onDev (fun s => s.acceptRow (isOp 0x0C) Dev.radioSendBody o d) s

/-- RIND_REQUEST (R162). -/
def execRindRequest (o : Src) (d : Desc) (s : State) : Host.Outcome State Fault Refusal := onDev (fun s => s.acceptRow (isOp 0x0D) Dev.rindBody o d) s

/-- TEMPO (R163). -/
def execTempo (o : Src) (d : Desc) (s : State) : Host.Outcome State Fault Refusal := onDev (fun s => s.acceptRow (isOp 0x0E) Dev.tempoBody o d) s

/-- FENCE (R164). -/
def execFence (o : Src) (d : Desc) (s : State) : Host.Outcome State Fault Refusal := onDev (fun s => s.acceptRow (isOp 0x0F) Dev.fenceBody o d) s

/-- MODE (R82). -/
def execMode (o : Src) (d : Desc) (s : State) : Host.Outcome State Fault Refusal := onDev (fun s => s.acceptRow (isOp 0x10) Dev.modeBody o d) s

/-- SETUP_WRITE (R166). -/
def execSetupWrite (o : Src) (d : Desc) (s : State) : Host.Outcome State Fault Refusal := onDev (fun s => s.acceptRow (isOp 0x11) Dev.setupBody o d) s

/-- IMAGE_BEGIN (R443). -/
def execImageBegin (o : Src) (d : Desc) (s : State) : Host.Outcome State Fault Refusal := onDev (fun s => s.acceptRow (isImg 0) Dev.beginBody o d) s

/-- IMAGE_DATA (R443). -/
def execImageData (o : Src) (d : Desc) (s : State) : Host.Outcome State Fault Refusal := onDev (fun s => s.acceptRow (isImg 1) Dev.dataBody o d) s

/-- IMAGE_ACTIVATE (R443). -/
def execImageActivate (o : Src) (d : Desc) (s : State) : Host.Outcome State Fault Refusal := onDev (fun s => s.acceptRow (isImg 3) Dev.activateBody o d) s

/-- IMAGE_ABORT (R443). -/
def execImageAbort (o : Src) (d : Desc) (s : State) : Host.Outcome State Fault Refusal := onDev (fun s => s.acceptRow (isImg 4) Dev.abortBody o d) s

/-- DISCOVER_ENUMERATE (R165). -/
def execDiscoverEnumerate (o : Src) (d : Desc) (s : State) : Host.Outcome State Fault Refusal := onDev (fun s => s.acceptRow (isAct 0x13 12 0 1) Dev.enumerateBody o d) s

/-- DISCOVER_ENTRY (R165). -/
def execDiscoverEntry (o : Src) (d : Desc) (s : State) : Host.Outcome State Fault Refusal := onDev (fun s => s.acceptRow (isAct 0x13 12 1 1) Dev.entryBody o d) s

/-- TWIN_PAIR_ACTIVE (R351). -/
def execTwinPairActive (o : Src) (d : Desc) (s : State) : Host.Outcome State Fault Refusal := onDev (fun s => s.acceptRow (isAct 0x14 12 0 4) Dev.pairActive o d) s

/-- TWIN_PAIR_SHADOW (R351). -/
def execTwinPairShadow (o : Src) (d : Desc) (s : State) : Host.Outcome State Fault Refusal := onDev (fun s => s.acceptRow (isAct 0x14 12 1 4) Dev.pairShadow o d) s

/-- TWIN_UNPAIR (R351). -/
def execTwinUnpair (o : Src) (d : Desc) (s : State) : Host.Outcome State Fault Refusal := onDev (fun s => s.acceptRow (isAct 0x14 12 2 4) Dev.unpair o d) s

/-- TWIN_SWAP (R356). -/
def execTwinSwap (o : Src) (d : Desc) (s : State) : Host.Outcome State Fault Refusal := onDev (fun s => s.acceptRow (isAct 0x14 12 3 4) Dev.swapCtl o d) s

/-- TWIN_STATUS (R351). -/
def execTwinStatus (o : Src) (d : Desc) (s : State) : Host.Outcome State Fault Refusal := onDev (fun s => s.acceptRow (isAct 0x14 12 4 4) Dev.twinStatus o d) s

/-- UNKNOWN_OPCODE (R145). -/
def execUnknownOpcode (o : Src) (d : Desc) (s : State) : Host.Outcome State Fault Refusal := onDev (fun s => s.acceptRow (isUnknown) (fun s j => s.completeNow j .opcode 0) o d) s

/-- IMAGE_VERIFY (R443). -/
def execImageVerify (o : Src) (d : Desc) (s : State) : Host.Outcome State Fault Refusal :=
  onBoth (fun s r =>
    match s.acceptJob (isImg 2) o d with
    | (t, some j) => verifyBody t r j
    | (t, none) => (t, r)) s

/-! ### What follows acceptance -/

/-- CUE_RELEASE (R38). -/
def execCueRelease (s : State) : Host.Outcome State Fault Refusal := onDev (fun s => s.releaseCue) s

/-- RING_STALL_RETRY (R120): the cue that stalled its ring, tried again once an entry is free. -/
def execRingStallRetry (o : Src) (s : State) : Host.Outcome State Fault Refusal :=
  onDev (fun s =>
    match s.readyOf o with
    | d :: _ => if s.isTold o && s.freeIdx.isSome then s.acceptRow (fun _ => true) Dev.runBody o d else s
    | [] => s) s

/-- FENCE_SATISFIED (R134, R164). -/
def execFenceSatisfied (o : Src) (s : State) : Host.Outcome State Fault Refusal := onDev (fun s => (s.fenceEnd o).stopRings) s

/-- Whether a flight's time is up (R119, R162). -/
def Flight.remoteLate (now : Nat) (f : Flight) : Bool :=
  match f.await.remoteTag with
  | some (_, due) => due ≠ 0 && decide (due ≤ now)
  | none => false

def Flight.rindLate (now : Nat) (f : Flight) : Bool :=
  match f.await with
  | .rind _ due => decide (due ≤ now)
  | _ => false

/-- The number of a flight's mailbox request. -/
def Flight.rindRef (f : Flight) : Option Nat :=
  match f.await with
  | .rind ref _ => some ref
  | _ => none

/-- REMOTE_TIMEOUT (R119). -/
def execRemoteTimeout (s : State) : Host.Outcome State Fault Refusal :=
  onDev (fun s => if s.coreOn then s.landFlightsNow (Flight.remoteLate s.clk.now) .timeout 0 else s) s

/-- RIND_REQUEST_TIMEOUT (R162): the request leaves the mailbox, and a halted Steward does not delay the time-out (R437). -/
def execRindRequestTimeout (s : State) : Host.Outcome State Fault Refusal :=
  onDev (fun s =>
    if s.coreOn then
      let gone := (s.ring.flights.filter (Flight.rindLate s.clk.now))
      let refs := gone.filterMap Flight.rindRef
      let serials := gone.map (fun f => f.job.serial)
      ((s.modBr (fun b => { b with queue := b.queue.filter (fun m => !refs.contains m.ref) })).modRing (fun r => { r with
        steward := r.steward.filter (fun j => !(j.d.op = 0x0D && serials.contains j.serial)) })).landFlightsNow
          (Flight.rindLate s.clk.now) .timeout 0 |>.stopRings
    else s) s

/-- IMAGE_PAGE_PROGRAMMED (R443): an error marks the slot BAD; what waited for the page goes on. -/
def execImagePageProgrammed (rind good : Bool) (s : State) : Host.Outcome State Fault Refusal :=
  onBoth (fun s r =>
    let k := b2n rind
    let u := s.updOf k
    if s.coreOn && u.programming then
      let t := s.setUpd k { u with programming := false, bad := u.bad || !good }
      stewardRun (if good then t else t.setSlotSt (s.updSlot k) 2) r
    else (s, r)) s

/-- DEBUG_HALT_END (R436, R437): the Steward runs again, and what waited for it goes on (R399); with FLT_DBG.EN = 0 the port is ignored. -/
def execDebugHaltEnd (s : State) : Host.Outcome State Fault Refusal :=
  onBoth (fun s r => if s.coreOn && s.rb 0xA0C0 0 && s.flt.dbgHalt then stewardRun s.haltEnds.ozhRelease r else (s, r)) s

/-! ### Rings, the endpoint and the clock -/

/-- A command that the CORE domain takes. -/
def onCore (f : Dev → Dev) (s : State) : Host.Outcome State Fault Refusal := onDev (fun s => if s.coreOn then f s else s) s

/-- DOORBELL_READ_DONE (R110). -/
def execDoorbellReadDone (n : Fin 8) (r : Rd) (s : State) : Host.Outcome State Fault Refusal := onCore (fun s => s.doorbellDone n r) s

/-- WHEY_HEAD_READ_DONE (R110). -/
def execWheyHeadReadDone (m : Fin 4) (r : Rd) (s : State) : Host.Outcome State Fault Refusal := onCore (fun s => s.headDone m r) s

/-- DESCRIPTOR_FETCH_DONE (R115). -/
def execDescriptorFetchDone (n : Fin 8) (ds : List Desc) (err : Option RdErr) (s : State) : Host.Outcome State Fault Refusal :=
  onCore (fun s => s.fetchDone n ds err) s

/-- RING_READ_TIMEOUT (R132). -/
def execRingReadTimeout (r : LateRead) (s : State) : Host.Outcome State Fault Refusal := onCore (fun s => s.readTimeout r.kind r.got) s

/-- MSIX_MODERATION_TIMER (R123). -/
def execMsixModerationTimer (m : Fin 4) (s : State) : Host.Outcome State Fault Refusal := onCore (fun s => s.moderation m) s

/-- BUS_MASTER_DISABLE (R135). -/
def execBusMasterDisable (d3 pme : Bool) (s : State) : Host.Outcome State Fault Refusal := onCore (fun s => s.busOff d3 pme) s

/-- BUS_MASTER_ENABLE (R93, R135): under the limp clock the link trains only where PE_REFCLK carries the host's reference clock, which no row
tells and a free value stands for (log entry 59). -/
def execBusMasterEnable (s : State) : Host.Outcome State Fault Refusal :=
  onCore (fun s => if s.clk.limp && !Config.peRefclk s.clk.now then s else s.busOn) s

/-- PERST_N_ASSERT (R136). -/
def execPerstNAssert (s : State) : Host.Outcome State Fault Refusal := onCore (fun s => (s.resetEndpoint false true).debugOff) s

/-- LINK_DOWN (R136). -/
def execLinkDown (s : State) : Host.Outcome State Fault Refusal := onCore (fun s => s.resetEndpoint false s.ring.perst) s

/-- FUNCTION_LEVEL_RESET (R136). -/
def execFunctionLevelReset (s : State) : Host.Outcome State Fault Refusal :=
  onCore (fun s => s.resetEndpoint s.ring.link s.ring.perst) s

/-- WORD_CLOCK_EDGE (R24). -/
def execWordClockEdge (falling : Bool) (ppm : Int) (s : State) : Host.Outcome State Fault Refusal := onCore (fun s => s.wordEdge falling ppm) s

/-- WORD_RANGE (R24). -/
def execWordRange (s : State) : Host.Outcome State Fault Refusal := onCore (fun s => s.wordRange) s

/-- WORD_LOST (R24). -/
def execWordLost (s : State) : Host.Outcome State Fault Refusal := onCore (fun s => s.wordLost) s

/-- WOSC_CAL_DONE (R36): while the PLL runs. -/
def execWoscCalDone (ticks : BitVec 32) (s : State) : Host.Outcome State Fault Refusal :=
  onDev (fun s => if s.clk.running then s.modClk (fun c => { c with woscCal := ticks }) else s) s

/-- TEMPO_EVENT (R39). -/
def execTempoEvent (s : State) : Host.Outcome State Fault Refusal := onCore (fun s => s.tempoEvent) s

/-- TEMPO_LOST (R42). -/
def execTempoLost (s : State) : Host.Outcome State Fault Refusal := onCore (fun s => s.tempoLost) s

end Sys2Proof.Machine
end

