-- ==== Sys2Proof/Machine/Dispatch.lean ====
section
/-! DEFINITION. The dispatch: one arm per command, each one direct call of the meaning of its row. -/

namespace Sys2Proof.Machine

def exec (i : Instr) (s : State) : Host.Outcome State Fault Refusal :=
  match i with
  | .registerWrite src bar off size val => Sys2Proof.Machine.execRegisterWrite src bar off size val s
  | .whlNowLoRead r => Sys2Proof.Machine.execWhlNowLoRead r s
  | .ozhAsnLoRead r => Sys2Proof.Machine.execOzhAsnLoRead r s
  | .rndEInLoRead r => Sys2Proof.Machine.execRndEInLoRead r s
  | .rndRtimeLoRead r => Sys2Proof.Machine.execRndRtimeLoRead r s
  | .nudge val => Sys2Proof.Machine.execNudge val s
  | .ringAbiHostWrite src val => Sys2Proof.Machine.execRingAbiHostWrite src val s
  | .pwrModeReq src val => Sys2Proof.Machine.execPwrModeReq src val s
  | .restart src => Sys2Proof.Machine.execRestart src s
  | .strCommit src => Sys2Proof.Machine.execStrCommit src s
  | .mtxCommit src => Sys2Proof.Machine.execMtxCommit src s
  | .clrCommit src => Sys2Proof.Machine.execClrCommit src s
  | .clrArm src bits => Sys2Proof.Machine.execClrArm src bits s
  | .ripCommit src => Sys2Proof.Machine.execRipCommit src s
  | .hoopCommit src => Sys2Proof.Machine.execHoopCommit src s
  | .ozhCommit src => Sys2Proof.Machine.execOzhCommit src s
  | .flushTx src bits => Sys2Proof.Machine.execFlushTx src bits s
  | .flushRx src bits => Sys2Proof.Machine.execFlushRx src bits s
  | .adcStart src bits => Sys2Proof.Machine.execAdcStart src bits s
  | .hoopEnum src => Sys2Proof.Machine.execHoopEnum src s
  | .rswGo src => Sys2Proof.Machine.execRswGo src s
  | .ozhJoin src => Sys2Proof.Machine.execOzhJoin src s
  | .ozhLeave src => Sys2Proof.Machine.execOzhLeave src s
  | .ozhRekey src => Sys2Proof.Machine.execOzhRekey src s
  | .statClr src => Sys2Proof.Machine.execStatClr src s
  | .strFltClear src short bits => Sys2Proof.Machine.execStrFltClear src short bits s
  | .strPhClear src sense bits => Sys2Proof.Machine.execStrPhClear src sense bits s
  | .mtxFltClear src short w bits => Sys2Proof.Machine.execMtxFltClear src short w bits s
  | .carLatchClear src bits => Sys2Proof.Machine.execCarLatchClear src bits s
  | .fltDevClear src bits => Sys2Proof.Machine.execFltDevClear src bits s
  | .hrpPinOwnWrite src r val => Sys2Proof.Machine.execHrpPinOwnWrite src r val s
  | .ripOwnWrite src q val => Sys2Proof.Machine.execRipOwnWrite src q val s
  | .msixUnmask w => Sys2Proof.Machine.execMsixUnmask w s
  | .pressBoundary => Sys2Proof.Machine.execPressBoundary s
  | .nop o d => Sys2Proof.Machine.execNop o d s
  | .level o d => Sys2Proof.Machine.execLevel o d s
  | .levelBlock o d => Sys2Proof.Machine.execLevelBlock o d s
  | .owner o d => Sys2Proof.Machine.execOwner o d s
  | .press o d => Sys2Proof.Machine.execPress o d s
  | .ripenStart o d => Sys2Proof.Machine.execRipenStart o d s
  | .ripenStop o d => Sys2Proof.Machine.execRipenStop o d s
  | .ripenPause o d => Sys2Proof.Machine.execRipenPause o d s
  | .ripenResume o d => Sys2Proof.Machine.execRipenResume o d s
  | .ripenTrigger o d => Sys2Proof.Machine.execRipenTrigger o d s
  | .cultureLoad o d => Sys2Proof.Machine.execCultureLoad o d s
  | .harpLoad o d => Sys2Proof.Machine.execHarpLoad o d s
  | .harpQueue o d => Sys2Proof.Machine.execHarpQueue o d s
  | .carrierSet o d => Sys2Proof.Machine.execCarrierSet o d s
  | .readSetup o d => Sys2Proof.Machine.execReadSetup o d s
  | .readChannel o d => Sys2Proof.Machine.execReadChannel o d s
  | .readCulture o d => Sys2Proof.Machine.execReadCulture o d s
  | .readHarpRx o d => Sys2Proof.Machine.execReadHarpRx o d s
  | .routeHoop o d => Sys2Proof.Machine.execRouteHoop o d s
  | .routeOzhild o d => Sys2Proof.Machine.execRouteOzhild o d s
  | .radioSend o d => Sys2Proof.Machine.execRadioSend o d s
  | .rindRequest o d => Sys2Proof.Machine.execRindRequest o d s
  | .rindRequestTimeout => Sys2Proof.Machine.execRindRequestTimeout s
  | .tempo o d => Sys2Proof.Machine.execTempo o d s
  | .fence o d => Sys2Proof.Machine.execFence o d s
  | .fenceSatisfied o => Sys2Proof.Machine.execFenceSatisfied o s
  | .mode o d => Sys2Proof.Machine.execMode o d s
  | .sleepLinkReady => Sys2Proof.Machine.execSleepLinkReady s
  | .sleepAbort => Sys2Proof.Machine.execSleepAbort s
  | .setupWrite o d => Sys2Proof.Machine.execSetupWrite o d s
  | .imageBegin o d => Sys2Proof.Machine.execImageBegin o d s
  | .imageEraseDone rind => Sys2Proof.Machine.execImageEraseDone rind s
  | .imageData o d => Sys2Proof.Machine.execImageData o d s
  | .imagePageProgrammed rind good => Sys2Proof.Machine.execImagePageProgrammed rind good s
  | .imageVerify o d => Sys2Proof.Machine.execImageVerify o d s
  | .imageActivate o d => Sys2Proof.Machine.execImageActivate o d s
  | .imageAbort o d => Sys2Proof.Machine.execImageAbort o d s
  | .discoverEnumerate o d => Sys2Proof.Machine.execDiscoverEnumerate o d s
  | .discoverEntry o d => Sys2Proof.Machine.execDiscoverEntry o d s
  | .twinPairActive o d => Sys2Proof.Machine.execTwinPairActive o d s
  | .twinPairShadow o d => Sys2Proof.Machine.execTwinPairShadow o d s
  | .twinUnpair o d => Sys2Proof.Machine.execTwinUnpair o d s
  | .twinSwap o d => Sys2Proof.Machine.execTwinSwap o d s
  | .twinStatus o d => Sys2Proof.Machine.execTwinStatus o d s
  | .unknownOpcode o d => Sys2Proof.Machine.execUnknownOpcode o d s
  | .cueRelease => Sys2Proof.Machine.execCueRelease s
  | .doorbellReadDone n r => Sys2Proof.Machine.execDoorbellReadDone n r s
  | .wheyHeadReadDone m r => Sys2Proof.Machine.execWheyHeadReadDone m r s
  | .descriptorFetchDone n ds err => Sys2Proof.Machine.execDescriptorFetchDone n ds err s
  | .ringReadTimeout r => Sys2Proof.Machine.execRingReadTimeout r s
  | .ringStallRetry o => Sys2Proof.Machine.execRingStallRetry o s
  | .remoteTimeout => Sys2Proof.Machine.execRemoteTimeout s
  | .msixModerationTimer m => Sys2Proof.Machine.execMsixModerationTimer m s
  | .busMasterDisable d3 pme => Sys2Proof.Machine.execBusMasterDisable d3 pme s
  | .busMasterEnable => Sys2Proof.Machine.execBusMasterEnable s
  | .perstNAssert => Sys2Proof.Machine.execPerstNAssert s
  | .linkDown => Sys2Proof.Machine.execLinkDown s
  | .functionLevelReset => Sys2Proof.Machine.execFunctionLevelReset s
  | .wordClockEdge falling ppm => Sys2Proof.Machine.execWordClockEdge falling ppm s
  | .wordRange => Sys2Proof.Machine.execWordRange s
  | .wordLost => Sys2Proof.Machine.execWordLost s
  | .woscCalDone ticks => Sys2Proof.Machine.execWoscCalDone ticks s
  | .tempoEvent => Sys2Proof.Machine.execTempoEvent s
  | .tempoLost => Sys2Proof.Machine.execTempoLost s
  | .vinLockout => Sys2Proof.Machine.execVinLockout s
  | .vinLockoutExit => Sys2Proof.Machine.execVinLockoutExit s
  | .supplySuspensionEnd => Sys2Proof.Machine.execSupplySuspensionEnd s
  | .vrowLockout => Sys2Proof.Machine.execVrowLockout s
  | .vrowLockoutExit => Sys2Proof.Machine.execVrowLockoutExit s
  | .vrowSuspensionEnd => Sys2Proof.Machine.execVrowSuspensionEnd s
  | .vioHLockout => Sys2Proof.Machine.execVioHLockout s
  | .vioHLockoutExit ext => Sys2Proof.Machine.execVioHLockoutExit ext s
  | .v3Lockout => Sys2Proof.Machine.execV3Lockout s
  | .v3LockoutExit => Sys2Proof.Machine.execV3LockoutExit s
  | .vcorePgoodLoss => Sys2Proof.Machine.execVcorePgoodLoss s
  | .vbatLow => Sys2Proof.Machine.execVbatLow s
  | .vrindLoss => Sys2Proof.Machine.execVrindLoss s
  | .vrindRise => Sys2Proof.Machine.execVrindRise s
  | .wakeEdge => Sys2Proof.Machine.execWakeEdge s
  | .vaultAlarm => Sys2Proof.Machine.execVaultAlarm s
  | .perstNDeassert => Sys2Proof.Machine.execPerstNDeassert s
  | .hoopSignalDetect => Sys2Proof.Machine.execHoopSignalDetect s
  | .wakePinEdge pin rising => Sys2Proof.Machine.execWakePinEdge pin rising s
  | .rstN => Sys2Proof.Machine.execRstN s
  | .vcorePgood => Sys2Proof.Machine.execVcorePgood s
  | .pgoodTimeout => Sys2Proof.Machine.execPgoodTimeout s
  | .vaultLockRelease => Sys2Proof.Machine.execVaultLockRelease s
  | .referenceMeasured hz => Sys2Proof.Machine.execReferenceMeasured hz s
  | .crystalAmplitudeGood => Sys2Proof.Machine.execCrystalAmplitudeGood s
  | .clockStepTimeout => Sys2Proof.Machine.execClockStepTimeout s
  | .clockRetryPauseEnd => Sys2Proof.Machine.execClockRetryPauseEnd s
  | .pllLock => Sys2Proof.Machine.execPllLock s
  | .limpClockLock => Sys2Proof.Machine.execLimpClockLock s
  | .wheelSet periods => Sys2Proof.Machine.execWheelSet periods s
  | .stewardBootDone intact => Sys2Proof.Machine.execStewardBootDone intact s
  | .dozeTimer => Sys2Proof.Machine.execDozeTimer s
  | .dozeEventSleep => Sys2Proof.Machine.execDozeEventSleep s
  | .dozeEventStayAwake => Sys2Proof.Machine.execDozeEventStayAwake s
  | .dozeOverrun => Sys2Proof.Machine.execDozeOverrun s
  | .thermalShutdown sensor => Sys2Proof.Machine.execThermalShutdown sensor s
  | .thermalRelease => Sys2Proof.Machine.execThermalRelease s
  | .watchdogExpiry => Sys2Proof.Machine.execWatchdogExpiry s
  | .pllLockLoss => Sys2Proof.Machine.execPllLockLoss s
  | .debugHalt => Sys2Proof.Machine.execDebugHalt s
  | .debugHaltEnd => Sys2Proof.Machine.execDebugHaltEnd s
  | .trialPass => Sys2Proof.Machine.execTrialPass s
  | .dimmingPeriodBoundary n => Sys2Proof.Machine.execDimmingPeriodBoundary n s
  | .converterCycle n iMa => Sys2Proof.Machine.execConverterCycle n iMa s
  | .peakCurrentLimit r => Sys2Proof.Machine.execPeakCurrentLimit r s
  | .ovpHit r => Sys2Proof.Machine.execOvpHit r s
  | .bootstrapUndervoltage r => Sys2Proof.Machine.execBootstrapUndervoltage r s
  | .detectionSample n vosMv iMa => Sys2Proof.Machine.execDetectionSample n vosMv iMa s
  | .phaseOpen n => Sys2Proof.Machine.execPhaseOpen n s
  | .phaseSense n iMa => Sys2Proof.Machine.execPhaseSense n iMa s
  | .xchkWindow own => Sys2Proof.Machine.execXchkWindow own s
  | .selfTestEnd n iMa => Sys2Proof.Machine.execSelfTestEnd n iMa s
  | .scanFrameStart die => Sys2Proof.Machine.execScanFrameStart die s
  | .loopHoldTimer k => Sys2Proof.Machine.execLoopHoldTimer k s
  | .ditherProbe k => Sys2Proof.Machine.execDitherProbe k s
  | .rowSlotStart => Sys2Proof.Machine.execRowSlotStart s
  | .matrixSample p vcolMv isUa rowMv vrowMv => Sys2Proof.Machine.execMatrixSample p vcolMv isUa rowMv vrowMv s
  | .rowOverCurrent => Sys2Proof.Machine.execRowOverCurrent s
  | .ripenerStep n => Sys2Proof.Machine.execRipenerStep n s
  | .ripNop n => Sys2Proof.Machine.execRipNop n s
  | .ripStop n => Sys2Proof.Machine.execRipStop n s
  | .ripJmp n => Sys2Proof.Machine.execRipJmp n s
  | .ripDjnz n => Sys2Proof.Machine.execRipDjnz n s
  | .ripJz n => Sys2Proof.Machine.execRipJz n s
  | .ripLdi n => Sys2Proof.Machine.execRipLdi n s
  | .ripAddi n => Sys2Proof.Machine.execRipAddi n s
  | .ripMuli n => Sys2Proof.Machine.execRipMuli n s
  | .ripExt n => Sys2Proof.Machine.execRipExt n s
  | .ripSel n => Sys2Proof.Machine.execRipSel n s
  | .ripSet n => Sys2Proof.Machine.execRipSet n s
  | .ripSetr n => Sys2Proof.Machine.execRipSetr n s
  | .ripFade n => Sys2Proof.Machine.execRipFade n s
  | .ripTime n => Sys2Proof.Machine.execRipTime n s
  | .ripRamp n => Sys2Proof.Machine.execRipRamp n s
  | .ripHold n => Sys2Proof.Machine.execRipHold n s
  | .ripBreathe n => Sys2Proof.Machine.execRipBreathe n s
  | .ripWave n => Sys2Proof.Machine.execRipWave n s
  | .ripWait n => Sys2Proof.Machine.execRipWait n s
  | .ripEmit n => Sys2Proof.Machine.execRipEmit n s
  | .ripMask n => Sys2Proof.Machine.execRipMask n s
  | .ripRet n => Sys2Proof.Machine.execRipRet n s
  | .hrpDly n => Sys2Proof.Machine.execHrpDly n s
  | .hrpWait n => Sys2Proof.Machine.execHrpWait n s
  | .harpWaitDone n => Sys2Proof.Machine.execHarpWaitDone n s
  | .hrpShin n => Sys2Proof.Machine.execHrpShin n s
  | .hrpShout n => Sys2Proof.Machine.execHrpShout n s
  | .hrpPins n => Sys2Proof.Machine.execHrpPins n s
  | .hrpGet n => Sys2Proof.Machine.execHrpGet n s
  | .hrpPut n => Sys2Proof.Machine.execHrpPut n s
  | .queueUnblock n => Sys2Proof.Machine.execQueueUnblock n s
  | .hrpMark n => Sys2Proof.Machine.execHrpMark n s
  | .hrpAddi n => Sys2Proof.Machine.execHrpAddi n s
  | .hrpAlu n => Sys2Proof.Machine.execHrpAlu n s
  | .hrpLdi n => Sys2Proof.Machine.execHrpLdi n s
  | .hrpBr n => Sys2Proof.Machine.execHrpBr n s
  | .hrpPkt n => Sys2Proof.Machine.execHrpPkt n s
  | .hrpAtw n => Sys2Proof.Machine.execHrpAtw n s
  | .atwDone n => Sys2Proof.Machine.execAtwDone n s
  | .hrpStamp n => Sys2Proof.Machine.execHrpStamp n s
  | .hrpClrs n => Sys2Proof.Machine.execHrpClrs n s
  | .hrpHalt n => Sys2Proof.Machine.execHrpHalt n s
  | .hrpArm n => Sys2Proof.Machine.execHrpArm n s
  | .hpPinEdge pin level => Sys2Proof.Machine.execHpPinEdge pin level s
  | .carrierPeriodStart n => Sys2Proof.Machine.execCarrierPeriodStart n s
  | .syncInEdge => Sys2Proof.Machine.execSyncInEdge s
  | .tripActive l => Sys2Proof.Machine.execTripActive l s
  | .triggerCompare n x => Sys2Proof.Machine.execTriggerCompare n x s
  | .adcRunEnd q res => Sys2Proof.Machine.execAdcRunEnd q res s
  | .linkAligned c => Sys2Proof.Machine.execLinkAligned c s
  | .alignmentLost c => Sys2Proof.Machine.execAlignmentLost c s
  | .linkSignalLoss k => Sys2Proof.Machine.execLinkSignalLoss k s
  | .syncMissing k => Sys2Proof.Machine.execSyncMissing k s
  | .frameSend => Sys2Proof.Machine.execFrameSend s
  | .hoopSyncCapture k c => Sys2Proof.Machine.execHoopSyncCapture k c s
  | .upstreamSyncCapture k c => Sys2Proof.Machine.execUpstreamSyncCapture k c s
  | .shiftSectionEnd sec => Sys2Proof.Machine.execShiftSectionEnd sec s
  | .shiftHeaderReadDone r => Sys2Proof.Machine.execShiftHeaderReadDone r s
  | .shiftImageReadDone img err => Sys2Proof.Machine.execShiftImageReadDone img err s
  | .pktDesc k p => Sys2Proof.Machine.execPktDesc k p s
  | .pktCpl k p => Sys2Proof.Machine.execPktCpl k p s
  | .pktEvt k p => Sys2Proof.Machine.execPktEvt k p s
  | .pktSetw k p => Sys2Proof.Machine.execPktSetw k p s
  | .enumStart k p => Sys2Proof.Machine.execEnumStart k p s
  | .enumCount k p => Sys2Proof.Machine.execEnumCount k p s
  | .enumAssign k p => Sys2Proof.Machine.execEnumAssign k p s
  | .enumRec k p => Sys2Proof.Machine.execEnumRec k p s
  | .enumEnd k p => Sys2Proof.Machine.execEnumEnd k p s
  | .enumReq k p => Sys2Proof.Machine.execEnumReq k p s
  | .enumTimeout => Sys2Proof.Machine.execEnumTimeout s
  | .hoopHoldExpired => Sys2Proof.Machine.execHoopHoldExpired s
  | .heartbeat c => Sys2Proof.Machine.execHeartbeat c s
  | .heartbeatMissed => Sys2Proof.Machine.execHeartbeatMissed s
  | .pfltLow => Sys2Proof.Machine.execPfltLow s
  | .mirrorFrameEnd recs mseq queueEmpty fullDone good => Sys2Proof.Machine.execMirrorFrameEnd recs mseq queueEmpty fullDone good s
  | .slotStart => Sys2Proof.Machine.execSlotStart s
  | .beacon rx => Sys2Proof.Machine.execBeacon rx s
  | .data rx => Sys2Proof.Machine.execData rx s
  | .ack rx => Sys2Proof.Machine.execAck rx s
  | .ackWindowClose => Sys2Proof.Machine.execAckWindowClose s
  | .joinReq rx => Sys2Proof.Machine.execJoinReq rx s
  | .joinRsp rx => Sys2Proof.Machine.execJoinRsp rx s
  | .poll rx => Sys2Proof.Machine.execPoll rx s
  | .childInfo rx => Sys2Proof.Machine.execChildInfo rx s
  | .routeSet rx => Sys2Proof.Machine.execRouteSet rx s
  | .leave rx => Sys2Proof.Machine.execLeave rx s
  | .rekeyReq rx => Sys2Proof.Machine.execRekeyReq rx s
  | .ozhCpl rx => Sys2Proof.Machine.execOzhCpl rx s
  | .descFrame rx => Sys2Proof.Machine.execDescFrame rx s
  | .fast rx => Sys2Proof.Machine.execFast rx s
  | .fastAck rx => Sys2Proof.Machine.execFastAck rx s
  | .parentTimeout => Sys2Proof.Machine.execParentTimeout s
  | .joinRetry => Sys2Proof.Machine.execJoinRetry s
  | .joinRescan => Sys2Proof.Machine.execJoinRescan s
  | .heldFrameExpiry => Sys2Proof.Machine.execHeldFrameExpiry s
  | .keySwitch => Sys2Proof.Machine.execKeySwitch s
  | .rindWindowEnd w => Sys2Proof.Machine.execRindWindowEnd w s
  | .rndRecord => Sys2Proof.Machine.execRndRecord s
  | .rindStageCurrent ma => Sys2Proof.Machine.execRindStageCurrent ma s
  | .status => Sys2Proof.Machine.execStatus s
  | .fetch => Sys2Proof.Machine.execFetch s
  | .fetchEvent => Sys2Proof.Machine.execFetchEvent s
  | .rindAck => Sys2Proof.Machine.execRindAck s
  | .closePeriod => Sys2Proof.Machine.execClosePeriod s
  | .calSet => Sys2Proof.Machine.execCalSet s
  | .sealPrepare => Sys2Proof.Machine.execSealPrepare s
  | .sealCommit => Sys2Proof.Machine.execSealCommit s
  | .tamperOpen => Sys2Proof.Machine.execTamperOpen s
  | .tamperClosed => Sys2Proof.Machine.execTamperClosed s
  | .powerOnReset p => Sys2Proof.Machine.execPowerOnReset p s
  | .rstNRelease => Sys2Proof.Machine.execRstNRelease s
  | .syncInFall => Sys2Proof.Machine.execSyncInFall s
  | .ntcConversionsEnd codes => Sys2Proof.Machine.execNtcConversionsEnd codes s
  | .driftCompensation => Sys2Proof.Machine.execDriftCompensation s

end Sys2Proof.Machine
end

