-- ==== Sys2Proof/Machine/Sched.lean ====
section
/-! DEFINITION. What the block does while no command waits (DESIGN CHOICE, log entry 1): the first row whose time the spec fixes, whose
time has come and whose effect would change the state takes effect, in the order of R468, and no row that comes earlier in that order
follows it on the tick; when none is left on the tick, the clock advances by one tick. Rows that the outside or an unstated delay decides
(readings, frames, packets, strobes, replies of the Rind) are never chosen here: they are named. -/

namespace Sys2Proof.Machine

/-! ### A tick -/

/-- The Wheel one tick later: it advances by one, by two, or is held (R25, R30, R382). -/
def Clk.tick (c : Clk) : Clk :=
  let c := { c with now := c.now + 1, phase := 0 }
  if !c.running then c
  else if 0 < c.skip then { c with prev := c.wheel, wheel := c.wheel + 2, skip := c.skip - 1, served := [] }
  else if c.skip < 0 then { c with prev := c.wheel, skip := c.skip + 1, served := [] }
  else { c with prev := c.wheel, wheel := c.wheel + 1, served := [] }

/-- One tick: the clock, then what acts on every tick and is no row of its own. -/
def Dev.tick (s : Dev) : Dev :=
  let s := (if s.coreOn then s.arbitrate.settle else s).modClk Clk.tick
  if s.coreOn && s.clk.running then s.pinTick.convLive.adcTick.syncTick.hoopTick.ownPackets.ozhTick.takeoverTick.pfltTick.settle else s

/-! ### Rows that the clock brings -/

/-- The row of the instruction at a Harp's PC (Table HRP-1). -/
def harpRow (n : Fin 8) (w : Nat) : Instr :=
  match w / 4096 with
  | 0 => .hrpDly n
  | 1 => .hrpWait n
  | 2 => .hrpShin n
  | 3 => .hrpShout n
  | 4 => .hrpPins n
  | 5 => .hrpGet n
  | 6 => .hrpPut n
  | 7 => .hrpMark n
  | 9 => .hrpAddi n
  | 10 => .hrpAlu n
  | 11 => .hrpLdi n
  | 12 => .hrpBr n
  | 13 => .hrpPkt n
  | 14 => if bitOf w 9 then .hrpStamp n else .hrpAtw n
  | _ => match bits w 11 8 with
    | 0 => .hrpClrs n
    | 1 => .hrpHalt n
    | _ => .hrpArm n

/-- The row of the culture word at a Ripener's PC (Table RIP-1). -/
def ripRow (n : Fin 12) (w : Word) : Instr :=
  match fieldOf w 31 26 with
  | 0x00 => .ripNop n
  | 0x01 => .ripStop n
  | 0x02 => .ripJmp n
  | 0x03 => .ripDjnz n
  | 0x04 => .ripJz n
  | 0x05 => .ripLdi n
  | 0x06 => .ripAddi n
  | 0x07 => .ripMuli n
  | 0x08 => .ripExt n
  | 0x09 => .ripSel n
  | 0x0A => .ripSet n
  | 0x0B => .ripSetr n
  | 0x0C => .ripFade n
  | 0x0D => .ripTime n
  | 0x10 => .ripRamp n
  | 0x11 => .ripHold n
  | 0x12 => .ripBreathe n
  | 0x13 => .ripWave n
  | 0x14 => .ripWait n
  | 0x15 => .ripEmit n
  | 0x16 => .ripMask n
  | _ => .ripRet n

/-- The row that accepts a descriptor from a source (Table DSC-7, R145). -/
def descRow (o : Src) (d : Desc) : Instr :=
  match d.op.toNat with
  | 0x00 => .nop o d
  | 0x01 => .level o d
  | 0x02 => .levelBlock o d
  | 0x03 => .owner o d
  | 0x04 => .press o d
  | 0x05 => match d.b 13 with
    | 1 => .ripenStop o d
    | 2 => .ripenPause o d
    | 3 => .ripenResume o d
    | 4 => .ripenTrigger o d
    | _ => .ripenStart o d
  | 0x06 => .cultureLoad o d
  | 0x07 => .harpLoad o d
  | 0x08 => .harpQueue o d
  | 0x09 => .carrierSet o d
  | 0x0A => match d.b 12 with
    | 1 => .readChannel o d
    | 2 => .readCulture o d
    | 3 => .readHarpRx o d
    | _ => .readSetup o d
  | 0x0B => if d.b 12 = 1 then .routeOzhild o d else .routeHoop o d
  | 0x0C => .radioSend o d
  | 0x0D => .rindRequest o d
  | 0x0E => .tempo o d
  | 0x0F => .fence o d
  | 0x10 => .mode o d
  | 0x11 => .setupWrite o d
  | 0x12 => match d.b 12 % 8 with
    | 1 => .imageData o d
    | 2 => .imageVerify o d
    | 3 => .imageActivate o d
    | 4 => .imageAbort o d
    | _ => .imageBegin o d
  | 0x13 => if d.b 12 = 1 then .discoverEntry o d else .discoverEnumerate o d
  | 0x14 => match d.b 12 with
    | 1 => .twinPairShadow o d
    | 2 => .twinUnpair o d
    | 3 => .twinSwap o d
    | 4 => .twinStatus o d
    | _ => .twinPairActive o d
  | _ => .unknownOpcode o d

/-- The source with a number (R115). -/
def srcOf (n : Nat) : Src :=
  if n < 8 then .ring (Fin.ofNat 8 n) else if n = 8 then .lh else .lr

/-- The sources in turn, beginning after the one served last (R115). -/
def Dev.sources (s : Dev) : List Src := (upTo 10).map (fun i => srcOf ((s.ring.turn + 1 + i) % 10))

/-- The numbers 0 to n of a group of units. -/
def unitsOf (n : Nat) : List (Fin (n + 1)) := (upTo (n + 1)).map (Fin.ofNat (n + 1))

/-- A Harp's rows: its instruction, or what ends its wait. -/
def Dev.harpRows (s : Dev) (n : Fin 8) : List Instr :=
  match (s.harpOf n).st with
  | 1 => [harpRow n (s.harpInstr n (s.harpOf n).pc.toNat)]
  | 2 => [.harpWaitDone n, .queueUnblock n, .atwDone n]
  | _ => []

/-- A Ripener's rows: the instruction of an open step, or its next step. -/
def Dev.ripRows (s : Dev) (n : Fin 12) : List Instr :=
  match (s.ripOf n).budget with
  | some _ => [ripRow n (s.ripWord n)]
  | none => [.ripenerStep n]

/-- A source's rows: a fence that ends, then the acceptance of its head. -/
def Dev.srcRows (s : Dev) (o : Src) : List Instr :=
  match s.readyOf o with
  | d :: _ => [.fenceSatisfied o, if s.isTold o then .ringStallRetry o else descRow o d]
  | [] => [.fenceSatisfied o]

/-- The die temperatures of the frame before, which a frame start takes while no new ones are named. -/
def Dev.heldDie (s : Dev) : List Int := (upTo 4).map (fun i => tabGet 0 s.clr.dieT i)

/-- The filtered samples of pins that take a new level on this tick (R265). -/
def Dev.pinRows (s : Dev) : List Instr :=
  ((unitsOf 31).filter (fun (p : Fin 32) => s.filtDue p)).map (fun (p : Fin 32) => .hpPinEdge p (s.extOf p))

/-- The instructions of the Harps that started at this tick's press (R266). -/
def Dev.harpStartRows (s : Dev) : List Instr :=
  ((unitsOf 7).filter (fun (n : Fin 8) => decide ((s.harpOf n).r = s.clk.now ∧ (s.harpOf n).m = 0))).flatMap s.harpRows

/-- The trip inputs as they stand: one that is still active cuts a period that begins, and a filter takes a new level (R293). -/
def Dev.tripRows (s : Dev) : List Instr := (unitsOf 3).map (fun i => .tripActive ⟨i, s.trips.level.toNat.testBit i⟩)

/-- Suspensions that a time ends, with CORE on or off (R58, R61). -/
def supplyRows : List Instr := [.supplySuspensionEnd, .vrowSuspensionEnd]

/-- The rows whose time the spec fixes, in phases: an earlier phase comes first on a tick, and nothing raised in a phase reaches an earlier one
on that tick. Pins, Tempo events and Harps come before the Ripener steps that they may concern, Ripener steps before the application boundaries
(R242), and these before releases, acceptance and the rest (R11, R18, R217, R468). -/
def Dev.clockPhases (s : Dev) : List (List Instr) :=
  [s.pinRows, [.tempoEvent, .tempoLost], (unitsOf 7).flatMap s.harpRows, (unitsOf 11).flatMap s.ripRows,
    [.pressBoundary], s.harpStartRows, (unitsOf 15).map .dimmingPeriodBoundary, (unitsOf 5).map .carrierPeriodStart, s.tripRows,
    [.scanFrameStart s.heldDie], (unitsOf 7).map .loopHoldTimer ++ (unitsOf 7).map .ditherProbe,
    [.rowSlotStart], [.keySwitch, .slotStart], [.cueRelease], (unitsOf 3).map .msixModerationTimer,
    (unitsOf 5).flatMap (fun n => [.triggerCompare n false, .triggerCompare n true]),
    [.frameSend, .enumTimeout, .hoopHoldExpired, .heartbeatMissed, .pfltLow, .ackWindowClose, .parentTimeout, .joinRetry, .joinRescan,
      .heldFrameExpiry, .driftCompensation, .wordRange, .wordLost] ++ (unitsOf 2).map .syncMissing ++ (unitsOf 15).map .phaseOpen ++
      supplyRows ++ [.trialPass] ++ (if s.ring.link then [] else [.sleepLinkReady]) ++
      [.sleepAbort, .dozeOverrun, .remoteTimeout, .rindRequestTimeout],
    s.sources.flatMap s.srcRows ++ [.tempoEvent]]

/-- The rows of the wake sequence whose time the spec fixes (R85, R87, R89). -/
def Dev.wakeRows (s : Dev) : List Instr :=
  supplyRows ++ [.pgoodTimeout, .referenceMeasured s.clk.refHz, .clockStepTimeout, .clockRetryPauseEnd]

/-- Whether a row would change the state. -/
def acts (s : State) (c : Instr) : Bool :=
  match exec c s with
  | .next t => decide (t ≠ s)
  | _ => true

/-- The first row of a list of phases that would change the state, with its phase. -/
def firstActing (s : State) : List (Nat × List Instr) → Option (Nat × Instr)
  | [] => none
  | (i, rows) :: rest =>
    match rows.find? (acts s) with
    | some c => some (i, c)
    | none => firstActing s rest

/-- The row that the clock brings next on this tick, with its phase, if one is left. -/
def nextRow (s : State) : Option (Nat × Instr) :=
  let phases := if s.dev.coreOn then s.dev.clockPhases else [s.dev.wakeRows]
  firstActing s ((phases.zipIdx.map (fun e => (e.2, e.1))).drop s.dev.clk.phase)

/-- The state with the tick's order gone through up to a phase (R468). -/
def State.atPhase (s : State) (i : Nat) : State := { s with dev := s.dev.modClk (fun c => { c with phase := i }) }

/-- A step on an empty queue: the next row of this tick, or the next tick. -/
def idle (s : State) : Host.Outcome State Fault Refusal :=
  match nextRow s with
  | some (i, c) => exec c (s.atPhase i)
  | none => .next { s with dev := s.dev.tick }

end Sys2Proof.Machine
end

