-- ==== Sys2Proof/Safety.lean ====
section
/-! DEFINITION. The terms that claims use: a command that takes effect, what a command leaves as it was, and the invariants. -/

namespace Sys2Proof.Machine

/-- The command completes at `s`, and what it leaves has property `P`. -/
def Does (c : Instr) (s : State) (P : State → Prop) : Prop := ∃ t, exec c s = .next t ∧ P t

/-- The registers in which every command may note what it has done to the rings and queues: TAIL of the whey rings, and the flags of the
rings, the Hoop and the twin (R122, R125, R326, R347). -/
def noteReg (off : Nat) : Bool := [0x1010, 0x121C, 0x123C, 0x125C, 0x127C, 0x7010, 0x7810].contains off

/-- The rings as every command leaves them but for what it takes from and puts on them: descriptors, waits and settings are the same; shadows,
entries that wait, their counts, cue-store entries that wait for room and messages may have moved on (R114, R120, R123, R125). -/
def sameRing (s t : Dev) : Prop :=
  (∃ c w q x a b o m, t.ring = { s.ring with
      curd := c, whey := w, cues := q, wait := x, lostEvt := a, lostCpl := b, owed := o, msix := m }) ∧
    (∀ n, ∃ v w, t.curdOf n = { s.curdOf n with shadow := v, shadowDue := w }) ∧ ∀ v, ∃ p, t.msixOf v = { s.msixOf v with pend := p }

/-- The fault summary, but for FLT_LOCAL and FLT_LAST (R429, R430). -/
def sameFlt (s t : Dev) : Prop := ∃ l c, t.flt = { s.flt with local_ := l, last := c }

/-- The Hoop, but for its ports' queues and counts, and what it keeps for the unit itself (R325, R326). -/
def sameHoop (s t : Dev) : Prop := ∃ p o, t.hoop = { s.hoop with ports := p, own := o }

/-- The twin, but for what is on its way to the shadow (R346 to R348). -/
def sameTwin (s t : Dev) : Prop := ∃ a b c d, t.twin = { s.twin with told := a, deltas := b, image := c, imgOn := d }

/-- The bridge to the Rind, but for its note of the mailbox (R421) and of the clock in the window in progress (R405). -/
def sameBr (s t : Dev) : Prop := ∃ b l c, t.br = { s.br with told := b, limpSeen := l, clkCut := c }

/-- The areas of the device that a command changes only where the spec says so. The rings, the fault summary, the
queues of the Hoop, the deltas of the twin and the notes of the mailbox and the clock are brought up to date after every command, so that their areas are
the same but for that. -/
inductive Area where
  | clk
  | pwr
  | regs
  | tempo
  | chan
  | str
  | mtx
  | clr
  | rip
  | cult
  | harp
  | pins
  | car
  | trips
  | seq
  | ntc
  | ozh
  | kept
  | free
  | ring
  | hoop
  | twin
  | flt
  | br
  | rind
deriving DecidableEq, Repr

/-- Whether an area is the same in two states; of the registers, those in force and those last written, outside `noteReg`. -/
def Area.same (s t : State) : Area → Prop
  | .clk => t.dev.clk = s.dev.clk
  | .pwr => t.dev.pwr = s.dev.pwr
  | .regs => ∀ off, noteReg off = false → t.dev.force off = s.dev.force off ∧ t.dev.written off = s.dev.written off
  | .tempo => t.dev.tempo = s.dev.tempo
  | .chan => t.dev.chan = s.dev.chan
  | .str => t.dev.str = s.dev.str
  | .mtx => t.dev.mtx = s.dev.mtx
  | .clr => t.dev.clr = s.dev.clr
  | .rip => t.dev.rip = s.dev.rip
  | .cult => t.dev.cult = s.dev.cult
  | .harp => t.dev.harp = s.dev.harp
  | .pins => t.dev.pins = s.dev.pins
  | .car => t.dev.car = s.dev.car
  | .trips => t.dev.trips = s.dev.trips
  | .seq => t.dev.seq = s.dev.seq
  | .ntc => t.dev.ntcConv = s.dev.ntcConv
  | .ozh => t.dev.ozh = s.dev.ozh
  | .kept => t.dev.ozhKept = s.dev.ozhKept
  | .free => t.dev.free = s.dev.free
  | .ring => sameRing s.dev t.dev
  | .hoop => sameHoop s.dev t.dev
  | .twin => sameTwin s.dev t.dev
  | .flt => sameFlt s.dev t.dev
  | .br => sameBr s.dev t.dev
  | .rind => t.rind = s.rind

/-- Every area but those named is the same, and so is the queue of commands; what was put out stays put out. -/
def KeepsBut (areas : List Area) (s t : State) : Prop := 
  t.pending = s.pending ∧ s.dev.out <:+ t.dev.out ∧ ∀ a, a ∉ areas → a.same s t

/-- Every register outside `noteReg` that `p` does not name is the same, in force and as last written. -/
def RegsBut (p : Nat → Bool) (s t : State) : Prop :=
  ∀ off, noteReg off = false → p off = false → t.dev.force off = s.dev.force off ∧ t.dev.written off = s.dev.written off

/-! ### Descriptors -/

/-- The descriptor `d` is at the head of source `o`, may be accepted now, and executes at once on this unit: no check of Table DSC-3 refuses it
and it has no AT. -/
def Runs (o : Src) (d : Desc) (s : State) : Prop :=
  (s.dev.readyOf o).head? = some d ∧ s.dev.mayAccept o d = true ∧ s.dev.formRefused o d = none ∧ s.dev.destOf o d = .self ∧
    s.dev.modeRefuses d = false ∧ d.flag 0 = false

/-- The device with the head of a source taken off it (R116). -/
def State.taken (s : State) (o : Src) (d : Desc) : Dev := (s.dev.takeHead o d).2

/-- The head of the source is gone, counted as accepted on this tick. -/
def Took (o : Src) (s t : State) : Prop :=
  t.dev.readyOf o = (s.dev.readyOf o).tail ∧ t.dev.ring.serial = s.dev.ring.serial + 1 ∧ t.dev.ring.lastAccept = some s.dev.clk.now

/-- CI of the curd rings, which acceptance advances. -/
def ciReg (off : Nat) : Bool := decide (0x1100 ≤ off) && decide (off < 0x1200) && off % 0x20 = 0x1C

/-- The areas that acceptance and a completion change: a completion of a descriptor that came over a path may leave by radio. -/
def takenAreas : Src → List Area
  | .ring _ => [.ring, .regs]
  | _ => [.ring, .regs, .ozh]

/-- A descriptor of source `o` changed, beside what acceptance and a completion change, only `areas`, and of the registers only those that
`regs` names. -/
def RunsBut (areas : List Area) (regs : Nat → Bool) (o : Src) (s t : State) : Prop :=
  KeepsBut (takenAreas o ++ areas) s t ∧
    ∀ off, noteReg off = false → ciReg off = false → off ≠ 0x800C → regs off = false →
      t.dev.force off = s.dev.force off ∧ t.dev.written off = s.dev.written off

/-- Nothing new waits to complete: the flights, the fences and what waits for the Steward are the same. -/
def SameWaits (s t : State) : Prop :=
  t.dev.ring.flights = s.dev.ring.flights ∧ t.dev.ring.fences = s.dev.ring.fences ∧ t.dev.ring.steward = s.dev.ring.steward

/-- One more descriptor waits to complete: `d`, for `a`. -/
def Flies (o : Src) (d : Desc) (a : Await) (s t : State) : Prop :=
  ∃ f, t.dev.ring.flights = s.dev.ring.flights ++ [f] ∧ f.job.d = d ∧ f.job.src = o ∧ f.job.serial = s.dev.ring.serial ∧
    f.exec = s.dev.short ∧ f.await = a

/-- The descriptor `d` waits for the Steward or the flash: nothing else waits that did not before (R437, R443). -/
def StewardHolds (o : Src) (d : Desc) (s t : State) : Prop :=
  t.dev.ring.flights = s.dev.ring.flights ∧ t.dev.ring.fences = s.dev.ring.fences ∧
    ∃ j, t.dev.ring.steward = s.dev.ring.steward ++ [j] ∧ j.d = d ∧ j.src = o ∧ j.serial = s.dev.ring.serial

/-- The descriptor of host ring `n`, executed now, is answered at the tail of its whey ring, where an entry is due, the ring can take one, it
has been enabled since the last reset of the endpoint, and none waits for it (R118, R122, Table DSC-4). -/
def Answers (o : Src) (d : Desc) (st : Status) (detail : Nat) (s t : State) : Prop :=
  ∀ n : Fin 8, o = .ring n → (s.dev.curdOf n).haltAt = none → completionDue d st = true →
    let m : Nat := s.dev.rf (curdOff n + 0x18) 9 8
    s.dev.wheyCan m = true → s.dev.ring.shut.toNat.testBit m = false → s.dev.ring.wait = [] →
      .whey m (s.dev.wheyTail m) (s.dev.wheyAddr m) ⟨0, BitVec.ofNat 8 st.code, d.seq, s.dev.short, BitVec.ofNat 48 detail⟩ ∈ t.dev.out

/-- Job `j` of a host ring completes with a status, executed-at and detail: its entry is at the tail of its whey ring, under the conditions of
`Answers` (R118, R122, Table DSC-4). -/
def Lands (j : Job) (st : Status) (exec : Short) (detail : Nat) (s t : State) : Prop :=
  ∀ n, j.origin = .curd n → completionDue j.d (j.status st) = true →
    let m : Nat := s.dev.rf (curdOff n + 0x18) 9 8
    s.dev.wheyCan m = true → s.dev.ring.shut.toNat.testBit m = false → s.dev.ring.wait = [] →
      .whey m (s.dev.wheyTail m) (s.dev.wheyAddr m) (mkCompletion j.d (j.status st) exec detail) ∈ t.dev.out

/-- The device tells the host of event `code`: where the event ring can take an entry and none waits, the entry is written at its tail
(R122, R124, R169). -/
def Tells (code detail : Nat) (s t : State) : Prop :=
  s.dev.wheyCan s.dev.evtRing = true → s.dev.ring.owed = false → s.dev.ring.wait = [] →
    .whey s.dev.evtRing (s.dev.wheyTail s.dev.evtRing) (s.dev.wheyAddr s.dev.evtRing) ⟨1, 0, BitVec.ofNat 16 code, s.dev.short, BitVec.ofNat 48 detail⟩ ∈ t.dev.out

/-- A channel but for its stepwise value and its HANDOFF, with what they were before this tick. -/
def sameLevel (x y : Chan) : Prop := x.shift = y.shift ∧ x.level = y.level ∧ x.drive = y.drive

/-! ### The Rind -/

/-- Every calibration parameter of the Rind in its range; SHUNT is 0 until it is set (Table RND-7). -/
def Cal.ok (c : Cal) : Prop :=
  (c.shunt = 0 ∨ 100 ≤ c.shunt ∧ c.shunt ≤ 100000) ∧ c.ki.natAbs ≤ 50000 ∧ c.kv.natAbs ≤ 50000 ∧ c.oi.natAbs ≤ 1000000 ∧
    c.ov.natAbs ≤ 1000 ∧ 1 ≤ c.interval ∧ c.interval ≤ 240

/-- What holds of the Rind after every step: the ledger ring and the event log in canonical form within their places, at most 16 windows of history, only
written records collected, parameters in range, values that wait in range too, no sealing asked for without a shunt, and nothing that waits once
sealed (R406, R415 to R417). -/
def Rind.Inv (r : Rind) : Prop :=
  tabWf (fun _ => []) r.ring = true ∧ (∀ e ∈ r.ring, e.1 < 256) ∧ tabWf (fun _ => []) r.log = true ∧ (∀ e ∈ r.log, e.1 < 128) ∧ r.cHist.length ≤ 16 ∧
    (∀ a, r.ackno = some a → a < r.recno) ∧ r.cal.ok ∧ (∀ e ∈ r.calNext, calFits e.1 e.2 = true) ∧
    (r.sealReq = true → r.calSoon.shunt ≠ 0 ∧ r.sealed = false) ∧
    (r.sealed = true → r.cal.shunt ≠ 0 ∧ r.calNext = [] ∧ r.sealReq = false)

end Sys2Proof.Machine
end

