-- ==== Sys2Proof/Certificates/Slice0/Obligations.lean ====
section
/-! DEFINITION. The statements for the provers. -/

open Sys2Proof Sys2Proof.Machine

/-- A step on a state with commands waiting runs the one at the front, on the state with the rest of the queue. -/
def Obligations.StepRunsFrontCommand : Prop :=
  ∀ (c : Instr) (s : State), step { s with pending := c :: s.pending } = exec c s

/-- A step on an empty queue runs the first row that the clock brings on this tick and that acts, with the tick's order gone through up to that
row; when none is left, the transitions asked for on the tick are judged and one tick passes, in which the Wheel advances by one, or by two or by
none while a slew is carried out (the model's choice, log entries 1 and 5). The packets that the unit has sent to its own ID may write set-up. -/
def Obligations.IdleStepKeepsTime : Prop :=
  ∀ (s : State), s.pending = [] →
    (∀ i c, nextRow s = some (i, c) → step s = exec c (s.atPhase i)) ∧
    (nextRow s = none → ∃ t, step s = .next t ∧ t.pending = [] ∧ t.rind = s.rind ∧ s.dev.out <:+ t.dev.out ∧
      let c : Clk := (if s.dev.coreOn then s.dev.arbitrate.settle else s.dev).clk
      (s.dev.twin.takeDue = false → s.dev.pwr.asked = none → (∀ f ∈ s.dev.ring.flights, f.modeAsked = none) → c = s.dev.clk) ∧
      ((∀ p ∈ s.dev.hoop.own, p.type ≠ 0x04) →
        t.dev.clk.now = c.now + 1 ∧ t.dev.clk.phase = 0 ∧
        (c.running = true → c.skip = 0 → t.dev.clk.wheel = c.wheel + 1 ∧ t.dev.clk.prev = c.wheel) ∧
        (c.running = true → 0 < c.skip → t.dev.clk.wheel = c.wheel + 2 ∧ t.dev.clk.prev = c.wheel ∧ t.dev.clk.skip = c.skip - 1) ∧
        (c.running = true → c.skip < 0 → t.dev.clk.wheel = c.wheel ∧ t.dev.clk.prev = c.wheel ∧ t.dev.clk.skip = c.skip + 1) ∧
        (c.running = false → t.dev.clk.wheel = c.wheel)))

/-- A host read of BAR0 that touches a LO register (WHL_NOW, OZH_ASN, RND_E_IN, RND_RTIME), of any size and alignment: it latches that
register's HI word, and that of every other LO register it touches, and changes nothing else; every byte of the reply is the byte of the register
that holds it, HI registers read after the latch, so that LO and HI are one value. A read that does not touch the LO register is none of the
row's. The registers read so: the Wheel, the ASN, E_IN and RTIME in their two words. -/
def Obligations.LowReadLatchesHigh : Prop :=
  (∀ (s : State) (off size : Nat),
    ∀ p ∈ [(Instr.whlNowLoRead ⟨off, size⟩, 0x400), (.ozhAsnLoRead ⟨off, size⟩, 0x8034), (.rndEInLoRead ⟨off, size⟩, 0x9014),
        (.rndRtimeLoRead ⟨off, size⟩, 0x9024)],
      (touches p.2 off size = false → Does p.1 s (KeepsBut [] s)) ∧
      (touches p.2 off size = true → Does p.1 s (fun t => KeepsBut [.clk, .ozh, .br] s t ∧
        let hit (lo : Nat) : Bool := s.dev.coreOn && touches lo off size
        t.dev.clk = (if hit 0x400 then { s.dev.clk with nowHi := (s.dev.clk.wheel >>> 32).setWidth 32 } else s.dev.clk) ∧
        t.dev.ozh = (if hit 0x8034 then { s.dev.ozh with asnHi := BitVec.ofNat 8 (s.dev.asn / 2 ^ 32) } else s.dev.ozh) ∧
        (∃ b l c, t.dev.br = { s.dev.br with
          told := b, limpSeen := l, clkCut := c,
          eInHi := if hit 0x9014 then BitVec.ofNat 32 (s.dev.br.copy.eIn / 2 ^ 32) else s.dev.br.eInHi,
          rtimeHi := if hit 0x9024 then BitVec.ofNat 32 (s.dev.br.copy.rtime / 2 ^ 32) else s.dev.br.rtimeHi }) ∧
        ∃ bytes, .reply bytes ∈ t.dev.out ∧ bytes.length = size ∧ ∀ i < size,
          let r := (off + i) / 4 * 4
          bytes.getD i 0 = BitVec.ofNat 8
            ((if r ∈ [0x404, 0x8038, 0x9018, 0x9028] then t.dev.readReg r else s.dev.readReg r).toNat / 256 ^ ((off + i) % 4))))) ∧
  ∀ s : State, s.dev.coreOn = true →
    s.dev.readReg 0x400 = s.dev.clk.wheel.setWidth 32 ∧ s.dev.readReg 0x404 = s.dev.clk.nowHi ∧
    s.dev.readReg 0x8034 = BitVec.ofNat 32 s.dev.asn ∧ s.dev.readReg 0x8038 = s.dev.ozh.asnHi.setWidth 32 ∧
    (s.dev.br.on = true →
      s.dev.readReg 0x9014 = BitVec.ofNat 32 s.dev.br.copy.eIn ∧ s.dev.readReg 0x9018 = s.dev.br.eInHi ∧
      s.dev.readReg 0x9024 = BitVec.ofNat 32 s.dev.br.copy.rtime ∧ s.dev.readReg 0x9028 = s.dev.br.rtimeHi)

/-- A COMMIT strobe of STR_, MTX_, CLR_ or RIP_ takes the shadow copy of every register of its block with a staged write, as it stood before
the writes of this tick, as the value to apply at the block's boundary. Nothing is in force yet. -/
def Obligations.CommitStrobesTakeShadowCopies : Prop :=
  ∀ (s : State) (src : BitVec 16), s.dev.coreOn = true → s.dev.pwr.mode ≠ .shadow →
    ∀ p ∈ [(Instr.strCommit src, 0x2000, 0x3000), (.mtxCommit src, 0x3000, 0x3800), (.clrCommit src, 0x3800, 0x4000),
        (.ripCommit src, 0x4000, 0x5000)],
      Does p.1 s (fun t => KeepsBut [] s t ∧
        ∀ off, tabGet none t.dev.regs.commit off =
          if p.2.1 ≤ off ∧ off < p.2.2 ∧ off ∈ s.dev.regs.staged.map Prod.fst then some (s.dev.writtenBefore off)
          else tabGet none s.dev.regs.commit off)

/-- Strobes whose whole effect falls on the tick of the write: queue flushes, ARM, RSW_GO and STAT_CLR. -/
def Obligations.StrobesActAtOnce : Prop :=
  ∀ (s : State) (src : BitVec 16) (b : BitVec 8), s.dev.coreOn = true → s.dev.pwr.mode ≠ .shadow →
    Does (.flushTx src b) s (fun t => KeepsBut [.harp] s t ∧ ∀ n < 8,
      t.dev.harpOf n = if b.toNat.testBit n then { s.dev.harpOf n with tx := [] } else s.dev.harpOf n) ∧
    Does (.flushRx src b) s (fun t => KeepsBut [.harp] s t ∧ ∀ n < 8,
      t.dev.harpOf n = if b.toNat.testBit n then { s.dev.harpOf n with rx := [] } else s.dev.harpOf n) ∧
    Does (.clrArm src b) s (fun t => KeepsBut [.clr] s t ∧ ∀ k < 8,
      t.dev.clsOf k = if b.toNat.testBit k ∧ ((s.dev.clsOf k).state = loopLost ∨ (s.dev.clsOf k).state = loopFrozen) then
        { s.dev.clsOf k with armed := true } else s.dev.clsOf k) ∧
    Does (.rswGo src) s (fun t => KeepsBut [.hoop] s t ∧ ∃ p o, t.dev.hoop = { s.dev.hoop with rswGo := true, ports := p, own := o }) ∧
    Does (.statClr src) s (fun t => KeepsBut [.ozh] s t ∧ t.dev.ozh = { s.dev.ozh with
      crcErr := 0, micFail := 0, replay := 0, noAck := 0, ccaBusy := 0, hopDrop := 0, chAtt := [], chFail := [] })

/-- ADC_CMD.START makes each enabled SOFT sequence of its bits pending, or counts a dropped trigger, with its flag, where it is pending or
running. -/
def Obligations.AdcStartMakesSequencesPending : Prop :=
  ∀ (s : State) (src : BitVec 16) (b : BitVec 8), s.dev.coreOn = true → s.dev.pwr.mode ≠ .shadow →
    Does (.adcStart src b) s (fun t => KeepsBut [.seq, .regs] s t ∧ RegsBut (· = 0x6808) s t ∧
      ∀ q < 8,
        let on := b.toNat.testBit q && s.dev.rb (seqOff q) 0 && decide (s.dev.rf (seqOff q) 6 4 = 0)
        let late := on && ((s.dev.seqOf q).pend || (s.dev.seqOf q).running)
        t.dev.seqOf q = (if late then { s.dev.seqOf q with ovr := satInc (s.dev.seqOf q).ovr }
          else if on then { s.dev.seqOf q with pend := true } else s.dev.seqOf q) ∧
        t.dev.rb 0x6808 q = (s.dev.rb 0x6808 q || late))

/-- Fault bits written as 1 clear, but for a bit that its condition has set on this tick; and what they held off comes back: a string's and a
position's counts are 0, a phase with neither bit left waits for its self-test, a latched pair waits for its next period start, and HOLD loses its
cause FAULT with the last device fault. HOOP_ISO does not clear while the unit is cut off. -/
def Obligations.FaultClearsRelease : Prop :=
  ∀ (s : State) (src : BitVec 16), s.dev.coreOn = true →
    (∀ (short : Bool) (b : BitVec 16), Does (.strFltClear src short b) s (fun t => KeepsBut [.str, .regs] s t ∧
      let off := if short then 0x2014 else 0x2010
      let e := b.setWidth 32 &&& ~~~ s.dev.setNow off
      RegsBut (· = off) s t ∧ t.dev.force off = s.dev.force off &&& ~~~ e ∧
      ∀ n < 16,
        let hit := e.toNat.testBit n && s.dev.rb off n
        (t.dev.strOf n).opens = (if hit then 0 else (s.dev.strOf n).opens) ∧
        (t.dev.strOf n).shorts = (if hit then 0 else (s.dev.strOf n).shorts))) ∧
    (∀ (sense : Bool) (b : BitVec 16), Does (.strPhClear src sense b) s (fun t => KeepsBut [.str, .regs] s t ∧
      let off := if sense then 0x201C else 0x2018
      let e := b.setWidth 32 &&& ~~~ s.dev.setNow off
      RegsBut (· = off) s t ∧ t.dev.force off = s.dev.force off &&& ~~~ e ∧
      ∀ n < 16, t.dev.strOf n = if e.toNat.testBit n && s.dev.rb off n then
          { s.dev.strOf n with testWait := !s.dev.rb (if sense then 0x2018 else 0x201C) n, testSense := sense }
        else s.dev.strOf n)) ∧
    (∀ (short : Bool) (w : Fin 32) (b : BitVec 32), Does (.mtxFltClear src short w b) s (fun t => KeepsBut [.mtx, .regs] s t ∧
      let off := (if short then 0x3280 else 0x3200) + 4 * w.val
      let e := b &&& ~~~ s.dev.setNow off
      RegsBut (· = off) s t ∧ t.dev.force off = s.dev.force off &&& ~~~ e ∧
      ∀ p, t.dev.posOf p = if p / 32 = w.val && e.toNat.testBit (p % 32) && s.dev.rb off (p % 32) then
          { s.dev.posOf p with cnt := 0, cls := 0, back := true }
        else s.dev.posOf p)) ∧
    (∀ b : BitVec 6, Does (.carLatchClear src b) s (fun t => KeepsBut [.car, .regs] s t ∧
      let e := (b.setWidth 32 <<< 8) &&& ~~~ s.dev.setNow 0x6004
      RegsBut (· = 0x6004) s t ∧ t.dev.force 0x6004 = s.dev.force 0x6004 &&& ~~~ e ∧
      ∀ n < 6, t.dev.carOf n = if e.toNat.testBit (8 + n) && s.dev.rb 0x6004 (8 + n) then { s.dev.carOf n with latchClr := true }
        else s.dev.carOf n)) ∧
    (∀ b : BitVec 2, Does (.fltDevClear src b) s (fun t => KeepsBut [.pwr, .regs] s t ∧
      let e := b.setWidth 32 &&& ~~~ s.dev.setNow 0xA008
      RegsBut (· = 0xA008) s t ∧ (∃ c, t.dev.pwr = { s.dev.pwr with cause := c }) ∧
      t.dev.rb 0xA008 1 = (s.dev.rb 0xA008 1 && !e.toNat.testBit 1) ∧
      t.dev.rb 0xA008 0 = (s.dev.rb 0xA008 0 && !(e.toNat.testBit 0 && !(s.dev.fabricOn && s.dev.cutOff))) ∧
      (t.dev.rf 0xA008 1 0 = 0 → s.dev.rf 0xA008 1 0 ≠ 0 → t.dev.hasCause causeFault = false) ∧
      (∀ i ≠ causeFault, t.dev.hasCause i = s.dev.hasCause i) ∧
      (t.dev.rf 0xA008 1 0 ≠ 0 → t.dev.pwr.cause = s.dev.pwr.cause)))

/-- Writes of owners: a pin that changes owner becomes a high-Z input, and a channel's owner acts as an OWNER with HANDOFF 0, which waits for
the channel's boundary. -/
def Obligations.OwnerWritesTakeOver : Prop :=
  ∀ (s : State) (src : BitVec 16) (v : BitVec 32), s.dev.coreOn = true →
    (∀ r : Fin 4, s.dev.writeRefused (0x5010 + 4 * r.val) v (BitVec.allOnes 32) = none →
      Does (.hrpPinOwnWrite src r v) s (fun t => KeepsBut [.pins, .regs] s t ∧ RegsBut (· = 0x5010 + 4 * r.val) s t ∧
        t.dev.force (0x5010 + 4 * r.val) = v ∧ (∃ d, t.dev.pins = { s.dev.pins with drive := d }) ∧
        ∀ p < 32, t.dev.pins.drive.toNat.testBit p =
          (s.dev.pins.drive.toNat.testBit p && !(decide (p / 8 = r.val) && decide (t.dev.pinOwner p ≠ s.dev.pinOwner p))))) ∧
    (∀ q : Fin 260, s.dev.writeRefused (0x4400 + 4 * q.val) v (BitVec.allOnes 32) = none →
      Does (.ripOwnWrite src q v) s (fun t => KeepsBut [.chan, .regs] s t ∧ RegsBut (· = 0x4400 + 4 * q.val) s t ∧
        t.dev.written (0x4400 + 4 * q.val) = v ∧ t.dev.force (0x4400 + 4 * q.val) = s.dev.force (0x4400 + 4 * q.val) ∧
        tabGet false t.dev.regs.live (0x4400 + 4 * q.val) = true ∧
        (∀ c, c / 4 = q.val → (t.dev.chanOf c).handoff = false ∧ (t.dev.chanOf c).step = (s.dev.chanOf c).step ∧
          sameLevel (s.dev.chanOf c) (t.dev.chanOf c)) ∧
        ∀ c, c / 4 ≠ q.val → t.dev.chanOf c = s.dev.chanOf c))

/-- A mode request waits for its press; a RESTART resets CORE and IO3, keeps the always-on registers and the Rind, and begins a wake sequence
with cause 8: the engines are empty, the Wheel goes on from the copy of the last press, retention is kept if RET_EN = 1, and the limp clock has
ended. -/
def Obligations.PowerWritesRequestAndRestart : Prop :=
  ∀ (s : State) (src : BitVec 16), s.dev.coreOn = true →
    (∀ (v : BitVec 32) (m : Mode), modeOfCode (v.toNat % 8) = some m →
      Does (.pwrModeReq src v) s (fun t => KeepsBut [.pwr, .regs] s t ∧ RegsBut (· = 0x804) s t ∧
        t.dev.pwr = { s.dev.pwr with request := some (m, s.dev.clk.now) } ∧ fieldOf (t.dev.written 0x804) 2 0 = v.toNat % 8)) ∧
    (∀ v : BitVec 32, modeOfCode (v.toNat % 8) = none →
      Does (.pwrModeReq src v) s (fun t => KeepsBut [.flt, .regs] s t ∧ t.dev.flt.cfgOff = 0x804 ∧ t.dev.flt.cfgSrc = src ∧
        t.dev.flt.cfgCnt = satInc s.dev.flt.cfgCnt ∧ t.dev.written 0x804 = s.dev.written 0x804)) ∧
    Does (.restart src) s (fun t => t.rind = s.rind ∧ t.pending = s.pending ∧ s.dev.out <:+ t.dev.out ∧
      t.dev.clk.running = false ∧ t.dev.clk.now = s.dev.clk.now ∧ t.dev.clk.limp = false ∧ t.dev.clk.woscCal = s.dev.clk.woscCal ∧
      (let p := s.dev.pwr;
        t.dev.pwr = { p with
          mode := .ready, wake := if p.v3Low then .v3wait else .buck, stepAt := s.dev.clk.now, wakeStart := s.dev.clk.now, wakeCause := 8,
          wakePin := 0, fromDoze := false, latched := none, clkAttempts := 0, dozeWake := false, dozeEvent := false, sleepTo := none,
          request := none, asked := none, cause := 0, retValid := false, resetWhy := 1,
          retained := p.retained && s.dev.rb 0x81C 0,
          storedWheel := if s.dev.clk.running then p.wheelCopy + 4096 else p.storedWheel,
          woscCount := if s.dev.clk.running then 0 else p.woscCount }) ∧
      t.dev.str = [] ∧ t.dev.mtx = {} ∧ t.dev.rip = [] ∧ t.dev.harp = [] ∧ t.dev.car = [] ∧ t.dev.cult = [] ∧ t.dev.tempo = {} ∧
      t.dev.chan = [] ∧ t.dev.clr = {} ∧ t.dev.seq = [] ∧ t.dev.twin = {} ∧ t.dev.ring.cues = [] ∧ t.dev.ring.flights = [] ∧
      t.dev.flt.slots = s.dev.slotsAfter ∧ t.dev.ozhKept = (if s.dev.rb 0x81C 0 then s.dev.ozhKept else none) ∧
      (∀ off, aonReg off = false → noteReg off = false → t.dev.force off = regReset off ∧ t.dev.written off = regReset off) ∧
      (∀ off, aonReg off = true → t.dev.force off = s.dev.force off ∧ t.dev.written off = s.dev.written off))

/-- The host ABI is judged at once; NUDGE reads each enabled ring's doorbell or head word that no read outstanding, or scheduled within 64 ticks,
serves; unmasking a vector, or the function, sends what the mask held for a vector that an enabled whey ring still names. -/
def Obligations.RingWritesActAtOnce : Prop :=
  ∀ (s : State), s.dev.coreOn = true →
    (∀ (src : BitVec 16) (v : BitVec 32), s.dev.writeRefused 0x1004 v (BitVec.allOnes 32) = none →
      Does (.ringAbiHostWrite src v) s (fun t => KeepsBut [.ring, .regs] s t ∧ RegsBut (· = 0x1004) s t ∧
        (t.dev.ring.abiState = 1 ↔ s.dev.flt.refuse = true ∨ fieldOf v 15 8 = s.dev.ifMajor ∧ s.dev.ifMinor ≤ fieldOf v 7 0 + 2) ∧
        (t.dev.ring.abiState = 1 ∨ t.dev.ring.abiState = 2) ∧
        (t.dev.ring.abiState = 1 → t.dev.ring.servedMinor = BitVec.ofNat 8 (min (fieldOf v 7 0) s.dev.ifMinor)))) ∧
    (∀ (v : BitVec 32), Does (.nudge v) s (fun t => KeepsBut [.ring] s t ∧
      (∀ n : Fin 8,
        let c := s.dev.curdOf n.val
        let served := decide (c.rdDrop < c.rdOut) || (match s.dev.pressSoon with | some p => s.dev.pollAt n.val p | none => false)
        if v.toNat.testBit n.val && s.dev.curdEn n.val && decide (c.st ≠ .stopped) && !served && s.dev.mayIssue then
          .readReq (.doorbell n) (s.dev.addr64 (curdOff n.val + 8)) 8 ∈ t.dev.out ∧ (t.dev.curdOf n.val).rdOut = c.rdOut + 1
        else (t.dev.curdOf n.val).rdOut = c.rdOut) ∧
      (∀ m : Fin 4,
        let w := s.dev.wheyOf m.val
        let served := decide (w.rdDrop < w.rdOut) || (s.dev.pressSoon.isSome && s.dev.headAt m.val)
        v.toNat.testBit (8 + m.val) → s.dev.wheyEn m.val = true → w.st ≠ .stopped → served = false → s.dev.mayIssue = true →
          .readReq (.head m) (s.dev.addr64 (wheyOff m.val + 8)) 8 ∈ t.dev.out ∧ (t.dev.wheyOf m.val).rdOut = w.rdOut + 1))) ∧
    (∀ v : Fin 8, Does (.msixUnmask (.vector v)) s (fun t => KeepsBut [.ring] s t ∧ (t.dev.msixOf v.val).mask = false ∧
      ((s.dev.msixOf v.val).mask = true → (s.dev.msixOf v.val).pend = true → s.dev.ring.fmask = false → s.dev.mayIssue = true →
        s.dev.vectorNamed v.val = true → .msix v.val (s.dev.msixOf v.val).addr (s.dev.msixOf v.val).data ∈ t.dev.out))) ∧
    ∀ on : Bool, Does (.msixUnmask (.function on)) s (fun t => KeepsBut [.ring] s t ∧ t.dev.ring.fmask = on ∧
      ∀ v < 8, (t.dev.msixOf v).mask = (s.dev.msixOf v).mask ∧ (on = true → t.dev.msixOf v = s.dev.msixOf v) ∧
        (on = false → (s.dev.msixOf v).pend = true → (s.dev.msixOf v).mask = false → s.dev.mayIssue = true → s.dev.vectorNamed v = true →
          .msix v (s.dev.msixOf v).addr (s.dev.msixOf v).data ∈ t.dev.out))

/-- COMMIT strobes of the Hoop and of Ozhild act at once. HOOP_COMMIT: every staged slice field takes the value staged before this tick.
OZH_COMMIT: a staged key is installed as KEY_SEL names it and OZH_KEY reads 0; a staged block mask that leaves at least 15 channels is in force in
the registers and, at once where no mesh runs, on the air, while a coordinator of a running mesh announces it 32,768 slots ahead or keeps it until
the switch that is pending has ended; a mask that leaves fewer stays staged, and the write is recorded as rejected. -/
def Obligations.FabricCommitsInstall : Prop :=
  ∀ (s : State) (src : BitVec 16), s.dev.coreOn = true →
    Does (.hoopCommit src) s (fun t => KeepsBut [.regs] s t ∧ RegsBut (inRange 0x7000 0x7800) s t ∧
      (∀ off, t.dev.written off = s.dev.written off ∨ noteReg off = true) ∧
      ∀ off, 0x7000 ≤ off → off < 0x7800 → noteReg off = false → off ∈ s.dev.regs.staged.map Prod.fst →
        t.dev.force off = takeFields Fld.isStaged (s.dev.writtenBefore off) (s.dev.force off) (regFields off)) ∧
    (
     let keyed : Prop := ∃ j < 4, tabGet false s.dev.regs.staged (0x8050 + 4 * j) = true
     let masked : Bool := tabGet false s.dev.regs.staged 0x8014 || tabGet false s.dev.regs.staged 0x8018
     let bad : Bool := masked && decide ((openChans s.dev.blockStaged).length < 15)
     let own (off : Nat) : Bool := [0x8014, 0x8018, 0x8050, 0x8054, 0x8058, 0x805C, 0x800C].contains off
     Does (.ozhCommit src) s (fun t =>
      KeepsBut [.ozh, .regs, .flt] s t ∧ RegsBut own s t ∧
      (keyed →
        (
          let k := BitVec.ofNat 128 ((List.range 16).foldl (fun n i =>
            256 * n + (s.dev.writtenBefore (0x8050 + 4 * (i / 4))).toNat / 256 ^ (i % 4) % 256) 0);
          if s.dev.rb 0x804C 0 then t.dev.ozh.jk = some k ∧ t.dev.ozh.nk = s.dev.ozh.nk
          else t.dev.ozh.nk = some k ∧ t.dev.ozh.jk = s.dev.ozh.jk) ∧
        ∀ j < 4, t.dev.written (0x8050 + 4 * j) = 0 ∧ t.dev.force (0x8050 + 4 * j) = 0) ∧
      (¬ keyed → t.dev.ozh.nk = s.dev.ozh.nk ∧ t.dev.ozh.jk = s.dev.ozh.jk ∧
        ∀ j < 4, t.dev.written (0x8050 + 4 * j) = s.dev.written (0x8050 + 4 * j) ∧
          t.dev.force (0x8050 + 4 * j) = s.dev.force (0x8050 + 4 * j)) ∧
      (∀ off ∈ [0x8014, 0x8018], t.dev.written off = s.dev.written off ∧
        (masked = true → bad = false → tabGet false s.dev.regs.staged off = true →
          t.dev.force off = takeFields Fld.isStaged (s.dev.writtenBefore off) (s.dev.force off) (regFields off)) ∧
        (masked = false ∨ bad = true → t.dev.force off = s.dev.force off ∧
          tabGet false t.dev.regs.staged off = tabGet false s.dev.regs.staged off)) ∧
      (∃ n j b w q, t.dev.ozh = { s.dev.ozh with nk := n, jk := j, block := b, switch := w, blockWait := q }) ∧
      (
        let go := masked && !bad
        let next : Switch := ⟨s.dev.asn + 32768, some s.dev.blockStaged⟩
        t.dev.ozh.block = (if go && !s.dev.ozh.busy then s.dev.blockStaged else s.dev.ozh.block) ∧
        t.dev.ozh.switch = (if go && s.dev.ozh.busy && s.dev.isCoord && s.dev.ozh.switch.isNone then some next else s.dev.ozh.switch) ∧
        t.dev.ozh.blockWait = (if go && s.dev.ozh.busy && s.dev.isCoord && s.dev.ozh.switch.isSome then some s.dev.blockStaged
          else s.dev.ozh.blockWait)) ∧
      (bad = false → sameFlt s.dev t.dev ∧ t.dev.force 0x800C = s.dev.force 0x800C) ∧
      (bad = true → t.dev.flt.cfgOff = 0x8004 ∧ t.dev.flt.cfgSrc = src ∧ t.dev.flt.cfgCnt = satInc s.dev.flt.cfgCnt ∧
        t.dev.rb 0x800C 31 = true)))

/-- Strobes that start a procedure of the fabric or of the mesh: an enumeration on the root, or one to follow the one that runs; a join, which
forgets an earlier search; a leave, which queues LEAVE for the coordinator; a switch of key index 32,768 slots ahead. Where its conditions do not
hold a strobe changes nothing. That a LEAVE ends in state OFF is the model's reading, log entry 42. -/
def Obligations.FabricStrobesStart : Prop :=
  ∀ (s : State) (src : BitVec 16), s.dev.coreOn = true →
    (s.dev.isRoot = true → s.dev.hoop.enumBusy = false →
      Does (.hoopEnum src) s (fun t => KeepsBut [.hoop, .ring, .regs, .ozh, .free] s t ∧
        RegsBut (fun off => inRange 0x7400 0x7800 off || decide (off = 0x800C)) s t ∧
        t.dev.hoop.epoch = s.dev.hoop.epoch + 1 ∧ t.dev.hoop.enumStart = s.dev.pressIndex ∧
        (s.dev.childPorts ≠ [] → t.dev.hoop.enumBusy = true ∧ t.dev.hoop.enumN = none ∧ t.dev.hoop.asked = s.dev.childPorts ∧
          ∀ k ∈ s.dev.childPorts, (s.dev.portOf k).txq.length < 64 →
            ∃ p ∈ (t.dev.portOf k).txq, p.1.type = 0x10 ∧ leAt p.1.payload 0 2 = (s.dev.hoop.epoch + 1).toNat))) ∧
    (s.dev.isRoot = true → s.dev.hoop.enumBusy = true →
      Does (.hoopEnum src) s (fun t => t.dev.hoop.enumWant = true ∧ KeepsBut [.hoop] s t ∧
        ∃ p o, t.dev.hoop = { s.dev.hoop with enumWant := true, ports := p, own := o })) ∧
    (s.dev.isRoot = false → Does (.hoopEnum src) s (KeepsBut [] s)) ∧
    (
      let may := s.dev.ozhOn && decide (s.dev.pwr.mode ≠ .shadow) && !s.dev.isCoord && s.dev.ozh.jk.isSome
      Does (.ozhJoin src) s (fun t => KeepsBut [.ozh] s t ∧ t.dev.ozh = if may then
          { s.dev.ozh with st := 1, joinParent := none, joinBeacons := 0, joinFc := none, joinWait := none, rescanAt := none }
        else s.dev.ozh)) ∧
    (
      let may := s.dev.ozhOn && !s.dev.isCoord && (decide (s.dev.ozh.st = 3) || decide (s.dev.ozh.st = 4))
      (may = true → Does (.ozhLeave src) s (fun t => KeepsBut [.ozh, .clk, .tempo, .regs] s t ∧ RegsBut (· = 0x800C) s t ∧
        t.dev.ozh = { (s.dev.sendCmd 0 [0x06]).ozh with st := 0 } ∧ t.dev.clk.now = s.dev.clk.now ∧ t.dev.clk.wheel = s.dev.clk.wheel ∧
        t.dev.clk.role ≠ .radio ∧ (s.dev.clk.role ≠ .radio → t.dev.clk = s.dev.clk ∧ t.dev.tempo = s.dev.tempo))) ∧
      (may = false → Does (.ozhLeave src) s (KeepsBut [] s))) ∧
    (s.dev.ozhOn = true → s.dev.isCoord = true → s.dev.flt.dbgHalt = false → s.dev.ozh.switch = none →
      Does (.ozhRekey src) s (fun t => t.dev.ozh = { s.dev.ozh with switch := some ⟨s.dev.asn + 32768, none⟩ } ∧ KeepsBut [.ozh] s t)) ∧
    (s.dev.ozhOn = true → s.dev.isCoord = true → (s.dev.flt.dbgHalt = true ∨ ∃ w m, s.dev.ozh.switch = some ⟨w, some m⟩) →
      Does (.ozhRekey src) s (fun t => t.dev.ozh = { s.dev.ozh with rekeyLater := true } ∧ KeepsBut [.ozh] s t)) ∧
    (s.dev.ozhOn = true → s.dev.isCoord = true → s.dev.flt.dbgHalt = false → (∃ w, s.dev.ozh.switch = some ⟨w, none⟩) →
      Does (.ozhRekey src) s (KeepsBut [] s)) ∧
    (s.dev.ozhOn = false ∨ s.dev.isCoord = false → Does (.ozhRekey src) s (KeepsBut [] s))

/-- A 32-bit aligned write of a register with nothing refused in it: each RW-live field keeps its value in force and waits for its grid with
the value written, each RW-staged one waits for a COMMIT or PRESS, each RW-idle one is in force at once (R10). -/
def Obligations.RegisterWriteFollowsAccessClass : Prop :=
  ∀ (s : State) (src : BitVec 16) (off : Nat) (v : BitVec 32), s.dev.coreOn = true → off % 4 = 0 → noteReg off = false →
    s.dev.writeRefused off v (BitVec.allOnes 32) = none → off ≠ 0x808 → s.dev.maskRefused off v (BitVec.allOnes 32) = false →
    Does (.registerWrite src .bar0 off 4 (v.setWidth 64)) s (fun t => t.rind = s.rind ∧
      ∀ f ∈ regFields off, match f.acc with
        | .live g => (∀ j, g ≠ .owner j) →
          fieldOf (t.dev.written off) f.hi f.lo = fieldOf v f.hi f.lo ∧ tabGet false t.dev.regs.live off = true ∧
            fieldOf (t.dev.force off) f.hi f.lo = fieldOf (s.dev.force off) f.hi f.lo
        | .staged _ => fieldOf (t.dev.written off) f.hi f.lo = fieldOf v f.hi f.lo ∧ tabGet false t.dev.regs.staged off = true ∧
            fieldOf (t.dev.force off) f.hi f.lo = fieldOf (s.dev.force off) f.hi f.lo
        | .idle _ => fieldOf (t.dev.force off) f.hi f.lo = fieldOf v f.hi f.lo
        | _ => True)

/-- A write that the device cannot take, because the blocks have no power or a field is refused, is recorded with its offset and its source,
and counted.
That a write to a unit without power is a rejected one is deduced, log entry 6; its source is the choice of log entry 12. -/
def Obligations.RejectedWriteIsRecorded : Prop :=
  ∀ (s : State) (src : BitVec 16) (off : Nat) (v : BitVec 32), (regRow off).isSome = true → off % 4 = 0 → off < 65536 →
    (s.dev.coreOn = false → Does (.registerWrite src .bar0 off 4 (v.setWidth 64)) s (fun t =>
      t.dev.flt.cfgOff.toNat = off ∧ t.dev.flt.cfgSrc = src ∧ t.dev.flt.cfgCnt = satInc s.dev.flt.cfgCnt ∧ KeepsBut [.flt, .regs] s t ∧
        RegsBut (fun x => rejectOff off = some x) s t ∧ t.dev.readReg off = 0)) ∧
    (s.dev.coreOn = true → off ≠ 0x808 → ∀ st, s.dev.writeRefused off v (BitVec.allOnes 32) = some st →
      Does (.registerWrite src .bar0 off 4 (v.setWidth 64)) s (fun t => 
        t.dev.flt.cfgOff.toNat = off ∧ t.dev.flt.cfgSrc = src ∧ t.dev.flt.cfgCnt = satInc s.dev.flt.cfgCnt ∧
        ∀ f ∈ regFields off, (s.dev.fieldRefused off v f (fieldOf v f.hi f.lo)).isSome = true → (∀ j, f.acc ≠ .live (.owner j)) →
          fieldOf (t.dev.force off) f.hi f.lo = fieldOf (s.dev.force off) f.hi f.lo ∧
          fieldOf (t.dev.written off) f.hi f.lo = fieldOf (s.dev.written off) f.hi f.lo))

/-! ### The descriptor catalogue -/

/-- NOP completes OK and an opcode above 0x14 completes OPCODE, with no other effect: the descriptor is off its ring and its completion is in
the whey ring (R145, R151). -/
def Obligations.NopCompletesUnknownRefused : Prop :=
  ∀ (s : State) (o : Src) (d : Desc),
    (Runs o d s → d.op = 0x00 → Does (.nop o d) s (fun t =>
      Took o s t ∧ RunsBut [] (fun _ => false) o s t ∧ SameWaits s t ∧ Answers o d .ok 0 s t)) ∧
    ((s.dev.readyOf o).head? = some d → s.dev.mayAccept o d = true → 0x14 < d.op.toNat → s.dev.flt.refuse = false →
      Does (.unknownOpcode o d) s (fun t =>
        Took o s t ∧ RunsBut [] (fun _ => false) o s t ∧ SameWaits s t ∧ Answers o d .opcode 0 s t))

/-- LEVEL and LEVEL_BLOCK write the stepwise values of their channels, the last of equal channels standing; nothing else of a channel changes
(R152).
The detail's delay is the choice of log entry 16. -/
def Obligations.LevelsWriteStepwiseValues : Prop :=
  ∀ (s : State) (o : Src) (d : Desc), Runs o d s →
    (d.op = 0x01 → Does (.level o d) s (fun t =>
      Took o s t ∧ RunsBut [.chan] (fun _ => false) o s t ∧ SameWaits s t ∧ (∃ k, Answers o d .ok k s t) ∧
      (∀ i < d.b 28, (∀ k < d.b 28, i < k → d.v (12 + 4 * k) 2 ≠ d.v (12 + 4 * i) 2) →
        (t.dev.chanOf (d.v (12 + 4 * i) 2)).step = BitVec.ofNat 16 (d.v (14 + 4 * i) 2)) ∧
      ∀ c, sameLevel (t.dev.chanOf c) (s.dev.chanOf c) ∧ (t.dev.chanOf c).handoff = (s.dev.chanOf c).handoff ∧
        ((∀ i < d.b 28, d.v (12 + 4 * i) 2 ≠ c) → t.dev.chanOf c = s.dev.chanOf c))) ∧
    (d.op = 0x02 → Does (.levelBlock o d) s (fun t =>
      Took o s t ∧ RunsBut [.chan] (fun _ => false) o s t ∧ SameWaits s t ∧ (∃ k, Answers o d .ok k s t) ∧
      (∀ i < d.b 14, (t.dev.chanOf (d.v 12 2 + i * d.b 15)).step = BitVec.ofNat 16 (d.v (16 + 2 * i) 2)) ∧
      ∀ c, sameLevel (t.dev.chanOf c) (s.dev.chanOf c) ∧ (t.dev.chanOf c).handoff = (s.dev.chanOf c).handoff ∧
        ((∀ i < d.b 14, d.v 12 2 + i * d.b 15 ≠ c) → t.dev.chanOf c = s.dev.chanOf c)))

/-- OWNER gives its channels an owner that waits for their boundaries, with its HANDOFF; the owners in force stay (R153).
The detail's delay is the choice of log entry 16. -/
def Obligations.OwnerWaitsForBoundary : Prop :=
  ∀ (s : State) (o : Src) (d : Desc), Runs o d s → d.op = 0x03 → Does (.owner o d) s (fun t =>
    let inside (c : Nat) : Prop := d.v 12 2 ≤ c ∧ c < d.v 12 2 + d.v 14 2
    Took o s t ∧ RunsBut [.chan] (fun off => decide (0x4400 ≤ off) && decide (off < 0x4810)) o s t ∧ SameWaits s t ∧
      (∃ k, Answers o d .ok k s t) ∧
      ∀ c, t.dev.ownerOf c = s.dev.ownerOf c ∧ sameLevel (t.dev.chanOf c) (s.dev.chanOf c) ∧
        (t.dev.chanOf c).step = (s.dev.chanOf c).step ∧
        (inside c → t.dev.ownerWritten c = d.b 16 ∧ (t.dev.chanOf c).handoff = bitOf (d.b 17) 0 ∧
          tabGet false t.dev.regs.live (ownOff c) = true) ∧
        (c < 1040 → ¬inside c → t.dev.ownerWritten c = s.dev.ownerWritten c ∧ t.dev.chanOf c = s.dev.chanOf c))

/-- PRESS waits for the next press, or acts at once where the press of this tick has been served; with FABRIC the root fixes the boundary at the first press from now plus the lead, tells the fabric and
waits for it, and no other unit accepts it. Each action of RIPEN waits for the next step of its Ripener (R154, R155, R255, R321).
Which press a PRESS of the same tick meets is the model's choice, log entry 15. -/
def Obligations.PressAndRipenWait : Prop :=
  ∀ (s : State) (o : Src) (d : Desc), Runs o d s →
    (d.op = 0x04 → bitOf (d.b 12) 0 = false →
      ¬(s.dev.clk.running = true ∧ s.dev.gridNow 4096 0 = true ∧ s.dev.isServed .press = true) →
      Does (.press o d) s (fun t => Took o s t ∧ RunsBut [] (fun _ => false) o s t ∧ Flies o d .press s t)) ∧
    (d.op = 0x04 → bitOf (d.b 12) 0 = false →
      s.dev.clk.running = true ∧ s.dev.gridNow 4096 0 = true ∧ s.dev.isServed .press = true →
      Does (.press o d) s (fun t =>
        let u : Dev := (s.taken o d).pressLatch
        Took o s t ∧ KeepsBut (takenAreas o ++ [.chan, .ozh, .flt]) s t ∧ SameWaits s t ∧
        (s.dev.blockBad = false → Answers o d .ok 0 s t) ∧ t.dev.chan = u.chan ∧ t.dev.regs.commit = u.regs.commit ∧ (∀ n, o = .ring n → t.dev.ozh = u.ozh) ∧
        ∀ off, noteReg off = false → ciReg off = false → off ≠ 0x800C → t.dev.force off = u.force off ∧ t.dev.written off = u.written off)) ∧
    (d.op = 0x04 → bitOf (d.b 12) 0 = true → s.dev.isRoot = true → Does (.press o d) s (fun t =>
      let px : Nat := (s.dev.wheelN + 4095) / 4096
      let b : Nat := px + max (s.dev.rf 0x7018 7 0) s.dev.hoop.leadMin
      Took o s t ∧ RunsBut [.hoop] (fun _ => false) o s t ∧ Flies o d (.pressFabric b) s t ∧
        (px, b) ∈ t.dev.hoop.announced ∧ b ∈ t.dev.hoop.recorded)) ∧
    (d.op = 0x04 → bitOf (d.b 12) 0 = true → s.dev.isRoot = false → Does (.press o d) s (fun t =>
      Took o s t ∧ RunsBut [] (fun _ => false) o s t ∧ SameWaits s t ∧ Answers o d .state 0 s t)) ∧
    ∀ p ∈ [(Instr.ripenStart o d, 0), (.ripenStop o d, 1), (.ripenPause o d, 2), (.ripenResume o d, 3), (.ripenTrigger o d, 4)],
      d.op = 0x05 → d.b 13 = p.2 → Does p.1 s (fun t =>
        Took o s t ∧ RunsBut [] (fun _ => false) o s t ∧ Flies o d (.ripen (d.b 12)) s t)

/-- CULTURE_LOAD, HARP_LOAD and HARP_QUEUE put their words into culture memory, an idle Harp's memory and a Harp's TX queue; a busy Harp gives
LOCKED, a queue without room FULL, and nothing is written (R156, R157). -/
def Obligations.LoadsFillEngineMemories : Prop :=
  ∀ (s : State) (o : Src) (d : Desc), Runs o d s →
    (d.op = 0x06 → Does (.cultureLoad o d) s (fun t =>
      Took o s t ∧ RunsBut [.cult] (fun _ => false) o s t ∧ SameWaits s t ∧ Answers o d .ok (d.v 12 2 + d.b 14) s t ∧
      (∀ i < d.b 14, t.dev.cultWord (d.v 12 2 + i) = BitVec.ofNat 32 (d.v (16 + 4 * i) 4)) ∧
      ∀ a, (a < d.v 12 2 ∨ d.v 12 2 + d.b 14 ≤ a) → t.dev.cultWord a = s.dev.cultWord a)) ∧
    (d.op = 0x07 → s.dev.harpIdle (d.b 12) = true → Does (.harpLoad o d) s (fun t =>
      Took o s t ∧ RunsBut [] (fun off => decide (0x5400 ≤ off) && decide (off < 0x5600)) o s t ∧ SameWaits s t ∧
      Answers o d .ok (d.b 13 + d.b 14) s t ∧
      ∀ n < 8, ∀ i < 32, t.dev.harpInstr n i =
        if n = d.b 12 ∧ d.b 13 ≤ i ∧ i < d.b 13 + d.b 14 then d.v (16 + 2 * (i - d.b 13)) 2 else s.dev.harpInstr n i)) ∧
    (d.op = 0x07 → s.dev.harpIdle (d.b 12) = false → Does (.harpLoad o d) s (fun t =>
      Took o s t ∧ RunsBut [] (fun off => off = 0x5008) o s t ∧ SameWaits s t ∧ Answers o d .locked 0 s t ∧
      t.dev.force 0x5008 = s.dev.force 0x5008 ||| 0x80000000)) ∧
    (d.op = 0x08 → Does (.harpQueue o d) s (fun t =>
      let room : Nat := s.dev.txDepth (d.b 12) - (s.dev.harpOf (d.b 12)).tx.length
      Took o s t ∧ RunsBut [.harp] (fun _ => false) o s t ∧ SameWaits s t ∧
      (if d.b 13 ≤ room then
        Answers o d .ok (room - d.b 13) s t ∧ ∀ n, t.dev.harpOf n = if n = d.b 12 then
          { s.dev.harpOf n with tx := (s.dev.harpOf n).tx ++ (List.range (d.b 13)).map (fun i => BitVec.ofNat 32 (d.v (16 + 4 * i) 4)) }
          else s.dev.harpOf n
      else Answers o d .full room s t ∧ ∀ n, t.dev.harpOf n = s.dev.harpOf n)))

/-- CARRIER_SET gives an enabled pair the selected values, which wait for its next carrier update; a pair that is not enabled, or in HOLD,
gives STATE (R158, R289).
Unselected fields are not checked: log entry 17. -/
def Obligations.CarrierSetWaitsForUpdate : Prop :=
  ∀ (s : State) (o : Src) (d : Desc), Runs o d s → d.op = 0x09 →
    let off : Nat := 0x6100 + 0x40 * d.b 12
    (s.dev.rb off 0 = true → s.dev.inHold = false → Does (.carrierSet o d) s (fun t =>
      Took o s t ∧ RunsBut [.free] (fun x => decide (off + 4 ≤ x) && decide (x < off + 0x14)) o s t ∧ SameWaits s t ∧
      (∃ k, Answers o d .ok k s t) ∧
      ∀ i < 4, t.dev.force (off + 4 + 4 * i) = s.dev.force (off + 4 + 4 * i) ∧
        (if bitOf (d.b 13) i then fieldOf (t.dev.written (off + 4 + 4 * i)) 19 0 = d.v (16 + 4 * i) 4 ∧
            tabGet false t.dev.regs.live (off + 4 + 4 * i) = true
          else t.dev.written (off + 4 + 4 * i) = s.dev.written (off + 4 + 4 * i)))) ∧
    (s.dev.rb off 0 = false ∨ s.dev.inHold = true → Does (.carrierSet o d) s (fun t =>
      Took o s t ∧ RunsBut [] (fun _ => false) o s t ∧ SameWaits s t ∧ Answers o d .state 0 s t))

/-- READ completes with the value: a set-up register as BAR0 reads it, a channel, a culture word, or the oldest word of a Harp's RX queue, which
leaves the queue (R159). -/
def Obligations.ReadsReturnValues : Prop :=
  ∀ (s : State) (o : Src) (d : Desc), Runs o d s → d.op = 0x0A →
    (d.b 12 = 0 → Does (.readSetup o d) s (fun t =>
      Took o s t ∧ RunsBut [.clk, .ozh, .br] (fun _ => false) o s t ∧ SameWaits s t ∧
        Answers o d .ok (((s.taken o d).readReg (d.v 14 2)).toNat + 2 ^ 32 * d.v 14 2) s t ∧
        (d.v 14 2 = 0x400 → t.dev.clk = { s.dev.clk with nowHi := (s.dev.clk.wheel >>> 32).setWidth 32 }) ∧
        (d.v 14 2 ≠ 0x400 → t.dev.clk = s.dev.clk))) ∧
    (d.b 12 = 1 → Does (.readChannel o d) s (fun t =>
      Took o s t ∧ RunsBut [] (fun _ => false) o s t ∧ SameWaits s t ∧
        Answers o d .ok (s.dev.channelValue (d.v 14 2) + 2 ^ 32 * d.v 14 2) s t)) ∧
    (d.b 12 = 2 → Does (.readCulture o d) s (fun t =>
      Took o s t ∧ RunsBut [] (fun _ => false) o s t ∧ SameWaits s t ∧
        Answers o d .ok ((s.dev.cultWord (d.v 14 2)).toNat + 2 ^ 32 * d.v 14 2) s t)) ∧
    (d.b 12 = 3 → ∀ (w : Word) (ws : List Word), (s.dev.harpOf (d.v 14 2)).rx = w :: ws → Does (.readHarpRx o d) s (fun t =>
      Took o s t ∧ RunsBut [.harp] (fun _ => false) o s t ∧ SameWaits s t ∧
        Answers o d .ok (w.toNat + 2 ^ 32 * d.v 14 2 + 2 ^ 40 * ws.length) s t ∧
        ∀ n, t.dev.harpOf n = if n = d.v 14 2 then { s.dev.harpOf n with rx := ws } else s.dev.harpOf n)) ∧
    (d.b 12 = 3 → (s.dev.harpOf (d.v 14 2)).rx = [] → Does (.readHarpRx o d) s (fun t =>
      Took o s t ∧ RunsBut [] (fun _ => false) o s t ∧ SameWaits s t ∧ Answers o d .state 0 s t))

/-- ROUTE writes an entry of the Hoop's table, which waits for its press as a register write does, or on the coordinator an entry of the
radio's; elsewhere the radio's table gives STATE (R160, R327, R387). -/
def Obligations.RouteWritesTables : Prop :=
  ∀ (s : State) (o : Src) (d : Desc), Runs o d s → d.op = 0x0B →
    (d.b 12 = 0 → Does (.routeHoop o d) s (fun t =>
      let off : Nat := 0x7400 + 4 * d.v 14 2
      Took o s t ∧ RunsBut [] (fun x => x = off) o s t ∧ SameWaits s t ∧ Answers o d .ok (d.v 14 2) s t ∧
        t.dev.force off = s.dev.force off ∧ tabGet false t.dev.regs.live off = true ∧
        ∀ f ∈ regFields off, fieldOf (t.dev.written off) f.hi f.lo = bits (d.v 16 4) f.hi f.lo)) ∧
    (d.b 12 = 1 → s.dev.isCoord = true → Does (.routeOzhild o d) s (fun t =>
      Took o s t ∧ RunsBut [.ozh] (fun _ => false) o s t ∧ SameWaits s t ∧ Answers o d .ok (d.v 14 2) s t ∧
        ∀ i, tabGet noRoute t.dev.ozh.routes i =
          if i = d.v 14 2 then routeOfBytes ((List.range 12).map (fun k => BitVec.ofNat 8 (d.b (16 + k))))
          else tabGet noRoute s.dev.ozh.routes i)) ∧
    (d.b 12 = 1 → s.dev.isCoord = false → Does (.routeOzhild o d) s (fun t =>
      Took o s t ∧ RunsBut [] (fun _ => false) o s t ∧ SameWaits s t ∧ Answers o d .state 0 s t))

/-- RADIO_SEND puts its frame at the end of the transmit queue toward its next hop, or holds it for a sleepy child, and waits for its delivery;
without room it gives FULL, without a key or with the counter used up SECURITY, without a way UNREACHABLE, and with Ozhild off STATE (R161,
R386, R390). -/
def Obligations.RadioSendQueuesFrame : Prop :=
  ∀ (s : State) (o : Src) (d : Desc), Runs o d s → d.op = 0x0C →
    let final : BitVec 16 := BitVec.ofNat 16 (d.v 12 2)
    (s.dev.ozhOn = true → s.dev.haveKey = true → s.dev.fcExhausted = false → ∀ a, s.dev.nextHop final = .to a →
      s.dev.isSleepyChild a = false → s.dev.ozh.queue.length < Config.ozhQueueDepth → Does (.radioSend o d) s (fun t =>
        Took o s t ∧ RunsBut [.ozh] (fun _ => false) o s t ∧ Flies o d (.radio (s.dev.ozh.ref + 1)) s t ∧
        ∃ f, t.dev.ozh.queue = s.dev.ozh.queue ++ [f] ∧ f.nbr = a ∧ f.type = 1 ∧ f.ref = some (s.dev.ozh.ref + 1) ∧ f.tries = 0 ∧
          f.limit = 1 + bits (d.b 15) 3 1 ∧ (f.ackReq = true ↔ bitOf (d.b 15) 0 = true ∧ final ≠ 0xFFFF) ∧
          f.body = leBytes s.dev.ozhAddr.toNat 2 ++ leBytes final.toNat 2 ++ [8] ++
            (List.range (d.b 14)).map (fun i => BitVec.ofNat 8 (d.b (16 + i))))) ∧
    (s.dev.ozhOn = true → s.dev.haveKey = true → s.dev.fcExhausted = false → ∀ a, s.dev.nextHop final = .to a →
      s.dev.isSleepyChild a = true → s.dev.ozh.held.length < 64 → (s.dev.ozh.held.filter (fun g => g.nbr = a)).length < 4 →
      Does (.radioSend o d) s (fun t =>
        Took o s t ∧ RunsBut [.ozh] (fun _ => false) o s t ∧ Flies o d (.radio (s.dev.ozh.ref + 1)) s t ∧
        ∃ f, t.dev.ozh.held = s.dev.ozh.held ++ [f] ∧ f.nbr = a ∧ f.type = 1 ∧ f.ref = some (s.dev.ozh.ref + 1) ∧
          f.heldAt = some (s.dev.wheelN / 98304))) ∧
    (s.dev.ozhOn = true → s.dev.haveKey = true → s.dev.fcExhausted = false → ∀ a, s.dev.nextHop final = .to a →
      (if s.dev.isSleepyChild a then 64 ≤ s.dev.ozh.held.length ∨ 4 ≤ (s.dev.ozh.held.filter (fun g => g.nbr = a)).length
        else Config.ozhQueueDepth ≤ s.dev.ozh.queue.length) →
      Does (.radioSend o d) s (fun t =>
        Took o s t ∧ RunsBut [.ozh] (fun _ => false) o s t ∧ SameWaits s t ∧ Answers o d .full 0 s t ∧ t.dev.rb 0x800C 5 = true)) ∧
    (s.dev.ozhOn = true → (s.dev.haveKey = false ∨ s.dev.fcExhausted = true) → Does (.radioSend o d) s (fun t =>
      Took o s t ∧ RunsBut [.ozh] (fun _ => false) o s t ∧ SameWaits s t ∧ Answers o d .security 0 s t)) ∧
    (s.dev.ozhOn = true → s.dev.haveKey = true → s.dev.fcExhausted = false → (∀ a, s.dev.nextHop final ≠ .to a) →
      Does (.radioSend o d) s (fun t =>
        Took o s t ∧ RunsBut [.ozh] (fun _ => false) o s t ∧ SameWaits s t ∧ Answers o d .unreachable 0 s t)) ∧
    (s.dev.ozhOn = false → Does (.radioSend o d) s (fun t =>
      Took o s t ∧ RunsBut [] (fun _ => false) o s t ∧ SameWaits s t ∧ Answers o d .state 0 s t))

/-- RIND_REQUEST puts its message, REQ, TAG and ARGS, into an open mailbox and waits for the answer for 100 ms; while the Steward is halted it
waits for that to end as well; a closed mailbox gives STATE, a request it does not serve PARAM (R162, R420, R437).
PARAM for a request code that is not listed is the model's choice, log entry 17. -/
def Obligations.RindRequestGoesToMailbox : Prop :=
  ∀ (s : State) (o : Src) (d : Desc), Runs o d s → d.op = 0x0D →
    (s.dev.mbxOpen = true → d.b 12 ∈ [0x01, 0x02, 0x03, 0x04, 0x05, 0x10, 0x11, 0x12] → s.dev.flt.dbgHalt = false →
      Does (.rindRequest o d) s (fun t =>
        Took o s t ∧ RunsBut [.br] (fun _ => false) o s t ∧ Flies o d (.rind (s.dev.br.refs + 1) (s.dev.clk.now + 19660800)) s t ∧
        t.dev.br.queue = s.dev.br.queue ++
          [⟨d.b 12, BitVec.ofNat 16 (d.v 14 2), (List.range 16).map (fun i => BitVec.ofNat 8 (d.b (16 + i))), s.dev.br.refs + 1⟩] ∧
        .rindMsg (BitVec.ofNat 8 (d.b 12)) (BitVec.ofNat 16 (d.v 14 2)) ((List.range 16).map (fun i => BitVec.ofNat 8 (d.b (16 + i)))) ∈
          t.dev.out)) ∧
    (s.dev.mbxOpen = true → d.b 12 ∈ [0x01, 0x02, 0x03, 0x04, 0x05, 0x10, 0x11, 0x12] → s.dev.flt.dbgHalt = true →
      Does (.rindRequest o d) s (fun t =>
        Took o s t ∧ RunsBut [.br] (fun _ => false) o s t ∧ Flies o d (.rind (s.dev.br.refs + 1) (s.dev.clk.now + 19660800)) s t ∧
        t.dev.br.queue = s.dev.br.queue ∧
        ∃ j, t.dev.ring.steward = s.dev.ring.steward ++ [j] ∧ j.d = d ∧ j.src = o)) ∧
    (s.dev.mbxOpen = true → d.b 12 ∉ [0x01, 0x02, 0x03, 0x04, 0x05, 0x10, 0x11, 0x12] → Does (.rindRequest o d) s (fun t =>
      Took o s t ∧ RunsBut [] (fun _ => false) o s t ∧ SameWaits s t ∧ Answers o d .param 0 s t)) ∧
    (s.dev.mbxOpen = false → Does (.rindRequest o d) s (fun t =>
      Took o s t ∧ RunsBut [] (fun _ => false) o s t ∧ SameWaits s t ∧ Answers o d .state 0 s t))

/-- TEMPO in host mode re-anchors the grid at the Wheel, sets the index of the next beat, and gives BPM for the next press; before the grid runs
anchor and index are kept for its start. With another source it gives STATE (R163).
The detail's index is the model's choice, log entry 20. -/
def Obligations.TempoAnchorsGrid : Prop :=
  ∀ (s : State) (o : Src) (d : Desc), Runs o d s → d.op = 0x0E →
    (s.dev.rf 0x440 2 1 = 1 → Does (.tempo o d) s (fun t =>
      let set : Nat := d.b 12
      Took o s t ∧ RunsBut [.tempo] (fun off => off = 0x444) o s t ∧ SameWaits s t ∧ (∃ k, Answers o d .ok k s t) ∧
      (s.dev.tempo.runs = true → bitOf set 0 = true →
        t.dev.tempo.a = s.dev.wheelN ∧ t.dev.tempo.k0 = if bitOf set 1 then d.v 16 4 else s.dev.tempo.nextBeat) ∧
      (s.dev.tempo.runs = true → bitOf set 0 = false → bitOf set 1 = true → t.dev.tempo.a = s.dev.tempo.a ∧ t.dev.tempo.k0 = d.v 16 4) ∧
      (s.dev.tempo.runs = false →
        t.dev.tempo.preA = (if bitOf set 0 then some (s.dev.wheelN : Int) else s.dev.tempo.preA) ∧
          t.dev.tempo.preK = if bitOf set 1 then some (d.v 16 4) else s.dev.tempo.preK) ∧
      t.dev.force 0x444 = s.dev.force 0x444 ∧
      (if bitOf set 2 then fieldOf (t.dev.written 0x444) 15 0 = d.v 14 2 ∧ tabGet false t.dev.regs.live 0x444 = true
        else t.dev.written 0x444 = s.dev.written 0x444))) ∧
    (s.dev.rf 0x440 2 1 ≠ 1 → Does (.tempo o d) s (fun t =>
      Took o s t ∧ RunsBut [] (fun _ => false) o s t ∧ SameWaits s t ∧ Answers o d .state 0 s t))

/-- FENCE completes at once where nothing that it awaits is outstanding, and otherwise waits; a waiting one completes once that has completed,
with the ticks it has waited (R164). -/
def Obligations.FenceAwaitsSources : Prop :=
  ∀ (s : State) (o : Src) (d : Desc),
    (Runs o d s → d.op = 0x0F →
      let waits : Bool := (fenceSrcs (d.v 12 2)).any (fun q => (s.taken o d).outstanding q (bitOf (d.b 14) 0) s.dev.ring.serial)
      (waits = false → Does (.fence o d) s (fun t =>
        Took o s t ∧ RunsBut [] (fun _ => false) o s t ∧ SameWaits s t ∧ Answers o d .ok 0 s t)) ∧
      (waits = true → Does (.fence o d) s (fun t =>
        Took o s t ∧ RunsBut [] (fun _ => false) o s t ∧ t.dev.ring.flights = s.dev.ring.flights ∧
          ∃ f, t.dev.ring.fences = s.dev.ring.fences ++ [f] ∧ f.job.d = d ∧ f.job.src = o ∧ f.start = s.dev.clk.now))) ∧
    ∀ f fs, s.dev.ring.fences = f :: fs → f.job.src = o →
      (fenceSrcs (f.job.d.v 12 2)).any (fun q => s.dev.outstanding q (bitOf (f.job.d.b 14) 0) f.job.serial) = false →
      Does (.fenceSatisfied o) s (fun t => KeepsBut [.ring, .regs, .ozh, .hoop] s t ∧ RegsBut (· = 0x800C) s t ∧ t.dev.ring.fences = fs ∧
        t.dev.ring.flights = s.dev.ring.flights ∧ Lands f.job .ok s.dev.short ((s.dev.clk.now - f.start) % 2 ^ 32) s t)

/-- MODE executes and is judged at the end of its tick with the tick's other transitions; while the Steward is halted it waits. Judged, it makes the
transitions of Table MOD-2 that a host may ask for, completes OK in the mode it names, and gives STATE for any other transition, while one runs,
and on a tick on which one of a higher rank began (R79, R81, R82).
What MODE finds in HOLD with causes standing is the model's choice, log entry 21. -/
def Obligations.ModeRequestsTransitions : Prop :=
  (∀ (s : State) (o : Src) (d : Desc) (m : Mode), Runs o d s → d.op = 0x10 → modeOfCode (d.b 12) = some m →
    (s.dev.flt.dbgHalt = false → Does (.mode o d) s (fun t =>
      Took o s t ∧ RunsBut [] (fun _ => false) o s t ∧ Flies o d (.mode m) s t ∧
        t.dev.ring.fences = s.dev.ring.fences ∧ t.dev.ring.steward = s.dev.ring.steward)) ∧
    (s.dev.flt.dbgHalt = true → Does (.mode o d) s (fun t =>
      Took o s t ∧ RunsBut [] (fun _ => false) o s t ∧ StewardHolds o d s t))) ∧
  ∀ (s : State) (f : Flight) (m : Mode), s.dev.twin.takeDue = false → s.dev.pwr.asked = none →
    s.dev.ring.flights.filter (fun g => g.modeAsked.isSome) = [f] → f.await = .mode m →
      let t : State := { s with dev := s.dev.arbitrate.settle }
      let w : Mode := s.dev.pwr.mode
      let on : Bool := w = .ready ∨ w = .run
      let free : Bool := !s.dev.transBusy && decide (s.dev.pwr.transAt ≠ some s.dev.clk.now)
      let rest : Prop := t.dev.ring.flights = s.dev.ring.flights.filter (fun g => !g.modeAsked.isSome)
      let only (areas : List Area) : Prop := KeepsBut ([.ring, .regs, .ozh, .hoop] ++ areas) s t ∧ RegsBut (· = 0x800C) s t ∧ rest
      (free = true → m = w → only [] ∧ Lands f.job .ok f.exec m.code s t) ∧
      (free = true → w = .ready → m = .run → only [.pwr, .mtx] ∧ Lands f.job .ok f.exec 3 s t ∧
        t.dev.pwr = { s.dev.pwr with mode := .run } ∧
        t.dev.mtx = { s.dev.mtx with waitFrame := true, blank := s.dev.clk.now + 262144 }) ∧
      (free = true → w = .run → m = .ready → only [.pwr] ∧ Lands f.job .ok f.exec 2 s t ∧
        t.dev.pwr = { s.dev.pwr with mode := .ready }) ∧
      (free = true → on = true → m = .vault ∨ m = .doze →
        t.dev.pwr = { s.dev.pwr with sleepTo := some m, sleepStart := s.dev.clk.now, latched := none } ∧
          (∀ c ∈ t.dev.ring.cues, c.out = true) ∧ t.dev.lightsOn = false ∧ t.dev.clk = s.dev.clk ∧ t.dev.chan = s.dev.chan ∧
          ∀ g ∈ t.dev.ring.flights, g.modeAsked = none) ∧
      (free = true → on = true ∨ w = .shadow → m = .hold →
        t.dev.pwr = { s.dev.pwr with mode := .hold, cause := s.dev.pwr.cause ||| 1, transAt := some s.dev.clk.now } ∧
          (∀ c ∈ t.dev.ring.cues, c.out = true) ∧ (∀ n < 12, (t.dev.ripOf n).run = false) ∧ (s.dev.hasCause causeLimp = false → t.dev.clk = s.dev.clk) ∧
          (∀ c < 1040, (t.dev.chanOf c).step = BitVec.ofNat 16 (s.dev.safeLevel c)) ∧
          ∀ g ∈ t.dev.ring.flights, g.modeAsked = none) ∧
      (free = true → w = .hold → m = .ready → s.dev.pwr.cause.toNat / 2 = 0 → only [.pwr, .mtx] ∧
        t.dev.pwr = { s.dev.pwr with mode := .ready, cause := 0 } ∧ t.dev.mtx = { s.dev.mtx with holdRows := 0 }) ∧
      (free = true → m ≠ w → (on = true ∧ m = .shadow) ∨ (w = .hold ∧ (m ≠ .ready ∨ s.dev.pwr.cause.toNat / 2 ≠ 0)) ∨
          (w = .shadow ∧ m ≠ .hold) → only [] ∧ Lands f.job .state f.exec w.code s t) ∧
      (free = false → only [] ∧ Lands f.job .state f.exec s.dev.modeAfter s t)

/-- SETUP_WRITE writes the bits that MASK selects as a register write does; one that is refused in a field changes nothing, is recorded, and
gives the status of the refusal; one of no register changes nothing. A RESTART completes before it resets the device (R12, R128, R166). -/
def Obligations.SetupWriteIsMaskedWrite : Prop :=
  ∀ (s : State) (o : Src) (d : Desc), Runs o d s → d.op = 0x11 →
    let off : Nat := d.v 12 2
    let mask : Word := BitVec.ofNat 32 (d.v 20 4)
    let w : Word := ((s.taken o d).readReg off &&& ~~~ mask) ||| (BitVec.ofNat 32 (d.v 16 4) &&& mask)
    (off ≠ 0x808 → (regRow off).isSome = true → (s.taken o d).writeRefused off w mask = none → (s.taken o d).maskRefused off w mask = false →
      Does (.setupWrite o d) s (fun t => Took o s t ∧ t.rind = s.rind ∧ ∀ f ∈ regFields off,
        if fieldOf mask f.hi f.lo = 0 then
          (match f.acc with
            | .live _ => True
            | .staged _ => True
            | .idle _ => True
            | _ => False) →
          fieldOf (t.dev.written off) f.hi f.lo = fieldOf (s.dev.written off) f.hi f.lo ∧
            fieldOf (t.dev.force off) f.hi f.lo = fieldOf (s.dev.force off) f.hi f.lo
        else match f.acc with
          | .live g => (∀ j, g ≠ .owner j) →
            fieldOf (t.dev.written off) f.hi f.lo = fieldOf w f.hi f.lo ∧ tabGet false t.dev.regs.live off = true ∧
              fieldOf (t.dev.force off) f.hi f.lo = fieldOf (s.dev.force off) f.hi f.lo
          | .staged _ => fieldOf (t.dev.written off) f.hi f.lo = fieldOf w f.hi f.lo ∧ tabGet false t.dev.regs.staged off = true ∧
              fieldOf (t.dev.force off) f.hi f.lo = fieldOf (s.dev.force off) f.hi f.lo
          | .idle _ => fieldOf (t.dev.force off) f.hi f.lo = fieldOf w f.hi f.lo
          | _ => True)) ∧
    (off ≠ 0x808 → (regRow off).isSome = true → ∀ st, (s.taken o d).writeRefused off w mask = some st → Does (.setupWrite o d) s (fun t =>
      Took o s t ∧ RunsBut [.flt] (fun x => rejectOff off = some x) o s t ∧ SameWaits s t ∧ (∃ k, Answers o d st k s t) ∧
        t.dev.flt.cfgOff.toNat = off ∧ t.dev.flt.cfgCnt = satInc s.dev.flt.cfgCnt ∧ (∀ n, o = .ring n → t.dev.flt.cfgSrc = 0xFFFF))) ∧
    (regRow off = none → Does (.setupWrite o d) s (fun t =>
      Took o s t ∧ RunsBut [] (fun _ => false) o s t ∧ SameWaits s t ∧ Answers o d .ok (2 ^ 32 * off) s t)) ∧
    (off = 0x808 → bitOf (d.v 16 4) 0 = true → bitOf (d.v 20 4) 0 = true → Does (.setupWrite o d) s (fun t =>
      t.rind = s.rind ∧ t.dev.clk.running = false ∧ t.dev.pwr.wakeCause = 8 ∧ t.dev.pwr.mode = .ready ∧
        t.dev.pwr.wake = (if s.dev.pwr.v3Low then .v3wait else .buck) ∧ Answers o d .ok (2 ^ 32 * off) s t)) ∧
    (off = 0x808 → bitOf (d.v 16 4) 0 = false ∨ bitOf (d.v 20 4) 0 = false → Does (.setupWrite o d) s (fun t =>
      Took o s t ∧ RunsBut [] (fun _ => false) o s t ∧ SameWaits s t ∧ Answers o d .ok (2 ^ 32 * off) s t))

/-- IMAGE_UPDATE's BEGIN opens a sequence and erases its slot, DATA places a unit of 16 bytes in its place, VERIFY judges the whole image, a
Rind image by the Rind's own check too, ACTIVATE marks a verified Steward image PENDING or hands a Rind image over, and ABORT empties the slot; in
REFUSE an activated Steward image restarts the device. An action out of order gives STATE, one after a page that could not be programmed FAULTED, a
bad LENGTH PARAM; one waits while the Steward is halted, DATA and VERIFY also while a page is programmed, and none acts on a Rind without power
(R419, R437, R439, R443).
Statuses of a bad LENGTH and of a failed VERIFY are the model's choices, log entry 18. -/
def Obligations.ImageUpdateSequence : Prop :=
  ∀ (s : State) (o : Src) (d : Desc), Runs o d s → d.op = 0x12 →
    let k : Nat := bits (d.b 12) 4 3
    let n : Nat := s.dev.updSlot k
    let u : Upd := s.dev.updOf k
    let detail : Nat := 16 * u.count + 2 ^ 32 * n
    let ready : Prop := s.dev.flt.dbgHalt = false ∧ (k = 1 → s.dev.br.on = true)
    let same (st : Status) (t : State) : Prop :=
      Took o s t ∧ RunsBut [] (fun _ => false) o s t ∧ SameWaits s t ∧ Answers o d st detail s t
    (∀ p ∈ [(Instr.imageBegin o d, 0), (.imageData o d, 1), (.imageVerify o d, 2), (.imageActivate o d, 3), (.imageAbort o d, 4)],
      d.b 12 % 8 = p.2 →
      (s.dev.flt.dbgHalt = true → Does p.1 s (fun t => Took o s t ∧ RunsBut [] (fun _ => false) o s t ∧ StewardHolds o d s t)) ∧
      (s.dev.flt.dbgHalt = false → k = 1 → s.dev.br.on = false → (p.2 = 2 → u.programming = false) → Does p.1 s (fun t =>
        Took o s t ∧ RunsBut [] (fun _ => false) o s t ∧ SameWaits s t ∧ Answers o d .state 0 s t)) ∧
      (ready → p.2 = 1 ∨ p.2 = 2 → u.programming = true → Does p.1 s (fun t =>
        Took o s t ∧ RunsBut [] (fun _ => false) o s t ∧ StewardHolds o d s t)) ∧
      (ready → p.2 = 1 ∨ p.2 = 2 → u.programming = false → u.bad = true → Does p.1 s (same .faulted)) ∧
      (ready → (p.2 = 1 ∨ p.2 = 2 → u.programming = false ∧ u.bad = false) → (p.2 = 0 → u.open_ = true) →
        (p.2 = 1 → u.open_ = false ∨ u.erasing = true ∨ u.valid = true ∨ u.length ≤ 16 * d.v 13 3 ∨ tabGet false u.got (d.v 13 3) = true) →
        (p.2 = 2 → u.open_ = false ∨ u.erasing = true ∨ u.count * 16 ≠ u.length) → (p.2 = 3 → u.open_ = false ∨ u.valid = false) →
        (p.2 = 4 → u.open_ = false ∨ u.erasing = true) → Does p.1 s (same .state))) ∧
    (d.b 12 % 8 = 0 → ready → u.open_ = false → d.v 16 4 % 16 = 0 → 128 ≤ d.v 16 4 → d.v 16 4 ≤ slotSize (2 * k) →
      Does (.imageBegin o d) s (fun t => Took o s t ∧ RunsBut [.flt] (fun _ => false) o s t ∧ Flies o d (.erase (k = 1)) s t ∧
        t.dev.slotOf n = { st := 4, len := d.v 16 4 } ∧ t.dev.updOf k = { open_ := true, erasing := true, length := d.v 16 4 })) ∧
    (d.b 12 % 8 = 0 → ready → u.open_ = false → d.v 16 4 % 16 ≠ 0 ∨ d.v 16 4 < 128 ∨ slotSize (2 * k) < d.v 16 4 →
      Does (.imageBegin o d) s (same .param)) ∧
    (d.b 12 % 8 = 1 → ready → u.open_ = true → u.erasing = false → u.valid = false → u.bad = false → u.programming = false →
      16 * d.v 13 3 < u.length → tabGet false u.got (d.v 13 3) = false →
      Does (.imageData o d) s (fun t => Took o s t ∧ RunsBut [.flt] (fun _ => false) o s t ∧ SameWaits s t ∧
        Answers o d .ok (16 * (u.count + 1) + 2 ^ 32 * n) s t ∧
        (t.dev.updOf k).count = u.count + 1 ∧ (∀ i, tabGet false (t.dev.updOf k).got i = (i = d.v 13 3 || tabGet false u.got i)) ∧
        (16 * (u.count + 1) = u.length → (t.dev.updOf k).programming = true) ∧
        (t.dev.slotOf n).st = (s.dev.slotOf n).st ∧
        ∀ a, tabGet 0xFF (t.dev.slotOf n).bytes a =
          if 16 * d.v 13 3 ≤ a ∧ a < 16 * d.v 13 3 + 16 then BitVec.ofNat 8 (d.b (16 + (a - 16 * d.v 13 3)))
          else tabGet 0xFF (s.dev.slotOf n).bytes a)) ∧
    (d.b 12 % 8 = 2 → ready → u.open_ = true → u.erasing = false → u.bad = false → u.programming = false → u.count * 16 = u.length →
      Does (.imageVerify o d) s (fun t =>
        let lr : BitVec 16 := s.dev.slotLr (n - 2)
        let why : Nat := s.dev.imgReason n
        let st : Status := if why ≠ 0 then verifyStatus why else if k = 1 then s.rind.lrCheck lr else .ok
        Took o s t ∧ RunsBut (if k = 1 then [.flt, .rind] else [.flt]) (fun _ => false) o s t ∧ SameWaits s t ∧ Answers o d st detail s t ∧
        t.rind = (if k = 1 ∧ st ≠ .ok then s.rind.refused lr why else s.rind) ∧
        (t.dev.slotOf n).st = (if st = .ok then 1 else 2) ∧ t.dev.updOf k = { u with valid := decide (st = .ok) })) ∧
    (d.b 12 % 8 = 3 → ready → u.open_ = true → u.valid = true → (k = 0 → s.dev.flt.refuse = false) →
      Does (.imageActivate o d) s (fun t => Took o s t ∧ RunsBut (if k = 1 then [.flt, .br] else [.flt]) (fun _ => false) o s t ∧ SameWaits s t ∧
        Answers o d .ok detail s t ∧ t.dev.updOf k = {} ∧
        (k = 0 → (t.dev.slotOf n).st = 3) ∧ (k = 1 → t.dev.slotOf n = s.dev.slotOf n ∧ t.dev.br.handed = some (n - 2)))) ∧
    (d.b 12 % 8 = 3 → ready → u.open_ = true → u.valid = true → k = 0 → s.dev.flt.refuse = true →
      Does (.imageActivate o d) s (fun t => t.rind = s.rind ∧ t.dev.clk.running = false ∧ t.dev.pwr.wakeCause = 8 ∧
        (t.dev.slotOf n).st = 3 ∧ Answers o d .ok detail s t)) ∧
    (d.b 12 % 8 = 4 → ready → u.open_ = true → u.erasing = false →
      Does (.imageAbort o d) s (fun t => Took o s t ∧ RunsBut [.flt] (fun _ => false) o s t ∧ SameWaits s t ∧
        Answers o d .ok detail s t ∧ t.dev.slotOf n = {} ∧ t.dev.updOf k = {}))

/-- The end of an erase completes its BEGIN with the tick on which BEGIN executed; the end of a page's programming lets a waiting DATA go on, and an
error marks the slot BAD. With no such work in progress either changes nothing (R443). -/
def Obligations.FlashWorkEnds : Prop :=
  ∀ (s : State) (r : Bool),
    let k : Nat := if r then 1 else 0
    let u : Upd := s.dev.updOf k
    let n : Nat := s.dev.updSlot k
    (u.erasing = true → Does (.imageEraseDone r) s (fun t => KeepsBut [.ring, .regs, .ozh, .hoop, .flt] s t ∧ RegsBut (· = 0x800C) s t ∧
      t.dev.updOf k = { u with erasing := false } ∧ (∀ i, t.dev.slotOf i = s.dev.slotOf i) ∧
      t.dev.ring.flights = s.dev.ring.flights.filter (fun f => !decide (f.await = .erase r)) ∧
      ∀ f, s.dev.ring.flights.filter (fun f => decide (f.await = .erase r)) = [f] →
        Lands f.job .ok f.exec (16 * u.count + 2 ^ 32 * n) s t)) ∧
    (u.erasing = false → Does (.imageEraseDone r) s (KeepsBut [] s)) ∧
    (∀ good, s.dev.coreOn = true → u.programming = true → s.dev.ring.steward = [] →
      Does (.imagePageProgrammed r good) s (fun t => KeepsBut [.flt, .ring] s t ∧ t.dev.ring.flights = s.dev.ring.flights ∧
        t.dev.updOf k = { u with programming := false, bad := u.bad || !good } ∧
        t.dev.slotOf n = if good then s.dev.slotOf n else { s.dev.slotOf n with st := 2 })) ∧
    (∀ j, s.dev.coreOn = true → u.programming = true → s.dev.ring.steward = [j] → s.dev.flt.dbgHalt = false → (r = true → s.dev.br.on = true) →
      j.d.op = 0x12 → j.d.b 12 % 8 = 1 → bits (j.d.b 12) 4 3 = k → u.open_ = true → u.erasing = false → u.valid = false → u.bad = false →
      16 * j.d.v 13 3 < u.length → tabGet false u.got (j.d.v 13 3) = false →
      Does (.imagePageProgrammed r true) s (fun t => t.rind = s.rind ∧ t.dev.ring.steward = [] ∧
        (t.dev.updOf k).count = u.count + 1 ∧ tabGet false (t.dev.updOf k).got (j.d.v 13 3) = true)) ∧
    (∀ good, s.dev.coreOn = false ∨ u.programming = false → Does (.imagePageProgrammed r good) s (KeepsBut [] s))

/-- On the root DISCOVER starts an enumeration, or has one follow the one that runs, and reads the list of the last one; an index beyond the list
gives PARAM. On another unit both give STATE, and while the Steward is halted both wait (R165, R329, R332, R437).
INDEX is not checked by ENUMERATE: log entry 17. -/
def Obligations.DiscoverEnumeratesAndReads : Prop :=
  ∀ (s : State) (o : Src) (d : Desc), Runs o d s → d.op = 0x13 →
    (∀ p ∈ [(Instr.discoverEnumerate o d, 0), (.discoverEntry o d, 1)], d.b 12 = p.2 →
      (s.dev.flt.dbgHalt = true → Does p.1 s (fun t => Took o s t ∧ RunsBut [] (fun _ => false) o s t ∧ StewardHolds o d s t)) ∧
      (s.dev.flt.dbgHalt = false → s.dev.isRoot = false → Does p.1 s (fun t =>
        Took o s t ∧ RunsBut [] (fun _ => false) o s t ∧ SameWaits s t ∧ Answers o d .state 0 s t))) ∧
    (s.dev.flt.dbgHalt = false → s.dev.isRoot = true →
      (d.b 12 = 0 → s.dev.hoop.enumBusy = false → Does (.discoverEnumerate o d) s (fun t =>
        Took o s t ∧ RunsBut [.hoop, .ozh, .free] (fun off => inRange 0x7400 0x7800 off) o s t ∧
        t.dev.hoop.epoch = s.dev.hoop.epoch + 1 ∧ t.dev.hoop.enumStart = s.dev.pressIndex ∧
        (s.dev.childPorts ≠ [] → Flies o d (.enumEnd (s.dev.hoop.epoch + 1)) s t ∧ t.dev.hoop.enumBusy = true ∧
          t.dev.hoop.enumN = none ∧ t.dev.hoop.asked = s.dev.childPorts ∧
          ∀ k ∈ s.dev.childPorts, (s.dev.portOf k).txq.length < 64 →
            ∃ p ∈ (t.dev.portOf k).txq, p.1.type = 0x10 ∧ leAt p.1.payload 0 2 = (s.dev.hoop.epoch + 1).toNat))) ∧
      (d.b 12 = 0 → s.dev.hoop.enumBusy = true → Does (.discoverEnumerate o d) s (fun t =>
        Took o s t ∧ RunsBut [.hoop] (fun _ => false) o s t ∧ Flies o d (.enumEnd (s.dev.hoop.epoch + 1)) s t ∧
          ∃ p q, t.dev.hoop = { s.dev.hoop with enumWant := true, ports := p, own := q })) ∧
      (d.b 12 = 1 → ∀ r, s.dev.hoop.enumList[d.v 14 2]? = some r → Does (.discoverEntry o d) s (fun t =>
        Took o s t ∧ RunsBut [] (fun _ => false) o s t ∧ SameWaits s t ∧
          Answers o d .ok (r.id.toNat + 2 ^ 16 * r.depth + 2 ^ 32 * r.member.toNat + if r.dup then 2 ^ 40 else 0) s t)) ∧
      (d.b 12 = 1 → s.dev.hoop.enumList[d.v 14 2]? = none → Does (.discoverEntry o d) s (fun t =>
        Took o s t ∧ RunsBut [] (fun _ => false) o s t ∧ SameWaits s t ∧ Answers o d .param 0 s t)))

/-- TWIN_CTL: an unpaired unit with a partner becomes ACTIVE with a higher epoch, or SHADOW of an active partner; UNPAIR ends the role; SWAP on
the active unit fixes a press, and on the shadow is passed to the active unit; STATUS gives epoch and role. An action whose conditions do not hold
gives STATE, and one without a partner UNREACHABLE (R351, R356, Table TWN-3).
The order of the role and presence checks is the model's choice, log entry 45. -/
def Obligations.TwinControlSetsRoles : Prop :=
  ∀ (s : State) (o : Src) (d : Desc), Runs o d s → d.op = 0x14 →
    let w : Twin := s.dev.twin
    let two : Bool := s.dev.brMode = 2
    let on : Bool := s.dev.pwr.mode = .ready ∨ s.dev.pwr.mode = .run
    let told : Nat := w.epoch.toNat + 2 ^ 32 * w.role.code
    let ends (st : Status) (t : State) : Prop :=
      Took o s t ∧ RunsBut [] (fun _ => false) o s t ∧ SameWaits s t ∧ Answers o d st told s t
    (d.b 12 = 0 → two = true → w.role = .unpaired → on = true → w.partner = true → Does (.twinPairActive o d) s (fun t =>
      let e : BitVec 32 := BitVec.ofNat 32 (max w.epoch.toNat w.pEpoch.toNat + 1)
      Took o s t ∧ RunsBut [.twin] (fun _ => false) o s t ∧ SameWaits s t ∧ t.dev.twin.role = .active ∧ t.dev.twin.epoch = e ∧
        Answers o d .ok (e.toNat + 2 ^ 32) s t)) ∧
    (d.b 12 = 1 → two = true → w.role = .unpaired → on = true → w.partner = true → w.pRole = .active → Does (.twinPairShadow o d) s (fun t =>
      Took o s t ∧ t.rind = s.rind ∧ t.dev.clk = s.dev.clk ∧ t.dev.cult = s.dev.cult ∧
        t.dev.twin.role = .shadow ∧ t.dev.twin.resync = true ∧ t.dev.pwr = { s.dev.pwr with mode := .shadow } ∧
        t.dev.pins.drive = 0 ∧ t.dev.ring.cues.all (fun c => c.out) = true ∧ (∀ n < 12, (t.dev.ripOf n).run = false) ∧
        ∀ n < 8, (t.dev.harpOf n).st = 0)) ∧
    (d.b 12 = 2 → two = true → w.role ≠ .unpaired → Does (.twinUnpair o d) s (fun t => Took o s t ∧ t.rind = s.rind ∧
      t.dev.twin.role = .unpaired ∧ t.dev.twin.epoch = w.epoch ∧ t.dev.twin.swapAt = none ∧
      t.dev.pwr = if w.role = .shadow ∧ s.dev.pwr.mode = .shadow then { s.dev.pwr with mode := .ready } else s.dev.pwr)) ∧
    (d.b 12 = 3 → two = true → w.role = .active → w.swapAt = none → w.partner = true → w.pCurrent = true → Does (.twinSwap o d) s (fun t =>
      let b : Nat := (s.dev.wheelN + 4095) / 4096 + 4
      Took o s t ∧ RunsBut [.twin] (fun _ => false) o s t ∧ Flies o d (.swap b) s t ∧ t.dev.twin.swapAt = some b ∧ t.dev.twin.role = .active)) ∧
    (d.b 12 = 3 → two = true → w.role = .shadow → w.swapAt = none → w.partner = true → w.current = true →
      (s.dev.portOf 2).txq.length < 64 → Does (.twinSwap o d) s (fun t =>
      let tag : BitVec 16 := s.dev.ring.tag + 1
      Took o s t ∧ RunsBut [.hoop] (fun _ => false) o s t ∧ Flies o d (.swapAsk tag (s.dev.remoteDue d)) s t ∧ t.dev.twin.swapAt = none ∧
        ∃ p ∈ (t.dev.portOf 2).txq, p.1.type = 0x01 ∧ p.1.dmode = 2 ∧ p.1.tag = tag ∧ p.1.payload = d.bytes)) ∧
    (d.b 12 = 4 → Does (.twinStatus o d) s (ends (if two then .ok else .state))) ∧
    (d.b 12 = 0 → two = false ∨ w.role ≠ .unpaired ∨ on = false → Does (.twinPairActive o d) s (ends .state)) ∧
    (d.b 12 = 1 → two = false ∨ w.role ≠ .unpaired ∨ on = false → Does (.twinPairShadow o d) s (ends .state)) ∧
    (d.b 12 = 2 → two = false ∨ w.role = .unpaired → Does (.twinUnpair o d) s (ends .state)) ∧
    (d.b 12 = 3 → two = false ∨ w.role = .unpaired ∨ w.swapAt ≠ none → Does (.twinSwap o d) s (ends .state)) ∧
    (d.b 12 = 0 → two = true → w.role = .unpaired → on = true → w.partner = false → Does (.twinPairActive o d) s (ends .unreachable)) ∧
    (d.b 12 = 1 → two = true → w.role = .unpaired → on = true → w.partner = false → Does (.twinPairShadow o d) s (ends .unreachable)) ∧
    (d.b 12 = 1 → two = true → w.role = .unpaired → on = true → w.partner = true → w.pRole ≠ .active →
      Does (.twinPairShadow o d) s (ends .state)) ∧
    (d.b 12 = 3 → two = true → w.role ≠ .unpaired → w.swapAt = none → w.partner = false → Does (.twinSwap o d) s (ends .unreachable)) ∧
    (d.b 12 = 3 → two = true → w.swapAt = none → w.partner = true →
      (w.role = .active ∧ w.pCurrent = false) ∨ (w.role = .shadow ∧ w.current = false) → Does (.twinSwap o d) s (ends .state))

/-- A descriptor of any opcode that allows an AT, with an AT ahead of the Wheel by no more than 2 s, enters the cue store with the lowest free index
and its release time, and has no other effect yet. In HOLD it completes STATE; with an AT further ahead PARAM; further back than the tolerance and
not allowed to be late, LATE. Where the store is full it completes FULL, or stays on its ring, which stalls, as the ring's POLICY says (R26, R37,
R92, R120). -/
def Obligations.CueEntersStore : Prop :=
  ∀ (s : State) (o : Src) (d : Desc), (s.dev.readyOf o).head? = some d → s.dev.mayAccept o d = true →
    s.dev.formRefused o d = none → s.dev.destOf o d = .self → s.dev.modeRefuses d = false → d.flag 0 = true →
    let at_ : Int := resolve s.dev.wheelN d.at48
    let ahead : Prop := (s.dev.wheelN : Int) ≤ at_ ∧ at_ ≤ s.dev.wheelN + 393216000
    let ends (st : Status) (t : State) : Prop :=
      Took o s t ∧ RunsBut [] (fun _ => false) o s t ∧ SameWaits s t ∧ Answers o d st 0 s t
    (s.dev.inHold = false → ahead → ∀ i, s.dev.freeIdx = some i → s.dev.ring.wait = [] → Does (descRow o d) s (fun t =>
      Took o s t ∧ RunsBut [] (fun _ => false) o s t ∧ SameWaits s t ∧
        ∃ c, t.dev.ring.cues = s.dev.ring.cues ++ [c] ∧ c.idx = i ∧ c.job.d = d ∧ c.job.src = o ∧ c.t = at_ ∧ c.out = false)) ∧
    (s.dev.inHold = true → Does (descRow o d) s (ends .state)) ∧
    (s.dev.inHold = false → s.dev.wheelN + 393216000 < at_ → Does (descRow o d) s (ends .param)) ∧
    (s.dev.inHold = false → (s.dev.lateTol : Int) < s.dev.wheelN - at_ → d.flag 1 = true → Does (descRow o d) s (ends .late)) ∧
    (s.dev.inHold = false → ahead → s.dev.freeIdx = none → s.dev.skips o = true → Does (descRow o d) s (fun t =>
      Took o s t ∧ RunsBut [] (fun _ => false) o s t ∧ SameWaits s t ∧ Answers o d .full 0 s t ∧ t.dev.rb 0x1010 3 = true)) ∧
    (s.dev.inHold = false → ahead → s.dev.freeIdx = none → s.dev.skips o = false → Does (descRow o d) s (fun t =>
      KeepsBut [.ring] s t ∧ SameWaits s t ∧ t.dev.readyOf o = s.dev.readyOf o ∧ t.dev.isTold o = true ∧ t.dev.rb 0x1010 3 = true))

/-- A cue that is due before all others is released when its time comes: one that is later than the tolerance and not allowed to be late executes
nothing and completes LATE; one that carries NOP completes; one that carries LEVEL writes its channels. It leaves the store (R37, R38). -/
def Obligations.CueReleasesInOrder : Prop :=
  ∀ (s : State) (c : Cue), s.dev.cuesRun = true → c ∈ s.dev.ring.cues → c.out = false → c.t ≤ s.dev.wheelN →
    (∀ e ∈ s.dev.ring.cues, e.out = false → e ≠ c → c.t < e.t ∨ (c.t = e.t ∧ c.job.serial < e.job.serial)) →
    let late : Bool := (s.dev.lateTol : Int) < s.dev.wheelN - c.t
    let gone (t : State) : Prop := RegsBut (· = 0x800C) s t ∧ SameWaits s t ∧ ∀ e ∈ t.dev.ring.cues, e.idx = c.idx → e.out = true
    (late = true → c.job.d.flag 1 = true → Does .cueRelease s (fun t =>
      KeepsBut [.ring, .regs, .ozh, .hoop] s t ∧ gone t ∧ Lands c.job .late s.dev.short 0 s t)) ∧
    (late && c.job.d.flag 1 = false → c.job.d.op = 0x00 → Does .cueRelease s (fun t =>
      KeepsBut [.ring, .regs, .ozh, .hoop] s t ∧ gone t ∧ Lands { c.job with late := late } .ok s.dev.short 0 s t)) ∧
    (late && c.job.d.flag 1 = false → c.job.d.op = 0x01 → Does .cueRelease s (fun t =>
      KeepsBut [.ring, .regs, .ozh, .hoop, .chan] s t ∧ gone t ∧
        t.dev.chan = ((levelPairs c.job.d).foldl (fun u p => u.setStep p.1 (BitVec.ofNat 16 p.2)) s.dev).chan))

/-- A descriptor for another unit of the Hoop leaves by the port its route gives, as a DESC packet with a new tag, and waits for the completion that
its target returns; without a route it completes UNREACHABLE. One that waits too long for that completion, or for the Rind, completes TIMEOUT on
the tick and waits no more (R119, R143, R162, R325).
The wait where a port's queue is full is the model's choice, log entries 14 and 38. -/
def Obligations.RemoteDescriptorTravels : Prop :=
  ∀ (s : State),
    (∀ (o : Src) (d : Desc) (id : BitVec 12), (s.dev.readyOf o).head? = some d → s.dev.mayAccept o d = true →
      s.dev.formRefused o d = none → s.dev.destOf o d = .hoop id →
      (∀ k, s.dev.deliverPort none id = some k → k < 3 → (s.dev.portOf k).txq.length < 64 →
        (∀ n, o = .ring n → (s.dev.curdOf n).haltAt = none) → Does (descRow o d) s (fun t => Took o s t ∧ RunsBut [.hoop] (fun _ => false) o s t ∧
          (∃ f, f ∈ t.dev.ring.flights ∧ f.job.d = d ∧ f.job.src = o ∧ f.await = .remote (s.dev.ring.tag + 1) (s.dev.remoteDue d)) ∧
          ∃ p q, (t.dev.portOf k).txq = (s.dev.portOf k).txq ++ [(p, s.dev.clk.now + 8)] ++ q ∧
            p.type = 0x01 ∧ p.dest = id ∧ p.tag = s.dev.ring.tag + 1 ∧ p.payload = d.bytes)) ∧
      (s.dev.deliverPort none id = none → Does (descRow o d) s (fun t =>
        Took o s t ∧ RunsBut [] (fun _ => false) o s t ∧ SameWaits s t ∧ Answers o d .unreachable 0 s t))) ∧
    (s.dev.coreOn = true → Does .remoteTimeout s (fun t => KeepsBut [.ring, .regs, .ozh, .hoop] s t ∧ RegsBut (· = 0x800C) s t ∧
      t.dev.ring.flights = s.dev.ring.flights.filter (fun f => !f.remoteLate s.dev.clk.now) ∧
      ∀ f, s.dev.ring.flights.filter (Flight.remoteLate s.dev.clk.now) = [f] → Lands f.job .timeout s.dev.short 0 s t)) ∧
    (s.dev.coreOn = true → Does .rindRequestTimeout s (fun t => KeepsBut [.ring, .regs, .ozh, .hoop, .br] s t ∧ RegsBut (· = 0x800C) s t ∧
      t.dev.ring.flights = s.dev.ring.flights.filter (fun f => !f.rindLate s.dev.clk.now) ∧
      (∀ m ∈ t.dev.br.queue, m ∈ s.dev.br.queue) ∧
      ∀ f, s.dev.ring.flights.filter (Flight.rindLate s.dev.clk.now) = [f] → Lands f.job .timeout s.dev.short 0 s t ∧
        ∀ m ∈ t.dev.br.queue, f.rindRef ≠ some m.ref)) ∧
    (s.dev.coreOn = false → Does .remoteTimeout s (KeepsBut [] s) ∧ Does .rindRequestTimeout s (KeepsBut [] s))

/-! ### The rings and the endpoint -/

/-- A doorbell word that passes its check gives the descriptors pending and, where it is the ring's turn, starts a fetch; a head word gives the entries
consumed, a fetch the descriptors ready; a failed or late read halts its ring, after the descriptors that had arrived; the data of a read issued
before a stop or a time without bus mastering is not used; moderation sends its message; a cue that stalled its ring enters the store once there is
room (R108, R110, R115, R120, R121, R123, R132 to R135).
One burst at a time is the model's choice, log entry 62. -/
def Obligations.RingReadsAdvance : Prop :=
  ∀ (s : State), s.dev.coreOn = true →
    (∀ (n : Fin 8) (w : BitVec 64),
      let c : Curd := s.dev.curdOf n
      let p : Nat := (w.setWidth 32 - s.dev.curdCi n).toNat
      0 < c.rdOut → c.rdDrop = 0 → c.st = .running → w.toNat / 2 ^ 32 + w.toNat % 2 ^ 32 = 2 ^ 32 - 1 →
      p ≤ 2 ^ s.dev.rf (curdOff n + 0x18) 4 1 → Does (.doorbellReadDone n (.ok w)) s (fun t => KeepsBut [.ring] s t ∧
        (t.dev.curdOf n).pend = p ∧ (t.dev.curdOf n).rdOut = c.rdOut - 1 ∧ (t.dev.curdOf n).bad = 0 ∧ (t.dev.curdOf n).st = .running ∧
        (s.dev.mayIssue = true → c.ready = [] → c.fetching = 0 → c.haltAt = none → c.stopping = false → 0 < p →
          (∀ k : Fin 8, k ≠ n → (s.dev.curdOf k).fetching = 0 ∧ s.dev.fetchWanted k = false) →
          (t.dev.curdOf n).fetching = t.dev.burstLen n ∧
            .readReq (.fetch n) (s.dev.burstAddr n) (32 * t.dev.burstLen n) ∈ t.dev.out))) ∧
    (∀ (n : Fin 8), ∀ p ∈ [(Instr.doorbellReadDone n (.err .ur), 3), (.doorbellReadDone n (.err .ca), 4),
        (.doorbellReadDone n (.err .poison), 6), (.ringReadTimeout ⟨.doorbell n, []⟩, 5)],
      0 < (s.dev.curdOf n).rdOut → (s.dev.curdOf n).rdDrop = 0 → (s.dev.curdOf n).st = .running →
      Does p.1 s (fun t => KeepsBut [.ring] s t ∧ (t.dev.curdOf n).st = .halted ∧ (t.dev.curdOf n).rdOut = (s.dev.curdOf n).rdOut - 1 ∧
        (t.dev.curdOf n).err = p.2 ∧ (t.dev.curdOf n).ready = [] ∧ t.dev.ring.errAddr = s.dev.addr64 (curdOff n + 8) ∧
        t.dev.rb 0x1010 2 = true ∧ Tells 0x0003 (n + 256 * p.2) s t)) ∧
    (∀ (n : Fin 8) (r : Rd), 0 < (s.dev.curdOf n).rdOut → 0 < (s.dev.curdOf n).rdDrop →
      Does (.doorbellReadDone n r) s (fun t => KeepsBut [.ring] s t ∧ (t.dev.curdOf n).rdOut = (s.dev.curdOf n).rdOut - 1 ∧
        (t.dev.curdOf n).rdDrop = (s.dev.curdOf n).rdDrop - 1 ∧ (t.dev.curdOf n).pend = (s.dev.curdOf n).pend ∧
        (t.dev.curdOf n).st = (s.dev.curdOf n).st)) ∧
    (∀ (m : Fin 4) (w : BitVec 64),
      let x : Whey := s.dev.wheyOf m
      0 < x.rdOut → x.rdDrop = 0 → x.st = .running → w.toNat / 2 ^ 32 + w.toNat % 2 ^ 32 = 2 ^ 32 - 1 →
      (w.setWidth 32 - x.head).toNat ≤ (s.dev.wheyTail m - x.head).toNat →
      Does (.wheyHeadReadDone m (.ok w)) s (fun t => KeepsBut [.ring] s t ∧ (t.dev.wheyOf m).head = w.setWidth 32 ∧
        (t.dev.wheyOf m).rdOut = x.rdOut - 1 ∧ (t.dev.wheyOf m).st = .running)) ∧
    (∀ (m : Fin 4), ∀ p ∈ [(Instr.wheyHeadReadDone m (.err .ur), 3), (.wheyHeadReadDone m (.err .ca), 4),
        (.wheyHeadReadDone m (.err .poison), 6), (.ringReadTimeout ⟨.head m, []⟩, 5)],
      0 < (s.dev.wheyOf m).rdOut → (s.dev.wheyOf m).rdDrop = 0 → (s.dev.wheyOf m).st = .running →
      Does p.1 s (fun t => KeepsBut [.ring] s t ∧ (t.dev.wheyOf m).st = .halted ∧ (t.dev.wheyOf m).err = p.2 ∧
        (t.dev.wheyOf m).rdOut = (s.dev.wheyOf m).rdOut - 1 ∧ t.dev.ring.errAddr = s.dev.addr64 (wheyOff m + 8))) ∧
    (∀ (n : Fin 8) (ds : List Desc), (s.dev.curdOf n).fetching ≠ 0 → (s.dev.curdOf n).fetchDrop = 0 → (s.dev.curdOf n).st = .running →
      (ds ≠ [] → Does (.descriptorFetchDone n ds none) s (fun t => KeepsBut [.ring] s t ∧
        (t.dev.curdOf n).ready = ds.take (s.dev.curdOf n).fetching ∧ (t.dev.curdOf n).fetching = 0 ∧ (t.dev.curdOf n).st = .running)) ∧
      ∀ p ∈ [(Instr.descriptorFetchDone n ds (some .ur), 3), (.descriptorFetchDone n ds (some .ca), 4),
          (.descriptorFetchDone n ds (some .poison), 6), (.ringReadTimeout ⟨.fetch n, ds⟩, 5)],
        (ds ≠ [] → Does p.1 s (fun t => KeepsBut [.ring] s t ∧ (t.dev.curdOf n).ready = ds.take (s.dev.curdOf n).fetching ∧
          (t.dev.curdOf n).st = .running ∧ (t.dev.curdOf n).haltAt = some (p.2, s.dev.burstAddr n))) ∧
        (ds = [] → Does p.1 s (fun t => KeepsBut [.ring] s t ∧ (t.dev.curdOf n).st = .halted ∧ (t.dev.curdOf n).err = p.2 ∧
          t.dev.ring.errAddr = s.dev.burstAddr n))) ∧
    (∀ (n : Fin 8) (ds : List Desc) (e : Option RdErr), 0 < (s.dev.curdOf n).fetchDrop →
      Does (.descriptorFetchDone n ds e) s (fun t => KeepsBut [.ring] s t ∧
        (t.dev.curdOf n).fetchDrop = (s.dev.curdOf n).fetchDrop - 1 ∧ (t.dev.curdOf n).ready = (s.dev.curdOf n).ready ∧
        (t.dev.curdOf n).st = (s.dev.curdOf n).st)) ∧
    (∀ (m : Fin 4),
      let o : Nat := wheyOff m + 0x18
      let v : Nat := s.dev.rf o 7 5
      (s.dev.wheyOf m).st = .running → 0 < (s.dev.wheyOf m).since → s.dev.rf o 15 8 ≠ 0 → s.dev.rf o 21 16 ≠ 0 →
      s.dev.rf o 21 16 ≤ (s.dev.wheyOf m).age → s.dev.mayIssue = true → (s.dev.msixOf v).mask = false → s.dev.ring.fmask = false →
      Does (.msixModerationTimer m) s (fun t => KeepsBut [.ring] s t ∧
        .msix v (s.dev.msixOf v).addr (s.dev.msixOf v).data ∈ t.dev.out)) ∧
    (∀ (o : Src) (d : Desc) (i : Nat), (s.dev.readyOf o).head? = some d → s.dev.isTold o = true → s.dev.mayAccept o d = true →
      s.dev.formRefused o d = none → s.dev.destOf o d = .self → s.dev.modeRefuses d = false → s.dev.inHold = false → d.flag 0 = true →
      (s.dev.wheelN : Int) ≤ resolve s.dev.wheelN d.at48 → resolve s.dev.wheelN d.at48 ≤ s.dev.wheelN + 393216000 →
      s.dev.freeIdx = some i → s.dev.ring.wait = [] → Does (.ringStallRetry o) s (fun t => Took o s t ∧
        RunsBut [] (fun _ => false) o s t ∧ SameWaits s t ∧ t.dev.isTold o = false ∧
        ∃ c, t.dev.ring.cues = s.dev.ring.cues ++ [c] ∧ c.idx = i ∧ c.job.d = d ∧ c.t = resolve s.dev.wheelN d.at48)) ∧
    ∀ (o : Src), s.dev.isTold o = false ∨ s.dev.freeIdx = none → Does (.ringStallRetry o) s (KeepsBut [] s)

/-- Without Bus Master Enable, or outside D0, no request is issued and the data of reads under way is not used; rings go on where it returns, which
on the limp clock needs the host's reference clock (a free value, log entry 59). Each reset of the endpoint puts the ring engine and every RING_ register at its reset value and
leaves the rest, cues among it, as it was; a PERST_N reset ends the debug port's enable too (R93, R107, R135, R136, R138, R436).
What of the rings an endpoint reset restarts follows log entry 30. -/
def Obligations.EndpointEventsAct : Prop :=
  ∀ (s : State), s.dev.coreOn = true →
    (∀ d3 pme, Does (.busMasterDisable d3 pme) s (fun t => KeepsBut [.ring] s t ∧ t.dev.mayIssue = false ∧ t.dev.ring.d3 = d3 ∧
      t.dev.ring.pmeEn = pme ∧ t.dev.ring.cues = s.dev.ring.cues ∧
      (∀ n < 8, (t.dev.curdOf n).st = (s.dev.curdOf n).st ∧ (t.dev.curdOf n).pend = (s.dev.curdOf n).pend ∧
        (t.dev.curdOf n).ready = (s.dev.curdOf n).ready ∧ (t.dev.curdOf n).rdDrop = (s.dev.curdOf n).rdOut ∧
        (t.dev.curdOf n).fetching = 0 ∧
        (t.dev.curdOf n).fetchDrop = (s.dev.curdOf n).fetchDrop + if (s.dev.curdOf n).fetching = 0 then 0 else 1) ∧
      ∀ m < 4, (t.dev.wheyOf m).rdDrop = (s.dev.wheyOf m).rdOut)) ∧
    Does .busMasterEnable s (fun t => KeepsBut [.ring] s t ∧
      (if s.dev.clk.limp && !Config.peRefclk s.dev.clk.now then t.dev.ring = s.dev.ring
        else t.dev.ring.bme = true ∧ t.dev.ring.d3 = false ∧ t.dev.ring.link = true ∧ t.dev.ring.perst = false) ∧
      ∀ n, (t.dev.curdOf n).st = (s.dev.curdOf n).st ∧ (t.dev.curdOf n).pend = (s.dev.curdOf n).pend) ∧
    ∀ p ∈ [(Instr.perstNAssert, false, true), (.linkDown, false, s.dev.ring.perst),
        (.functionLevelReset, s.dev.ring.link, s.dev.ring.perst)],
      Does p.1 s (fun t => KeepsBut [.ring, .regs] s t ∧ t.dev.ring.link = p.2.1 ∧ t.dev.ring.perst = p.2.2 ∧
        t.dev.ring.restarted = true ∧ t.dev.ring.bme = false ∧ t.dev.ring.abiState = 0 ∧ t.dev.ring.flights = s.dev.ring.flights ∧
        (∀ n, (t.dev.curdOf n).st = .stopped ∧ (t.dev.curdOf n).ready = []) ∧ (∀ m, (t.dev.wheyOf m).st = .stopped) ∧
        (s.dev.ring.wait = [] → t.dev.ring.cues = s.dev.ring.cues) ∧
        ∀ off, noteReg off = false →
          if (0x1000 ≤ off ∧ off < 0x2000) ∨ (p.1 = .perstNAssert ∧ off = 0xA0C0) then
            t.dev.force off = regReset off ∧ t.dev.written off = regReset off
          else t.dev.force off = s.dev.force off ∧ t.dev.written off = s.dev.written off)

/-! ### Time -/

/-- The rows of the clock: on a master a word-clock edge steers within 50 ppm, 256 good ones lock the follower, and it gives up after 1 s at its limit
or 8 periods without an edge; a unit that is no master follows none; a calibration's result; drift compensation; and the Tempo unit's events in
order and the loss of its MIDI clock (R24, R29, R36, R39, R42, R382).
The steering law before its limit is a constant with no body, log entry 27. -/
def Obligations.ClockRowsAct : Prop :=
  ∀ (s : State), s.dev.coreOn = true →
    let c : Clk := s.dev.clk
    let e : Int := phaseError s.dev.wordPeriod s.dev.wheelN
    (∀ f ppm, c.running = true → c.role = .master → f = s.dev.rb 0x410 3 → (c.wordState = .acquire ∨ c.wordState = .locked) →
      Does (.wordClockEdge f ppm) s (fun t => KeepsBut [.clk] s t ∧ t.dev.clk.wordSteer.natAbs ≤ 5000 ∧ t.dev.clk.wordEdge = c.now ∧
        t.dev.clk.wheel = c.wheel ∧ t.dev.clk.wordGood = (if e.natAbs ≤ 2 then c.wordGood + 1 else 0) ∧
        (c.wordState = .acquire → t.dev.clk.wordState = if 256 ≤ t.dev.clk.wordGood then .locked else .acquire) ∧
        (c.wordState = .locked → t.dev.clk.wordState = .locked))) ∧
    (∀ f ppm, c.running = true → c.role = .master → f = s.dev.rb 0x410 3 → c.wordState = .holdover →
      Does (.wordClockEdge f ppm) s (fun t => KeepsBut [.clk] s t ∧ t.dev.clk.wordSteer = c.wordSteer ∧
        (ppm.natAbs ≤ 50 → t.dev.clk.wordState = if 15 ≤ c.wordGood then .acquire else .holdover) ∧
        (50 < ppm.natAbs → t.dev.clk.wordState = .holdover ∧ t.dev.clk.wordGood = 0))) ∧
    (∀ f ppm, c.running = false ∨ c.role ≠ .master ∨ f ≠ s.dev.rb 0x410 3 ∨ c.wordState = .off → Does (.wordClockEdge f ppm) s (KeepsBut [] s)) ∧
    (∀ q, c.wordState = .acquire → c.wordFull = some q → q + 196608000 ≤ c.now → Does .wordRange s (fun t =>
      KeepsBut [.clk, .regs] s t ∧ RegsBut (· = 0x42C) s t ∧ t.dev.clk = { c with wordFull := some c.now } ∧
        t.dev.force 0x42C = s.dev.force 0x42C ||| 0x10 ∧ Tells 0x0104 0 s t)) ∧
    ((c.wordState = .acquire ∨ c.wordState = .locked) → c.wordEdge + 8 * s.dev.wordPeriod ≤ c.now → Does .wordLost s (fun t =>
      KeepsBut [.clk, .regs] s t ∧ RegsBut (· = 0x42C) s t ∧
        t.dev.clk = { c with wordState := .holdover, wordGood := 0, wordFull := none } ∧
        t.dev.force 0x42C = s.dev.force 0x42C ||| 0x8 ∧ Tells 0x0105 0 s t)) ∧
    (∀ n, c.running = true → Does (.woscCalDone n) s (fun t => KeepsBut [.clk] s t ∧ t.dev.clk = { c with woscCal := n })) ∧
    (s.dev.driftDue = true → Does .driftCompensation s (fun t => KeepsBut [.clk, .ozh] s t ∧
      t.dev.ozh = { s.dev.ozh with driftAcc := s.dev.ozh.driftAcc - 1000000000 } ∧
        t.dev.clk = { c with skip := if 0 < (s.dev.nbrOf s.dev.ozh.parent).delta then c.skip + 1 else c.skip - 1 })) ∧
    (s.dev.tempoDue = true → Does .tempoEvent s (fun t =>
      let u : Tempo := s.dev.tempo
      KeepsBut [.tempo, .rip, .regs] s t ∧ t.dev.tempo.beat = (if u.j = 0 then BitVec.ofNat 32 u.k else u.beat) ∧
        t.dev.tempo.sNow = (if u.j = 0 then s.dev.tempoS else u.sNow) ∧
        (if u.j + 1 < t.dev.tempo.sNow then t.dev.tempo.k = u.k ∧ t.dev.tempo.j = u.j + 1
          else t.dev.tempo.k = u.k + 1 ∧ t.dev.tempo.j = 0) ∧
        (s.dev.rb 0x440 7 = true →
          Tells (if u.j = 0 then 0x0110 else 0x0111) (u.k % 2 ^ 32 + 2 ^ 32 * u.j) s t))) ∧
    (s.dev.tempoDue = false → Does .tempoEvent s (KeepsBut [] s)) ∧
    ∀ q, s.dev.tempo.lastClk = some q → s.dev.tempo.runs = true → s.dev.rf 0x440 2 1 = 2 →
      24 * 65536 * q + 3 * s.dev.tempo.pq ≤ 24 * 65536 * c.now → Does .tempoLost s (fun t =>
        KeepsBut [.tempo, .regs] s t ∧ RegsBut (· = 0x42C) s t ∧ t.dev.tempo = { s.dev.tempo with st := .hold, lastClk := none } ∧
          t.dev.force 0x42C = s.dev.force 0x42C ||| 0x20 ∧ Tells 0x0113 0 s t)

/-! ### Supplies, resets and the wake sequence -/

/-- A rail in lockout takes its outputs with it: the strings stop and those with a level set their flag, the row switch in use is off, pins are
high-Z and read 0; its diagnosis stays suspended until 8,192 ticks after its return. With VIO_H back a sampled pin reads its ball again. With VRIND
the Rind starts, runs the image its boot ROM chooses and logs the return; without it what is not in the ledger and the registers is lost. A rail
that is where the command says does nothing (R57, R60 to R62, R278, R403, R411, R424). -/
def Obligations.RailsSuspendTheirOutputs : Prop :=
  ∀ (s : State),
    let p : Pwr := s.dev.pwr
    let r : Rind := s.rind
    (∀ c ∈ [(Instr.vinLockout, p.vinLow), (.vinLockoutExit, !p.vinLow), (.vrowLockout, p.vrowLow), (.vrowLockoutExit, !p.vrowLow),
        (.vioHLockout, p.vioLow), (.vrindLoss, !r.on), (.vrindRise, r.on)],
      c.2 = true → Does c.1 s (KeepsBut [] s)) ∧
    (∀ told, p.vioLow = false → Does (.vioHLockoutExit told) s (KeepsBut [] s)) ∧
    (p.vinLow = false → Does .vinLockout s (fun t => KeepsBut [.pwr, .str, .regs] s t ∧ RegsBut (· = 0x2020) s t ∧
      t.dev.pwr = { p with vinLow := true, vinSusp := true, vinEnd := none } ∧ (∀ n < 16, (t.dev.strOf n).switching = false) ∧
      t.dev.force 0x2020 = if (upTo 16).any (fun n => (s.dev.strOf n).switching && decide ((s.dev.chanOf n).level ≠ 0)) then
        s.dev.force 0x2020 ||| 2 else s.dev.force 0x2020)) ∧
    (p.vinLow = true → Does .vinLockoutExit s (fun t => KeepsBut [.pwr] s t ∧
      t.dev.pwr = { p with vinLow := false, vinEnd := some (s.dev.clk.now + 8192) })) ∧
    (∀ e, p.vinEnd = some e → e ≤ s.dev.clk.now → Does .supplySuspensionEnd s (fun t => KeepsBut [.pwr] s t ∧
      t.dev.pwr = { p with vinSusp := false, vinEnd := none })) ∧
    ((∀ e, p.vinEnd = some e → s.dev.clk.now < e) → Does .supplySuspensionEnd s (KeepsBut [] s)) ∧
    (p.vrowLow = false → Does .vrowLockout s (fun t => KeepsBut [.pwr, .mtx, .regs] s t ∧ RegsBut (· = 0x301C) s t ∧
      t.dev.pwr = { p with vrowLow := true, vrowSusp := true, vrowEnd := none } ∧
      (s.dev.mtx.driving = true → t.dev.mtx.cut = true ∧ t.dev.force 0x301C = s.dev.force 0x301C ||| 2 ∧ Tells 0x0403 0 s t) ∧
      (s.dev.mtx.driving = false → t.dev.mtx = s.dev.mtx ∧ t.dev.force 0x301C = s.dev.force 0x301C))) ∧
    (p.vrowLow = true → Does .vrowLockoutExit s (fun t => KeepsBut [.pwr] s t ∧
      t.dev.pwr = { p with vrowLow := false, vrowEnd := some (s.dev.clk.now + 8192) })) ∧
    (∀ e, p.vrowEnd = some e → e ≤ s.dev.clk.now → Does .vrowSuspensionEnd s (fun t => KeepsBut [.pwr, .mtx] s t ∧
      t.dev.pwr = { p with vrowSusp := false, vrowEnd := none } ∧
        t.dev.mtx = { s.dev.mtx with blank := s.dev.clk.now + 262144 })) ∧
    ((∀ e, p.vrowEnd = some e → s.dev.clk.now < e) → Does .vrowSuspensionEnd s (KeepsBut [] s)) ∧
    (p.vioLow = false → Does .vioHLockout s (fun t => KeepsBut [.pwr, .harp, .regs] s t ∧ RegsBut (· = 0x5008) s t ∧
      t.dev.pwr = { p with vioLow := true } ∧ (∀ n, t.dev.pinDriven n = false ∧ t.dev.pinLevel n = false) ∧
      ∀ n < 8, ∀ k < 32, s.dev.coreOn = true → s.dev.rb (hrpOff n) 0 = true → s.dev.pinOwner k = n → t.dev.rb 0x5008 (8 + n) = true)) ∧
    (∀ told, p.vioLow = true → Does (.vioHLockoutExit told) s (fun t => KeepsBut [.pwr, .harp, .pins, .free] s t ∧
      t.dev.pwr = { p with vioLow := false } ∧
      (∃ c q b, t.dev.pins = { s.dev.pins with ext := extWith s.dev.pins.ext told, syncd := c, since := q, ball := b }) ∧
      ∀ k < 32, ∀ b, s.dev.coreOn = true → t.dev.pinSampled k = true → t.dev.ballLevel k = some b →
        t.dev.pins.ball.toNat.testBit k = b)) ∧
    (r.on = true → Does .vrindLoss s (fun t => KeepsBut [.br, .rind] s t ∧ t.dev.br.on = false ∧ t.dev.br.queue = [] ∧
      t.dev.br.recBuf = [] ∧ t.dev.br.evtBuf = [] ∧
      t.rind = { r with on := false, cHist := [], cls := 0, winCnt := 0, closeTag := none, nonce := none, sealReq := false, iStr := [],
                        trial := r.trial.map (fun x => { x with held := [] }), lost := (r.recno, r.rtime) })) ∧
    (r.on = false → Does .vrindRise s (fun t => KeepsBut [.br, .rind, .flt] s t ∧ t.rind.on = true ∧ t.dev.br.on = true ∧
      t.rind.recno = r.recno ∧ t.rind.eIn = r.eIn ∧ t.rind.eSusp = r.eSusp ∧ t.rind.ring = r.ring ∧ t.rind.cal = r.cal ∧
      t.rind.sealed = r.sealed ∧ r.evtcnt < t.rind.evtcnt ∧ (tabGet [] t.rind.log (r.evtcnt % 128)).take 2 = [0x07, 0] ∧
      t.rind.rflags.toNat.testBit 3 = true ∧ t.dev.br.run = t.rind.slot ∧
      match s.dev.rindSlot r.slot with
      | some k => t.rind.slot = k ∧ t.rind.romOnly = false
      | none => t.rind.romOnly = true))

/-- Every reset of the device stops its clock and empties its engines, puts every register outside the always-on domain at its reset value, and
touches neither the Rind nor what the flash holds, but that the slot of an open update sequence is EMPTY; retention stays only with RET_EN = 1. V3
or VCORE lost in any mode but VAULT sets V3_LOST; what follows is VAULT, a sequence that waits for V3, or a wake sequence with the cause of the
reset. A power-on reset and RST_N keep nothing of the always-on domain either (R52 to R54, R58, R79, R83, R94, R95, R98).
That a cut DOZE event is given up, the cause of a loss of VCORE alone and the restart of the attempts follow log entry 22, retention log entry 23. -/
def Obligations.ResetsKeepTheRind : Prop :=
  ∀ (s : State),
    let p : Pwr := s.dev.pwr
    let running : Bool := s.dev.clk.running
    let ret : Bool := s.dev.rb 0x81C 0
    let later : List Wake := [.refMeas, .crystal, .pll, .pause, .limpPll, .wheelWait, .steward]
    let dark (t : State) : Prop := t.rind = s.rind ∧ t.pending = s.pending ∧ t.dev.clk.running = false ∧
      t.dev.clk.now = s.dev.clk.now ∧ t.dev.str = [] ∧ t.dev.rip = [] ∧ t.dev.harp = [] ∧ t.dev.car = [] ∧ t.dev.cult = [] ∧
      t.dev.ring.cues = [] ∧ t.dev.ring.flights = [] ∧ t.dev.coreOn = false ∧
      (∀ off, noteReg off = false → aonReg off = false → t.dev.force off = regReset off ∧ t.dev.written off = regReset off) ∧
      ((∀ k < 2, (s.dev.updOf k).open_ = false) → t.dev.flt.slots = s.dev.flt.slots) ∧
      ∀ k < 2, (s.dev.updOf k).open_ = true → (t.dev.slotOf (s.dev.updSlot k)).st = 0
    let lost (t : State) : Prop := dark t ∧ t.dev.pwr.resetWhy = 3 ∧ t.dev.pwr.retained = (p.retained && ret) ∧
      t.dev.ozhKept = (if ret then s.dev.ozhKept else none) ∧
      t.dev.pwr.storedWheel = (if running then p.wheelCopy + 4096 else p.storedWheel) ∧
      t.dev.pwr.woscCount = (if running then 0 else p.woscCount) ∧ t.dev.clk.limp = s.dev.clk.limp ∧
      (∀ off, aonReg off = true → off ≠ 0x82C → t.dev.force off = s.dev.force off ∧ t.dev.written off = s.dev.written off) ∧
      t.dev.force 0x82C = (if p.mode = .vault then s.dev.force 0x82C else s.dev.force 0x82C ||| 0x20)
    let cold (t : State) : Prop := dark t ∧ t.dev.ozhKept = none ∧ t.dev.pwr.wake = .por ∧ t.dev.pwr.cold = true ∧
      t.dev.pwr.retained = false ∧ t.dev.pwr.vaultLock = false ∧ t.dev.clk = { now := s.dev.clk.now, refHz := s.dev.clk.refHz } ∧
      t.dev.ozh.fc = 0 ∧ ∀ off, noteReg off = false → t.dev.force off = regReset off ∧ t.dev.written off = regReset off
    (p.v3Low = true ∨ p.wake = .por ∨ p.wake = .v3wait ∨ (p.wake = .idle ∧ p.mode = .vault) →
      Does .v3Lockout s (fun t => KeepsBut [.pwr] s t ∧ t.dev.pwr = { p with v3Low := true })) ∧
    (p.v3Low = false → p.wake = .idle → p.mode ≠ .vault → Does .v3Lockout s (fun t => lost t ∧ t.dev.pwr.mode = .vault ∧
      t.dev.pwr.wake = .idle ∧ t.dev.pwr.v3Low = true)) ∧
    (p.v3Low = false → p.wake = .buck → Does .v3Lockout s (fun t => KeepsBut [.pwr, .regs, .pins, .kept] s t ∧
      t.dev.pwr.mode = .vault ∧ t.dev.pwr.v3Low = true ∧ t.dev.pwr.pgoodFails = min 3 (p.pgoodFails + 1) ∧
      t.dev.pwr.vaultLock = (p.vaultLock || decide (2 ≤ p.pgoodFails)) ∧
      t.dev.pwr.wake = if p.dozeWake || t.dev.pwr.vaultLock then .idle else .v3wait)) ∧
    (p.v3Low = false → p.wake ∈ later → p.vaultLock = false → Does .v3Lockout s (fun t => lost t ∧ t.dev.pwr.mode = .vault ∧
      t.dev.pwr.v3Low = true ∧ t.dev.pwr.pgoodFails = p.pgoodFails ∧ t.dev.pwr.wake = if p.dozeWake then .idle else .v3wait)) ∧
    (p.v3Low = false → Does .v3LockoutExit s (KeepsBut [] s)) ∧
    (p.v3Low = true → p.wake = .idle → p.mode = .vault → p.vaultLock = false →
      Does .v3LockoutExit s (fun t => KeepsBut [.pwr] s t ∧ t.dev.pwr.v3Low = false ∧ t.dev.pwr.wake = .buck ∧
        t.dev.pwr.wakeCause = 2)) ∧
    (p.v3Low = true → p.wake = .v3wait → Does .v3LockoutExit s (fun t => KeepsBut [.pwr] s t ∧
      t.dev.pwr = { p with v3Low := false, wake := .buck, stepAt := s.dev.clk.now, clkAttempts := 0 })) ∧
    (p.v3Low = true → p.wake ≠ .v3wait → (p.wake = .idle → p.mode ≠ .vault ∨ p.vaultLock = true) →
      Does .v3LockoutExit s (fun t => KeepsBut [.pwr] s t ∧ t.dev.pwr = { p with v3Low := false })) ∧
    (s.dev.coreOn = true ∨ p.wake ∈ later → Does .vcorePgoodLoss s (fun t => lost t ∧ t.dev.pwr.mode = .vault ∧
      if p.v3Low then t.dev.pwr.wake = .idle else t.dev.pwr.wake = .buck ∧ t.dev.pwr.wakeCause = 2)) ∧
    (s.dev.coreOn = false → p.wake ∉ later → Does .vcorePgoodLoss s (KeepsBut [] s)) ∧
    Does .vbatLow s (fun t => cold t ∧ t.dev.pwr.vbatLow = true) ∧
    Does .rstN s (fun t => cold t ∧ t.dev.pwr.vbatLow = p.vbatLow) ∧
    (∀ v3 wx, p.wake = .por → Does (.powerOnReset ⟨v3, wx⟩) s (fun t => KeepsBut [.pwr] s t ∧ t.dev.pwr.vbatLow = false ∧
      t.dev.pwr.v3Low = !v3 ∧ t.dev.pwr.woscRc = !wx ∧ if v3 then t.dev.pwr.wake = .buck ∧ t.dev.pwr.wakeCause = 0
        else t.dev.pwr.wake = .idle ∧ t.dev.pwr.mode = .vault)) ∧
    (∀ v3 wx, p.wake ≠ .por → Does (.powerOnReset ⟨v3, wx⟩) s (KeepsBut [] s)) ∧
    (p.wake = .por → p.vbatLow = false → Does .rstNRelease s (fun t => KeepsBut [.pwr] s t ∧
      if p.v3Low then t.dev.pwr.wake = .idle ∧ t.dev.pwr.mode = .vault else t.dev.pwr.wake = .buck ∧ t.dev.pwr.wakeCause = 1)) ∧
    (p.wake ≠ .por ∨ p.vbatLow = true → Does .rstNRelease s (KeepsBut [] s))

/-- From VAULT or DOZE each enabled wake source that wakes that mode begins the wake sequence with its cause; during entry to sleep the first is
latched; in the steps of a DOZE event it makes them a wake, and in the event itself the device enters its target mode, or HOLD while a cause is
present. Disabled, under the VAULT lock, or in any other mode a source has no effect, but that PERST_N is deasserted (R83, R84, R88).
What a source does in a DOZE event, and that a second one changes nothing, are the model's choices, log entry 22. -/
def Obligations.WakeSourcesBeginWake : Prop :=
  ∀ (s : State),
    let p : Pwr := s.dev.pwr
    ∀ c ∈ [(Instr.wakeEdge, s.dev.rb 0x80C 0, 3, 0, true, true), (.vaultAlarm, decide (s.dev.rf 0x818 31 0 ≠ 0), 4, 0, true, false),
        (.perstNDeassert, s.dev.rb 0x80C 1, 5, 0, false, true), (.hoopSignalDetect, s.dev.rb 0x80C 2, 6, 0, false, true)] ++
        (List.finRange 32).flatMap (fun (n : Fin 32) => [true, false].map (fun b =>
          (Instr.wakePinEdge n b, s.dev.rb 0x80C 3 && s.dev.wakePinHit n b, 7, n.val, false, true))),
      let cause : Nat := c.2.2.1
      let pin : Nat := c.2.2.2.1
      let fits (m : Mode) : Prop := (m = .vault ∧ c.2.2.2.2.1 = true) ∨ (m = .doze ∧ c.2.2.2.2.2 = true)
      let keeps (areas : List Area) (t : State) : Prop := KeepsBut (if c.1 = .perstNDeassert then .ring :: areas else areas) s t ∧
        (c.1 = .perstNDeassert → ∀ n m, t.dev.ring.perst = false ∧ t.dev.ring.bme = s.dev.ring.bme ∧ t.dev.ring.link = s.dev.ring.link ∧
          (t.dev.curdOf n).st = (s.dev.curdOf n).st ∧ (t.dev.wheyOf m).st = (s.dev.wheyOf m).st)
      let acts : Prop := c.2.1 = true ∧ p.vaultLock = false
      (¬acts ∨ (∃ m, p.sleepTo = some m ∧ (¬fits m ∨ p.latched ≠ none)) ∨ (p.sleepTo = none ∧ ¬fits p.mode) ∨
        (p.sleepTo = none ∧ p.dozeEvent = false ∧ p.dozeWake = false ∧ p.wake ≠ .idle) → Does c.1 s (keeps [])) ∧
      (∀ m, acts → p.sleepTo = some m → fits m → p.latched = none → Does c.1 s (fun t => keeps [.pwr] t ∧
        t.dev.pwr = { p with latched := some (cause, pin) })) ∧
      (acts → p.sleepTo = none → fits p.mode → p.dozeEvent = false → p.dozeWake = false → p.wake = .idle →
        Does c.1 s (fun t => keeps [.pwr] t ∧ t.dev.pwr = { p with
          wake := if p.v3Low then .v3wait else .buck, stepAt := s.dev.clk.now, wakeStart := s.dev.clk.now, wakeCause := cause,
          wakePin := pin, fromDoze := decide (p.mode = .doze), latched := none, clkAttempts := 0 })) ∧
      (acts → p.sleepTo = none → fits p.mode → p.dozeEvent = false → p.dozeWake = true → Does c.1 s (fun t => keeps [.pwr] t ∧
        t.dev.pwr = { p with wakeCause := cause, wakePin := pin, fromDoze := true, wakeStart := s.dev.clk.now, dozeWake := false })) ∧
      (acts → p.sleepTo = none → fits p.mode → p.dozeEvent = true → p.cause = 0 → s.dev.clk.limp = false → s.dev.flt.refuse = false →
        Does c.1 s (fun t => keeps [.pwr, .mtx, .pins] t ∧ t.dev.pwr.wakeCause = cause ∧ t.dev.pwr.wakePin = pin ∧
          t.dev.pwr.fromDoze = true ∧ t.dev.pwr.dozeEvent = false ∧ t.dev.pwr.wake = .idle ∧
          t.dev.pwr.mode = if s.dev.rb 0x81C 1 then .run else .ready)) ∧
      (acts → p.sleepTo = none → fits p.mode → p.dozeEvent = true → p.cause ≠ 0 ∨ s.dev.clk.limp = true ∨ s.dev.flt.refuse = true →
        Does c.1 s (fun t => t.rind = s.rind ∧ t.dev.pwr.wakeCause = cause ∧ t.dev.pwr.dozeEvent = false ∧ t.dev.pwr.mode = .hold))

/-- The wake sequence goes through the steps of Table MOD-4: the buck, 2,048 ticks of measurement of REFIN, the crystal or REFIN, the PLL, the Wheel and
the Steward; three failed starts of the buck lock VAULT, four of the clock bring the limp clock, which persists. A command of another step, or before
its time, has no effect (R22, R25, R35, R82, R85 to R91, R96, R440, R444).
What a DOZE event does on the limp clock, and what the context gives, follow log entries 22 and 23. -/
def Obligations.WakeStepsInOrder : Prop :=
  ∀ (s : State),
    let p : Pwr := s.dev.pwr
    let now : Nat := s.dev.clk.now
    (p.wake = .buck → Does .vcorePgood s (fun t => KeepsBut [.pwr] s t ∧ t.dev.pwr = { p with wake := .refMeas, stepAt := now })) ∧
    (p.wake ≠ .buck → Does .vcorePgood s (KeepsBut [] s)) ∧
    (p.wake = .buck → p.stepAt + 393216 ≤ now → Does .pgoodTimeout s (fun t => KeepsBut [.pwr, .regs, .pins, .kept] s t ∧
      RegsBut (· = 0x82C) s t ∧ t.dev.force 0x82C = (if 2 ≤ p.pgoodFails then s.dev.force 0x82C ||| 4 else s.dev.force 0x82C) ∧
      t.dev.pins = { ext := s.dev.pins.ext } ∧ t.dev.ozhKept = (if s.dev.rb 0x81C 0 then s.dev.ozhKept else none) ∧
      t.dev.pwr = { p with
        mode := .vault, wake := .idle, dozeWake := false, dozeEvent := false, lastFail := 1, pgoodFails := min 3 (p.pgoodFails + 1),
        vaultLock := p.vaultLock || decide (2 ≤ p.pgoodFails), retained := p.retained && s.dev.rb 0x81C 0 })) ∧
    (p.wake ≠ .buck ∨ now < p.stepAt + 393216 → Does .pgoodTimeout s (KeepsBut [] s)) ∧
    (p.vaultLock = true → Does .vaultLockRelease s (fun t => KeepsBut [.pwr] s t ∧ t.dev.pwr = { p with
      vaultLock := false, pgoodFails := 0, wake := if p.v3Low then .v3wait else .buck, stepAt := now, wakeStart := now, wakeCause := 9,
      wakePin := 0, fromDoze := decide (p.mode = .doze), dozeWake := false, latched := none, clkAttempts := 0 })) ∧
    (p.vaultLock = false → Does .vaultLockRelease s (KeepsBut [] s)) ∧
    (∀ hz,
      let good : Prop := 24330240 ≤ hz ∧ hz ≤ 24821760
      (p.wake = .refMeas → p.stepAt + 2048 ≤ now → Does (.referenceMeasured hz) s (fun t => KeepsBut [.pwr, .clk] s t ∧
        (good → t.dev.clk = { s.dev.clk with refHz := hz, src := .refclk }) ∧
        (¬good → t.dev.clk = { s.dev.clk with refHz := hz, src := .xtal }) ∧
        (s.dev.clk.limp = true → t.dev.pwr = { p with wake := .limpPll, stepAt := now }) ∧
        (s.dev.clk.limp = false → good → t.dev.pwr = { p with wake := .pll, stepAt := now, clkAttempts := p.clkAttempts + 1 }) ∧
        (s.dev.clk.limp = false → ¬good →
          t.dev.pwr = { p with wake := .crystal, stepAt := now, clkAttempts := p.clkAttempts + 1 }))) ∧
      (p.wake ≠ .refMeas ∨ now < p.stepAt + 2048 → Does (.referenceMeasured hz) s (KeepsBut [] s))) ∧
    (p.wake = .crystal → Does .crystalAmplitudeGood s (fun t => KeepsBut [.pwr] s t ∧
      t.dev.pwr = { p with wake := .pll, stepAt := now })) ∧
    (p.wake ≠ .crystal → Does .crystalAmplitudeGood s (KeepsBut [] s)) ∧
    (∀ x ∈ [(Wake.crystal, 983040, 2), (.pll, 39322, 3)], p.wake = x.1 →
      (p.stepAt + x.2.1 ≤ now → Does .clockStepTimeout s (fun t => KeepsBut [.pwr] s t ∧
        t.dev.pwr = { p with lastFail := x.2.2, wake := if 4 ≤ p.clkAttempts then .limpPll else .pause, stepAt := now })) ∧
      (now < p.stepAt + x.2.1 → Does .clockStepTimeout s (KeepsBut [] s))) ∧
    (p.wake ≠ .crystal → p.wake ≠ .pll → Does .clockStepTimeout s (KeepsBut [] s)) ∧
    (p.wake = .pause → p.stepAt + 196608 ≤ now → Does .clockRetryPauseEnd s (fun t => KeepsBut [.pwr] s t ∧
      t.dev.pwr = { p with wake := if s.dev.clk.src = .refclk then .pll else .crystal, stepAt := now,
                           clkAttempts := p.clkAttempts + 1 })) ∧
    (p.wake ≠ .pause ∨ now < p.stepAt + 196608 → Does .clockRetryPauseEnd s (KeepsBut [] s)) ∧
    (p.wake = .pll → Does .pllLock s (fun t => KeepsBut [.pwr, .clk] s t ∧ t.dev.clk = { s.dev.clk with pllLock := true } ∧
      t.dev.pwr = { p with wake := .wheelWait, stepAt := now })) ∧
    (p.wake ≠ .pll → Does .pllLock s (KeepsBut [] s)) ∧
    (p.wake = .limpPll → Does .limpClockLock s (fun t => KeepsBut [.pwr, .clk, .regs] s t ∧ RegsBut (· = 0x82C) s t ∧
      t.dev.clk = { s.dev.clk with pllLock := true, limp := true, src := .limp } ∧
      t.dev.pwr = { p with wake := .wheelWait, stepAt := now } ∧ t.dev.force 0x82C = s.dev.force 0x82C ||| 2)) ∧
    (p.wake ≠ .limpPll → Does .limpClockLock s (KeepsBut [] s)) ∧
    (∀ n : BitVec 48,
      let slept : Nat := (p.woscCount + n).toNat * s.dev.clk.woscCal.toNat / 1024
      let follows : Prop := s.dev.clk.role ≠ .master
      (p.wake = .wheelWait → p.cold = true → p.dozeWake = false → Does (.wheelSet n) s (fun t => KeepsBut [.pwr, .clk] s t ∧
        t.dev.clk.wheel = 0 ∧ t.dev.clk.running = true ∧ t.dev.clk.role = .master ∧ t.dev.clk.fstate = .synced ∧
        t.dev.pwr = { p with woscCount := p.woscCount + n, cold := false, wheelCopy := 0, wake := .steward, stepAt := now })) ∧
      (p.wake = .wheelWait → p.cold = false → Does (.wheelSet n) s (fun t =>
        t.rind = s.rind ∧ t.dev.clk.running = true ∧ t.dev.clk.role = s.dev.clk.role ∧
        t.dev.clk.wheel = p.storedWheel + BitVec.ofNat 64 slept + BitVec.ofInt 64 (s.dev.sleepDrift slept) ∧
        t.dev.pwr.woscCount = p.woscCount + n ∧ t.dev.pwr.wheelCopy = t.dev.clk.wheel ∧
        (follows → t.dev.clk.fstate = .holdover ∧ t.dev.force 0x42C = s.dev.force 0x42C ||| 0x41) ∧
        (¬follows → t.dev.clk.fstate = .synced ∧ t.dev.force 0x42C = s.dev.force 0x42C ||| 0x40) ∧
        (p.dozeWake = false ∨ s.dev.clk.limp = true → KeepsBut [.pwr, .clk, .regs] s t ∧ RegsBut (· = 0x42C) s t ∧
          t.dev.pwr.wake = .steward ∧ t.dev.pwr.dozeWake = false) ∧
        (p.dozeWake = true → s.dev.clk.limp = false → KeepsBut [.pwr, .clk, .regs, .ozh] s t ∧
          RegsBut (fun off => off = 0x42C || ozhReg off) s t ∧ t.dev.pwr.wake = .idle ∧ t.dev.pwr.dozeWake = false ∧
          t.dev.pwr.dozeEvent = true ∧ t.dev.pwr.retValid = p.retained))) ∧
      (p.wake ≠ .wheelWait → Does (.wheelSet n) s (KeepsBut [] s))) ∧
    (∀ b, p.wake ≠ .steward → Does (.stewardBootDone b) s (KeepsBut [] s)) ∧
    (∀ b, p.wake = .steward → p.retained = true → b = true →
      Does (.stewardBootDone b) s (fun t => t.rind = s.rind ∧ t.dev.pwr.wake = .idle ∧ t.dev.pwr.retValid = true ∧
        t.dev.pwr.wakeTime = BitVec.ofNat 32 (now - p.wakeStart) ∧
        t.dev.flt.running = s.dev.flt.running ∧ t.dev.flt.trial = s.dev.flt.trial ∧
        (s.dev.flt.trial = true → t.dev.flt.trialAt = s.dev.flt.trialAt + (now - s.dev.flt.haltAt)) ∧
        (s.dev.clk.limp = false → s.dev.flt.refuse = false → p.cause = 0 → (∀ k, s.dev.ozhKept = some k →
            t.dev.ozh = { k.z with fc := max k.z.fc s.dev.ozh.fc }) ∧
          KeepsBut [.pwr, .mtx, .pins, .flt, .regs, .ozh] s t ∧ RegsBut ozhReg s t ∧
          t.dev.pwr.mode = if s.dev.rb 0x81C 1 ∧ p.wakeCause ∉ [0, 1, 8] then .run else .ready))) ∧
    ∀ b, p.wake = .steward → p.retained = false ∨ b = false →
      Does (.stewardBootDone b) s (fun t => t.rind = s.rind ∧ t.dev.pwr.wake = .idle ∧ t.dev.pwr.retValid = false ∧
        t.dev.pwr.retained = false ∧ t.dev.pwr.wakeTime = BitVec.ofNat 32 (now - p.wakeStart) ∧
        (∀ k, [0, 1].find? (fun k => (s.dev.slotOf k).st = 3) = some k → s.dev.imgReason k = 0 →
          t.dev.flt.running = k ∧ t.dev.flt.trial = true ∧ t.dev.flt.trialAt = now ∧ t.dev.flt.refuse = false) ∧
        (∀ k, [0, 1].find? (fun k => (s.dev.slotOf k).st = 3) = some k → s.dev.imgReason k ≠ 0 →
          (t.dev.slotOf k).st = 2 ∧ t.dev.flt.reverted = true ∧ t.dev.flt.reason = s.dev.imgReason k ∧ t.dev.flt.trial = false) ∧
        ((∀ k < 2, (s.dev.slotOf k).st ≠ 3) →
          (s.dev.imgReason s.dev.flt.active = 0 → t.dev.flt.running = s.dev.flt.active ∧ t.dev.flt.refuse = false) ∧
          (s.dev.imgReason s.dev.flt.active ≠ 0 → s.dev.imgReason (1 - s.dev.flt.active) = 0 →
            t.dev.flt.running = 1 - s.dev.flt.active ∧ t.dev.flt.fellBack = true ∧ t.dev.flt.refuse = false) ∧
          (s.dev.imgReason s.dev.flt.active ≠ 0 → s.dev.imgReason (1 - s.dev.flt.active) ≠ 0 → t.dev.flt.refuse = true)) ∧
        (s.dev.clk.limp = true ∨ t.dev.flt.refuse = true ∨ p.cause ≠ 0 → t.dev.pwr.mode = .hold) ∧
        (s.dev.clk.limp = false → t.dev.flt.refuse = false → p.cause = 0 → KeepsBut [.pwr, .mtx, .pins, .flt] s t ∧
          t.dev.pwr.mode = if s.dev.rb 0x81C 1 ∧ p.wakeCause ∉ [0, 1, 8] then .run else .ready))

/-- Entry to sleep ends with the device asleep, its Wheel stored and its count begun, or after more than 2 s without a rest of the link in the mode
it was in; HIO holds its outputs in DOZE. The DOZE timer begins an event, which sleeps again, stays awake with cause 10, or outlasts DOZE_MAX into
READY, or HOLD while a cause is present. Where nothing of this is due the command has no effect (R35, R59, R82, R91, R92, R97).
A source dropped by an abort follows log entry 21, what the registers of a wake hold after an overrun log entry 22. -/
def Obligations.SleepAndDozeAct : Prop :=
  ∀ (s : State),
    let p : Pwr := s.dev.pwr
    let now : Nat := s.dev.clk.now
    let calm : Prop := p.cause = 0 ∧ s.dev.clk.limp = false ∧ s.dev.flt.refuse = false
    let asleep (m : Mode) (t : State) : Prop := t.rind = s.rind ∧ t.pending = s.pending ∧ t.dev.coreOn = false ∧
      t.dev.clk.running = false ∧ t.dev.pwr.mode = m ∧ t.dev.pwr.sleepTo = none ∧ t.dev.pwr.dozeEvent = false ∧
      t.dev.pwr.storedWheel = s.dev.clk.wheel ∧ t.dev.pwr.woscCount = 0 ∧
      t.dev.pwr.retained = (decide (m = .doze) || s.dev.rb 0x81C 0) ∧
      t.dev.ozhKept = (if t.dev.pwr.retained then some s.dev.keepOzh else none) ∧
      (∀ off, noteReg off = false → t.dev.force off = if aonReg off then s.dev.force off else regReset off) ∧
      ∀ n < 32, if m = .doze then t.dev.pinDriven n = s.dev.pinDriven n ∧ t.dev.pinOut n = s.dev.pinOut n else t.dev.pinDriven n = false
    (∀ m, p.sleepTo = some m → m = .vault ∨ m = .doze → Does .sleepLinkReady s (fun t =>
      asleep m t ∧ (p.latched = none → t.dev.pwr.wake = p.wake) ∧
      ∀ l, p.latched = some l → t.dev.pwr.wakeCause = l.1 ∧ t.dev.pwr.wakePin = l.2 ∧ t.dev.pwr.stepAt = now ∧
        t.dev.pwr.fromDoze = decide (m = .doze) ∧ t.dev.pwr.wake = if p.v3Low then .v3wait else .buck)) ∧
    (p.sleepTo = none → Does .sleepLinkReady s (KeepsBut [] s)) ∧
    (∀ m, p.sleepTo = some m → p.sleepStart + 393216000 < now → Does .sleepAbort s (fun t =>
      KeepsBut [.pwr, .mtx] s t ∧ t.dev.pwr = { p with sleepTo := none, latched := none } ∧ Tells 0x0202 m.code s t ∧
      t.dev.mtx = if p.mode = .run then { s.dev.mtx with waitFrame := true, blank := now + 262144 } else s.dev.mtx)) ∧
    (p.sleepTo = none ∨ now ≤ p.sleepStart + 393216000 → Does .sleepAbort s (KeepsBut [] s)) ∧
    (p.mode = .doze → p.wake = .idle → p.dozeEvent = false → s.dev.rf 0x814 23 0 ≠ 0 → Does .dozeTimer s (fun t =>
      KeepsBut [.pwr] s t ∧ t.dev.pwr = { p with
        wake := if p.v3Low then .v3wait else .buck, stepAt := now, dozeStart := now, wakeStart := now, dozeWake := true,
        clkAttempts := 0 })) ∧
    (p.mode ≠ .doze ∨ p.wake ≠ .idle ∨ p.dozeEvent = true ∨ s.dev.rf 0x814 23 0 = 0 → Does .dozeTimer s (KeepsBut [] s)) ∧
    (p.dozeEvent = true → s.dev.flt.dbgHalt = false → p.latched = none → p.wake = .idle → Does .dozeEventSleep s (fun t =>
      asleep .doze t ∧ t.dev.pwr.dozeStart = p.dozeStart ∧ t.dev.pwr.wake = .idle)) ∧
    (p.dozeEvent = false ∨ s.dev.flt.dbgHalt = true → Does .dozeEventSleep s (KeepsBut [] s)) ∧
    (p.dozeEvent = true → s.dev.flt.dbgHalt = false → Does .dozeEventStayAwake s (fun t => t.rind = s.rind ∧
      t.dev.pwr.wakeCause = 10 ∧ t.dev.pwr.fromDoze = true ∧ t.dev.pwr.dozeEvent = false ∧ t.dev.pwr.wake = .idle ∧
      Tells 0x0201 (10 + 256 + 65536 * ((now - p.wakeStart) % 2 ^ 32)) s t ∧
      (calm → KeepsBut [.pwr, .mtx, .pins] s t ∧ t.dev.pwr.mode = if s.dev.rb 0x81C 1 then .run else .ready) ∧
      (¬calm → t.dev.pwr.mode = .hold))) ∧
    (p.dozeEvent = false ∨ s.dev.flt.dbgHalt = true → Does .dozeEventStayAwake s (KeepsBut [] s)) ∧
    (p.dozeEvent = true → p.dozeStart + 196608 * s.dev.rf 0x81C 15 8 < now → Does .dozeOverrun s (fun t => t.rind = s.rind ∧
      t.dev.force 0x82C = s.dev.force 0x82C ||| 0x10 ∧ Tells 0x0203 0 s t ∧ t.dev.pwr.dozeEvent = false ∧
      t.dev.pwr.wakeCause = p.wakeCause ∧
      (calm → KeepsBut [.pwr, .regs, .pins] s t ∧ RegsBut (· = 0x82C) s t ∧
        t.dev.pwr = { p with mode := .ready, dozeEvent := false }) ∧
      (¬calm → t.dev.pwr.mode = .hold))) ∧
    (p.dozeEvent = false ∨ now ≤ p.dozeStart + 196608 * s.dev.rf 0x81C 15 8 → Does .dozeOverrun s (KeepsBut [] s))

/-- Over-temperature brings HOLD with the light outputs off, and its end READY where it was the only cause and THERM_AUTO allows; a watchdog expiry is
counted, ends a trial, and a third within 10 s raises the fault; a lost PLL restarts; a debug halt stops the engines chosen, and its end resumes them; a
passed trial makes the running slot the active one. Where nothing of this is due the command has no effect (R90, R92, R99, R232, R256, R277, R431, R434
to R437, R444).
The Steward's restart that takes no time follows log entry 24, the debug port's enable log entry 67. -/
def Obligations.HoldHaltAndTrialAct : Prop :=
  ∀ (s : State), s.dev.coreOn = true →
    let p : Pwr := s.dev.pwr
    let f : Flt := s.dev.flt
    let now : Nat := s.dev.clk.now
    (∀ k : Fin 4, s.dev.hasCause 1 = false → s.dev.hasCause 2 = false → Does (.thermalShutdown k) s (fun t =>
      t.dev.pwr.cause = p.cause ||| 2 ∧ t.dev.force 0x82C = s.dev.force 0x82C ||| 1 ∧ Tells 0x0504 k s t ∧
      (p.mode = .ready ∨ p.mode = .run ∨ p.mode = .shadow →
        KeepsBut [.pwr, .regs, .ring, .ozh, .rip, .chan, .car, .mtx, .str] s t ∧ t.dev.pwr.mode = .hold ∧
        (∀ n < 12, t.dev.ripOf n = (s.dev.ripOf n).stopped) ∧
        ∀ c < 1040, (t.dev.chanOf c).step = BitVec.ofNat 16 (s.dev.safeLevel c)) ∧
      (p.mode = .hold → KeepsBut [.pwr, .regs, .mtx, .str] s t ∧ RegsBut (· = 0x82C) s t ∧ t.dev.pwr.mode = .hold) ∧
      (p.mode = .ready ∨ p.mode = .run ∨ p.mode = .shadow ∨ p.mode = .hold →
        t.dev.mtx.driving = false ∧ ∀ n < 16, (t.dev.strOf n).switching = false) ∧
      (p.mode = .doze → KeepsBut [.pwr, .regs] s t ∧ RegsBut (· = 0x82C) s t ∧ t.dev.pwr.mode = .doze))) ∧
    (∀ k, s.dev.hasCause 1 = true → Does (.thermalShutdown k) s (KeepsBut [] s)) ∧
    (s.dev.hasCause 1 = true → Does .thermalRelease s (fun t => KeepsBut [.pwr, .mtx] s t ∧
      let ends : Prop := p.mode = .hold ∧ p.cause = 2 ∧ s.dev.rb 0x81C 2 = true
      (ends → t.dev.pwr = { p with cause := 0, mode := .ready } ∧
        t.dev.mtx = { s.dev.mtx with blank := now + 262144, holdRows := 0 } ∧ Tells 0x0205 0 s t) ∧
      (¬ends → t.dev.pwr = { p with cause := p.cause &&& ~~~ 2 } ∧ t.dev.mtx = { s.dev.mtx with blank := now + 262144 }))) ∧
    (s.dev.hasCause 1 = false → Does .thermalRelease s (KeepsBut [] s)) ∧
    (s.dev.stewardRuns = true →
      let repeated : Prop := ∃ a b, f.wdogAt = [a, b] ∧ now ≤ b + 1966080000
      let raised : Prop := repeated ∧ s.dev.rb 0xA008 1 = false
      Does .watchdogExpiry s (fun t => t.rind = s.rind ∧ t.dev.flt.wdogCnt = satInc f.wdogCnt ∧
        t.dev.flt.wdogAt = (now :: f.wdogAt).take 2 ∧ t.dev.force 0x82C = s.dev.force 0x82C ||| 8 ∧
        t.dev.force 0xA0C0 = regReset 0xA0C0 ∧ Tells 0x0206 0 s t ∧
        (f.trial = false → ¬raised → KeepsBut [.flt, .regs] s t ∧ RegsBut (fun off => off = 0x82C || off = 0xA0C0) s t) ∧
        (f.trial = true → t.dev.flt.trial = false ∧ t.dev.flt.reverted = true ∧
          (f.active ≠ f.running → s.dev.imgReason f.active = 0 → (t.dev.slotOf f.running).st = 2 ∧ t.dev.flt.running = f.active)) ∧
        (raised → t.dev.pwr.mode = .hold ∧ t.dev.hasCause 4 = true ∧ t.dev.force 0xA008 = s.dev.force 0xA008 ||| 2))) ∧
    (s.dev.stewardRuns = false → Does .watchdogExpiry s (KeepsBut [] s)) ∧
    (s.dev.clk.pllLock = true → s.dev.clk.limp = false → Does .pllLockLoss s (fun t => t.rind = s.rind ∧
      t.dev.pwr.resetWhy = 2 ∧ t.dev.pwr.wakeCause = 8 ∧ t.dev.pwr.mode = .ready ∧
      t.dev.pwr.wake = (if p.v3Low then .v3wait else .buck) ∧ t.dev.clk.running = false ∧ t.dev.coreOn = false ∧
      ∀ off, noteReg off = false → t.dev.force off = if aonReg off then s.dev.force off else regReset off)) ∧
    (s.dev.clk.pllLock = false ∨ s.dev.clk.limp = true → Does .pllLockLoss s (KeepsBut [] s)) ∧
    (s.dev.rb 0xA0C0 0 = true → f.dbgHalt = false → Does .debugHalt s (fun t => KeepsBut [.flt, .rip, .harp] s t ∧
      t.dev.flt.dbgHalt = true ∧ t.dev.flt.haltAt = now ∧ t.dev.flt.running = f.running ∧
      (∀ n < 12, t.dev.ripOf n = if s.dev.rb 0x4000 n then { s.dev.ripOf n with dbgPause := true } else s.dev.ripOf n) ∧
      ∀ n < 8, (t.dev.harpOf n).st =
        if s.dev.rb 0x5000 n ∧ ((s.dev.harpOf n).st = 1 ∨ (s.dev.harpOf n).st = 2) then 4 else (s.dev.harpOf n).st)) ∧
    (s.dev.rb 0xA0C0 0 = false ∨ f.dbgHalt = true → Does .debugHalt s (KeepsBut [] s)) ∧
    (s.dev.rb 0xA0C0 0 = true → f.dbgHalt = true → s.dev.ring.steward = [] → (∀ n < 8, (s.dev.curdOf n).stopping = false) →
      s.dev.hoop.enumHeld = [] → s.dev.ozh.later = [] → s.dev.ozh.leaves = [] → s.dev.ozh.rspLater = none → s.dev.ozh.rekeyLater = false →
      Does .debugHaltEnd s (fun t => KeepsBut [.flt, .rip, .harp] s t ∧ t.dev.flt.dbgHalt = false ∧
        t.dev.flt.trialAt = (if f.trial then f.trialAt + (now - f.haltAt) else f.trialAt) ∧
        (∀ n < 12, t.dev.ripOf n = { s.dev.ripOf n with dbgPause := false }) ∧
        ∀ n < 8, (t.dev.harpOf n).st = if (s.dev.harpOf n).st = 4 then (s.dev.harpOf n).paused else (s.dev.harpOf n).st)) ∧
    (s.dev.rb 0xA0C0 0 = false ∨ f.dbgHalt = false → Does .debugHaltEnd s (KeepsBut [] s)) ∧
    (s.dev.stewardRuns = true → f.trial = true → f.trialAt + 393216000 ≤ now → Does .trialPass s (fun t =>
      KeepsBut [.flt] s t ∧ t.dev.flt.active = f.running ∧ t.dev.flt.running = f.running ∧ t.dev.flt.trial = false ∧
        (t.dev.slotOf f.running).st = 1)) ∧
    (s.dev.stewardRuns = false ∨ f.trial = false ∨ now < f.trialAt + 393216000 → Does .trialPass s (KeepsBut [] s))

/-! ### The Rind -/

/-- The Rind serves the request at the front of the mailbox and completes it: STATUS gives the next record number, FETCH and FETCH_EVENT copy what is
held, ACK collects, CLOSE_PERIOD tags the record, CAL_SET stores a parameter, SEAL_PREPARE gives a nonce and SEAL_COMMIT asks for the sealing; once
sealed it refuses the last three with SECURITY. The command of another request, or without an open mailbox, has no effect (R415 to R417, R420).
A refused request's detail, the VALUE of an item that is not held and of ACK, and SHUNT 0 follow log entry 49. -/
def Obligations.MailboxRequestsServed : Prop :=
  ∀ (s : State),
    let r : Rind := s.rind
    (∀ c ∈ [(Instr.status, 0x01), (.fetch, 0x02), (.fetchEvent, 0x03), (.rindAck, 0x04), (.closePeriod, 0x05), (.calSet, 0x10),
        (.sealPrepare, 0x11), (.sealCommit, 0x12)],
      s.dev.mbxOpen = false ∨ r.on = false ∨ s.dev.br.queue.head?.map (·.req) ≠ some c.2 → Does c.1 s (KeepsBut [] s)) ∧
    ∀ (m : Msg) (rest : List Msg), s.dev.br.queue = m :: rest → s.dev.mbxOpen = true → r.on = true →
    let v (i n : Nat) : Nat := leAt m.args i n
    let mine (f : Flight) : Bool := match f.await with
      | .rind ref _ => ref = m.ref
      | _ => false
    let serves (areas : List Area) (st : Status) (detail : Nat) (t : State) : Prop :=
      KeepsBut (areas ++ [.br, .ring, .regs, .ozh]) s t ∧ RegsBut (fun off => off = 0x800C) s t ∧ t.dev.br.queue = rest ∧
        t.dev.ring.flights = s.dev.ring.flights.filter (fun f => !mine f) ∧
        ∀ f, s.dev.ring.flights.filter mine = [f] → Lands f.job st s.dev.short detail s t
    let good (result value : Nat) : Nat := result + 256 * (b2n r.sealed + 2 * b2n r.tamperOpen) + 65536 * (value % 2 ^ 32)
    (m.req = 0x01 → Does .status s (fun t => serves [] .ok (good 0 r.recno) t)) ∧
    (m.req = 0x02 →
      (∀ b, r.heldRec (v 0 4) = some b → Does .fetch s (fun t => serves [] .ok (good 0 (v 0 4)) t ∧ t.dev.br.recBuf = b)) ∧
      (r.heldRec (v 0 4) = none → Does .fetch s (fun t => (∃ x, serves [.free] .ok (good 1 x) t) ∧
        t.dev.br.recBuf = s.dev.br.recBuf))) ∧
    (m.req = 0x03 →
      (∀ b, r.heldEvt (v 0 2) = some b → Does .fetchEvent s (fun t => serves [] .ok (good 0 (v 0 2)) t ∧ t.dev.br.evtBuf = b)) ∧
      (r.heldEvt (v 0 2) = none → Does .fetchEvent s (fun t => (∃ x, serves [.free] .ok (good 1 x) t) ∧
        t.dev.br.evtBuf = s.dev.br.evtBuf))) ∧
    (m.req = 0x04 →
      let n : Nat := max (v 0 4) (r.ackno.getD 0)
      (v 0 4 < r.recno → Does .rindAck s (fun t => serves [.rind] .ok (good 0 n) t ∧ t.rind = { r with ackno := some n })) ∧
      (r.recno ≤ v 0 4 → Does .rindAck s (serves [] .param 0))) ∧
    (m.req = 0x05 → Does .closePeriod s (fun t => serves [.rind] .ok (good 0 r.recno) t ∧
      t.rind = { r with closeTag := some (BitVec.ofNat 16 (v 0 2)) })) ∧
    (m.req = 0x10 →
      let p : Nat := byteAt m.args 0
      let x : Int := signed (v 4 4) 32
      (r.sealed = true → Does .calSet s (serves [] .security 0)) ∧
      (r.sealed = false → calFits p x = false → Does .calSet s (serves [] .param 0)) ∧
      (r.sealed = false → calFits p x = true → Does .calSet s (fun t => serves [.rind] .ok (good 0 (v 4 4)) t ∧ t.rind.cal = r.cal ∧
        t.rind.calNext = r.calNext ++ [(p, x)] ∧ t.rind.evtcnt = r.evtcnt + 1 ∧ t.rind.recno = r.recno ∧ t.rind.eIn = r.eIn ∧
        (tabGet [] t.rind.log (r.evtcnt % 128)).take 2 = [0x0B, 0]))) ∧
    (m.req = 0x11 →
      (r.sealed = true → Does .sealPrepare s (serves [] .security 0)) ∧
      (r.sealed = false → Does .sealPrepare s (fun t => ∃ x : BitVec 32, serves [.rind, .free] .ok (good 0 x.toNat) t ∧
        t.rind = { r with nonce := some (x, 10) }))) ∧
    (m.req = 0x12 →
      let ok : Prop := r.sealed = false ∧ (∃ x k, r.nonce = some (x, k) ∧ x.toNat = v 0 4) ∧
        ¬(r.tamper = true ∧ r.calSoon.policy.toNat.testBit 1 = true) ∧ r.calSoon.shunt ≠ 0
      (ok → Does .sealCommit s (fun t => serves [.rind] .ok (good 0 r.recno) t ∧ t.rind = { r with sealReq := true, nonce := none })) ∧
      (¬ok → Does .sealCommit s (serves [] .security 0)))

/-- A window registers its energy, in E_SUSP where its timebase is FAULTED, its stages' energies and its time, takes the parameters that wait, and ends
a record where a tag or INTERVAL asks for it; with a sealing asked for, it zeroes the registers and seals. A result whose core is behind is held in a
trial. The oldest signed record enters the ledger ring; stage currents pass to the strings; an opened or closed enclosure is logged once. Without
VRIND, or where nothing is due, the commands have no effect but RTAMP's (R405 to R408, R412, R415, R417 to R419).
Rounding and the energy at SHUNT 0 follow log entry 47, the time at which INTERVAL and a tamper are judged log entry 48. -/
def Obligations.MeasurementRegisters : Prop :=
  ∀ (s : State),
    let r : Rind := s.rind
    (∀ w : RindWindow,
      let x : WinResult := s.dev.winResult w
      let c : Nat := winClass x
      let d : Nat := winTicks r.cHist x
      let us : Nat := roundDiv (d * 1000000) 196608000
      let step : Nat := max (r.cal.interval * 60000) 1
      (r.on = false → Does (.rindWindowEnd w) s (KeepsBut [] s)) ∧
      (r.on = true → r.trial = none → s.dev.br.handed = none → r.sealReq = false → r.cal.shunt ≠ 0 →
        Does (.rindWindowEnd w) s (fun t =>
          let due : Bool := (r.closeTag.isSome && !r.romOnly) || decide (r.rtime / step < t.rind.rtime / step)
          KeepsBut [.br, .rind, .flt] s t ∧
          t.rind.eIn = r.eIn + (if c = 2 then 0 else winEnergy r.cal w d) ∧
          t.rind.eSusp = r.eSusp + (if c = 2 then winEnergy r.cal w d else 0) ∧
          (∀ k < 16, tabGet 0 t.rind.eStr k = tabGet 0 r.eStr k + stageEnergy r.cal w d k) ∧
          t.rind.rtimeUs = r.rtimeUs + us ∧ (t.rind.onUs = if 5600 * 1000000 ≤ vNum r.cal w then r.onUs + us else r.onUs) ∧
          t.rind.cHist = (if c = 0 then (w.c :: r.cHist).take 16 else r.cHist) ∧
          t.rind.cls = c ∧ t.rind.winCnt = (r.winCnt + 1) % 256 ∧ t.rind.cal = r.calSoon ∧ t.rind.calNext = [] ∧
          t.rind.sealed = r.sealed ∧ t.rind.recno = r.recno + b2n due ∧ t.rind.pendRec.length = r.pendRec.length + b2n due ∧
          t.dev.br.limpSeen = (s.dev.clk.running && s.dev.clk.limp) ∧
          t.dev.br.copy.eIn = t.rind.eIn / 1000 ∧ t.dev.br.copy.recno = t.rind.recno ∧ t.dev.br.copy.cls = c)) ∧
      (r.on = true → r.trial = none → s.dev.br.handed = none → r.sealReq = true → r.romOnly = false → r.cal.shunt ≠ 0 →
        Does (.rindWindowEnd w) s (fun t => KeepsBut [.br, .rind, .flt] s t ∧ t.rind.sealed = true ∧ t.rind.cal = r.calSoon ∧
          t.rind.eIn = 0 ∧ t.rind.eSusp = 0 ∧ t.rind.eStr = [] ∧ t.rind.rtimeUs = 0 ∧ t.rind.onUs = 0 ∧
          t.rind.recno = r.recno + 1 ∧ t.rind.sealReq = false)) ∧
      (∀ q, r.on = true → r.trial = some q → w.held = true → q.ended + 1 < 4 → Does (.rindWindowEnd w) s (fun t =>
        KeepsBut [.br, .rind] s t ∧ t.rind = { r with trial := some { q with ended := q.ended + 1, held := q.held ++ [x] } }))) ∧
    (r.on = false ∨ r.pendRec = [] → Does .rndRecord s (KeepsBut [] s)) ∧
    (∀ n b rest, r.on = true → r.pendRec = (n, b) :: rest → Does .rndRecord s (fun t => KeepsBut [.br, .rind] s t ∧
      t.rind = { r with ring := tabSet [] r.ring (n % 256) b, pendRec := rest } ∧ t.dev.br.newest = some n ∧
      (s.dev.mbxOpen = true → Tells 0x0C03 (n % 2 ^ 32) s t))) ∧
    (∀ ma : List Nat,
      let due : Prop := r.on = true ∧ s.dev.coreOn = true ∧ s.dev.clk.running = true ∧ s.dev.gridNow 65536 0 = true ∧
        s.dev.isServed .stageCurrent = false
      (due → Does (.rindStageCurrent ma) s (fun t => KeepsBut [.br, .rind, .clk] s t ∧
        t.dev.clk = { s.dev.clk with served := .stageCurrent :: s.dev.clk.served } ∧
        ∀ k < 16, tabGet 0 t.dev.br.stage k = ma.getD k 0 ∧ tabGet 0 t.rind.iStr k = ma.getD k 0)) ∧
      (¬due → Does (.rindStageCurrent ma) s (KeepsBut [] s))) ∧
    (∀ c ∈ [(Instr.tamperOpen, true, (0x08 : Byte)), (.tamperClosed, false, 0x09)],
      (r.on = false → Does c.1 s (fun t => KeepsBut [.rind] s t ∧ t.rind = { r with tamper := c.2.1 })) ∧
      (r.on = true → r.tamperEn = false → Does c.1 s (fun t => KeepsBut [.rind] s t ∧
        t.rind = { r with tamper := c.2.1, tamperTold := false })) ∧
      (r.on = true → r.tamperEn = true → r.tamperTold = c.2.1 → Does c.1 s (fun t => KeepsBut [.rind] s t ∧
        t.rind = { r with tamper := c.2.1 })) ∧
      (r.on = true → r.tamperEn = true → r.tamperTold ≠ c.2.1 → Does c.1 s (fun t => KeepsBut [.rind] s t ∧
        t.rind.tamper = c.2.1 ∧ t.rind.tamperTold = c.2.1 ∧ t.rind.evtcnt = r.evtcnt + 1 ∧ t.rind.recno = r.recno ∧
        (tabGet [] t.rind.log (r.evtcnt % 128)).take 2 = [c.2.2, 0])))

/-- The Rind as every step leaves it meets `Rind.Inv`, from any state that meets it: the ledger ring and the event log in canonical form and within their
256 and 128 places, nothing collected that is not written, every parameter in its range, and nothing pending once sealed (R415 to R417). -/
def Obligations.RindInvariantKept : Prop :=
  ∀ (s t : State), s.rind.Inv → step s = .next t → t.rind.Inv

/-- The Rind meets `Rind.Inv` at reset. -/
def Obligations.RindInvariantAtReset : Prop := State.reset.rind.Inv

/-- No step, and so no command from any source, unseals a sealed Rind, changes its calibration, or lowers one of its registers: energies, the record
number, the event number and the time (R417, R425). -/
def Obligations.SealedRindNeverFallsBack : Prop :=
  ∀ (s t : State), s.rind.Inv → s.rind.sealed = true → step s = .next t →
    t.rind.sealed = true ∧ t.rind.cal = s.rind.cal ∧ s.rind.eIn ≤ t.rind.eIn ∧ s.rind.eSusp ≤ t.rind.eSusp ∧
      (∀ k, tabGet 0 s.rind.eStr k ≤ tabGet 0 t.rind.eStr k) ∧ s.rind.recno ≤ t.rind.recno ∧ s.rind.evtcnt ≤ t.rind.evtcnt ∧
      s.rind.rtimeUs ≤ t.rind.rtimeUs ∧ s.rind.onUs ≤ t.rind.onUs

/-! ### The power strings -/

/-- A dimming period begins with the channel's level and drive value; a disabled string is dark. A converter cycle drives its phase, at the duty limit
while its pulse ramps up, and after the pulse the low side stays on until the current is zero. OVP, the peak limit and the bootstrap act on their
stage. A sample clears or counts the evidence and, at the N-th in a row, stops the string with its fault; an open phase, a fourth current in the zero
check, a second differing window and a failed self-test disable the phase. A command that is not due, or whose reading lies within the limit, has no
effect (R173 to R177, R180, R182, R186 to R189, R191, R192, R194).
The control law before its limit is a constant with no body, log entry 26; the open-cycle corner is the choice of log entry 25. -/
def Obligations.StringsDriveAndProtect : Prop :=
  ∀ (s : State) (n : Fin 16),
    let l : Nat := s.dev.leadOf n
    let x : Str := s.dev.strOf n
    let ld : Str := s.dev.strOf l
    let now : Nat := s.dev.clk.now
    let rest (p : Nat → Prop) (t : State) : Prop := ∀ k, ¬p k → t.dev.strOf k = s.dev.strOf k
    let served (g : Grid) (t : State) : Prop := t.dev.clk = { s.dev.clk with served := g :: s.dev.clk.served }
    let disabled (off : Nat) (t : State) : Prop := KeepsBut [.str, .regs] s t ∧ RegsBut (· = off) s t ∧
      t.dev.force off = s.dev.force off ||| BitVec.ofNat 32 (2 ^ n.val) ∧ (t.dev.strOf n).share = 0 ∧ (t.dev.strOf n).duty = 0 ∧
      Tells (if off = 0x201C then 0x0304 else 0x0303) (l + 256 * n.val) s t
    (let due : Prop := s.dev.coreOn = true ∧ s.dev.clk.running = true ∧ s.dev.gridNow (s.dev.dimP l) (s.dev.dimPhase l) = true ∧
       s.dev.isServed (.dim n) = false
     (due → l = n → Does (.dimmingPeriodBoundary n) s (fun t => KeepsBut [.clk, .regs, .chan, .str] s t ∧ served (.dim n) t ∧
        (∀ m, m ≠ n.val → t.dev.chanOf m = s.dev.chanOf m) ∧ rest (fun k => s.dev.leadOf k = n) t ∧
        (t.dev.rb (strOff n) 0 = false → (t.dev.strOf n).switching = false ∧ (t.dev.strOf n).drive = 0) ∧
        ((t.dev.strOf n).switching = true → (t.dev.strOf n).drive = (t.dev.chanOf n).drive) ∧
        ((s.dev.chanOf n).was = none → (s.dev.chanOf n).handoff = false →
          (s.dev.inHold = true ∨ t.dev.ownerOf n = 0 → (t.dev.chanOf n).level = (s.dev.chanOf n).step) ∧
          (s.dev.inHold = false → t.dev.ownerOf n = 1 → s.dev.hoop.latchAt ≠ some now → (t.dev.chanOf n).level = (s.dev.chanOf n).shift) ∧
          (s.dev.inHold = false → t.dev.ownerOf n = 2 → (t.dev.chanOf n).level = BitVec.ofNat 16 (t.dev.safeLevel n))))) ∧
     (due → l ≠ n → Does (.dimmingPeriodBoundary n) s (fun t => KeepsBut [.clk] s t ∧ served (.dim n) t)) ∧
     (¬due → Does (.dimmingPeriodBoundary n) s (KeepsBut [] s))) ∧
    (∀ iMa,
      let ramp : Bool := x.ramp && decide (1000 * iMa < x.share)
      let want : Nat := if ramp then 60293 else Config.piLaw x.duty x.share iMa
      (s.dev.cycleNow n = true → Does (.converterCycle n iMa) s (fun t => KeepsBut [.clk, .str] s t ∧ served (.conv n) t ∧
        rest (fun k => k = n ∨ k = l) t ∧ (t.dev.strOf n).duty = min want 60293 ∧ (t.dev.strOf n).ima = BitVec.ofNat 16 iMa ∧
        (t.dev.strOf n).ramp = ramp ∧ (t.dev.strOf n).peak = false ∧ (t.dev.strOf n).refresh = false ∧
        (t.dev.strOf n).lowEnd = (if x.refresh then now + 16 else x.lowEnd) ∧
        (t.dev.strOf n).testing = x.testing.map (· + 1) ∧
        (t.dev.strOf n).openRun =
          (if s.dev.openCycle n iMa (decide (60293 ≤ want)) && !s.dev.pwr.vinSusp then x.openRun + 1 else 0) ∧
        (60293 < want → (t.dev.strOf l).dropout = true))) ∧
      (s.dev.cycleNow n = false → s.dev.lowHold n = true → Does (.converterCycle n iMa) s (fun t => KeepsBut [.str] s t ∧
        rest (fun k => k = n) t ∧
        t.dev.strOf n = { x with ima := BitVec.ofNat 16 iMa, offAt := if iMa = 0 then some now else none })) ∧
      (s.dev.cycleNow n = false → s.dev.lowHold n = false → Does (.converterCycle n iMa) s (KeepsBut [] s))) ∧
    (∀ v,
      let ovp : Nat := 250 * s.dev.rf (strOff l) 15 8
      (ld.switching = true → 2200 ≤ v → Does (.peakCurrentLimit ⟨n, v⟩) s (fun t => KeepsBut [.str] s t ∧ rest (fun k => k = n) t ∧
        t.dev.strOf n = { x with peak := true })) ∧
      (ld.switching = false ∨ v < 2200 → Does (.peakCurrentLimit ⟨n, v⟩) s (KeepsBut [] s)) ∧
      (ld.switching = true → ovp ≤ v → Does (.ovpHit ⟨n, v⟩) s (fun t => KeepsBut [.str] s t ∧ rest (fun k => k = l) t ∧
        t.dev.strOf l = { ld with ovpHit := true })) ∧
      (ld.switching = false ∨ v < ovp → Does (.ovpHit ⟨n, v⟩) s (KeepsBut [] s)) ∧
      (ld.switching = true → v < 3500 → Does (.bootstrapUndervoltage ⟨n, v⟩) s (fun t => KeepsBut [.str] s t ∧ rest (fun k => k = n) t ∧
        t.dev.strOf n = { x with refresh := true })) ∧
      (ld.switching = false ∨ 3500 ≤ v → Does (.bootstrapUndervoltage ⟨n, v⟩) s (KeepsBut [] s))) ∧
    (∀ vosMv iMa,
      let now_ : Prop := s.dev.coreOn = true ∧ s.dev.isMember n = false ∧ s.dev.sampleNow n = true
      let c : SampleClass := classSample x.ovpHit (s.dev.rf (strOff n) 23 16) vosMv iMa
        (if x.probing then s.dev.isetUa n / 8 else x.ampUa)
      let taken (t : State) : Prop := rest (fun k => s.dev.leadOf k = n) t ∧ (t.dev.strOf n).sampleDue = false ∧
        (t.dev.strOf n).vos = BitVec.ofNat 16 vosMv ∧ (t.dev.strOf n).lastSample = some now
      (now_ → now < x.started + 4096 ∨ s.dev.pwr.vinSusp = true → Does (.detectionSample n vosMv iMa) s (fun t =>
        KeepsBut [.str] s t ∧ rest (fun k => k = n) t ∧ t.dev.strOf n = { x with sampleDue := false })) ∧
      (now_ → x.started + 4096 ≤ now → s.dev.pwr.vinSusp = false →
        (c = .good → Does (.detectionSample n vosMv iMa) s (fun t => KeepsBut [.str] s t ∧ taken t ∧
          (t.dev.strOf n).opens = 0 ∧ (t.dev.strOf n).shorts = 0 ∧ (t.dev.strOf n).switching = x.switching)) ∧
        ∀ p ∈ [(SampleClass.openLike, 0x2010, 0x0301, x.opens), (.shortLike, 0x2014, 0x0302, x.shorts)], c = p.1 →
          (p.2.2.2 + 1 < s.dev.rf 0x2008 7 0 → Does (.detectionSample n vosMv iMa) s (fun t => KeepsBut [.str] s t ∧ taken t ∧
            (t.dev.strOf n).opens = (if c = .openLike then x.opens + 1 else 0) ∧
            (t.dev.strOf n).shorts = (if c = .openLike then 0 else x.shorts + 1) ∧
            (t.dev.strOf n).switching = x.switching)) ∧
          (s.dev.rf 0x2008 7 0 ≤ p.2.2.2 + 1 → Does (.detectionSample n vosMv iMa) s (fun t => KeepsBut [.str, .regs] s t ∧
            RegsBut (· = p.2.1) s t ∧ taken t ∧ t.dev.force p.2.1 = s.dev.force p.2.1 ||| BitVec.ofNat 32 (2 ^ n.val) ∧
            (t.dev.strOf n).switching = false ∧ (t.dev.strOf n).faulted = true ∧ Tells p.2.2.1 (n.val + 256 * n.val) s t))) ∧
      (¬now_ → Does (.detectionSample n vosMv iMa) s (KeepsBut [] s))) ∧
    (8 ≤ x.openRun → s.dev.phaseOff n = false → Does (.phaseOpen n) s (disabled 0x2018)) ∧
    (x.openRun < 8 ∨ s.dev.phaseOff n = true → Does (.phaseOpen n) s (KeepsBut [] s)) ∧
    (∀ iMa,
      (s.dev.senseNow n = true → 75 < iMa → 3 ≤ x.senseRun → x.testing = none → Does (.phaseSense n iMa) s (disabled 0x201C)) ∧
      (s.dev.senseNow n = true → 75 < iMa → x.senseRun < 3 ∨ x.testing ≠ none → Does (.phaseSense n iMa) s (fun t =>
        KeepsBut [.str] s t ∧ rest (fun k => k = n) t ∧
        t.dev.strOf n = { x with sensed := true, senseRun := x.senseRun + 1, testBad := x.testBad || x.testing.isSome })) ∧
      (s.dev.senseNow n = true → iMa ≤ 75 → Does (.phaseSense n iMa) s (fun t => KeepsBut [.str] s t ∧ rest (fun k => k = n) t ∧
        t.dev.strOf n = { x with sensed := true, senseRun := 0 })) ∧
      (s.dev.senseNow n = false → Does (.phaseSense n iMa) s (KeepsBut [] s))) ∧
    (∀ own : List Nat,
      let due : Prop := s.dev.coreOn = true ∧ s.dev.clk.running = true ∧ s.dev.gridNow 65536 0 = true ∧ s.dev.isServed .xchk = false ∧
        s.dev.xchkOn = true ∧ s.dev.pwr.vinSusp = false
      let runs (k : Nat) : Prop := (s.dev.strOf (s.dev.leadOf k)).switching = true ∧ s.dev.phaseOff k = false
      let differs (k : Nat) : Bool := xchkDiffers (own.getD k 0) (tabGet 0 s.dev.br.stage k) (s.dev.strOf k).share
      let once (k : Nat) : Prop := runs k → differs k = true → (s.dev.strOf k).xchk = 0
      (due → (∀ k < 16, once k) → Does (.xchkWindow own) s (fun t => KeepsBut [.clk, .str] s t ∧ served .xchk t ∧
        ∀ k < 16, (runs k → t.dev.strOf k = { s.dev.strOf k with xchk := b2n (differs k) }) ∧
          (¬runs k → t.dev.strOf k = s.dev.strOf k))) ∧
      (due → (∀ k < n.val, once k) → runs n → differs n = true → 1 ≤ x.xchk → Does (.xchkWindow own) s (fun t =>
        KeepsBut [.clk, .str, .regs] s t ∧ served .xchk t ∧ RegsBut (· = 0x201C) s t ∧ t.dev.rb 0x201C n = true ∧
        Tells 0x0304 (l + 256 * n.val) s t)) ∧
      (¬due → Does (.xchkWindow own) s (KeepsBut [] s))) ∧
    (∀ iMa,
      let pass : Prop := 9 * x.share ≤ iMa * 10000 ∧ x.testBad = false
      (16 ≤ x.testing.getD 0 → pass → Does (.selfTestEnd n iMa) s (fun t => KeepsBut [.str] s t ∧ rest (fun k => k = n ∨ k = l) t ∧
        (t.dev.strOf n).testing = none ∧ (t.dev.strOf l).started = now)) ∧
      (16 ≤ x.testing.getD 0 → ¬pass → Does (.selfTestEnd n iMa) s (fun t =>
        disabled (if x.testSense then 0x201C else 0x2018) t ∧ (t.dev.strOf n).testing = none ∧ (t.dev.strOf l).started = now)) ∧
      (x.testing.getD 0 < 16 → Does (.selfTestEnd n iMa) s (KeepsBut [] s)))

/-! ### The matrix and the colour stage -/

/-- A scan frame takes the die readings, evaluates every class's temperature and trim and the die factor, and starts the NTC conversions, which last 64
ticks for each input and whose codes wait for the next frame. A row slot forms its positions' pulses from their drive values. A sample clears or
counts a position's evidence and brings its fault; a row over its limit is off for its slot. An open loop's return and a dither probe begin when their
time has come. What is not due has no effect (R197, R198, R200 to R202, R206 to R209, R212, R217 to R219, R221, R222, R228 to R230, R299).
What EN governs follows log entry 28. -/
def Obligations.MatrixAndColourEvaluate : Prop :=
  ∀ (s : State), s.dev.coreOn = true →
    let now : Nat := s.dev.clk.now
    let served (g : Grid) (t : State) : Prop := t.dev.clk = { s.dev.clk with served := g :: s.dev.clk.served }
    let laid (off : Nat) : Bool := (decide (0x3000 ≤ off) && decide (off < 0x4000)) || decide (off = 0x4008) ||
      (decide (0x4400 ≤ off) && decide (off < 0x5000))
    (∀ die : List Int,
      let due : Prop := s.dev.clk.running = true ∧ s.dev.gridNow 65536 0 = true ∧ s.dev.isServed .frame = false
      let k (t : State) : Nat := ((upTo 4).filter (fun a => t.dev.rb 0x3800 (4 + a))).length
      (due → Does (.scanFrameStart die) s (fun t => KeepsBut [.clk, .regs, .chan, .str, .mtx, .clr, .free, .ntc, .seq] s t ∧
        served .frame t ∧ RegsBut laid s t ∧
        (∀ i < 4, tabGet 0 t.dev.clr.dieT i = die.getD i (tabGet 0 s.dev.clr.dieT i)) ∧
        t.dev.mtx.busy = t.dev.rb 0x3000 0 ∧ t.dev.mtx.f = s.dev.wheelN / 65536 % 4 ∧ t.dev.mtx.waitFrame = false ∧
        (∀ k < 8, (t.dev.clsOf k).t16 = t.dev.classTemp k ∧ (t.dev.clsOf k).tt = t.dev.trimAt k (t.dev.classTemp k)) ∧
        t.dev.clr.dieFact = (if t.dev.rb 0x3800 1 then t.dev.derate 0x3820 t.dev.tDie s.dev.clr.dieFact else 0x8000) ∧
        (k t ≠ 0 → t.dev.ntcConv = true ∧ t.dev.clr.ntcEnd = now + 64 * k t ∧ t.dev.seq = s.dev.seq))) ∧
      (¬due → Does (.scanFrameStart die) s (KeepsBut [] s))) ∧
    (∀ codes : List Nat,
      (s.dev.ntcConv = true → s.dev.clr.ntcEnd ≤ now → Does (.ntcConversionsEnd codes) s (fun t => KeepsBut [.clr, .ntc, .seq] s t ∧
        t.dev.ntcConv = false ∧ (∃ m, t.dev.clr = { s.dev.clr with ntcCode := m }) ∧ ∀ a < 4, tabGet none t.dev.clr.ntcCode a =
          match codes[a]? with
          | some c => if s.dev.rb 0x3800 (4 + a) then some (min c 4095) else tabGet none s.dev.clr.ntcCode a
          | none => tabGet none s.dev.clr.ntcCode a)) ∧
      (s.dev.ntcConv = false ∨ now < s.dev.clr.ntcEnd → Does (.ntcConversionsEnd codes) s (KeepsBut [] s))) ∧
    (let due : Prop := s.dev.clk.running = true ∧ s.dev.gridNow 4096 0 = true ∧ s.dev.isServed .rowSlot = false
     let r : Nat := s.dev.wheelN / 4096 % 16
     (due → Does .rowSlotStart s (fun t => KeepsBut [.clk, .regs, .chan, .mtx] s t ∧ served .rowSlot t ∧ RegsBut laid s t ∧
        t.dev.mtx.slotAt = now ∧ t.dev.mtx.cut = false ∧ t.dev.mtx.sinksOff = false ∧
        t.dev.mtx.slot = (if s.dev.mtx.busy then r else s.dev.mtx.slot) ∧ t.dev.mtx.driving = s.dev.mtxMayDrive ∧
        (∀ p < 1024, p / 64 ≠ r → t.dev.posOf p = s.dev.posOf p) ∧
        (∀ c < 64, (t.dev.posOf (64 * r + c)).d14 = (t.dev.chanOf (16 + 64 * r + c)).drive.toNat / 64) ∧
        (t.dev.mtx.driving = false ∨ t.dev.rowEn r = false → ∀ c < 64, (t.dev.posOf (64 * r + c)).w = 0 ∧
          (t.dev.posOf (64 * r + c)).due = false) ∧
        (t.dev.mtx.driving = true → t.dev.rowEn r = true → t.dev.rb 0x3000 4 = false → ∀ c < 64, (s.dev.posOf (64 * r + c)).debt = 0 →
          t.dev.posFaulted (64 * r + c) = false → t.dev.colEn c = true → t.dev.colScale c ≠ 0 →
          (t.dev.posOf (64 * r + c)).w = posWidth (t.dev.rb 0x3000 2) s.dev.mtx.f r c (t.dev.posOf (64 * r + c)).d14))) ∧
     (¬due → Does .rowSlotStart s (KeepsBut [] s))) ∧
    (∀ (p : Fin 1024) (vcolMv isUa rowMv vrowMv : Nat),
      let x : Pos := s.dev.posOf p
      let c : Nat := classPos (s.dev.rf (0x3100 + 4 * (p.val % 64)) 22 16) vcolMv isUa (s.dev.icol63 (p.val % 64)) rowMv vrowMv
      let due : Prop := x.due = true ∧ s.dev.mtx.driving = true ∧ s.dev.mtx.slot = p.val / 64 ∧
        (s.dev.pwr.mode = .run ∨ s.dev.pwr.mode = .hold) ∧ s.dev.pulseOver p = true
      let cnt : Nat := if x.cls = c then x.cnt + 1 else 1
      let col (t : State) : Prop := tabGet 0 t.dev.mtx.hdrmCol (p.val % 64) = BitVec.ofNat 16 vcolMv ∧
        ∀ i : Nat, i ≠ p.val → t.dev.posOf i = s.dev.posOf i
      (due → s.dev.posBlanked p = true → Does (.matrixSample p vcolMv isUa rowMv vrowMv) s (fun t => KeepsBut [.mtx] s t ∧
        t.dev.posOf p = { x with due := false } ∧ t.dev.mtx.hdrmCol = s.dev.mtx.hdrmCol)) ∧
      (due → s.dev.posBlanked p = false →
        (c = 0 → Does (.matrixSample p vcolMv isUa rowMv vrowMv) s (fun t => KeepsBut [.mtx] s t ∧ col t ∧
          t.dev.posOf p = { x with due := false, lastSample := some now, undo := none, cnt := 0, cls := 0 })) ∧
        (c ≠ 0 → cnt < s.dev.rf 0x300C 7 0 ∨ s.dev.posFaulted p = true → Does (.matrixSample p vcolMv isUa rowMv vrowMv) s (fun t =>
          KeepsBut [.mtx] s t ∧ col t ∧
          t.dev.posOf p = { x with due := false, lastSample := some now, undo := none, cnt := cnt, cls := c })) ∧
        (c ≠ 0 → s.dev.rf 0x300C 7 0 ≤ cnt → s.dev.posFaulted p = false →
          Does (.matrixSample p vcolMv isUa rowMv vrowMv) s (fun t => KeepsBut [.mtx, .regs] s t ∧ col t ∧
            t.dev.posOf p = { x with due := false, lastSample := some now, undo := none, cnt := cnt, cls := c, debt := 0 } ∧
            let off : Nat := (if c = 1 then 0x3200 else 0x3280) + 4 * (p.val / 32)
            RegsBut (· = off) s t ∧ t.dev.force off = s.dev.force off ||| BitVec.ofNat 32 (2 ^ (p.val % 32)) ∧
            Tells (0x0400 + c) (16 + p.val) s t))) ∧
      (¬due → Does (.matrixSample p vcolMv isUa rowMv vrowMv) s (KeepsBut [] s))) ∧
    (s.dev.mtx.driving = true → s.dev.mtx.cut = false → Does .rowOverCurrent s (fun t => KeepsBut [.mtx, .regs] s t ∧
      RegsBut (fun off => off = 0x3020 || off = 0x301C) s t ∧ t.dev.mtx.cut = true ∧ t.dev.mtx.sinksOff = true ∧
      (∀ c < 64, (t.dev.posOf (64 * s.dev.mtx.slot + c)).due =
        ((s.dev.posOf (64 * s.dev.mtx.slot + c)).due && s.dev.pulseOver (64 * s.dev.mtx.slot + c))) ∧
      t.dev.force 0x3020 = s.dev.force 0x3020 ||| BitVec.ofNat 32 (2 ^ s.dev.mtx.slot) ∧
      t.dev.force 0x301C = s.dev.force 0x301C ||| 4)) ∧
    (s.dev.mtx.driving = false ∨ s.dev.mtx.cut = true → Does .rowOverCurrent s (KeepsBut [] s)) ∧
    ∀ k : Fin 8,
      (s.dev.loopHoldDue k = true → Does (.loopHoldTimer k) s (fun t => KeepsBut [.clr] s t ∧
        ∀ i < 8, t.dev.clsOf i = if i = k.val then { s.dev.clsOf i with target := 0x8000, returning := true } else s.dev.clsOf i)) ∧
      (s.dev.loopHoldDue k = false → Does (.loopHoldTimer k) s (KeepsBut [] s)) ∧
      (s.dev.ditherDue k = true → Does (.ditherProbe k) s (fun t => KeepsBut [.clr] s t ∧
        (∀ i < 8, i ≠ k.val → t.dev.clsOf i = s.dev.clsOf i) ∧ t.dev.clsOf k = { s.dev.clsOf k with
          probing := true, probeLeft := 4 * s.dev.rf (clsOff k + 8) 11 0, probeRd := [],
          probeBase := ((s.dev.clsOf k).win.take 4).map (·.1), probeTrim := (s.dev.clsOf k).applied, probeFrames := 0 })) ∧
      (s.dev.ditherDue k = false → Does (.ditherProbe k) s (KeepsBut [] s))

/-! ### The Ripeners -/

/-- A Ripener's step takes the staged curves, runs a waiting START, STOP, PAUSE or RESUME, completes a timed instruction that has ended or shows the level of one
in progress, enters the handler of the lowest occupied latch, or opens its sixteen instructions; one that neither runs nor has an action waiting does nothing else. Each culture
instruction does what Table RIP-1 gives; a word whose reserved bits are set or whose operands it does not allow is a fault; the sixteenth ends the
step, and an instruction that is not the open one at PC does nothing (R239 to R258).
Bits that a row does not name, and corners of timed instructions, follow log entry 34. -/
def Obligations.CultureInstructionsExecute : Prop :=
  ∀ (s : State) (n : Fin 12) (b : Nat),
    let r : Rip := s.dev.ripOf n
    let w : Word := s.dev.ripWord n
    let pc : Nat := r.ctx.pc
    let sel (m : Nat) : Prop := r.ctx.selFirst ≤ m ∧ m < r.ctx.selFirst + r.ctx.selCount
    let listed (p : Nat) : Prop := p ≤ 8191 ∧ ripListed (fieldOf (s.dev.cultWord p) 31 26) = true
    let opens (op : Nat) : Prop := r.budget = some (b + 2) ∧ r.ctx.timed = none ∧ pc ≤ 8191 ∧ fieldOf w 31 26 = op
    let base : Rip := { r with budget := some (b + 1), ctx := { r.ctx with waiting := false } }
    let next (x : Rip) : Rip := { x with ctx := { x.ctx with pc := pc + 1 } }
    let others (t : State) : Prop := KeepsBut [.rip] s t ∧ ∀ m, m ≠ n.val → t.dev.ripOf m = s.dev.ripOf m
    let yields (c : Instr) (x : Rip) : Prop := Does c s (fun t => others t ∧ t.dev.ripOf n = x)
    let faultsAt (c : Instr) (cause at_ : Nat) : Prop := Does c s (fun t => KeepsBut [.rip, .regs] s t ∧ RegsBut (· = 0x4008) s t ∧
      t.dev.rb 0x4008 n = true ∧ (∀ m, m ≠ n.val → t.dev.ripOf m = s.dev.ripOf m) ∧ (t.dev.ripOf n).faulted = true ∧
      (t.dev.ripOf n).run = false ∧ (t.dev.ripOf n).fcause = cause ∧ (t.dev.ripOf n).fpc = at_ ∧ (t.dev.ripOf n).handler = none ∧
      (t.dev.ripOf n).fades = [] ∧ (t.dev.ripOf n).outs = r.outs ∧ Tells 0x0602 (n.val + 65536 * at_) s t)
    let faults (c : Instr) (cause : Nat) : Prop := faultsAt c cause pc
    let setA (k : Nat) (v : Word) : Rip := next { base with regs := tabSet 0 r.regs k v }
    let d : Nat := fieldOf w 25 24
    let a : Word := r.a (fieldOf w 23 22)
    (opens 0x00 → clear w 0x03FFFFFF = true → listed (pc + 1) → yields (.ripNop n) (next base)) ∧
    (opens 0x00 → clear w 0x03FFFFFF = true → pc = 8191 → faultsAt (.ripNop n) 2 8191) ∧
    (opens 0x00 → clear w 0x03FFFFFF = true → pc < 8191 → ripListed (fieldOf (s.dev.cultWord (pc + 1)) 31 26) = false →
      faultsAt (.ripNop n) 1 (pc + 1)) ∧
    (r.budget = some 1 → r.ctx.timed = none → pc < 8191 → fieldOf w 31 26 = 0x00 → clear w 0x03FFFFFF = true →
      Does (.ripNop n) s (fun t => others t ∧ (t.dev.ripOf n).budget = none ∧
        (t.dev.ripOf n).ctx = { r.ctx with waiting := false, pc := pc + 1 })) ∧
    (∀ p ∈ [(Instr.ripNop n, 0x00, 0x03FFFFFF), (.ripStop n, 0x01, 0x03FFFFFF), (.ripJmp n, 0x02, 0x03FFE000), (.ripDjnz n, 0x03, 0x00FFE000),
        (.ripJz n, 0x04, 0x00FFE000), (.ripLdi n, 0x05, 0x00FE0000), (.ripAddi n, 0x06, 0x003F0000), (.ripMuli n, 0x07, 0x003F0000),
        (.ripExt n, 0x08, 0x0020FFE0), (.ripSel n, 0x09, 0x003F0000), (.ripSet n, 0x0A, 0x03FF0000), (.ripSetr n, 0x0B, 0x00FFFFFF),
        (.ripFade n, 0x0C, 0x03FF0000), (.ripRamp n, 0x10, 0x001F0000), (.ripHold n, 0x11, 0x00FFFFFF), (.ripWave n, 0x13, 0x001F0000),
        (.ripWait n, 0x14, 0x03FF00F0), (.ripEmit n, 0x15, 0x00FFFFFF), (.ripMask n, 0x16, 0x03FFFFF0), (.ripRet n, 0x17, 0x03FFFFFF)],
      opens p.2.1 → clear w p.2.2 = false → faults p.1 1) ∧
    (∀ p ∈ [(Instr.ripNop n, 0x00), (.ripStop n, 0x01), (.ripJmp n, 0x02), (.ripDjnz n, 0x03), (.ripJz n, 0x04), (.ripLdi n, 0x05),
        (.ripAddi n, 0x06), (.ripMuli n, 0x07), (.ripExt n, 0x08), (.ripSel n, 0x09), (.ripSet n, 0x0A), (.ripSetr n, 0x0B), (.ripFade n, 0x0C),
        (.ripTime n, 0x0D), (.ripRamp n, 0x10), (.ripHold n, 0x11), (.ripBreathe n, 0x12), (.ripWave n, 0x13), (.ripWait n, 0x14),
        (.ripEmit n, 0x15), (.ripMask n, 0x16), (.ripRet n, 0x17)],
      r.budget = none ∨ r.budget = some 0 ∨ r.ctx.timed ≠ none ∨ 8191 < pc ∨ fieldOf w 31 26 ≠ p.2 → Does p.1 s (KeepsBut [] s)) ∧
    (opens 0x01 → clear w 0x03FFFFFF = true → yields (.ripStop n) base.stopped) ∧
    (opens 0x02 → clear w 0x03FFE000 = true → listed (fieldOf w 12 0) → yields (.ripJmp n)
      { base with ctx := { base.ctx with pc := fieldOf w 12 0 } }) ∧
    (opens 0x03 → clear w 0x00FFE000 = true → (r.a d = 1 → listed (pc + 1) → yields (.ripDjnz n) (setA d 0)) ∧
      (r.a d ≠ 1 → listed (fieldOf w 12 0) → yields (.ripDjnz n)
        { base with regs := tabSet 0 r.regs d (r.a d - 1), ctx := { base.ctx with pc := fieldOf w 12 0 } })) ∧
    (opens 0x04 → clear w 0x00FFE000 = true → (r.a d ≠ 0 → listed (pc + 1) → yields (.ripJz n) (next base)) ∧
      (r.a d = 0 → listed (fieldOf w 12 0) → yields (.ripJz n) { base with ctx := { base.ctx with pc := fieldOf w 12 0 } })) ∧
    (opens 0x05 → clear w 0x00FE0000 = true → listed (pc + 1) → yields (.ripLdi n) (setA d
      (if w.toNat.testBit 16 then setField (r.a d) 31 16 (fieldOf w 15 0) else BitVec.ofNat 32 (fieldOf w 15 0)))) ∧
    (opens 0x06 → clear w 0x003F0000 = true → listed (pc + 1) → yields (.ripAddi n) (setA d
      (a + BitVec.ofInt 32 (signed (fieldOf w 15 0) 16)))) ∧
    (opens 0x07 → clear w 0x003F0000 = true → listed (pc + 1) → yields (.ripMuli n) (setA d
      (BitVec.ofNat 32 (min (a.toNat * fieldOf w 15 0) (2 ^ 32 - 1))))) ∧
    (opens 0x08 → clear w 0x0020FFE0 = true → 1 ≤ fieldOf w 4 0 → fieldOf w 4 0 ≤ 16 → listed (pc + 1) → yields (.ripExt n) (setA d
      (BitVec.ofNat 32 (a.toNat / 2 ^ fieldOf w 20 16 % 2 ^ fieldOf w 4 0)))) ∧
    (opens 0x08 → clear w 0x0020FFE0 = true → fieldOf w 4 0 = 0 ∨ 16 < fieldOf w 4 0 → faults (.ripExt n) 1) ∧
    (opens 0x09 → clear w 0x003F0000 = true → d = 3 → faults (.ripSel n) 1) ∧
    (opens 0x09 → clear w 0x003F0000 = true → d < 3 →
      let first : Nat := if d = 0 then 0 else if d = 1 then fieldOf w 15 8 else fieldOf a 7 0
      let count : Nat := if d = 0 then r.group.length else fieldOf w 7 0 + 1
      (first + count ≤ r.group.length → listed (pc + 1) → yields (.ripSel n)
        (next { base with ctx := { base.ctx with selFirst := first, selCount := count } })) ∧
      (r.group.length < first + count → faults (.ripSel n) 5)) ∧
    (∀ p ∈ [(Instr.ripSet n, 0x0A, 0x03FF0000, fieldOf w 15 0), (.ripSetr n, 0x0B, 0x00FFFFFF, min (r.a d).toNat 65535)],
      opens p.2.1 → clear w p.2.2.1 = true → listed (pc + 1) → Does p.1 s (fun t => others t ∧
        (∃ o f g, t.dev.ripOf n = { next base with outs := o, fades := f, newFades := g }) ∧
        ∀ m, (sel m → tabGet 0 (t.dev.ripOf n).outs m = 256 * p.2.2.2 ∧ tabGet 0 (t.dev.ripOf n).fades m = 0) ∧
          (¬sel m → tabGet 0 (t.dev.ripOf n).outs m = tabGet 0 r.outs m ∧ tabGet 0 (t.dev.ripOf n).fades m = tabGet 0 r.fades m))) ∧
    (opens 0x0C → clear w 0x03FF0000 = true → listed (pc + 1) → Does (.ripFade n) s (fun t => others t ∧
      (∃ f g, t.dev.ripOf n = { next base with fades := f, newFades := g }) ∧
      ∀ m, (sel m → tabGet 0 (t.dev.ripOf n).fades m = fieldOf w 15 0) ∧
        (¬sel m → tabGet 0 (t.dev.ripOf n).fades m = tabGet 0 r.fades m))) ∧
    (opens 0x0D → d = 3 ∨ d = 2 ∧ clear w 0x00FFFFFC = false → faults (.ripTime n) 1) ∧
    (opens 0x0D → listed (pc + 1) →
      (d < 2 → yields (.ripTime n) (next { base with ctx := { base.ctx with
        tUnit := if d = 0 then .steps else .subs, tVal := fieldOf w 23 0 } })) ∧
      (d = 2 → clear w 0x00FFFFFC = true → yields (.ripTime n) (next { base with ctx := { base.ctx with
        tUnit := .steps, tVal := min (r.a (fieldOf w 1 0)).toNat (2 ^ 24 - 1) } }))) ∧
    (∀ p ∈ [(Instr.ripRamp n, 0x10, 0x001F0000, TimedKind.ramp, fieldOf w 23 21, fieldOf w 15 0, 1, 0),
        (.ripHold n, 0x11, 0x00FFFFFF, .hold, 0, 0, 1, 0),
        (.ripBreathe n, 0x12, 0, .breathe, fieldOf w 23 21, fieldOf w 15 0, fieldOf w 20 16, 0),
        (.ripWave n, 0x13, 0x001F0000, .wave, fieldOf w 23 21, 0, fieldOf w 7 0, fieldOf w 15 8)],
      match p with
      | (c, op, res, kind, curve, target, cyc, spacing) =>
        opens op → clear w res = true →
          let cyclic : Prop := kind = .breathe ∨ kind = .wave
          let t0 : Int := r.ctx.anchor.getD r.lastStep
          let e1 : Int := if r.ctx.tVal = 0 then t0 else if r.ctx.tUnit = .steps then t0 + 512 * r.ctx.tVal
            else s.dev.tempo.boundaryAfter t0 r.ctx.tVal
          let len : Nat := (e1 - t0).toNat
          let tm : Timed := ⟨kind, d, curve, target, cyc, spacing, fieldOf (r.a 0) 15 0, fieldOf (r.a 0) 31 16, t0,
            if kind = .breathe ∨ kind = .wave then t0 + (cyc * len : Nat) else e1, len, 0, decide (r.ctx.tUnit = .subs)⟩
          let starts : Tab Nat := r.takeStarts r.ctx
          (d = 3 → faults c 1) ∧
          (d ≠ 3 → cyclic → r.ctx.tVal = 0 → faults c 6) ∧
          (d ≠ 3 → (cyclic → r.ctx.tVal ≠ 0) → r.ctx.tUnit = .subs → s.dev.subsRun = false → Does c s (fun t => others t ∧
            (t.dev.ripOf n).budget = none ∧ (t.dev.ripOf n).regs = r.regs ∧ (t.dev.ripOf n).ctx = { r.ctx with waiting := false })) ∧
          (d ≠ 3 → (cyclic → r.ctx.tVal ≠ 0 ∧ len ≠ 0) → (r.ctx.tUnit = .subs → s.dev.subsRun = true) →
            (timedEnded tm r.lastStep = false → Does c s (fun t => others t ∧ (t.dev.ripOf n).budget = none ∧
              (t.dev.ripOf n).regs = r.regs ∧
              (t.dev.ripOf n).ctx = { r.ctx with waiting := false, anchor := none, starts := starts, timed := some tm })) ∧
            (timedEnded tm r.lastStep = true → listed (pc + 1) → Does c s (fun t => others t ∧ (t.dev.ripOf n).budget = some (b + 1) ∧
              (t.dev.ripOf n).ctx = { r.ctx with waiting := false, anchor := none, starts := starts, pc := pc + 1 } ∧
              ∀ i < r.ctx.selCount, tabGet 0 (t.dev.ripOf n).outs (r.ctx.selFirst + i) =
                256 * s.dev.finalLevel tm (tabGet 0 starts (r.ctx.selFirst + i)) i)))) ∧
    (opens 0x14 → clear w 0x03FF00F0 = true → 3 < fieldOf w 3 0 ∨ (fieldOf w 3 0 = 0 ∧ fieldOf w 15 8 ≠ 0) ∨
      (fieldOf w 3 0 ≠ 0 ∧ fieldOf w 15 8 = 0) → faults (.ripWait n) 1) ∧
    (opens 0x14 → clear w 0x03FF00F0 = true → fieldOf w 3 0 ≤ 3 → (fieldOf w 3 0 = 0 ↔ fieldOf w 15 8 = 0) →
      (r.ctx.waiting = false → Does (.ripWait n) s (fun t => others t ∧ (t.dev.ripOf n).budget = none ∧
        (t.dev.ripOf n).ctx = { r.ctx with waiting := true, waitCnt := 0, waitFrom := r.lastStep })) ∧
      (r.ctx.waiting = true → fieldOf w 3 0 = 0 ∨ r.ctx.waitCnt < fieldOf w 15 8 → Does (.ripWait n) s (fun t => others t ∧
        (t.dev.ripOf n).budget = none ∧ (t.dev.ripOf n).ctx = r.ctx)) ∧
      (r.ctx.waiting = true → fieldOf w 3 0 ≠ 0 → fieldOf w 15 8 ≤ r.ctx.waitCnt → listed (pc + 1) → yields (.ripWait n) (next base))) ∧
    (opens 0x15 → clear w 0x00FFFFFF = true → listed (pc + 1) → Does (.ripEmit n) s (fun t => others t ∧ t.dev.ripOf n = next base ∧
      Tells 0x0603 (n.val + 65536 * (r.a d).toNat) s t)) ∧
    (opens 0x16 → clear w 0x03FFFFF0 = true → listed (pc + 1) → yields (.ripMask n)
      (next { base with mask := BitVec.ofNat 4 (fieldOf w 3 0) })) ∧
    (opens 0x17 → clear w 0x03FFFFFF = true →
      (∀ h f, r.handler = some h → r.frame = some f → r.firstLatch = none → f.timed = none → listed f.pc →
        yields (.ripRet n) { base with handler := none, frame := none, ctx := f }) ∧
      (∀ h f, r.handler = some h → r.frame = some f → ∀ g, r.firstLatch = some g → listed (s.dev.rf (bindOff n g + 4) 12 0) →
        yields (.ripRet n) { base with
          handler := some g, latch := tabSet none r.latch g none, regs := tabSet 0 r.regs 3 ((tabGet none r.latch g).getD 0),
          ctx := handlerCtx (s.dev.rf (bindOff n g + 4) 12 0) r.group.length }) ∧
      (∀ h f tm, r.handler = some h → r.frame = some f → r.firstLatch = none → f.timed = some tm → f.pc ≤ 8191 →
        let now : Int := r.lastStep
        let left : Int := now + tm.e - tm.t0 - tm.ep
        let away : Int := now - (tm.t0 + tm.ep)
        let c : Ctx := if tm.res = 0 then f
          else if tm.res = 1 then
            (if tm.kind = .ramp ∨ tm.kind = .hold then
              { f with starts := r.takeStarts f, timed := some { tm with t0 := now, e := left, dur := (left - now).toNat } }
            else { f with timed := some { tm with t0 := tm.t0 + away, e := tm.e + away } })
          else { f with timed := none, pc := f.pc + 1 }
        (c.timed.any (fun x => timedEnded x now) = false → c.pc ≤ 8191 → (c.timed = none → listed c.pc) → Does (.ripRet n) s (fun t => others t ∧
          (t.dev.ripOf n).handler = none ∧ (t.dev.ripOf n).frame = none ∧ (t.dev.ripOf n).regs = r.regs ∧ (t.dev.ripOf n).ctx = c)) ∧
        (c.timed.any (fun x => timedEnded x now) = true → listed (f.pc + 1) → Does (.ripRet n) s (fun t => others t ∧
          (t.dev.ripOf n).handler = none ∧ (t.dev.ripOf n).frame = none ∧ (t.dev.ripOf n).regs = r.regs ∧
          (t.dev.ripOf n).ctx = { c with timed := none, pc := f.pc + 1 }))) ∧
      (r.handler = none → faults (.ripRet n) 3)) ∧
    (s.dev.ripStepDue n = false → Does (.ripenerStep n) s (KeepsBut [] s)) ∧
    (s.dev.ripStepDue n = true →
      let tick : Nat := s.dev.wheelN - s.dev.wheelN % 512
      let mine (f : Flight) : Bool := f.await = .ripen n.val
      let curves (off : Nat) : Bool := decide (0x4900 ≤ off) && decide (off < 0x4A00)
      let alone (t : State) : Prop := (∀ m, m ≠ n.val → t.dev.ripOf m = s.dev.ripOf m) ∧ (t.dev.ripOf n).lastStep = tick ∧
        ∀ off, noteReg off = false → curves off = false → ciReg off = false → off ≠ 0x800C →
          t.dev.force off = s.dev.force off ∧ t.dev.written off = s.dev.written off
      let steps (t : State) : Prop := KeepsBut [.clk, .regs, .rip] s t ∧ RegsBut curves s t ∧ alone t
      let acted (t : State) : Prop := KeepsBut [.clk, .regs, .rip, .ring, .ozh] s t ∧ alone t ∧
        t.dev.ring.flights = s.dev.ring.flights.filter (fun f => !mine f)
      (r.run = false ∨ r.paused = true → s.dev.ring.flights.filter mine = [] → Does (.ripenerStep n) s (fun t => steps t ∧
        (t.dev.ripOf n).budget = none ∧ (t.dev.ripOf n).outs = r.outs)) ∧
      (r.run = true → r.paused = false → s.dev.ring.flights.filter mine = [] → r.firstLatch = none →
        (r.ctx.timed = none → listed pc → Does (.ripenerStep n) s (fun t => steps t ∧
          t.dev.ripOf n = { r with lastStep := tick, budget := some 16 })) ∧
        (∀ tm, r.ctx.timed = some tm → timedEnded tm tick = false → pc ≤ 8191 → r.fades = [] → Does (.ripenerStep n) s (fun t =>
          steps t ∧ (t.dev.ripOf n).budget = none ∧ (t.dev.ripOf n).ctx = r.ctx ∧
          ∀ i < r.ctx.selCount, tabGet 0 (t.dev.ripOf n).outs (r.ctx.selFirst + i) =
            256 * t.dev.timedLevel tm (tabGet 0 r.ctx.starts (r.ctx.selFirst + i)) i ((tick : Int) - tm.t0).toNat)) ∧
        (∀ tm, r.ctx.timed = some tm → timedEnded tm tick = true → listed (pc + 1) → Does (.ripenerStep n) s (fun t =>
          steps t ∧ (t.dev.ripOf n).budget = some 15 ∧ (t.dev.ripOf n).ctx = { r.ctx with timed := none, pc := pc + 1 } ∧
          ∀ i < r.ctx.selCount, tabGet 0 (t.dev.ripOf n).outs (r.ctx.selFirst + i) =
            256 * t.dev.finalLevel tm (tabGet 0 r.ctx.starts (r.ctx.selFirst + i)) i))) ∧
      (∀ h : Fin 4, r.run = true → r.paused = false → s.dev.ring.flights.filter mine = [] → r.handler = none → r.firstLatch = some h →
        r.ctx.timed.any (fun tm => timedEnded tm tick) = false → listed (s.dev.rf (bindOff n h + 4) 12 0) →
        Does (.ripenerStep n) s (fun t => steps t ∧
          (t.dev.ripOf n).handler = some h ∧
          (t.dev.ripOf n).frame = some { r.ctx with timed := r.ctx.timed.map (fun tm => { tm with ep := ((tick : Int) - tm.t0).toNat }) } ∧
          some ((t.dev.ripOf n).a 3) = tabGet none r.latch h ∧ tabGet none (t.dev.ripOf n).latch h = none ∧
          (t.dev.ripOf n).ctx = handlerCtx (s.dev.rf (bindOff n h + 4) 12 0) r.group.length)) ∧
      (∀ f, s.dev.ring.flights.filter mine = [f] → r.paused = false →
        (∀ cs, f.job.d.b 13 = 0 → r.faulted = false → r.run = false →
          s.dev.inHold = false → s.dev.groupList n = some cs → listed (f.job.d.v 14 2 % 8192) → Does (.ripenerStep n) s (fun t => acted t ∧
            (t.dev.ripOf n).run = true ∧ (t.dev.ripOf n).budget = some 16 ∧ (t.dev.ripOf n).group = cs ∧
            (t.dev.ripOf n).a 0 = BitVec.ofNat 32 (f.job.d.v 20 4) ∧
            (t.dev.ripOf n).ctx = handlerCtx (f.job.d.v 14 2 % 8192) cs.length ∧
            (∀ i (h : i < cs.length), tabGet 0 (t.dev.ripOf n).outs i = 256 * (s.dev.chanOf cs[i]).level.toNat) ∧
            Lands f.job .ok (BitVec.ofNat 48 tick) (1 + 65536 * (f.job.d.v 14 2 % 8192)) s t)) ∧
        (f.job.d.b 13 = 1 → Does (.ripenerStep n) s (fun t => acted t ∧ t.dev.ripOf n = { r.stopped with lastStep := tick } ∧
          Lands f.job .ok (BitVec.ofNat 48 tick) (65536 * (pc % 8192)) s t)) ∧
        (f.job.d.b 13 = 2 → r.faulted = false → s.dev.inHold = false → Does (.ripenerStep n) s (fun t => acted t ∧
          t.dev.ripOf n = { r with lastStep := tick, hostPause := true, budget := none } ∧
          Lands f.job .ok (BitVec.ofNat 48 tick) ((if r.run then 2 else 0) + 65536 * (pc % 8192)) s t))) ∧
      ∀ f, s.dev.ring.flights.filter mine = [f] → f.job.d.b 13 = 3 → r.faulted = false → s.dev.inHold = false → r.hostPause = true →
        r.run = false → Does (.ripenerStep n) s (fun t => acted t ∧ (t.dev.ripOf n).hostPause = false ∧ (t.dev.ripOf n).run = false ∧
          Lands f.job .ok (BitVec.ofNat 48 tick) (65536 * (pc % 8192)) s t))

/-! ### The Harps -/

/-- A Harp instruction executes on its clock with the effect of Table HRP-1 on the Harp's own registers, queues, pocket and owned pins; what it must wait
for leaves it WAITING until a level on a clock, a latched edge, its queue or the Wheel lets it complete; a MARK reaches the Ripeners, the loops and
the host; a ball's level reaches the synchroniser of a sampled pin, its filter and, as an edge, the latch of its owner; an instruction that is not due, and a completion whose
condition does not hold, do nothing (R261 to R275).
Pin levels of a rail in lockout and a FAST frame's MARK follow log entries 35 and 36. -/
def Obligations.HarpInstructionsExecute : Prop :=
  ∀ (s : State) (n : Fin 8),
    let h : Harp := s.dev.harpOf n
    let w : Nat := s.dev.harpInstr n h.pc.toNat
    let now : Nat := s.dev.clk.now
    let due (op : Nat) : Prop := s.dev.harpDue n = true ∧ w / 4096 = op
    let base : Harp := { h with m := h.m + 1, dly := 0, free := now + 1 }
    let adv (x : Harp) : Harp := { x with pc := s.dev.harpSeq n, st := 1 }
    let others (t : State) : Prop := ∀ m, m ≠ n.val → t.dev.harpOf m = s.dev.harpOf m
    let yields (c : Instr) (x : Harp) : Prop := Does c s (fun t => KeepsBut [.harp] s t ∧ others t ∧ t.dev.harpOf n = x)
    let waits (op : Nat) : Prop := s.dev.harpMay n = true ∧ h.st = 2 ∧ w / 4096 = op
    let stamped (e : Word) (x : Harp) : Harp := if bitOf w 6 then { x with t := e } else x
    let pin (i : Nat) : Nat := s.dev.pinOf n i
    let mine (i : Nat) : Prop := s.dev.pinOwner (pin i) = n.val
    let i : Nat := bits w 9 7
    (due 0 → yields (.hrpDly n) (adv { base with m := h.m + 1 + w % 4096, dly := w % 4096 })) ∧
    (due 1 → bits w 11 10 < 2 → s.dev.pinRead n i = decide (bits w 11 10 = 1) →
      yields (.hrpWait n) (adv (stamped s.dev.wheel32 base))) ∧
    (due 1 → bits w 11 10 < 2 → s.dev.pinRead n i ≠ decide (bits w 11 10 = 1) → yields (.hrpWait n) { base with st := 2 }) ∧
    (∀ p ∈ [(Instr.hrpDly n, opIs 0 w), (.hrpWait n, opIs 1 w), (.hrpShin n, opIs 2 w), (.hrpShout n, opIs 3 w), (.hrpPins n, opIs 4 w),
        (.hrpGet n, opIs 5 w), (.hrpPut n, opIs 6 w), (.hrpMark n, opIs 7 w), (.hrpAddi n, opIs 9 w), (.hrpAlu n, opIs 10 w),
        (.hrpLdi n, opIs 11 w), (.hrpBr n, opIs 12 w), (.hrpPkt n, opIs 13 w), (.hrpAtw n, opIs 14 w && !bitOf w 9),
        (.hrpStamp n, opIs 14 w && bitOf w 9), (.hrpClrs n, sysIs 0 w), (.hrpHalt n, sysIs 1 w), (.hrpArm n, sysIs 2 w)],
      s.dev.harpDue n = false ∨ p.2 = false → Does p.1 s (KeepsBut [] s)) ∧
    (¬waits 1 ∨ (if bits w 11 10 < 2 then s.dev.harpClock n = none ∨ s.dev.pinRead n i ≠ decide (bits w 11 10 = 1)
        else tabGet none (if bits w 11 10 = 2 then h.fall else h.rise) i = none) → Does (.harpWaitDone n) s (KeepsBut [] s)) ∧
    (¬waits 5 ∨ h.tx = [] → ¬waits 6 ∨ s.dev.rxDepth n ≤ h.rx.length → Does (.queueUnblock n) s (KeepsBut [] s)) ∧
    (s.dev.harpClock n = none → Does (.queueUnblock n) s (KeepsBut [] s)) ∧
    (¬waits 14 ∨ bitOf w 9 = true ∨ (s.dev.wheel32 - h.reg (bits w 11 10)).toInt < 0 → Does (.atwDone n) s (KeepsBut [] s)) ∧
    (due 1 → 2 ≤ bits w 11 10 → tabGet none (if bits w 11 10 = 2 then h.fall else h.rise) i = none → yields (.hrpWait n) { base with st := 2 }) ∧
    (∀ e, 2 ≤ bits w 11 10 → tabGet none (if bits w 11 10 = 2 then h.fall else h.rise) i = some e →
      let after (x : Harp) : Harp := adv (((stamped e.2 x).clearLatch i).restart (e.1 + 1))
      (due 1 → yields (.hrpWait n) (after base)) ∧ (waits 1 → yields (.harpWaitDone n) (after h))) ∧
    (∀ j, waits 1 → bits w 11 10 < 2 → s.dev.harpClock n = some j → s.dev.pinRead n i = decide (bits w 11 10 = 1) →
      yields (.harpWaitDone n) (adv (stamped s.dev.wheel32 { h with m := j + 1, free := now + 1 }))) ∧
    (due 2 → let width : Nat := bits w 8 6 + 1
      Does (.hrpShin n) s (fun t => KeepsBut [.harp] s t ∧ others t ∧ ∃ v : Word, t.dev.harpOf n = adv { base with s := v } ∧
        ∀ k < 32, v.getLsbD k =
          if bitOf w 4 then decide (k < width) && s.dev.pinRead n (bits w 11 9 + k)
          else if bitOf w 5 then (if 32 ≤ k + width then s.dev.pinRead n (bits w 11 9 + (k + width - 32)) else h.s.getLsbD (k + width))
          else if k < width then s.dev.pinRead n (bits w 11 9 + k) else h.s.getLsbD (k - width))) ∧
    (due 3 → let width : Nat := bits w 8 6 + 1
      let r : Nat := bits w 4 3
      Does (.hrpShout n) s (fun t => KeepsBut [.harp, .pins] s t ∧ others t ∧
        t.dev.harpOf n = adv (if bitOf w 2 then base
          else base.setReg r (if bitOf w 5 then h.reg r >>> width else h.reg r <<< width)) ∧
        (∀ k < width, mine (bits w 11 9 + k) → t.dev.pins.drive.getLsbD (pin (bits w 11 9 + k)) = true ∧
          t.dev.pins.value.getLsbD (pin (bits w 11 9 + k)) =
            (h.reg r).getLsbD (if bitOf w 5 then k else 32 - width + k)) ∧
        ∀ p < 32, (∀ k < width, pin (bits w 11 9 + k) = p → ¬mine (bits w 11 9 + k)) →
          t.dev.pins.drive.getLsbD p = s.dev.pins.drive.getLsbD p ∧ t.dev.pins.value.getLsbD p = s.dev.pins.value.getLsbD p)) ∧
    (due 4 → Does (.hrpPins n) s (fun t => KeepsBut [.harp, .pins] s t ∧ others t ∧ t.dev.harpOf n = adv base ∧
      (∀ k < 8, bitOf w k → mine k → t.dev.pins.drive.getLsbD (pin k) = decide (bits w 11 10 < 2) ∧
        (bits w 11 10 < 2 → t.dev.pins.value.getLsbD (pin k) = decide (bits w 11 10 = 1))) ∧
      ∀ p < 32, (∀ k < 8, bitOf w k → pin k = p → ¬mine k) →
        t.dev.pins.drive.getLsbD p = s.dev.pins.drive.getLsbD p ∧ t.dev.pins.value.getLsbD p = s.dev.pins.value.getLsbD p)) ∧
    (∀ v vs, h.tx = v :: vs → (due 5 → yields (.hrpGet n) (adv ({ base with tx := vs }.setReg (bits w 10 9) v))) ∧
      ∀ j, waits 5 → s.dev.harpClock n = some j → yields (.queueUnblock n)
        (adv ({ h with m := j + 1, free := now + 1, tx := vs }.setReg (bits w 10 9) v))) ∧
    (due 5 → h.tx = [] → yields (.hrpGet n) (if bitOf w 11 then { base with st := 2 } else adv base)) ∧
    (h.rx.length < s.dev.rxDepth n → (due 6 → yields (.hrpPut n) (adv { base with rx := h.rx ++ [h.reg (bits w 10 9)] })) ∧
      ∀ j, waits 6 → s.dev.harpClock n = some j → yields (.queueUnblock n)
        (adv { h with m := j + 1, free := now + 1, rx := h.rx ++ [h.reg (bits w 10 9)] })) ∧
    (due 6 → s.dev.rxDepth n ≤ h.rx.length → (bitOf w 11 = true → yields (.hrpPut n) { base with st := 2 }) ∧
      (bitOf w 11 = false → Does (.hrpPut n) s (fun t => KeepsBut [.harp, .regs] s t ∧ others t ∧
        t.dev.harpOf n = adv { base with rxOvf := satInc h.rxOvf, ovfNew := true } ∧
        t.dev.force 0x5008 = s.dev.force 0x5008 ||| BitVec.ofNat 32 (2 ^ n.val)))) ∧
    (due 7 → let v : Word := h.reg (bits w 11 10)
      let code : Nat := if bitOf w 9 then v.toNat % 256 else w % 256
      let hits (k g : Nat) : Prop := s.dev.rb (bindOff k g) 0 = true ∧ s.dev.rf (bindOff k g) 2 1 = 1 ∧
        s.dev.rb (bindOff k g) (24 + n.val) = true ∧ ((code ^^^ s.dev.rf (bindOff k g) 15 8) &&& s.dev.rf (bindOff k g) 23 16) = 0 ∧
        (s.dev.ripOf k).mask.toNat.testBit g = false
      Does (.hrpMark n) s (fun t => KeepsBut [.harp, .rip, .tempo, .clr, .ozh, .regs] s t ∧ others t ∧ t.dev.harpOf n = adv base ∧
        (∀ k < 12, ∀ g < 4, (s.dev.ripOf k).faulted = false → hits k g → (∀ f < g, ¬hits k f) → (s.dev.ripOf k).latched g = false →
          tabGet none (t.dev.ripOf k).latch g = some v) ∧
        (∀ k < 8, code = 0xC0 + k → s.dev.rb (clsOff k) 8 = true → s.dev.rf (clsOff k) 11 9 = n.val →
          t.dev.clsOf k = { s.dev.clsOf k with sample := some (fieldOf v 15 0, fieldOf v 23 16) }) ∧
        (s.dev.rb (hrpOff n) 18 = true → s.dev.tempoSrc ≠ 2 → Tells 0x0701 (n.val + 256 * code + 65536 * v.toNat) s t))) ∧
    (due 9 → yields (.hrpAddi n) (adv (base.setReg (bits w 11 10) (h.reg (bits w 11 10) + BitVec.ofInt 32 (signed (w % 1024) 10))))) ∧
    (due 10 → let a : Word := h.reg (bits w 11 10)
      let b : Word := h.reg (bits w 9 8)
      ∀ p ∈ [(0, a + b), (1, a - b), (2, a &&& b), (3, a ||| b), (4, a ^^^ b), (5, b >>> (w % 32)), (6, b <<< (w % 32)),
        (7, if a.toNat ≤ b.toNat then a else b)], bits w 7 5 = p.1 → yields (.hrpAlu n) (adv (base.setReg (bits w 11 10) p.2))) ∧
    (due 11 → yields (.hrpLdi n) (adv (base.setReg (bits w 11 10) (BitVec.ofNat 32 (w % 1024))))) ∧
    (due 12 → let arg : Nat := bits w 7 5
      (s.dev.brHolds n (bits w 11 8) arg = true → yields (.hrpBr n)
        { (if bits w 11 8 = 1 then base.setReg (arg / 2) (h.reg (arg / 2) - 1) else base) with pc := BitVec.ofNat 5 (w % 32) }) ∧
      (s.dev.brHolds n (bits w 11 8) arg = false → yields (.hrpBr n) (adv base))) ∧
    (due 13 → let at_ : Nat := 0x5600 + 0x80 * n.val + 4 * (if bitOf w 8 then (w % 32 + h.y.toNat % 32) % 32 else w % 32)
      (bitOf w 11 = true → Does (.hrpPkt n) s (fun t => KeepsBut [.harp, .regs] s t ∧ others t ∧ t.dev.harpOf n = adv base ∧
        t.dev.force at_ = h.reg (bits w 10 9) ∧ t.dev.written at_ = h.reg (bits w 10 9) ∧
        ∀ off, noteReg off = false → off ≠ at_ → t.dev.force off = s.dev.force off)) ∧
      (bitOf w 11 = false → yields (.hrpPkt n) (adv (base.setReg (bits w 10 9) (s.dev.force at_))))) ∧
    (bitOf w 9 = false → let reached : Prop := 0 ≤ (s.dev.wheel32 - h.reg (bits w 11 10)).toInt
      (due 14 → (reached → yields (.hrpAtw n) (adv base)) ∧ (¬reached → yields (.hrpAtw n) { base with st := 2 })) ∧
      (waits 14 → reached → yields (.atwDone n) (adv (h.restart now)))) ∧
    (due 14 → bitOf w 9 = true → yields (.hrpStamp n) (adv (base.setReg (bits w 11 10) s.dev.wheel32))) ∧
    (due 15 → (bits w 11 8 = 0 → yields (.hrpClrs n) (adv { base with s := 0 })) ∧
      (bits w 11 8 = 1 → yields (.hrpHalt n) { base with st := 3 }) ∧
      (bits w 11 8 = 2 → yields (.hrpArm n) (adv (base.clearLatch (bits w 7 5))))) ∧
    ∀ (p : Fin 32) (level : Option Bool),
      let synced : Bool := s.dev.pins.syncd.toNat.testBit p
      let ext : Pins := { s.dev.pins with ext := tabSet none s.dev.pins.ext p level }
      let edge (v : Bool) (x : Pins) : Prop := Does (.hpPinEdge p level) s (fun t => KeepsBut [.pins, .harp] s t ∧ others t ∧
        t.dev.pins = { x with ball := setBitTo x.ball p v } ∧
        ((∀ k < 8, pin k ≠ p.val) → t.dev.harpOf n = h) ∧
        ∀ k < 8, pin k = p.val → t.dev.harpOf n =
          if h.st = 1 ∨ h.st = 2 ∨ h.st = 4 then
            (if v ≠ s.dev.pinInv p then { h with rise := tabSet none h.rise k (some (now, s.dev.wheel32)) }
            else { h with fall := tabSet none h.fall k (some (now, s.dev.wheel32)) })
          else h)
      (s.dev.extOf p ≠ level → s.dev.coreOn = false ∨ s.dev.pinSampled p = false →
        Does (.hpPinEdge p level) s (fun t => KeepsBut [.pins] s t ∧ t.dev.pins = ext)) ∧
      (s.dev.extOf p = level → s.dev.coreOn = false ∨ s.dev.filtDue p = false → Does (.hpPinEdge p level) s (KeepsBut [] s)) ∧
      (s.dev.extOf p = level → s.dev.coreOn = true → s.dev.pinOwner p = n.val → s.dev.filtDue p = true → edge synced s.dev.pins) ∧
      ∀ v : Bool, s.dev.extOf p ≠ level → s.dev.coreOn = true → s.dev.pinOwner p = n.val → s.dev.pwr.vioLow = false →
        s.dev.pinDriven p = false → level.or (s.dev.pullLevel p) = some v →
        let x : Pins := if synced = v then ext else
          { ext with syncd := setBitTo ext.syncd p v, since := tabSet 0 ext.since p now }
        let due : Prop := v ≠ s.dev.pins.ball.toNat.testBit p ∧ tabGet 0 x.since p + s.dev.filtTicks p ≤ now + 1
        (due → edge v x) ∧ (¬due → Does (.hpPinEdge p level) s (fun t => KeepsBut [.pins] s t ∧ t.dev.pins = x))

/-! ### Carriers and converters -/

/-- A carrier period begins with its fields, its latch and its outputs, off outside RUN, and a period of OUT_PAIR puts a pulse on SYNC_OUT; a disabled pair stops, with the
follower that it leads. A trip input's level reaches its filter; while the filtered input is at the level that POL names, outside its blanking window,
the pairs of its mask that drive are cut. Edges of SYNC_IN reach the pairs that follow it. A trigger makes its sequence pending or is counted, and a
run ends with its results, STAMP and RUNS together. A period, a trigger or a run that is not due does nothing (R281 to R300).
What FILT counts follows log entry 37. -/
def Obligations.CarriersAndConvertersRun : Prop :=
  ∀ (s : State) (n : Fin 6),
    let c : Car := s.dev.carOf n
    let now : Nat := s.dev.clk.now
    (s.dev.carDue n = false → Does (.carrierPeriodStart n) s (KeepsBut [] s)) ∧
    (s.dev.carDue n = true →
      (s.dev.rb (carOff n) 0 = false → Does (.carrierPeriodStart n) s (fun t => KeepsBut [.clk, .car] s t ∧
        t.dev.carOf n = c.stop ∧ ∀ m, m ≠ n.val → t.dev.carOf m =
          if m = n.val + 1 ∧ n.val % 2 = 0 ∧ s.dev.carLink m = true then
            (if s.dev.rb (carOff m) 0 then { (s.dev.carOf m).stop with busy := true } else (s.dev.carOf m).stop)
          else s.dev.carOf m)) ∧
      (s.dev.rb (carOff n) 0 = true → Does (.carrierPeriodStart n) s (fun t =>
        let x : Car := t.dev.carOf n
        KeepsBut [.clk, .car, .regs, .trips] s t ∧
        RegsBut (fun off => decide (carOff n ≤ off) && decide (off < carOff n + 0x40) || decide (off = 0x6004)) s t ∧ (∀ m, m ≠ n.val → t.dev.carOf m = s.dev.carOf m) ∧
        x.begun = true ∧ x.start = now ∧ x.cut = false ∧ x.latchClr = false ∧ x.jumped = false ∧ x.fired = 0 ∧
        x.cutCnt = (if c.latchClr then 0 else if c.cut then c.cutCnt + 1 else 0) ∧
        (x.latched = true ↔ c.latchClr = false ∧ (c.latched = true ∨ t.dev.rf (carOff n + 0x18) 15 8 ≠ 0 ∧
          t.dev.rf (carOff n + 0x18) 15 8 ≤ x.cutCnt)) ∧
        (x.driving = true ↔ s.dev.pwr.mode = .run ∧ s.dev.pwr.sleepTo = none ∧ x.latched = false) ∧
        (x.driving = false → x.levA = false ∧ x.levB = false ∧ x.edges = []) ∧
        (s.dev.carLink n = false → t.dev.rb (carOff n + 0x24) 0 = false →
          x.cNow = min (t.dev.rf (carOff n + 8) 19 0) (16 * t.dev.carPeriod n)) ∧
        (s.dev.carLink n = false → x.trans = false → x.len = t.dev.carPeriod n) ∧
        (if s.dev.rf 0x6000 1 0 = 1 ∧ s.dev.rf 0x6000 6 4 = n.val then
          let high : Bool := decide (0 < s.dev.rf 0x6000 15 8)
          t.dev.trips = { s.dev.trips with syncOutEnd := now + s.dev.rf 0x6000 15 8, syncOut := high } ∧
            (s.dev.trips.syncOut ≠ high → .syncOut high ∈ t.dev.out)
        else t.dev.trips = s.dev.trips)))) ∧
    (s.dev.coreOn = false → Does .syncInEdge s (KeepsBut [] s) ∧ Does .syncInFall s (KeepsBut [] s)) ∧
    (s.dev.coreOn = true →
      Does .syncInEdge s (fun t => KeepsBut [.car, .trips] s t ∧ t.dev.trips = { s.dev.trips with syncIn := true } ∧
        ∀ m < 6, t.dev.carOf m = if s.dev.carSync m = true ∧ (s.dev.carOf m).busy = true then
          { s.dev.carOf m with syncEdges := (s.dev.carOf m).syncEdges ++ [now] } else s.dev.carOf m) ∧
      Does .syncInFall s (fun t => KeepsBut [.trips] s t ∧ t.dev.trips = { s.dev.trips with syncIn := false })) ∧
    (∀ (i : Fin 4) (level : Bool),
      let since : Nat := if s.dev.trips.level.getLsbD i = level then tabGet 0 s.dev.trips.since i else now
      let seen : Bool := if since + s.dev.rf (0x6010 + 8 * i.val) 4 1 ≤ now + 1 then level else s.dev.trips.filt.getLsbD i
      Does (.tripActive ⟨i, level⟩) s (fun t => KeepsBut [.car, .regs, .trips] s t ∧ RegsBut (· = 0x6004) s t ∧
        t.dev.trips.level.getLsbD i = level ∧ tabGet 0 t.dev.trips.since i = since ∧ t.dev.trips.filt.getLsbD i = seen ∧
        (∀ k < 4, k ≠ i.val → t.dev.trips.level.getLsbD k = s.dev.trips.level.getLsbD k ∧
          tabGet 0 t.dev.trips.since k = tabGet 0 s.dev.trips.since k ∧ t.dev.trips.filt.getLsbD k = s.dev.trips.filt.getLsbD k) ∧
        ∀ m < 6,
          if s.dev.coreOn = true ∧ seen ≠ s.dev.rb (0x6010 + 8 * i.val) 0 ∧ s.dev.tripBlanked i = false ∧
              s.dev.rb (0x6014 + 8 * i.val) m = true ∧ (s.dev.carOf m).driving = true ∧ (s.dev.carOf m).cut = false ∧ s.dev.carDue m = false then
            t.dev.carOf m = { (s.dev.carOf m).drop now with
              cut := true, refDue := (s.dev.carOf m).refDue || s.dev.refreshNow m, refreshing := false } ∧
              (t.dev.carOf m).levA = false ∧ (t.dev.carOf m).levB = false ∧ (t.dev.carOf m).edges = [] ∧
              t.dev.rb 0x6004 m = true ∧ t.dev.rb 0x6004 (16 + i.val) = true ∧ t.dev.trips.cutMask.getLsbD m = true
          else t.dev.carOf m = s.dev.carOf m ∧ t.dev.trips.cutMask.getLsbD m = s.dev.trips.cutMask.getLsbD m)) ∧
    (∀ x : Bool, s.dev.trigDue n x = false → Does (.triggerCompare n x) s (KeepsBut [] s)) ∧
    (∀ x : Bool, s.dev.trigDue n x = true →
      let q : Nat := if x then s.dev.rf (carOff n + 0x20) 11 9 else s.dev.rf (carOff n + 0x20) 3 1
      Does (.triggerCompare n x) s (fun t => KeepsBut [.car, .seq, .regs] s t ∧
        RegsBut (· = 0x6808) s t ∧ (s.dev.rb (seqOff q) 0 = true → s.dev.rf (seqOff q) 6 4 = 1 →
          (s.dev.seqOf q).pend = true ∨ (s.dev.seqOf q).running = true → t.dev.rb 0x6808 q = true) ∧
        t.dev.carOf n = { c with fired := c.fired ||| (if x then 2 else 1) } ∧
        (∀ m, m ≠ n.val → t.dev.carOf m = s.dev.carOf m) ∧ (∀ k, k ≠ q → t.dev.seqOf k = s.dev.seqOf k) ∧
        t.dev.seqOf q =
          if s.dev.rb (seqOff q) 0 = true ∧ s.dev.rf (seqOff q) 6 4 = 1 then
            (if (s.dev.seqOf q).pend = true ∨ (s.dev.seqOf q).running = true then
              { s.dev.seqOf q with ovr := satInc (s.dev.seqOf q).ovr } else { s.dev.seqOf q with pend := true })
          else s.dev.seqOf q)) ∧
    ∀ (q : Fin 8) (res : List (BitVec 12)),
      let x : Seq := s.dev.seqOf q
      let due : Prop := x.running = true ∧ x.beginAt + 64 * s.dev.seqEntries q ≤ now
      (¬due → Does (.adcRunEnd q res) s (KeepsBut [] s)) ∧
      (due → Does (.adcRunEnd q res) s (fun t => KeepsBut [.seq] s t ∧
        (∀ k, k ≠ q.val → t.dev.seqOf k = s.dev.seqOf k) ∧
        (∃ r, t.dev.seqOf q = { x with
          running := false, res := r, stamp := x.sampled, runs := x.runs + 1,
          pend := if s.dev.seqCont q then s.dev.rb (seqOff q) 0 else x.pend }) ∧
        (∀ i < s.dev.seqEntries q, tabGet 0 (t.dev.seqOf q).res i = res.getD i 0) ∧
        ∀ i, s.dev.seqEntries q ≤ i → tabGet 0 (t.dev.seqOf q).res i = tabGet 0 x.res i))

/-! ### The Hoop -/

/-- A receiver that finds three COMMAs at one symbol position aligns, and its port trains; 4 invalid of any 16 code groups, a lost signal and the third missing SYNC take it
DOWN; the root's frame carries the Wheel, the press index and a page of the shift image; a valid SYNC brings a training port UP and tells the unit
its place, the announced boundaries and what to relay, and an upstream one the delay; a shift section is relayed, and a good one fills the hold
buffer; header and image reads bring the next image; a cut-off unit that has waited HOOP_HOLD presses faults (R309 to R320, R334).
PAGE before the first image follows log entry 38, and the next SYNC that is expected after a missing one log entry 66. -/
def Obligations.HoopLinksFramesAndImages : Prop :=
  ∀ (s : State) (k : Fin 3), s.dev.fabricOn = true →
    let q : HPort := s.dev.portOf k
    let now : Nat := s.dev.clk.now
    let downAreas : List Area := [.hoop, .clk, .regs, .pwr, .ring, .ozh]
    let down (t : State) : Prop := KeepsBut downAreas s t ∧ (t.dev.portOf k).link = 0 ∧ (t.dev.portOf k).frameAt = none ∧
      (q.link = 2 → t.dev.rb 0x7010 0 = true ∧ Tells 0x0901 (k.val + 65536 * q.farId.toNat) s t)
    (k = 0 → s.dev.isRoot = true → (∀ cs, Does (.linkAligned ⟨k, cs⟩) s (fun t => KeepsBut [] s t ∧ t.dev.rb 0x7010 9 = true)) ∧
      ∀ c, Does (.hoopSyncCapture k c) s (fun t => KeepsBut [] s t ∧ t.dev.rb 0x7010 9 = true)) ∧
    (¬(k = 0 ∧ s.dev.isRoot = true) → ∀ cs : List (Fin 10),
      let r : Option (Nat × Nat) × Bool := cs.foldl commaFound (q.comma, false)
      let x : HPort := if q.aligned then { q with signal := true }
        else { q with signal := true, comma := if r.2 then none else r.1, aligned := r.2, recent := [] }
      Does (.linkAligned ⟨k, cs⟩) s (fun t => KeepsBut [.hoop] s t ∧ t.dev.portOf k =
        if s.dev.isFabricPort k = true ∧ q.link = 0 ∧ x.aligned = true then
          { x with link := 1, good := 0, missed := 0, fresh := true, lastSync := none } else x)) ∧
    (¬(k = 0 ∧ s.dev.isRoot = true) → s.dev.isFabricPort k = true → q.link = 0 → q.aligned = false → ∀ p : Fin 10,
      Does (.linkAligned ⟨k, [p, p, p]⟩) s (fun t => (t.dev.portOf k).aligned = true ∧ (t.dev.portOf k).link = 1)) ∧
    (∀ (groups : List (BitVec 10)) (rd : Bool),
      let w : List Bool × Bool := groupWindow q.recent (symbolsOf rd groups)
      let errs : BitVec 16 := BitVec.ofNat 16 (min 65535 (q.codeErr.toNat + (symbolsOf rd groups).countP (· = .bad)))
      (s.dev.hears k = false → Does (.alignmentLost ⟨k, groups, rd⟩) s (KeepsBut [] s)) ∧
      (s.dev.hears k = true → w.2 = false → Does (.alignmentLost ⟨k, groups, rd⟩) s (fun t => KeepsBut [.hoop] s t ∧
        t.dev.portOf k = { q with codeErr := errs, recent := w.1 })) ∧
      (s.dev.isFabricPort k = true → q.link ≠ 0 → w.2 = true → Does (.alignmentLost ⟨k, groups, rd⟩) s (fun t => down t ∧
        (t.dev.portOf k).aligned = false ∧ (t.dev.portOf k).codeErr = errs))) ∧
    (q.link ≠ 0 → Does (.linkSignalLoss k) s (fun t => down t ∧ (t.dev.portOf k).signal = false ∧ (t.dev.portOf k).aligned = false)) ∧
    (q.link = 0 → Does (.linkSignalLoss k) s (fun t => KeepsBut [.hoop] s t ∧
      t.dev.portOf k = { q with signal := false, comma := none, aligned := false, recent := [] })) ∧
    (s.dev.syncOverdue k = false → Does (.syncMissing k) s (KeepsBut [] s)) ∧
    (s.dev.syncOverdue k = true →
      (q.missed < 2 → Does (.syncMissing k) s (fun t => KeepsBut [.hoop] s t ∧
        t.dev.portOf k = { q with good := 0, missed := q.missed + 1, lastSync := q.lastSync.map (· + 16 * 4096) })) ∧
      (2 ≤ q.missed → Does (.syncMissing k) s down)) ∧
    (s.dev.frameDue = false → Does .frameSend s (KeepsBut [] s)) ∧
    (s.dev.frameDue = true → Does .frameSend s (fun t => KeepsBut [.clk, .hoop] s t ∧
      (∀ j ∈ [1, 2], s.dev.isFabricPort j = true → (s.dev.portOf j).link ≠ 0 → (t.dev.portOf j).frameAt = some (16 * now) ∧
        ∃ sync page data, .downFrame j sync page data (shiftCrc page data) ∈ t.dev.out ∧ sync.length = 48 ∧
          sync.take 2 = [0xBC, 0xB5] ∧ (sync.drop 4).take 8 = leBytes s.dev.wheelN 8 ∧
          (sync.drop 12).take 2 = leBytes (s.dev.pressIndex % 65536) 2 ∧ sync.drop 46 = syncCrc sync ∧
          (s.dev.shiftHost = false → page = 0xFF ∧ data = []) ∧
          (s.dev.shiftHost = true →
            let at_ : Nat := s.dev.pressIndex % s.dev.shiftPages
            ∀ img, img = (if at_ = 0 then (s.dev.hoop.imageNew.map (·.2)).getD s.dev.hoop.image else s.dev.hoop.image) → img ≠ [] →
              page = BitVec.ofNat 8 at_ ∧ data = (img.drop (at_ * s.dev.shiftLen)).take s.dev.shiftLen)) ∧
      t.dev.clk.wheel = s.dev.clk.wheel)) ∧
    (∀ c : SyncRx, syncValid c = true → byteAt c.bytes 1 = 0xB5 → k = 0 → s.dev.isRoot = false → q.link = 2 →
      bitOf (byteAt c.bytes 2) 4 = true → Does (.hoopSyncCapture k c) s (fun t =>
        KeepsBut [.clk, .regs, .tempo, .rip, .ozh, .car, .ring, .hoop, .pwr] s t ∧ (t.dev.portOf 0).link = 2 ∧
        (t.dev.portOf 0).missed = 0 ∧ t.dev.hoop.upOk = true ∧ t.dev.hoop.depth = leAt c.bytes 41 2 % 2 ^ 13 + 1 ∧
        t.dev.hoop.lastCap = some (16 * now + c.frac16.toNat) ∧ t.dev.hoop.lastOrigin = BitVec.ofNat 16 (leAt c.bytes 12 2) ∧
        (∀ i < 128, (leAt c.bytes 14 16).testBit i = true →
          (t.dev.resolveOrigin (leAt c.bytes 12 2) + 1 + i).toNat ∈ t.dev.hoop.recorded) ∧
        ∀ j ∈ [1, 2], s.dev.isFabricPort j = true → (s.dev.portOf j).link ≠ 0 → ∃ sync, .relaySync j sync ∈ t.dev.out)) ∧
    (∀ c : SyncRx, syncValid c = true → byteAt c.bytes 1 = 0xB5 → k = 0 → s.dev.isRoot = false → q.link = 1 → 2 ≤ q.good →
      Does (.hoopSyncCapture k c) s (fun t => (t.dev.portOf 0).link = 2 ∧ (t.dev.portOf 0).everUp = true ∧
        (t.dev.portOf 0).farId = BitVec.ofNat 12 (leAt c.bytes 30 2))) ∧
    (∀ (c : SyncRx) (e : BitVec 16 × Nat), syncValid c = true → byteAt c.bytes 1 = 0xB6 → k ≠ 0 → s.dev.isFabricPort k = true →
      q.link = 2 → q.sent.find? (fun e => e.1 = BitVec.ofNat 16 (leAt c.bytes 12 2)) = some e →
      let sample : Int := Int.tdiv (((16 * now + c.frac16.toNat : Nat) : Int) - e.2 - (leAt c.bytes 32 3 % 2 ^ 20 : Nat)) 2
      Does (.upstreamSyncCapture k c) s (fun t => KeepsBut [.hoop] s t ∧ (t.dev.portOf k).missed = 0 ∧ (t.dev.portOf k).fresh = false ∧
        (t.dev.portOf k).dly = (if q.fresh then sample else (q.dly : Int) + Int.tdiv (sample - q.dly) 16).toNat)) ∧
    (∀ sec : ShiftRx, s.dev.isRoot = false → (s.dev.portOf 0).link ≠ 0 → (groupWindow (s.dev.portOf 0).recent sec.syms).2 = false →
      let ofs : Nat := s.dev.rf 0x7240 12 0
      let first : Nat := s.dev.rf 0x7244 10 0
      let cnt : Nat := s.dev.rf 0x7244 26 16
      (s.dev.cutOff = false → Does (.shiftSectionEnd sec) s (fun t => ∀ j ∈ [1, 2], s.dev.isFabricPort j = true →
        (s.dev.portOf j).link ≠ 0 → .relayShift j sec.relayed ∈ t.dev.out)) ∧
      (sec.closed = true → sec.crc = shiftCrc sec.page sec.data → sec.page.toNat = s.dev.rf 0x7240 19 16 →
        ofs + 2 * cnt ≤ sec.data.length → Does (.shiftSectionEnd sec) s (fun t => KeepsBut [.hoop] s t ∧
          (∀ i < cnt, first + i ≤ 1039 → tabGet 0 t.dev.hoop.hold (first + i) = BitVec.ofNat 16 (leAt sec.data (ofs + 2 * i) 2)) ∧
          ∀ c, c < first ∨ first + cnt ≤ c → tabGet 0 t.dev.hoop.hold c = tabGet 0 s.dev.hoop.hold c)) ∧
      (sec.closed = false ∨ sec.crc ≠ shiftCrc sec.page sec.data → Does (.shiftSectionEnd sec) s (fun t => KeepsBut [.hoop] s t ∧
        t.dev.hoop.hold = s.dev.hoop.hold ∧ t.dev.hoop.shiftBad = satInc s.dev.hoop.shiftBad))) ∧
    (s.dev.hoop.hdrOut = 0 → ∀ r, Does (.shiftHeaderReadDone r) s (KeepsBut [] s)) ∧
    (∀ w : BitVec 64, 0 < s.dev.hoop.hdrOut →
      let g : Word := w.setWidth 32
      let wanted : Prop := wordGood w = true ∧ g ≠ s.dev.hoop.gen ∧ s.dev.hoop.imageNew.map (·.1) ≠ some g ∧ g ∉ s.dev.hoop.reading ∧
        s.dev.shiftHost = true ∧ s.dev.shiftMayRead = true
      let len : Nat := s.dev.shiftPages * s.dev.shiftLen
      (¬wanted → Does (.shiftHeaderReadDone (.ok w)) s (fun t => KeepsBut [.hoop] s t ∧ t.dev.hoop.hdrOut + 1 = s.dev.hoop.hdrOut ∧
        t.dev.hoop.reading = s.dev.hoop.reading)) ∧
      (wanted → Does (.shiftHeaderReadDone (.ok w)) s (fun t => KeepsBut [.hoop] s t ∧ t.dev.hoop.hdrOut + 1 = s.dev.hoop.hdrOut ∧
        t.dev.hoop.reading = s.dev.hoop.reading ++ [g] ∧
        ∀ e ∈ imageReads s.dev.ring.maxRead (len + 1) (s.dev.addr64 (if g.toNat % 2 = 0 then 0x7218 else 0x7220)).toNat len,
          .shiftImgReq (BitVec.ofNat 64 e.1) e.2 ∈ t.dev.out))) ∧
    (s.dev.hoop.reading = [] → ∀ img err, Does (.shiftImageReadDone img err) s (KeepsBut [] s)) ∧
    (∀ (img : List Byte) (g : Word) (gs : List Word), s.dev.hoop.reading = g :: gs →
      Does (.shiftImageReadDone img none) s (fun t => KeepsBut [.hoop] s t ∧
        t.dev.hoop.reading = gs ∧ t.dev.hoop.imageNew = some (g, img.take (s.dev.shiftPages * s.dev.shiftLen)))) ∧
    (s.dev.holdExpired = true → s.dev.rb 0xA008 0 = false → Does .hoopHoldExpired s (fun t =>
      t.rind = s.rind ∧ (t.dev.fabricOn = true → t.dev.hoop.isoRaised = true) ∧ t.dev.force 0xA008 = s.dev.force 0xA008 ||| 1 ∧
      t.dev.pwr.cause.getLsbD 4 = true ∧ Tells 0x0D01 0x10 s t))

/-- A good packet for this unit takes effect: a DESC enters ring LH, a CPL completes what awaits its TAG, an EVT reaches the root's whey ring, a SETW is a
masked write; a packet for another unit is queued on its way. An enumeration counts, assigns IDs, records units and ends, with its duplicates, also
when its time is up (R324 to R332).
When the root writes a route, and a broadcast DESC, follow log entry 39. -/
def Obligations.PacketsAndEnumerationAct : Prop :=
  ∀ (s : State) (k : Fin 3) (r : PktRx), s.dev.fabricOn = true →
    let p : Packet := r.packet
    let good (type mode : Nat) : Prop := pktGood r = true ∧ s.dev.portUp k = true ∧ ¬(k = 2 ∧ s.dev.twinOn = true) ∧
      p.type.toNat = type ∧ p.dmode.toNat % 4 = mode
    let here (type : Nat) : Prop := good type 0 ∧ s.dev.ownId p.dest = true
    let calm : Prop := s.dev.flt.dbgHalt = false
    let epochOk : Prop := leAt p.payload 0 2 = s.dev.hoop.epoch.toNat ∧ s.dev.hoop.enumBusy = true
    let wide : List Area := [.hoop, .regs, .ring, .ozh]
    (∀ c ∈ [(Instr.pktDesc k r, 1), (.pktCpl k r, 2), (.pktEvt k r, 3), (.pktSetw k r, 4)], ∀ j : Nat, good c.2 0 →
      s.dev.ownId p.dest = false → s.dev.deliverPort (some k.val) p.dest = some j → (s.dev.portOf j).txq.length < 64 → Does c.1 s (fun t =>
        KeepsBut [.hoop] s t ∧ (p, s.dev.clk.now + 8) ∈ (t.dev.portOf j).txq)) ∧
    (here 1 → s.dev.ring.lh.length < 64 → Does (.pktDesc k r) s (fun t => KeepsBut [.ring] s t ∧
      t.dev.ring.lh = s.dev.ring.lh ++ [⟨.lh, .hoop p.src p.tag, descOfBytes p.payload, 0, none, false⟩])) ∧
    (here 2 → ∀ (f : Flight) (n : Fin 8), s.dev.ring.flights.filter (fun f => (f.await.remoteTag.map (·.1)) = some p.tag) = [f] → f.job.origin = .curd n.val → f.job.cue = none → Does (.pktCpl k r) s (fun t =>
      KeepsBut [.ring, .regs] s t ∧ f ∉ t.dev.ring.flights ∧
        let m : Nat := s.dev.rf (curdOff n + 0x18) 9 8
        (s.dev.wheyCan m = true → s.dev.ring.shut.toNat.testBit m = false → s.dev.ring.wait = [] →
          .whey m (s.dev.wheyTail m) (s.dev.wheyAddr m) (entryOfBytes p.payload) ∈ t.dev.out))) ∧
    (here 3 → s.dev.isRoot = true → Does (.pktEvt k r) s (fun t => KeepsBut [] s t ∧
      (s.dev.wheyCan s.dev.evtRing = true → s.dev.ring.owed = false → s.dev.ring.wait = [] →
        .whey s.dev.evtRing (s.dev.wheyTail s.dev.evtRing) (s.dev.wheyAddr s.dev.evtRing) (entryOfBytes p.payload) ∈ t.dev.out))) ∧
    (here 4 → leAt p.payload 0 2 % 4 = 0 →
      let off : Nat := leAt p.payload 0 2
      (∀ u, s.dev.setupWrite (p.src.setWidth 16) off (BitVec.ofNat 32 (leAt p.payload 4 4)) (BitVec.ofNat 32 (leAt p.payload 8 4)) = (.ok, u) →
        Does (.pktSetw k r) s (fun t => t.rind = s.rind ∧ t.pending = s.pending ∧ (∀ o, noteReg o = false →
          t.dev.force o = u.force o ∧ t.dev.written o = u.written o))) ∧
      (∀ st u, st ≠ .ok →
        s.dev.setupWrite (p.src.setWidth 16) off (BitVec.ofNat 32 (leAt p.payload 4 4)) (BitVec.ofNat 32 (leAt p.payload 8 4)) = (st, u) →
        Does (.pktSetw k r) s (fun t => t.rind = s.rind ∧ (u.wheyCan u.evtRing = true → u.ring.owed = false → u.ring.wait = [] →
          .whey u.evtRing (u.wheyTail u.evtRing) (u.wheyAddr u.evtRing)
            ⟨1, BitVec.ofNat 8 st.code, 0x0001, u.short, BitVec.ofNat 48 (off + 65536 * p.src.toNat)⟩ ∈ t.dev.out)))) ∧
    (good 0x10 2 → calm → k = 0 → s.dev.isRoot = false → BitVec.ofNat 16 (leAt p.payload 0 2) ≠ s.dev.hoop.epoch →
      Does (.enumStart k r) s (fun t => KeepsBut wide s t ∧ t.dev.hoop.epoch = BitVec.ofNat 16 (leAt p.payload 0 2) ∧
        t.dev.hoop.enumBusy = true ∧ t.dev.hoop.dup = false ∧ t.dev.hoop.asked = s.dev.childPorts)) ∧
    (good 0x11 2 → calm → epochOk → s.dev.hoop.asked.contains k.val = true → s.dev.hoop.enumN.isSome = true →
      Does (.enumCount k r) s (fun t => KeepsBut [.hoop] s t ∧ (t.dev.portOf k).count = some (leAt p.payload 2 2))) ∧
    (good 0x11 2 → calm → epochOk → s.dev.hoop.asked = [k.val] → s.dev.hoop.enumN = none → k ≠ 0 → s.dev.isRoot = false →
      Does (.enumCount k r) s (fun t => KeepsBut wide s t ∧ t.dev.hoop.enumN = some (1 + leAt p.payload 2 2))) ∧
    (good 0x12 2 → calm → epochOk → k = 0 → s.dev.isRoot = false → Does (.enumAssign k r) s (fun t => KeepsBut wide s t ∧
      (s.dev.rb 0x7000 5 = false → t.dev.rf 0x7008 11 0 = if leAt p.payload 2 2 ≤ 0xFFE then leAt p.payload 2 2 else 0xFFF) ∧
      (s.dev.rb 0x7000 5 = true → t.dev.rf 0x7008 11 0 = s.dev.rf 0x7008 11 0))) ∧
    (here 0x13 → calm → epochOk → s.dev.isRoot = true →
      (∀ n, s.dev.hoop.enumN = some n → s.dev.hoop.enumRecs.length + 2 < n → Does (.enumRec k r) s (fun t => KeepsBut wide s t ∧
        t.dev.hoop.enumRecs = s.dev.hoop.enumRecs ++ [recOf k p] ∧ t.dev.hoop.enumBusy = true)) ∧
      (∀ n, s.dev.hoop.enumN = some n → n ≤ s.dev.hoop.enumRecs.length + 2 → s.dev.hoop.enumWant = false →
        Does (.enumRec k r) s (fun t => KeepsBut wide s t ∧ t.dev.hoop.enumBusy = false ∧
          t.dev.hoop.found = s.dev.hoop.enumRecs.length + 2 ∧
          t.dev.hoop.dups = (dupIds (s.dev.hoop.enumRecs ++ [recOf k p])).length ∧
          ∀ f ∈ t.dev.ring.flights, f.await ≠ .enumEnd s.dev.hoop.epoch))) ∧
    (good 0x14 1 → calm → s.dev.isRoot = false → s.dev.ownId p.src = false → Does (.enumEnd k r) s (fun t =>
      KeepsBut wide s t ∧ t.dev.hoop.enumBusy = false ∧ t.dev.hoop.leadMin = byteAt p.payload 2 ∧
      (t.dev.hoop.dup = true ↔ s.dev.hoop.dup = true ∨
        ∃ i < min 14 (byteAt p.payload 3), leAt p.payload (4 + 2 * i) 2 = s.dev.hoopId.toNat))) ∧
    (here 0x15 → calm → s.dev.isRoot = true → Does (.enumReq k r) s (fun t => KeepsBut [.hoop] s t ∧ t.dev.hoop.enumAuto = true)) ∧
    (s.dev.enumTmoDue = true → s.dev.hoop.enumWant = false → Does .enumTimeout s (fun t => KeepsBut wide s t ∧
      t.dev.hoop.enumBusy = false ∧ t.dev.rb 0x7010 10 = true ∧ t.dev.hoop.found = s.dev.hoop.enumRecs.length + 1 ∧
      ∀ f ∈ t.dev.ring.flights, f.await ≠ .enumEnd s.dev.hoop.epoch))

/-! ### The twin -/

/-- A valid heartbeat shows the partner; two active units end in one; the third missed heartbeat, a fault pin that has read low for 32 ticks or a fault bit makes the shadow of a
running unit ask for a takeover, or, where it may not, report LINK_LOST; a takeover asked for on a tick is carried out at its end, with a higher
epoch, while the unit is still a shadow in mode SHADOW; a mirror frame in sequence is applied, and another one asks for a full image (R81, R344 to
R358).
That the third missed heartbeat forgets the partner, and what is forgotten at takeover, follow log entry 46; the mirror image and its deltas log entries 43 and 44;
HOLD that stays on the loser of a split log entry 63. -/
def Obligations.TwinHeartbeatsAndMirror : Prop :=
  ∀ (s : State),
    let tw : Twin := s.dev.twin
    let takes (t : State) : Prop := t.rind = s.rind ∧ t.dev.twin.role = .active ∧ t.dev.pwr.mode = .run ∧
      t.dev.twin.epoch = BitVec.ofNat 32 (max tw.epoch.toNat tw.pEpoch.toNat + 1) ∧ t.dev.twin.takeBusy = true ∧ t.dev.twin.takeDue = false ∧
      t.dev.twin.strStart = BitVec.allOnes 16 ∧ t.dev.rb 0x7810 0 = true ∧ t.dev.ozh.fc = tw.secFc.toNat + 2 ^ 20 ∧
      (∀ key, tw.secKey = some key → t.dev.ozh.keyIdx.setWidth 8 = key) ∧ (∀ n < 6, (t.dev.carOf n).acc = 0) ∧
      (tw.current = false → t.dev.rb 0x7810 3 = true) ∧ Tells 0x0A01 ((max tw.epoch.toNat tw.pEpoch.toNat + 1) % 2 ^ 32) s t
    let asks (t : State) : Prop := t.rind = s.rind ∧ t.dev.twin.takeDue = true ∧ t.dev.twin.role = .shadow ∧ t.dev.pwr = s.dev.pwr ∧
      t.dev.twin.swapAt = none
    let may : Prop := tw.role = .shadow ∧ s.dev.pwr.mode = .shadow
    let enabled : Prop := s.dev.rb 0x7800 6 = true ∧ (tw.pMode = 3 ∨ tw.pMode = 5)
    let loses (t : State) : Prop := t.rind = s.rind ∧ t.dev.twin.role = .shadow ∧ t.dev.pwr = s.dev.pwr ∧ t.dev.rb 0x7810 2 = true
    (s.dev.twinOn = true → ∀ c : SyncRx,
      let b : Nat := byteAt c.bytes 2
      let seen (t : State) : Prop := t.dev.twin.pRole = tRoleOf (b % 4) ∧ t.dev.twin.pFault = bitOf b 2 ∧
        t.dev.twin.pCurrent = bitOf b 3 ∧ t.dev.twin.pResync = bitOf b 4 ∧ t.dev.twin.pMode = b / 32 ∧
        t.dev.twin.pEpoch = BitVec.ofNat 32 (leAt c.bytes 13 4) ∧ t.dev.twin.pId = BitVec.ofNat 12 (leAt c.bytes 17 2) ∧
        t.dev.twin.pEui = BitVec.ofNat 64 (leAt c.bytes 19 8) ∧ t.dev.twin.goodHb = min 3 (tw.goodHb + 1) ∧
        t.dev.twin.partner = (tw.partner || decide (3 ≤ tw.goodHb + 1)) ∧ t.dev.twin.lastHb = some s.dev.clk.now ∧
        t.dev.twin.missed = 0 ∧ t.dev.twin.lastCap = some (16 * s.dev.clk.now + c.frac16.toNat)
      (hbValid c = true → Does (.heartbeat c) s (fun t => seen t ∧ t.rind = s.rind)) ∧
      (hbValid c = true → tw.role = .unpaired → s.dev.rb 0x7800 7 = false → Does (.heartbeat c) s (KeepsBut [.twin] s)) ∧
      (hbValid c = false → Does (.heartbeat c) s (fun t => KeepsBut [.twin] s t ∧
        t.dev.twin.goodHb = if tw.partner then tw.goodHb else 0)) ∧
      (hbValid c = true → tw.role = .active → b % 4 = 1 →
        let pe : Nat := leAt c.bytes 13 4
        (pe < tw.epoch.toNat → Does (.heartbeat c) s (fun t => t.dev.twin.role = .active ∧ t.dev.pwr = s.dev.pwr ∧
          t.dev.rb 0x7810 1 = true ∧ Tells 0x0A02 tw.epoch.toNat s t)) ∧
        (tw.epoch.toNat < pe → Does (.heartbeat c) s (fun t => t.dev.twin.role = .shadow ∧
          t.dev.pwr.mode = (if s.dev.pwr.mode = .hold then .hold else .shadow) ∧
          t.dev.pins.drive = 0 ∧ (∀ n < 16, (t.dev.strOf n).switching = false) ∧ t.dev.mtx.driving = false ∧
          (∀ n < 12, (t.dev.ripOf n).run = false) ∧ t.dev.rb 0x7810 1 = true ∧ Tells 0x0A02 tw.epoch.toNat s t))) ∧
      (hbValid c = true → may → bitOf b 2 = true → tw.pFault = false ∨ s.dev.rb 0x7800 6 = true →
        (s.dev.rb 0x7800 6 = true → b / 32 = 3 ∨ b / 32 = 5 → Does (.heartbeat c) s asks) ∧
        (¬(s.dev.rb 0x7800 6 = true ∧ (b / 32 = 3 ∨ b / 32 = 5)) → Does (.heartbeat c) s loses))) ∧
    (s.dev.twinOn = false → ∀ c, s.dev.hears 2 = false → Does (.heartbeat c) s (KeepsBut [] s)) ∧
    (s.dev.hbMissDue = false → Does .heartbeatMissed s (KeepsBut [] s)) ∧
    (s.dev.hbMissDue = true →
      (tw.missed ≠ 2 → Does .heartbeatMissed s (fun t => KeepsBut [.twin] s t ∧ t.dev.twin.missed = tw.missed + 1 ∧
        t.dev.twin.goodHb = 0 ∧ t.dev.twin.role = tw.role)) ∧
      (tw.missed = 2 → tw.role = .unpaired → Does .heartbeatMissed s (fun t => KeepsBut [.twin, .clk, .regs] s t ∧
        t.dev.twin.partner = false ∧ t.dev.twin.missed = 3)) ∧
      (tw.missed = 2 → may → enabled → Does .heartbeatMissed s (fun t => asks t ∧ t.dev.twin.partner = false)) ∧
      (tw.missed = 2 → may → ¬enabled → Does .heartbeatMissed s loses) ∧
      (tw.missed = 2 → tw.role = .active → Does .heartbeatMissed s (fun t => t.rind = s.rind ∧ t.dev.twin.role = .active ∧
        t.dev.twin.partner = false ∧ t.dev.rb 0x7810 2 = true ∧ t.dev.twin.swapAt = none))) ∧
    (
      let low : Prop := s.dev.coreOn = true ∧ s.dev.rb 0x7800 5 = true ∧ 32 ≤ tw.pfltCnt
      (low → may → enabled → Does .pfltLow s asks) ∧
      (low → may → ¬enabled → tw.pfltCnt = 32 → Does .pfltLow s loses) ∧
      (¬low ∨ tw.pfltCnt ≠ 32 ∧ ¬(may ∧ enabled) → Does .pfltLow s (KeepsBut [] s))) ∧
    (tw.takeDue = true → s.dev.pwr.asked = none → (∀ f ∈ s.dev.ring.flights, f.modeAsked = none) →
      let t : State := { s with dev := s.dev.arbitrate.settle }
      (may → takes t) ∧ (¬may → KeepsBut [.twin] s t ∧ t.dev.twin.takeDue = false ∧ t.dev.twin.role = tw.role)) ∧
    (s.dev.twinOn = false ∨ ¬may → ∀ recs mseq empty done good, Does (.mirrorFrameEnd recs mseq empty done good) s (KeepsBut [] s)) ∧
    (s.dev.twinOn = true → may → ∀ (recs : List MirRec) (mseq : BitVec 32) (empty done : Bool),
      (tw.fresh = true ∨ mseq = tw.mseq + 1 → Does (.mirrorFrameEnd recs mseq empty done true) s (fun t =>
        t.rind = s.rind ∧ t.dev.pwr = s.dev.pwr ∧ t.dev.twin.mseq = mseq ∧ t.dev.twin.ackSeq = mseq ∧ t.dev.twin.fresh = false ∧
        t.dev.twin.current = ((tw.synced || done) && empty) ∧ t.dev.twin.resync = (tw.resync && !done) ∧
        (∀ first ws, recs = [.cult first ws] → ∀ i (h : i < ws.length), first + i < 8192 → t.dev.cultWord (first + i) = ws[i]) ∧
        (∀ first cs, recs = [.chan first cs] → ∀ i (h : i < cs.length), first + i < 1040 →
          (t.dev.chanOf (first + i)).step = cs[i].1 ∧ (t.dev.chanOf (first + i)).shift = cs[i].2.2 ∧
          t.dev.ownerOf (first + i) = cs[i].2.1.toNat) ∧
        (∀ fc key, recs = [.sec fc key] → t.dev.twin.secFc = fc ∧ t.dev.twin.secKey = some key) ∧ ∀ b, recs = [.swap b] → t.dev.twin.swapAt = some b)) ∧
      ∀ good : Bool, good = false ∨ tw.fresh = false ∧ mseq ≠ tw.mseq + 1 → Does (.mirrorFrameEnd recs mseq empty done good) s (fun t =>
        KeepsBut [.twin, .regs] s t ∧ t.dev.twin.resync = true ∧ t.dev.twin.current = false ∧ t.dev.twin.fresh = true ∧
        t.dev.rb 0x7810 4 = true))

/-! ### Ozhild -/

/-- A frame that passes its checks on the air acts once: data reaches the host or is relayed with one hop less, a descriptor enters ring LR or is answered FULL, a command of
Table OZH-4 does what it says on its receiver, a parent's beacon is taken, a joiner is answered, and an acknowledgement ends the attempt. What each
check leaves (`rxFrame`, `judgeFrame`, `fastFrom`) is the state from which the effect is counted (R362, R365 to R368, R374 to R379, R385 to R396).
JOIN_RSP's fields, relaying and the candidate parent follow log entries 40 to 42. -/
def Obligations.ReceivedRadioFramesAct : Prop :=
  ∀ (s : State) (rx : RadioRx) (r : OzRx) (u : Dev),
    let w : State := { s with dev := u }
    let c : List Byte := r.clear
    let heard (i : Instr) (areas : List Area) (P : State → Prop) : Prop := Does i s (fun t => KeepsBut areas w t ∧ P t)
    let own : Prop := netFinal c = u.ozhAddr
    let cmd (code : Nat) : Prop := r.type = 3 ∧ isCmd code c = true ∧ own
    let unicast : Prop := leAt rx.psdu 1 2 ≠ 0xFFFF
    let aired (type : Nat) (pend : Bool) (t : State) : Prop := ∃ psdu, byteAt psdu 0 % 8 = type ∧ bitOf (byteAt psdu 0) 4 = pend ∧
      (psdu.drop 1).take 4 = leBytes r.src.toNat 2 ++ leBytes u.ozhAddr.toNat 2 ∧
      .radio u.ozh.chan (((rx.start : Int) - u.ozh.slotAt).toNat + airTicks rx.psdu.length + 8192) (signed (u.rf 0x8000 15 8) 8)
        u.accessWord psdu (crc24 psdu) ∈ t.dev.out
    (s.dev.rxOpen rx = true → crc24 rx.psdu ≠ rx.crc → ∀ i ∈ [Instr.data rx, .descFrame rx, .poll rx, .childInfo rx, .routeSet rx,
      .leave rx, .rekeyReq rx, .ozhCpl rx], Does i s (fun t => KeepsBut [.ozh] s t ∧
        t.dev.ozh = { s.dev.ozh with crcErr := satInc s.dev.ozh.crcErr })) ∧
    (s.dev.rxFrame rx 0 = (some r, u) → r.dup = false → r.ackReq = true → unicast → cmd 3 → u.maySend = true →
      Does (.poll rx) s (aired 2 (u.holdsFor r.src)) ∧ (u.holdsFor r.src = true → Does (.poll rx) s (fun t =>
        t.dev.ozh.follow = some (u.ozh.slotAsn + 1, r.src, u.ozh.chofs, true)))) ∧
    (s.dev.rxFrame rx 0 = (some r, u) → r.dup = false → r.ackReq = false → r.pend = false →
      (r.type = 1 → 16 ≤ byteAt c 4 → Does (.data rx) s (KeepsBut [] s)) ∧
      (r.type = 1 → byteAt c 4 < 16 → ¬own → netFinal c = 0xFFFF → netOrig c = u.ozhAddr →
        heard (.data rx) [.ozh] (fun t => t.dev.ozh = (u.noteFc r).ozh)) ∧
      (r.type = 1 → byteAt c 4 < 16 → own → heard (.data rx) [.ozh] (fun t => t.dev.ozh = (u.noteFc r).ozh ∧
        Tells (0xB10 + (c.length - 5)) ((netOrig c).toNat + 65536 * leAt (c.drop 5) 0 (c.length - 5)) w t)) ∧
      (∀ a, r.type = 1 → byteAt c 4 < 16 → ¬own → netFinal c ≠ 0xFFFF → u.ozhRole ≠ 2 → unicast →
        (netHops c ≤ 1 → heard (.data rx) [.ozh, .regs] (fun t => t.dev.ozh.queue = u.ozh.queue ∧
          t.dev.ozh.hopDrop = satInc u.ozh.hopDrop ∧ t.dev.rb 0x800C 9 = true)) ∧
        (1 < netHops c → u.nextHop (netFinal c) = .to a → u.isSleepyChild a = false → u.ozh.queue.length < Config.ozhQueueDepth →
          heard (.data rx) [.ozh] (fun t => t.dev.ozh.queue =
            u.ozh.queue ++ [⟨a, 1, true, withHops c (netHops c - 1), none, 0, u.macLimit, 0, none, none, none, none⟩])) ∧
        (1 < netHops c → u.nextHop (netFinal c) = .drop → heard (.data rx) [.ozh] (fun t => t.dev.ozh = (u.noteFc r).ozh))) ∧
      (r.type = 4 → own → isAirDesc c = true → netFinal c ≠ 0xFFFF →
        (u.ring.lr.length < 64 → heard (.descFrame rx) [.ozh, .ring] (fun t => t.dev.ozh = (u.noteFc r).ozh ∧
          t.dev.ring.lr = u.ring.lr ++ [⟨.lr, .radio (netOrig c), descOfAir c, 0, none, false⟩])) ∧
        (64 ≤ u.ring.lr.length → heard (.descFrame rx) [.ozh, .regs] (fun t => t.dev.ring.lr = u.ring.lr ∧
          ∀ a, u.maySend = true → netOrig c ≠ 0xFFFF → u.nextHop (netOrig c) = .to a → u.isSleepyChild a = false →
            u.ozh.queue.length < Config.ozhQueueDepth → t.dev.ozh.queue = u.ozh.queue ++ [⟨a, 3, true,
              netHeader u.ozhAddr (netOrig c) 8 ++ [0x10] ++
                Entry.bytes ⟨0, BitVec.ofNat 8 Status.full.code, BitVec.ofNat 16 (leAt c 7 2), u.short, 0⟩,
              none, 0, u.macLimit, 0, none, none, none, none⟩]))) ∧
      (cmd 3 → heard (.poll rx) [.ozh] (fun t => t.dev.ozh = (u.noteFc r).ozh)) ∧
      (cmd 4 → let a : Nat := leAt c 14 2
        a ≠ r.src.toNat → heard (.childInfo rx) [.ozh] (fun t =>
          let x : Nbr := t.dev.nbrOf (BitVec.ofNat 16 a)
          x.known = true ∧ x.eui = BitVec.ofNat 64 (leAt c 6 8) ∧ x.session = BitVec.ofNat 32 (leAt c 16 4) ∧ x.role = byteAt c 20 ∧
            x.fcNow = none ∧ x.fcOld = none)) ∧
      (cmd 5 → leAt c 6 2 < 512 → heard (.routeSet rx) [.ozh] (fun t =>
        tabGet noRoute t.dev.ozh.routes (leAt c 6 2) = routeOfBytes (c.drop 8) ∧
        ∀ i, i ≠ leAt c 6 2 → tabGet noRoute t.dev.ozh.routes i = tabGet noRoute u.ozh.routes i)) ∧
      (cmd 6 → u.isCoord = true → u.flt.dbgHalt = false → heard (.leave rx) [.ozh, .regs] (fun t =>
        t.dev.ozh.nodes = u.ozh.nodes.filter (fun x => x.short ≠ netOrig c))) ∧
      (cmd 6 → u.isCoord = true → u.flt.dbgHalt = true → heard (.leave rx) [.ozh] (fun t =>
        t.dev.ozh.nodes = u.ozh.nodes ∧ t.dev.ozh.leaves = u.ozh.leaves ++ [netOrig c])) ∧
      (cmd 7 → u.isCoord = true → u.rb 0x8000 4 = true → u.flt.dbgHalt = false → u.ozh.switch = none →
        heard (.rekeyReq rx) [.ozh] (fun t => t.dev.ozh.switch = some ⟨u.asn + 32768, none⟩)) ∧
      (cmd 16 → Does (.ozhCpl rx) s (fun t => ∀ f ∈ t.dev.ring.flights, f ∈ u.ring.flights ∧
        (f.job.d.target.toNat / 4096 = 2 → f.job.d.seq.toNat = leAt c 8 2 → ∀ a b, f.await ≠ .remote a b))) ∧
      (r.type = 0 → byteAt c 9 < 16 → s.dev.seeking = false → r.src = u.ozh.parent → u.isCoord = false → heard (.beacon rx) [.ozh, .tempo] (fun t =>
        let at_ : Nat := switchAsn (leAt c 0 5) (leAt c 12 2)
        t.dev.ozh.sfLen = leAt c 7 2 ∧ t.dev.ozh.rssi = rx.rssi ∧ t.dev.ozh.depth = BitVec.ofNat 8 (byteAt c 10 + 1) ∧
        t.dev.ozh.parentJoin = (if bitOf (byteAt c 9) 0 then some (leAt c 0 5 + 1, u.ozh.chofs) else none) ∧
        (bitOf (byteAt c 9) 3 = true → t.dev.ozh.block = u.ozh.block ∧
          t.dev.ozh.switch = some ⟨at_, some (BitVec.ofNat 40 (leAt c 14 5))⟩) ∧
        (bitOf (byteAt c 9) 3 = false → t.dev.ozh.block = BitVec.ofNat 40 (leAt c 14 5) ∧
          t.dev.ozh.switch = if bitOf (byteAt c 9) 2 then some ⟨at_, none⟩ else none) ∧
        (bitOf (byteAt c 9) 1 = false → t.dev.tempo = u.tempo))) ∧
      (∀ q qs, r.type = 3 → byteAt c 0 = 2 → c.length = 32 → leAt rx.psdu 1 2 ≠ 0xFFFE → u.ozh.joinPend = q :: qs → q.child = 0xFFFE →
        heard (.joinRsp rx) [.ozh] (fun t => t.dev.ozh.joinPend = qs ∧
          t.dev.ozh.joinRsps = u.ozh.joinRsps ++ [(q, putBytes c 28 (leBytes u.ozh.session.toNat 4))]))) ∧
    (s.dev.seeking = true → s.dev.rxOpen rx = true → rx.psdu.length = 48 → byteAt rx.psdu 0 % 8 = 0 → crc24 rx.psdu = rx.crc →
      let b : List Byte := (rx.psdu.drop 8).take 36
      let src : BitVec 16 := BitVec.ofNat 16 (leAt rx.psdu 3 2)
      s.dev.flt.dbgHalt = false → byteAt b 9 < 16 → leAt b 5 2 = s.dev.meshId → bitOf (byteAt b 9) 0 = true → byteAt b 10 < 8 → s.dev.ozh.rescanAt = none → s.dev.ozh.jk.isSome = true →
      (s.dev.ozh.joinParent = none → Does (.beacon rx) s (fun t => KeepsBut [.ozh] s t ∧ t.dev.ozh.joinParent = some src ∧
        t.dev.ozh.joinBeacons = 1 ∧ t.dev.ozh.joinDepth = byteAt b 10 ∧ t.dev.ozh.sfLen = leAt b 7 2 ∧
        t.dev.ozh.asnOfs = (leAt b 0 5 : Int) - ((rx.start / 98304 : Nat) : Int))) ∧
      (∀ t0 a0, s.dev.ozh.joinParent = some src → s.dev.ozh.joinBeacons = 7 → s.dev.ozh.joinFc = none → s.dev.ozh.joinLast = some (t0, a0) →
        (((rx.start : Int) - t0) - ((leAt b 0 5 : Int) - a0) * 98304).natAbs ≤ 2048 →
        Does (.beacon rx) s (fun t => KeepsBut [.ozh] s t ∧ t.dev.ozh.joinBeacons = 8 ∧
          t.dev.ozh.joinTx = some (rx.start + 98304, src, t.dev.chofsOf (leAt b 0 5) s.dev.ozh.chan)))) ∧
    (∀ b, leAt rx.psdu 3 2 = 0xFFFE → s.dev.rxOpen rx = true → leAt rx.psdu 1 2 = s.dev.ozhAddr.toNat → byteAt rx.psdu 0 % 8 = 3 →
      crc24 rx.psdu = rx.crc → s.dev.haveKey = true → s.dev.flt.dbgHalt = false →
      let eui : BitVec 64 := BitVec.ofNat 64 (leAt (rx.psdu.drop 8) 1 8)
      let fc : Nat := leAt rx.psdu 5 3
      ozOpen (joinKey (s.dev.ozh.nk.getD 0) eui) (ozNonce eui fc 1) 1 (rx.psdu.take 8) (rx.psdu.drop 8) = some b →
      byteAt b 0 = 1 → b.length = 13 →
      let q : JoinReq := ⟨eui, fc, 0xFFFE⟩
      let refused (n : Nat) : Prop := Does (.joinReq rx) s (fun t => KeepsBut [.ozh] s t ∧
        t.dev.ozh = { s.dev.ozh with joinRsps := s.dev.ozh.joinRsps ++ [(q, joinRefusal n)] })
      let fresh : Prop := s.dev.ozh.nodes.find? (fun x => x.eui = eui) = none
      (s.dev.isCoord = true → s.dev.rb 0x8000 3 = false → refused 3) ∧
      (s.dev.isCoord = true → s.dev.rb 0x8000 3 = true → fresh → 1024 ≤ s.dev.ozh.nodes.length → refused 1) ∧
      (s.dev.isCoord = true → s.dev.rb 0x8000 3 = true → fresh → s.dev.ozh.nodes.length < 1024 →
        let a : BitVec 16 := joinAddr s.dev.ozh.nodes eui (BitVec.ofNat 16 (leAt b 11 2))
        let ses : Word := s.dev.ozh.sessionCtr + 1
        (addRoute s.dev.ozh.routes 0 a a).isSome = true → Does (.joinReq rx) s (fun t => KeepsBut [.ozh] s t ∧
          t.dev.ozh.nodes.head? = some ⟨eui, a, ses, byteAt b 10, 0⟩ ∧ t.dev.ozh.sessionCtr = ses ∧ Tells 0xB01 a.toNat s t ∧
          t.dev.ozh.joinRsps = s.dev.ozh.joinRsps ++ [(q, [2, 0] ++ leBytes a.toNat 2 ++ leBytes ses.toNat 4 ++
            leBytes s.dev.ozh.keyIdx.toNat 4 ++ beBytes (s.dev.ozh.nk.getD 0).toNat 16 ++ leBytes s.dev.ozh.session.toNat 4)])) ∧
      (s.dev.isCoord = false → s.dev.ozh.st = 3 → s.dev.ozh.queue.length < Config.ozhQueueDepth →
        Does (.joinReq rx) s (fun t => KeepsBut [.ozh] s t ∧ t.dev.ozh.joinPend = s.dev.ozh.joinPend ++ [q] ∧ t.dev.ozh.queue =
          s.dev.ozh.queue ++ [⟨s.dev.ozh.parent, 3, true, [1] ++ b.drop 1, none, 0, s.dev.macLimit, 0, none, none, none, none⟩]))) ∧
    (∀ jk fc b, leAt rx.psdu 1 2 = 0xFFFE → s.dev.ozh.jk = some jk → s.dev.ozh.joinFc = some fc → s.dev.rxOpen rx = true →
      byteAt rx.psdu 0 % 8 = 3 → crc24 rx.psdu = rx.crc →
      ozOpen jk (ozNonce s.dev.ozhEui fc 5) 5 (rx.psdu.take 8) (rx.psdu.drop 8) = some b → byteAt b 0 = 2 → b.length = 32 →
      (s.dev.flt.dbgHalt = true → Does (.joinRsp rx) s (fun t => KeepsBut [.ozh] s t ∧
        t.dev.ozh = { s.dev.ozh with rspLater := some (b, BitVec.ofNat 16 (leAt rx.psdu 3 2)) })) ∧
      (s.dev.flt.dbgHalt = false → byteAt b 1 = 0 → Does (.joinRsp rx) s (fun t => KeepsBut [.ozh, .free] s t ∧
        let z : Ozh := t.dev.ozh
        z.st = 3 ∧ z.short = BitVec.ofNat 16 (leAt b 2 2) ∧ z.session = BitVec.ofNat 32 (leAt b 4 4) ∧
        z.keyIdx = BitVec.ofNat 32 (leAt b 8 4) ∧ z.nk = some (BitVec.ofNat 128 (beVal ((b.drop 12).take 16))) ∧ z.fc = 0 ∧
        z.parent = BitVec.ofNat 16 (leAt rx.psdu 3 2) ∧ z.depth = BitVec.ofNat 8 (s.dev.ozh.joinDepth + 1) ∧
        Tells 0xB01 (leAt b 2 2 % 65536) s t)) ∧
      (s.dev.flt.dbgHalt = false → byteAt b 1 ≠ 0 → Does (.joinRsp rx) s (fun t => KeepsBut [.ozh, .regs] s t ∧ t.dev.ozh.st = 1 ∧ t.dev.ozh.joinFc = none ∧
        t.dev.ozh.rescanAt = some (s.dev.asn + 65536) ∧ t.dev.rb 0x800C 8 = true))) ∧
    (∀ a due shared f, s.dev.ozh.await = some (a, due, shared) → s.dev.awaited = some f → crc24 rx.psdu = rx.crc →
      psduFits rx.psdu.length (byteAt rx.psdu 0 % 8) (byteAt rx.psdu 0) = true → byteAt rx.psdu 0 % 8 = 2 →
      BitVec.ofNat 16 (leAt rx.psdu 3 2) = a → leAt rx.psdu 1 2 = s.dev.ozhAddr.toNat → rx.access = s.dev.accessWord →
      ((rx.start : Int) - due).natAbs ≤ 512 + min s.dev.predErr 49152 → byteAt c 2 < 2 →
      s.dev.judgeFrame a 2 (byteAt rx.psdu 0) 1 (rx.psdu.take 8) (rx.psdu.drop 8) (leAt rx.psdu 5 3) = (some r, u) →
      (bitOf (byteAt c 2) 0 = false → Does (.ack rx) s (fun t => t.dev.ozh.await = none ∧ t.dev.beOf a = t.dev.rf 0x801C 6 4 ∧
        (s.dev.ozh.queue.count f ≤ 1 → f ∉ t.dev.ozh.queue) ∧
        (r.pend = true → t.dev.ozh.follow = some (u.ozh.slotAsn + 1, a, u.ozh.chofs, false)))) ∧
      (bitOf (byteAt c 2) 0 = true → Does (.ack rx) s (fun t => t.dev.ozh.await = none ∧
        (f.tries < f.limit → s.dev.ozh.queue <+: t.dev.ozh.queue ∧ s.dev.ozh.held <+: t.dev.ozh.held)))) ∧
    (∀ l i, s.dev.ozh.slotKind = 7 → s.dev.laneOf rx.start = some l →
      (s.dev.cellsAt (s.dev.ozh.slotAsn % s.dev.sfLen)).find? (fun i => s.dev.cellKind i = 7 && s.dev.rf (cellOff i) 21 20 = l) =
        some i → s.dev.fastFrom rx 5 5 (s.dev.cellNbr i) = (some r, u) →
      (r.dup = true → heard (.fast rx) [.ozh] (fun t => t.dev.ozh = { u.ozh with lanes := u.ozh.lanes ||| BitVec.ofNat 4 (2 ^ l) })) ∧
      (r.dup = false → heard (.fast rx) [.rip, .tempo, .clr, .ozh, .regs] (fun t =>
        t.dev.ozh.lanes = u.ozh.lanes ||| BitVec.ofNat 4 (2 ^ l) ∧
        (u.tempoSrc ≠ 2 → u.rb 0x8024 27 = true →
          Tells 0xB12 ((s.dev.cellNbr i).toNat + 65536 * byteAt c 0 + 2 ^ 24 * byteAt c 1) w t)))) ∧
    ∀ l, s.dev.ozh.txLanes ≠ 0 → ((rx.start : Int) - (s.dev.ozh.slotAt + 81920 : Nat)).natAbs ≤ 1024 + min s.dev.predErr 49152 →
      s.dev.fastFrom rx 6 1 s.dev.ozh.parent = (some r, u) → byteAt c 0 < 16 → u.ozh.fastSent = some l → Does (.fastAck rx) s (fun t =>
        if bitOf (byteAt c 0) l then t.dev.ozh.fastSent = none ∧ t.dev.ozh.fastQ = u.ozh.fastQ.drop 1
        else t.dev.ozh.fastSent = some l ∧ t.dev.ozh.fastQ = u.ozh.fastQ)

/-- A slot begins with its live fields and takes the action of its entry: off, listening, a beacon, a frame of its queue or a scan; a joiner asks in its parent's join cell. Then its timers: an ACK window that
closes fails the attempt, a silent parent is lost, a join is repeated or begun again, a held frame expires, and an announced key index or block mask takes
over (R369 to R376, R384 to R386, R393, R396, R400).
Random draws are free values, log entry 40; spans and SHARED cells follow log entry 41; an entry whose condition does not hold changes nothing, log entry 4. -/
def Obligations.RadioSlotsAndTimersAct : Prop :=
  ∀ s : State,
    let z : Ozh := s.dev.ozh
    let asn : Nat := s.dev.asn
    let start : Nat := s.dev.wheelN - s.dev.wheelN % 98304
    let does (P : State → Prop) : Prop := Does .slotStart s (fun t =>
      t.dev.isServed .slot = true ∧ t.dev.ozh.slotAt = start ∧ (z.busy = true → t.dev.ozh.slotAsn = asn) ∧ P t)
    (s.dev.slotDue = false → Does .slotStart s (KeepsBut [] s)) ∧
    (s.dev.slotDue = true →
      does (fun t => ∀ off ∈ s.dev.regs.live.map Prod.fst, noteReg off = false → off ≠ 0x800C → off ≠ 0x42C →
        t.dev.force off = takeFields (Fld.liveOn (fun g => g = .slot)) (s.dev.writtenBefore off) (s.dev.force off) (regFields off)) ∧
      (z.busy = false → s.dev.rb 0x8000 0 = false → bitOf (s.dev.writtenBefore 0x8000).toNat 0 = false →
        does (fun t => KeepsBut [.clk, .regs, .ozh] s t ∧ t.dev.ozh.slotKind = 0 ∧ t.dev.ozh.busy = false)) ∧
      (s.dev.regs.live = [] → s.dev.rb 0x8000 0 = true → s.dev.pwr.mode = .run → z.busy = false →
        (z.st = 3 → does (fun t => t.dev.ozh.busy = true ∧ t.dev.ozh.asnOfs = z.asnOfs)) ∧
        (z.st ≠ 3 → s.dev.isCoord = true → does (fun t => t.dev.ozh.busy = true ∧ t.dev.ozh.st = 3 ∧ t.dev.ozh.depth = 0 ∧
          t.dev.ozh.asnOfs = -((s.dev.wheelN / 98304 : Nat) : Int))) ∧
        (z.st ≠ 3 → s.dev.isCoord = false → z.jk.isSome = true → does (fun t => t.dev.ozh.busy = true ∧ t.dev.ozh.st = 1))) ∧
      (s.dev.regs.live = [] → s.dev.rb 0x8000 0 = true → s.dev.ozhOn = true → s.dev.pwr.mode ≠ .shadow → z.follow = none →
        z.joinCell = none → s.dev.pwr.dozeEvent = false →
        let sent (chan off : Nat) (psdu : List Byte) (t : State) : Prop :=
          .radio chan off (signed (s.dev.rf 0x8000 15 8) 8) s.dev.accessWord psdu (crc24 psdu) ∈ t.dev.out
        (∀ w p c, z.joinTx = some (w, p, c) → s.dev.seeking = true → s.dev.flt.dbgHalt = false → start ≤ w → w < start + 98304 →
          z.jk.isSome = true → s.dev.fcExhausted = false → s.dev.rb 0x8000 5 = false → does (fun t => t.dev.ozh.st = 2 ∧
            t.dev.ozh.joinFc = some z.fc ∧ t.dev.ozh.joinTx = none ∧ ∃ psdu, sent (s.dev.hopChan asn c) (w - start) psdu t ∧
            psdu.take 8 = [3] ++ leBytes p.toNat 2 ++ [0xFE, 0xFF] ++ leBytes z.fc 3 ∧
            (psdu.drop 8).take 13 = [1] ++ leBytes s.dev.ozhEui.toNat 8 ++ [3, BitVec.ofNat 8 s.dev.ozhRole] ++
              leBytes (s.dev.rf 0x8030 15 0) 2)) ∧
        (z.joinTx = none → let cells : List Nat := s.dev.cellsAt (asn % s.dev.sfLen)
        (∀ i ∈ cells, s.dev.cellKind i ≠ 6 ∧ s.dev.cellKind i ≠ 7) →
        (∀ i, cells.find? (fun i => s.dev.cellActs i) = some i →
          let ch : Nat := s.dev.cellChofs i
          let chan : Nat := s.dev.hopChan asn ch
          let talks : Prop := s.dev.mayTransmit 2048 = true ∧ s.dev.rb 0x8000 5 = false
          (s.dev.cellKind i = 2 ∨ s.dev.cellKind i = 5 → does (fun t => KeepsBut [.clk, .ozh] s t ∧
            t.dev.ozh.slotKind = s.dev.cellKind i ∧ t.dev.ozh.slotNbr = s.dev.cellNbr i ∧ t.dev.ozh.chofs = ch ∧ t.dev.ozh.chan = chan)) ∧
          (∀ f, s.dev.cellKind i = 1 → talks → s.dev.frameFor (s.dev.cellNbr i) = some f → f.ackReq = true →
            (f.fc = none → z.fc + 1 < 2 ^ 32 - 2 ^ 16) →
            let k : Nat × Nat := f.fc.getD (z.fc, z.keyIdx.toNat)
            let psdu : List Byte := s.dev.ownPsdu f.type f.nbr true false f.body k.1 k.2 (ozLevel f.type (s.dev.rb 0x8000 6))
            does (fun t => KeepsBut [.clk, .ozh] s t ∧ sent chan 4096 psdu t ∧
              { f with fc := some k, tries := f.tries + 1, busy := 0, last := some (start, asn, chan) } ∈ t.dev.ozh.queue ∧
              t.dev.ozh.fc = (if f.fc = none then z.fc + 1 else z.fc) ∧
              t.dev.ozh.await = some (f.nbr, start + 4096 + airTicks psdu.length + 8192, false) ∧
              tabGet 0 t.dev.ozh.chAtt chan = satInc (tabGet 0 z.chAtt chan))) ∧
          (s.dev.cellKind i = 4 → talks → does (fun t => t.dev.ozh.slotKind = 4 ∧ t.dev.ozh.joinCell = some (asn + 1, ch) ∧
            ∃ psdu, sent chan 4096 psdu t ∧
              psdu.take 8 = [fcf 0 false false false z.keyIdx.toNat, 0xFF, 0xFF] ++ leBytes s.dev.ozhAddr.toNat 2 ++ leBytes z.fc 3 ∧
              (psdu.drop 8).take 9 = leBytes asn 5 ++ leBytes s.dev.meshId 2 ++ leBytes s.dev.sfLen 2))) ∧
        (cells.find? (fun i => s.dev.cellActs i) = none → z.parentJoin = none → s.dev.seeking = true → does (fun t =>
          KeepsBut [.clk, .ozh, .free] s t ∧ t.dev.ozh.slotKind = 10 ∧ t.dev.ozh.chan < 40))))) ∧
    (s.dev.ackClosed = false → Does .ackWindowClose s (KeepsBut [] s)) ∧
    (s.dev.ackClosed = true → Does .ackWindowClose s (fun t => t.dev.ozh.await = none ∧ t.dev.ozh.noAck = satInc z.noAck ∧
      ∀ f, s.dev.awaited = some f → tabGet 0 t.dev.ozh.chFail z.chan = satInc (tabGet 0 z.chFail z.chan) ∧
        (f.tries < f.limit → t.dev.ozh.queue = z.queue ∧ t.dev.ozh.held = z.held) ∧
        (f.limit ≤ f.tries → f.heldAt = none → z.queue.count f ≤ 1 → f ∉ t.dev.ozh.queue))) ∧
    (s.dev.parentTmoDue = true → Does .parentTimeout s (fun t => KeepsBut [.clk, .regs, .ozh] s t ∧ t.dev.ozh.st = 4 ∧
      t.dev.rb 0x800C 0 = true ∧ Tells 0xB02 z.parent.toNat s t)) ∧
    (s.dev.parentTmoDue = false → Does .parentTimeout s (KeepsBut [] s)) ∧
    (s.dev.joinRetryDue = true → Does .joinRetry s (fun t => KeepsBut [.ozh] s t ∧
      t.dev.ozh = { z with joinFc := none, joinWait := none })) ∧
    (s.dev.joinRetryDue = false → Does .joinRetry s (KeepsBut [] s)) ∧
    (s.dev.rescanDue = true → Does .joinRescan s (fun t => KeepsBut [.ozh] s t ∧ t.dev.ozh = { z with rescanAt := none, st := 1 })) ∧
    (s.dev.rescanDue = false → Does .joinRescan s (KeepsBut [] s)) ∧
    (∀ f, s.dev.heldExpired = some f → s.dev.ozhOn = true → z.held.count f ≤ 1 →
      Does .heldFrameExpiry s (fun t => f ∉ t.dev.ozh.held)) ∧
    (s.dev.heldExpired = none ∨ s.dev.ozhOn = false → Does .heldFrameExpiry s (KeepsBut [] s)) ∧
    (s.dev.switchDue = false → Does .keySwitch s (KeepsBut [] s)) ∧
    (∀ w, s.dev.switchDue = true → z.switch = some w → Does .keySwitch s (fun t => KeepsBut [.ozh] s t ∧ t.dev.ozh.blockWait = none ∧
      (if z.rekeyLater = true ∧ s.dev.isCoord = true ∧ z.blockWait = none ∧ s.dev.flt.dbgHalt = false then
        t.dev.ozh.switch = some ⟨asn + 32768, none⟩ ∧ t.dev.ozh.rekeyLater = false
      else t.dev.ozh.switch = z.blockWait.map (fun m => ⟨asn + 32768, some m⟩) ∧ t.dev.ozh.rekeyLater = z.rekeyLater) ∧
      (w.block = none → t.dev.ozh.keyIdx = z.keyIdx + 1 ∧ t.dev.ozh.fc = 0 ∧ t.dev.ozh.prevUntil = some (asn + 65536) ∧
        t.dev.ozh.block = z.block) ∧
      ∀ m, w.block = some m → t.dev.ozh.block = m ∧ t.dev.ozh.keyIdx = z.keyIdx ∧ t.dev.ozh.fc = z.fc))

/-! ### The press -/

/-- A press gives every live field of the press grid the value written before this tick, latches and completes the descriptors that wait for it, passes a
mode request on to be judged at the end of the tick, and is copied to the always-on domain; with the CORE off only that copy is made, and off a press
nothing happens (R11, R80, R95, R154, R323).
A press that is not due changes nothing, log entry 4; a request whose press falls inside a transition is judged at the first press after its end, log
entry 21. -/
def Obligations.PressTakesLiveFieldsAndLatches : Prop :=
  ∀ s : State,
    (s.dev.pressDue = false → Does .pressBoundary s (KeepsBut [] s)) ∧
    (s.dev.pressDue = true → s.dev.coreOn = false → Does .pressBoundary s (fun t => KeepsBut [.clk, .pwr] s t ∧
      t.dev.pwr = { s.dev.pwr with wheelCopy := s.dev.clk.wheel } ∧ t.dev.clk.wheel = s.dev.clk.wheel)) ∧
    (s.dev.pressDue = true → s.dev.coreOn = true → s.dev.twin.swapAt = none → (∀ p ∈ s.dev.hoop.own, p.type ≠ 0x04) →
      s.dev.hoop.rswGo = false → Does .pressBoundary s (fun t =>
      t.rind = s.rind ∧ t.dev.isServed .press = true ∧ t.dev.pwr.wheelCopy = s.dev.clk.wheel ∧ t.dev.pwr.mode = s.dev.pwr.mode ∧
      (∀ m at_, s.dev.pwr.request = some (m, at_) →
        if at_ < s.dev.clk.now ∧ s.dev.transBusy = false ∧ s.dev.flt.dbgHalt = false then t.dev.pwr.request = none ∧ t.dev.pwr.asked = some m
        else t.dev.pwr.request = some (m, at_) ∧ t.dev.pwr.asked = s.dev.pwr.asked) ∧
      (∀ f ∈ t.dev.ring.flights, f.await ≠ .press) ∧
      (∀ off ∈ s.dev.regs.live.map Prod.fst, off < 0x7000 → noteReg off = false →
        (∃ f ∈ regFields off, f.liveOn (fun g => g = .press) = true) →
        (∀ f ∈ regFields off, f.isStaged = false) → t.dev.force off =
          takeFields (Fld.liveOn (fun g => g = .press)) (s.dev.writtenBefore off) (s.dev.force off) (regFields off)) ∧
      ((∃ f ∈ s.dev.ring.flights, f.await = .press) → s.dev.regs.live = [] → ∀ i < s.dev.rf 0x7244 26 16,
        s.dev.rf 0x7244 10 0 + i ≤ 1039 →
        (t.dev.chanOf (s.dev.rf 0x7244 10 0 + i)).shift = tabGet 0 s.dev.hoop.hold (s.dev.rf 0x7244 10 0 + i))))
end

