-- ==== Sys2Proof/Laws/State.lean ====
section
/-! SUPPORT. One lemma for each field of the device under each update, so that no later proof unfolds a record update. -/

namespace Sys2Proof.Machine

variable (s : Dev)

@[simp] theorem Dev.emit_out (o : Out) : (s.emit o).out = o :: s.out := rfl
@[simp] theorem Dev.emit_free (o : Out) : (s.emit o).free = s.free := rfl
@[simp] theorem Dev.emit_clk (o : Out) : (s.emit o).clk = s.clk := rfl
@[simp] theorem Dev.emit_pwr (o : Out) : (s.emit o).pwr = s.pwr := rfl
@[simp] theorem Dev.emit_regs (o : Out) : (s.emit o).regs = s.regs := rfl
@[simp] theorem Dev.emit_tempo (o : Out) : (s.emit o).tempo = s.tempo := rfl
@[simp] theorem Dev.emit_ring (o : Out) : (s.emit o).ring = s.ring := rfl
@[simp] theorem Dev.emit_chan (o : Out) : (s.emit o).chan = s.chan := rfl
@[simp] theorem Dev.emit_str (o : Out) : (s.emit o).str = s.str := rfl
@[simp] theorem Dev.emit_mtx (o : Out) : (s.emit o).mtx = s.mtx := rfl
@[simp] theorem Dev.emit_clr (o : Out) : (s.emit o).clr = s.clr := rfl
@[simp] theorem Dev.emit_rip (o : Out) : (s.emit o).rip = s.rip := rfl
@[simp] theorem Dev.emit_cult (o : Out) : (s.emit o).cult = s.cult := rfl
@[simp] theorem Dev.emit_harp (o : Out) : (s.emit o).harp = s.harp := rfl
@[simp] theorem Dev.emit_pins (o : Out) : (s.emit o).pins = s.pins := rfl
@[simp] theorem Dev.emit_car (o : Out) : (s.emit o).car = s.car := rfl
@[simp] theorem Dev.emit_trips (o : Out) : (s.emit o).trips = s.trips := rfl
@[simp] theorem Dev.emit_seq (o : Out) : (s.emit o).seq = s.seq := rfl
@[simp] theorem Dev.emit_ntcConv (o : Out) : (s.emit o).ntcConv = s.ntcConv := rfl
@[simp] theorem Dev.emit_hoop (o : Out) : (s.emit o).hoop = s.hoop := rfl
@[simp] theorem Dev.emit_twin (o : Out) : (s.emit o).twin = s.twin := rfl
@[simp] theorem Dev.emit_ozh (o : Out) : (s.emit o).ozh = s.ozh := rfl
@[simp] theorem Dev.emit_ozhKept (o : Out) : (s.emit o).ozhKept = s.ozhKept := rfl
@[simp] theorem Dev.emit_flt (o : Out) : (s.emit o).flt = s.flt := rfl
@[simp] theorem Dev.emit_br (o : Out) : (s.emit o).br = s.br := rfl

@[simp] theorem Dev.setStr_out (n : Nat) (x : Str) : (s.setStr n x).out = s.out := rfl
@[simp] theorem Dev.setStr_free (n : Nat) (x : Str) : (s.setStr n x).free = s.free := rfl
@[simp] theorem Dev.setStr_clk (n : Nat) (x : Str) : (s.setStr n x).clk = s.clk := rfl
@[simp] theorem Dev.setStr_pwr (n : Nat) (x : Str) : (s.setStr n x).pwr = s.pwr := rfl
@[simp] theorem Dev.setStr_regs (n : Nat) (x : Str) : (s.setStr n x).regs = s.regs := rfl
@[simp] theorem Dev.setStr_tempo (n : Nat) (x : Str) : (s.setStr n x).tempo = s.tempo := rfl
@[simp] theorem Dev.setStr_ring (n : Nat) (x : Str) : (s.setStr n x).ring = s.ring := rfl
@[simp] theorem Dev.setStr_chan (n : Nat) (x : Str) : (s.setStr n x).chan = s.chan := rfl
@[simp] theorem Dev.setStr_str (n : Nat) (x : Str) : (s.setStr n x).str = tabSet {} s.str n x := rfl
@[simp] theorem Dev.setStr_mtx (n : Nat) (x : Str) : (s.setStr n x).mtx = s.mtx := rfl
@[simp] theorem Dev.setStr_clr (n : Nat) (x : Str) : (s.setStr n x).clr = s.clr := rfl
@[simp] theorem Dev.setStr_rip (n : Nat) (x : Str) : (s.setStr n x).rip = s.rip := rfl
@[simp] theorem Dev.setStr_cult (n : Nat) (x : Str) : (s.setStr n x).cult = s.cult := rfl
@[simp] theorem Dev.setStr_harp (n : Nat) (x : Str) : (s.setStr n x).harp = s.harp := rfl
@[simp] theorem Dev.setStr_pins (n : Nat) (x : Str) : (s.setStr n x).pins = s.pins := rfl
@[simp] theorem Dev.setStr_car (n : Nat) (x : Str) : (s.setStr n x).car = s.car := rfl
@[simp] theorem Dev.setStr_trips (n : Nat) (x : Str) : (s.setStr n x).trips = s.trips := rfl
@[simp] theorem Dev.setStr_seq (n : Nat) (x : Str) : (s.setStr n x).seq = s.seq := rfl
@[simp] theorem Dev.setStr_ntcConv (n : Nat) (x : Str) : (s.setStr n x).ntcConv = s.ntcConv := rfl
@[simp] theorem Dev.setStr_hoop (n : Nat) (x : Str) : (s.setStr n x).hoop = s.hoop := rfl
@[simp] theorem Dev.setStr_twin (n : Nat) (x : Str) : (s.setStr n x).twin = s.twin := rfl
@[simp] theorem Dev.setStr_ozh (n : Nat) (x : Str) : (s.setStr n x).ozh = s.ozh := rfl
@[simp] theorem Dev.setStr_ozhKept (n : Nat) (x : Str) : (s.setStr n x).ozhKept = s.ozhKept := rfl
@[simp] theorem Dev.setStr_flt (n : Nat) (x : Str) : (s.setStr n x).flt = s.flt := rfl
@[simp] theorem Dev.setStr_br (n : Nat) (x : Str) : (s.setStr n x).br = s.br := rfl

@[simp] theorem Dev.setChan_out (n : Nat) (x : Chan) : (s.setChan n x).out = s.out := rfl
@[simp] theorem Dev.setChan_free (n : Nat) (x : Chan) : (s.setChan n x).free = s.free := rfl
@[simp] theorem Dev.setChan_clk (n : Nat) (x : Chan) : (s.setChan n x).clk = s.clk := rfl
@[simp] theorem Dev.setChan_pwr (n : Nat) (x : Chan) : (s.setChan n x).pwr = s.pwr := rfl
@[simp] theorem Dev.setChan_regs (n : Nat) (x : Chan) : (s.setChan n x).regs = s.regs := rfl
@[simp] theorem Dev.setChan_tempo (n : Nat) (x : Chan) : (s.setChan n x).tempo = s.tempo := rfl
@[simp] theorem Dev.setChan_ring (n : Nat) (x : Chan) : (s.setChan n x).ring = s.ring := rfl
@[simp] theorem Dev.setChan_chan (n : Nat) (x : Chan) : (s.setChan n x).chan = tabSet {} s.chan n x := rfl
@[simp] theorem Dev.setChan_str (n : Nat) (x : Chan) : (s.setChan n x).str = s.str := rfl
@[simp] theorem Dev.setChan_mtx (n : Nat) (x : Chan) : (s.setChan n x).mtx = s.mtx := rfl
@[simp] theorem Dev.setChan_clr (n : Nat) (x : Chan) : (s.setChan n x).clr = s.clr := rfl
@[simp] theorem Dev.setChan_rip (n : Nat) (x : Chan) : (s.setChan n x).rip = s.rip := rfl
@[simp] theorem Dev.setChan_cult (n : Nat) (x : Chan) : (s.setChan n x).cult = s.cult := rfl
@[simp] theorem Dev.setChan_harp (n : Nat) (x : Chan) : (s.setChan n x).harp = s.harp := rfl
@[simp] theorem Dev.setChan_pins (n : Nat) (x : Chan) : (s.setChan n x).pins = s.pins := rfl
@[simp] theorem Dev.setChan_car (n : Nat) (x : Chan) : (s.setChan n x).car = s.car := rfl
@[simp] theorem Dev.setChan_trips (n : Nat) (x : Chan) : (s.setChan n x).trips = s.trips := rfl
@[simp] theorem Dev.setChan_seq (n : Nat) (x : Chan) : (s.setChan n x).seq = s.seq := rfl
@[simp] theorem Dev.setChan_ntcConv (n : Nat) (x : Chan) : (s.setChan n x).ntcConv = s.ntcConv := rfl
@[simp] theorem Dev.setChan_hoop (n : Nat) (x : Chan) : (s.setChan n x).hoop = s.hoop := rfl
@[simp] theorem Dev.setChan_twin (n : Nat) (x : Chan) : (s.setChan n x).twin = s.twin := rfl
@[simp] theorem Dev.setChan_ozh (n : Nat) (x : Chan) : (s.setChan n x).ozh = s.ozh := rfl
@[simp] theorem Dev.setChan_ozhKept (n : Nat) (x : Chan) : (s.setChan n x).ozhKept = s.ozhKept := rfl
@[simp] theorem Dev.setChan_flt (n : Nat) (x : Chan) : (s.setChan n x).flt = s.flt := rfl
@[simp] theorem Dev.setChan_br (n : Nat) (x : Chan) : (s.setChan n x).br = s.br := rfl

@[simp] theorem Dev.setPos_out (n : Nat) (x : Pos) : (s.setPos n x).out = s.out := rfl
@[simp] theorem Dev.setPos_free (n : Nat) (x : Pos) : (s.setPos n x).free = s.free := rfl
@[simp] theorem Dev.setPos_clk (n : Nat) (x : Pos) : (s.setPos n x).clk = s.clk := rfl
@[simp] theorem Dev.setPos_pwr (n : Nat) (x : Pos) : (s.setPos n x).pwr = s.pwr := rfl
@[simp] theorem Dev.setPos_regs (n : Nat) (x : Pos) : (s.setPos n x).regs = s.regs := rfl
@[simp] theorem Dev.setPos_tempo (n : Nat) (x : Pos) : (s.setPos n x).tempo = s.tempo := rfl
@[simp] theorem Dev.setPos_ring (n : Nat) (x : Pos) : (s.setPos n x).ring = s.ring := rfl
@[simp] theorem Dev.setPos_chan (n : Nat) (x : Pos) : (s.setPos n x).chan = s.chan := rfl
@[simp] theorem Dev.setPos_str (n : Nat) (x : Pos) : (s.setPos n x).str = s.str := rfl
@[simp] theorem Dev.setPos_mtx (n : Nat) (x : Pos) : (s.setPos n x).mtx = { s.mtx with pos := tabSet {} s.mtx.pos n x } := rfl
@[simp] theorem Dev.setPos_clr (n : Nat) (x : Pos) : (s.setPos n x).clr = s.clr := rfl
@[simp] theorem Dev.setPos_rip (n : Nat) (x : Pos) : (s.setPos n x).rip = s.rip := rfl
@[simp] theorem Dev.setPos_cult (n : Nat) (x : Pos) : (s.setPos n x).cult = s.cult := rfl
@[simp] theorem Dev.setPos_harp (n : Nat) (x : Pos) : (s.setPos n x).harp = s.harp := rfl
@[simp] theorem Dev.setPos_pins (n : Nat) (x : Pos) : (s.setPos n x).pins = s.pins := rfl
@[simp] theorem Dev.setPos_car (n : Nat) (x : Pos) : (s.setPos n x).car = s.car := rfl
@[simp] theorem Dev.setPos_trips (n : Nat) (x : Pos) : (s.setPos n x).trips = s.trips := rfl
@[simp] theorem Dev.setPos_seq (n : Nat) (x : Pos) : (s.setPos n x).seq = s.seq := rfl
@[simp] theorem Dev.setPos_ntcConv (n : Nat) (x : Pos) : (s.setPos n x).ntcConv = s.ntcConv := rfl
@[simp] theorem Dev.setPos_hoop (n : Nat) (x : Pos) : (s.setPos n x).hoop = s.hoop := rfl
@[simp] theorem Dev.setPos_twin (n : Nat) (x : Pos) : (s.setPos n x).twin = s.twin := rfl
@[simp] theorem Dev.setPos_ozh (n : Nat) (x : Pos) : (s.setPos n x).ozh = s.ozh := rfl
@[simp] theorem Dev.setPos_ozhKept (n : Nat) (x : Pos) : (s.setPos n x).ozhKept = s.ozhKept := rfl
@[simp] theorem Dev.setPos_flt (n : Nat) (x : Pos) : (s.setPos n x).flt = s.flt := rfl
@[simp] theorem Dev.setPos_br (n : Nat) (x : Pos) : (s.setPos n x).br = s.br := rfl

@[simp] theorem Dev.setCls_out (n : Nat) (x : Cls) : (s.setCls n x).out = s.out := rfl
@[simp] theorem Dev.setCls_free (n : Nat) (x : Cls) : (s.setCls n x).free = s.free := rfl
@[simp] theorem Dev.setCls_clk (n : Nat) (x : Cls) : (s.setCls n x).clk = s.clk := rfl
@[simp] theorem Dev.setCls_pwr (n : Nat) (x : Cls) : (s.setCls n x).pwr = s.pwr := rfl
@[simp] theorem Dev.setCls_regs (n : Nat) (x : Cls) : (s.setCls n x).regs = s.regs := rfl
@[simp] theorem Dev.setCls_tempo (n : Nat) (x : Cls) : (s.setCls n x).tempo = s.tempo := rfl
@[simp] theorem Dev.setCls_ring (n : Nat) (x : Cls) : (s.setCls n x).ring = s.ring := rfl
@[simp] theorem Dev.setCls_chan (n : Nat) (x : Cls) : (s.setCls n x).chan = s.chan := rfl
@[simp] theorem Dev.setCls_str (n : Nat) (x : Cls) : (s.setCls n x).str = s.str := rfl
@[simp] theorem Dev.setCls_mtx (n : Nat) (x : Cls) : (s.setCls n x).mtx = s.mtx := rfl
@[simp] theorem Dev.setCls_clr (n : Nat) (x : Cls) : (s.setCls n x).clr = { s.clr with cls := tabSet {} s.clr.cls n x } := rfl
@[simp] theorem Dev.setCls_rip (n : Nat) (x : Cls) : (s.setCls n x).rip = s.rip := rfl
@[simp] theorem Dev.setCls_cult (n : Nat) (x : Cls) : (s.setCls n x).cult = s.cult := rfl
@[simp] theorem Dev.setCls_harp (n : Nat) (x : Cls) : (s.setCls n x).harp = s.harp := rfl
@[simp] theorem Dev.setCls_pins (n : Nat) (x : Cls) : (s.setCls n x).pins = s.pins := rfl
@[simp] theorem Dev.setCls_car (n : Nat) (x : Cls) : (s.setCls n x).car = s.car := rfl
@[simp] theorem Dev.setCls_trips (n : Nat) (x : Cls) : (s.setCls n x).trips = s.trips := rfl
@[simp] theorem Dev.setCls_seq (n : Nat) (x : Cls) : (s.setCls n x).seq = s.seq := rfl
@[simp] theorem Dev.setCls_ntcConv (n : Nat) (x : Cls) : (s.setCls n x).ntcConv = s.ntcConv := rfl
@[simp] theorem Dev.setCls_hoop (n : Nat) (x : Cls) : (s.setCls n x).hoop = s.hoop := rfl
@[simp] theorem Dev.setCls_twin (n : Nat) (x : Cls) : (s.setCls n x).twin = s.twin := rfl
@[simp] theorem Dev.setCls_ozh (n : Nat) (x : Cls) : (s.setCls n x).ozh = s.ozh := rfl
@[simp] theorem Dev.setCls_ozhKept (n : Nat) (x : Cls) : (s.setCls n x).ozhKept = s.ozhKept := rfl
@[simp] theorem Dev.setCls_flt (n : Nat) (x : Cls) : (s.setCls n x).flt = s.flt := rfl
@[simp] theorem Dev.setCls_br (n : Nat) (x : Cls) : (s.setCls n x).br = s.br := rfl

@[simp] theorem Dev.setRip_out (n : Nat) (x : Rip) : (s.setRip n x).out = s.out := rfl
@[simp] theorem Dev.setRip_free (n : Nat) (x : Rip) : (s.setRip n x).free = s.free := rfl
@[simp] theorem Dev.setRip_clk (n : Nat) (x : Rip) : (s.setRip n x).clk = s.clk := rfl
@[simp] theorem Dev.setRip_pwr (n : Nat) (x : Rip) : (s.setRip n x).pwr = s.pwr := rfl
@[simp] theorem Dev.setRip_regs (n : Nat) (x : Rip) : (s.setRip n x).regs = s.regs := rfl
@[simp] theorem Dev.setRip_tempo (n : Nat) (x : Rip) : (s.setRip n x).tempo = s.tempo := rfl
@[simp] theorem Dev.setRip_ring (n : Nat) (x : Rip) : (s.setRip n x).ring = s.ring := rfl
@[simp] theorem Dev.setRip_chan (n : Nat) (x : Rip) : (s.setRip n x).chan = s.chan := rfl
@[simp] theorem Dev.setRip_str (n : Nat) (x : Rip) : (s.setRip n x).str = s.str := rfl
@[simp] theorem Dev.setRip_mtx (n : Nat) (x : Rip) : (s.setRip n x).mtx = s.mtx := rfl
@[simp] theorem Dev.setRip_clr (n : Nat) (x : Rip) : (s.setRip n x).clr = s.clr := rfl
@[simp] theorem Dev.setRip_rip (n : Nat) (x : Rip) : (s.setRip n x).rip = tabSet {} s.rip n x := rfl
@[simp] theorem Dev.setRip_cult (n : Nat) (x : Rip) : (s.setRip n x).cult = s.cult := rfl
@[simp] theorem Dev.setRip_harp (n : Nat) (x : Rip) : (s.setRip n x).harp = s.harp := rfl
@[simp] theorem Dev.setRip_pins (n : Nat) (x : Rip) : (s.setRip n x).pins = s.pins := rfl
@[simp] theorem Dev.setRip_car (n : Nat) (x : Rip) : (s.setRip n x).car = s.car := rfl
@[simp] theorem Dev.setRip_trips (n : Nat) (x : Rip) : (s.setRip n x).trips = s.trips := rfl
@[simp] theorem Dev.setRip_seq (n : Nat) (x : Rip) : (s.setRip n x).seq = s.seq := rfl
@[simp] theorem Dev.setRip_ntcConv (n : Nat) (x : Rip) : (s.setRip n x).ntcConv = s.ntcConv := rfl
@[simp] theorem Dev.setRip_hoop (n : Nat) (x : Rip) : (s.setRip n x).hoop = s.hoop := rfl
@[simp] theorem Dev.setRip_twin (n : Nat) (x : Rip) : (s.setRip n x).twin = s.twin := rfl
@[simp] theorem Dev.setRip_ozh (n : Nat) (x : Rip) : (s.setRip n x).ozh = s.ozh := rfl
@[simp] theorem Dev.setRip_ozhKept (n : Nat) (x : Rip) : (s.setRip n x).ozhKept = s.ozhKept := rfl
@[simp] theorem Dev.setRip_flt (n : Nat) (x : Rip) : (s.setRip n x).flt = s.flt := rfl
@[simp] theorem Dev.setRip_br (n : Nat) (x : Rip) : (s.setRip n x).br = s.br := rfl

@[simp] theorem Dev.setHarp_out (n : Nat) (x : Harp) : (s.setHarp n x).out = s.out := rfl
@[simp] theorem Dev.setHarp_free (n : Nat) (x : Harp) : (s.setHarp n x).free = s.free := rfl
@[simp] theorem Dev.setHarp_clk (n : Nat) (x : Harp) : (s.setHarp n x).clk = s.clk := rfl
@[simp] theorem Dev.setHarp_pwr (n : Nat) (x : Harp) : (s.setHarp n x).pwr = s.pwr := rfl
@[simp] theorem Dev.setHarp_regs (n : Nat) (x : Harp) : (s.setHarp n x).regs = s.regs := rfl
@[simp] theorem Dev.setHarp_tempo (n : Nat) (x : Harp) : (s.setHarp n x).tempo = s.tempo := rfl
@[simp] theorem Dev.setHarp_ring (n : Nat) (x : Harp) : (s.setHarp n x).ring = s.ring := rfl
@[simp] theorem Dev.setHarp_chan (n : Nat) (x : Harp) : (s.setHarp n x).chan = s.chan := rfl
@[simp] theorem Dev.setHarp_str (n : Nat) (x : Harp) : (s.setHarp n x).str = s.str := rfl
@[simp] theorem Dev.setHarp_mtx (n : Nat) (x : Harp) : (s.setHarp n x).mtx = s.mtx := rfl
@[simp] theorem Dev.setHarp_clr (n : Nat) (x : Harp) : (s.setHarp n x).clr = s.clr := rfl
@[simp] theorem Dev.setHarp_rip (n : Nat) (x : Harp) : (s.setHarp n x).rip = s.rip := rfl
@[simp] theorem Dev.setHarp_cult (n : Nat) (x : Harp) : (s.setHarp n x).cult = s.cult := rfl
@[simp] theorem Dev.setHarp_harp (n : Nat) (x : Harp) : (s.setHarp n x).harp = tabSet {} s.harp n x := rfl
@[simp] theorem Dev.setHarp_pins (n : Nat) (x : Harp) : (s.setHarp n x).pins = s.pins := rfl
@[simp] theorem Dev.setHarp_car (n : Nat) (x : Harp) : (s.setHarp n x).car = s.car := rfl
@[simp] theorem Dev.setHarp_trips (n : Nat) (x : Harp) : (s.setHarp n x).trips = s.trips := rfl
@[simp] theorem Dev.setHarp_seq (n : Nat) (x : Harp) : (s.setHarp n x).seq = s.seq := rfl
@[simp] theorem Dev.setHarp_ntcConv (n : Nat) (x : Harp) : (s.setHarp n x).ntcConv = s.ntcConv := rfl
@[simp] theorem Dev.setHarp_hoop (n : Nat) (x : Harp) : (s.setHarp n x).hoop = s.hoop := rfl
@[simp] theorem Dev.setHarp_twin (n : Nat) (x : Harp) : (s.setHarp n x).twin = s.twin := rfl
@[simp] theorem Dev.setHarp_ozh (n : Nat) (x : Harp) : (s.setHarp n x).ozh = s.ozh := rfl
@[simp] theorem Dev.setHarp_ozhKept (n : Nat) (x : Harp) : (s.setHarp n x).ozhKept = s.ozhKept := rfl
@[simp] theorem Dev.setHarp_flt (n : Nat) (x : Harp) : (s.setHarp n x).flt = s.flt := rfl
@[simp] theorem Dev.setHarp_br (n : Nat) (x : Harp) : (s.setHarp n x).br = s.br := rfl

@[simp] theorem Dev.setCar_out (n : Nat) (x : Car) : (s.setCar n x).out = s.out := rfl
@[simp] theorem Dev.setCar_free (n : Nat) (x : Car) : (s.setCar n x).free = s.free := rfl
@[simp] theorem Dev.setCar_clk (n : Nat) (x : Car) : (s.setCar n x).clk = s.clk := rfl
@[simp] theorem Dev.setCar_pwr (n : Nat) (x : Car) : (s.setCar n x).pwr = s.pwr := rfl
@[simp] theorem Dev.setCar_regs (n : Nat) (x : Car) : (s.setCar n x).regs = s.regs := rfl
@[simp] theorem Dev.setCar_tempo (n : Nat) (x : Car) : (s.setCar n x).tempo = s.tempo := rfl
@[simp] theorem Dev.setCar_ring (n : Nat) (x : Car) : (s.setCar n x).ring = s.ring := rfl
@[simp] theorem Dev.setCar_chan (n : Nat) (x : Car) : (s.setCar n x).chan = s.chan := rfl
@[simp] theorem Dev.setCar_str (n : Nat) (x : Car) : (s.setCar n x).str = s.str := rfl
@[simp] theorem Dev.setCar_mtx (n : Nat) (x : Car) : (s.setCar n x).mtx = s.mtx := rfl
@[simp] theorem Dev.setCar_clr (n : Nat) (x : Car) : (s.setCar n x).clr = s.clr := rfl
@[simp] theorem Dev.setCar_rip (n : Nat) (x : Car) : (s.setCar n x).rip = s.rip := rfl
@[simp] theorem Dev.setCar_cult (n : Nat) (x : Car) : (s.setCar n x).cult = s.cult := rfl
@[simp] theorem Dev.setCar_harp (n : Nat) (x : Car) : (s.setCar n x).harp = s.harp := rfl
@[simp] theorem Dev.setCar_pins (n : Nat) (x : Car) : (s.setCar n x).pins = s.pins := rfl
@[simp] theorem Dev.setCar_car (n : Nat) (x : Car) : (s.setCar n x).car = tabSet {} s.car n x := rfl
@[simp] theorem Dev.setCar_trips (n : Nat) (x : Car) : (s.setCar n x).trips = s.trips := rfl
@[simp] theorem Dev.setCar_seq (n : Nat) (x : Car) : (s.setCar n x).seq = s.seq := rfl
@[simp] theorem Dev.setCar_ntcConv (n : Nat) (x : Car) : (s.setCar n x).ntcConv = s.ntcConv := rfl
@[simp] theorem Dev.setCar_hoop (n : Nat) (x : Car) : (s.setCar n x).hoop = s.hoop := rfl
@[simp] theorem Dev.setCar_twin (n : Nat) (x : Car) : (s.setCar n x).twin = s.twin := rfl
@[simp] theorem Dev.setCar_ozh (n : Nat) (x : Car) : (s.setCar n x).ozh = s.ozh := rfl
@[simp] theorem Dev.setCar_ozhKept (n : Nat) (x : Car) : (s.setCar n x).ozhKept = s.ozhKept := rfl
@[simp] theorem Dev.setCar_flt (n : Nat) (x : Car) : (s.setCar n x).flt = s.flt := rfl
@[simp] theorem Dev.setCar_br (n : Nat) (x : Car) : (s.setCar n x).br = s.br := rfl

@[simp] theorem Dev.setSeq_out (n : Nat) (x : Seq) : (s.setSeq n x).out = s.out := rfl
@[simp] theorem Dev.setSeq_free (n : Nat) (x : Seq) : (s.setSeq n x).free = s.free := rfl
@[simp] theorem Dev.setSeq_clk (n : Nat) (x : Seq) : (s.setSeq n x).clk = s.clk := rfl
@[simp] theorem Dev.setSeq_pwr (n : Nat) (x : Seq) : (s.setSeq n x).pwr = s.pwr := rfl
@[simp] theorem Dev.setSeq_regs (n : Nat) (x : Seq) : (s.setSeq n x).regs = s.regs := rfl
@[simp] theorem Dev.setSeq_tempo (n : Nat) (x : Seq) : (s.setSeq n x).tempo = s.tempo := rfl
@[simp] theorem Dev.setSeq_ring (n : Nat) (x : Seq) : (s.setSeq n x).ring = s.ring := rfl
@[simp] theorem Dev.setSeq_chan (n : Nat) (x : Seq) : (s.setSeq n x).chan = s.chan := rfl
@[simp] theorem Dev.setSeq_str (n : Nat) (x : Seq) : (s.setSeq n x).str = s.str := rfl
@[simp] theorem Dev.setSeq_mtx (n : Nat) (x : Seq) : (s.setSeq n x).mtx = s.mtx := rfl
@[simp] theorem Dev.setSeq_clr (n : Nat) (x : Seq) : (s.setSeq n x).clr = s.clr := rfl
@[simp] theorem Dev.setSeq_rip (n : Nat) (x : Seq) : (s.setSeq n x).rip = s.rip := rfl
@[simp] theorem Dev.setSeq_cult (n : Nat) (x : Seq) : (s.setSeq n x).cult = s.cult := rfl
@[simp] theorem Dev.setSeq_harp (n : Nat) (x : Seq) : (s.setSeq n x).harp = s.harp := rfl
@[simp] theorem Dev.setSeq_pins (n : Nat) (x : Seq) : (s.setSeq n x).pins = s.pins := rfl
@[simp] theorem Dev.setSeq_car (n : Nat) (x : Seq) : (s.setSeq n x).car = s.car := rfl
@[simp] theorem Dev.setSeq_trips (n : Nat) (x : Seq) : (s.setSeq n x).trips = s.trips := rfl
@[simp] theorem Dev.setSeq_seq (n : Nat) (x : Seq) : (s.setSeq n x).seq = tabSet {} s.seq n x := rfl
@[simp] theorem Dev.setSeq_ntcConv (n : Nat) (x : Seq) : (s.setSeq n x).ntcConv = s.ntcConv := rfl
@[simp] theorem Dev.setSeq_hoop (n : Nat) (x : Seq) : (s.setSeq n x).hoop = s.hoop := rfl
@[simp] theorem Dev.setSeq_twin (n : Nat) (x : Seq) : (s.setSeq n x).twin = s.twin := rfl
@[simp] theorem Dev.setSeq_ozh (n : Nat) (x : Seq) : (s.setSeq n x).ozh = s.ozh := rfl
@[simp] theorem Dev.setSeq_ozhKept (n : Nat) (x : Seq) : (s.setSeq n x).ozhKept = s.ozhKept := rfl
@[simp] theorem Dev.setSeq_flt (n : Nat) (x : Seq) : (s.setSeq n x).flt = s.flt := rfl
@[simp] theorem Dev.setSeq_br (n : Nat) (x : Seq) : (s.setSeq n x).br = s.br := rfl

@[simp] theorem Dev.setCurd_out (n : Nat) (x : Curd) : (s.setCurd n x).out = s.out := rfl
@[simp] theorem Dev.setCurd_free (n : Nat) (x : Curd) : (s.setCurd n x).free = s.free := rfl
@[simp] theorem Dev.setCurd_clk (n : Nat) (x : Curd) : (s.setCurd n x).clk = s.clk := rfl
@[simp] theorem Dev.setCurd_pwr (n : Nat) (x : Curd) : (s.setCurd n x).pwr = s.pwr := rfl
@[simp] theorem Dev.setCurd_regs (n : Nat) (x : Curd) : (s.setCurd n x).regs = s.regs := rfl
@[simp] theorem Dev.setCurd_tempo (n : Nat) (x : Curd) : (s.setCurd n x).tempo = s.tempo := rfl
@[simp] theorem Dev.setCurd_ring (n : Nat) (x : Curd) : (s.setCurd n x).ring = { s.ring with curd := tabSet {} s.ring.curd n x } := rfl
@[simp] theorem Dev.setCurd_chan (n : Nat) (x : Curd) : (s.setCurd n x).chan = s.chan := rfl
@[simp] theorem Dev.setCurd_str (n : Nat) (x : Curd) : (s.setCurd n x).str = s.str := rfl
@[simp] theorem Dev.setCurd_mtx (n : Nat) (x : Curd) : (s.setCurd n x).mtx = s.mtx := rfl
@[simp] theorem Dev.setCurd_clr (n : Nat) (x : Curd) : (s.setCurd n x).clr = s.clr := rfl
@[simp] theorem Dev.setCurd_rip (n : Nat) (x : Curd) : (s.setCurd n x).rip = s.rip := rfl
@[simp] theorem Dev.setCurd_cult (n : Nat) (x : Curd) : (s.setCurd n x).cult = s.cult := rfl
@[simp] theorem Dev.setCurd_harp (n : Nat) (x : Curd) : (s.setCurd n x).harp = s.harp := rfl
@[simp] theorem Dev.setCurd_pins (n : Nat) (x : Curd) : (s.setCurd n x).pins = s.pins := rfl
@[simp] theorem Dev.setCurd_car (n : Nat) (x : Curd) : (s.setCurd n x).car = s.car := rfl
@[simp] theorem Dev.setCurd_trips (n : Nat) (x : Curd) : (s.setCurd n x).trips = s.trips := rfl
@[simp] theorem Dev.setCurd_seq (n : Nat) (x : Curd) : (s.setCurd n x).seq = s.seq := rfl
@[simp] theorem Dev.setCurd_ntcConv (n : Nat) (x : Curd) : (s.setCurd n x).ntcConv = s.ntcConv := rfl
@[simp] theorem Dev.setCurd_hoop (n : Nat) (x : Curd) : (s.setCurd n x).hoop = s.hoop := rfl
@[simp] theorem Dev.setCurd_twin (n : Nat) (x : Curd) : (s.setCurd n x).twin = s.twin := rfl
@[simp] theorem Dev.setCurd_ozh (n : Nat) (x : Curd) : (s.setCurd n x).ozh = s.ozh := rfl
@[simp] theorem Dev.setCurd_ozhKept (n : Nat) (x : Curd) : (s.setCurd n x).ozhKept = s.ozhKept := rfl
@[simp] theorem Dev.setCurd_flt (n : Nat) (x : Curd) : (s.setCurd n x).flt = s.flt := rfl
@[simp] theorem Dev.setCurd_br (n : Nat) (x : Curd) : (s.setCurd n x).br = s.br := rfl

@[simp] theorem Dev.setWhey_out (n : Nat) (x : Whey) : (s.setWhey n x).out = s.out := rfl
@[simp] theorem Dev.setWhey_free (n : Nat) (x : Whey) : (s.setWhey n x).free = s.free := rfl
@[simp] theorem Dev.setWhey_clk (n : Nat) (x : Whey) : (s.setWhey n x).clk = s.clk := rfl
@[simp] theorem Dev.setWhey_pwr (n : Nat) (x : Whey) : (s.setWhey n x).pwr = s.pwr := rfl
@[simp] theorem Dev.setWhey_regs (n : Nat) (x : Whey) : (s.setWhey n x).regs = s.regs := rfl
@[simp] theorem Dev.setWhey_tempo (n : Nat) (x : Whey) : (s.setWhey n x).tempo = s.tempo := rfl
@[simp] theorem Dev.setWhey_ring (n : Nat) (x : Whey) : (s.setWhey n x).ring = { s.ring with whey := tabSet {} s.ring.whey n x } := rfl
@[simp] theorem Dev.setWhey_chan (n : Nat) (x : Whey) : (s.setWhey n x).chan = s.chan := rfl
@[simp] theorem Dev.setWhey_str (n : Nat) (x : Whey) : (s.setWhey n x).str = s.str := rfl
@[simp] theorem Dev.setWhey_mtx (n : Nat) (x : Whey) : (s.setWhey n x).mtx = s.mtx := rfl
@[simp] theorem Dev.setWhey_clr (n : Nat) (x : Whey) : (s.setWhey n x).clr = s.clr := rfl
@[simp] theorem Dev.setWhey_rip (n : Nat) (x : Whey) : (s.setWhey n x).rip = s.rip := rfl
@[simp] theorem Dev.setWhey_cult (n : Nat) (x : Whey) : (s.setWhey n x).cult = s.cult := rfl
@[simp] theorem Dev.setWhey_harp (n : Nat) (x : Whey) : (s.setWhey n x).harp = s.harp := rfl
@[simp] theorem Dev.setWhey_pins (n : Nat) (x : Whey) : (s.setWhey n x).pins = s.pins := rfl
@[simp] theorem Dev.setWhey_car (n : Nat) (x : Whey) : (s.setWhey n x).car = s.car := rfl
@[simp] theorem Dev.setWhey_trips (n : Nat) (x : Whey) : (s.setWhey n x).trips = s.trips := rfl
@[simp] theorem Dev.setWhey_seq (n : Nat) (x : Whey) : (s.setWhey n x).seq = s.seq := rfl
@[simp] theorem Dev.setWhey_ntcConv (n : Nat) (x : Whey) : (s.setWhey n x).ntcConv = s.ntcConv := rfl
@[simp] theorem Dev.setWhey_hoop (n : Nat) (x : Whey) : (s.setWhey n x).hoop = s.hoop := rfl
@[simp] theorem Dev.setWhey_twin (n : Nat) (x : Whey) : (s.setWhey n x).twin = s.twin := rfl
@[simp] theorem Dev.setWhey_ozh (n : Nat) (x : Whey) : (s.setWhey n x).ozh = s.ozh := rfl
@[simp] theorem Dev.setWhey_ozhKept (n : Nat) (x : Whey) : (s.setWhey n x).ozhKept = s.ozhKept := rfl
@[simp] theorem Dev.setWhey_flt (n : Nat) (x : Whey) : (s.setWhey n x).flt = s.flt := rfl
@[simp] theorem Dev.setWhey_br (n : Nat) (x : Whey) : (s.setWhey n x).br = s.br := rfl

@[simp] theorem Dev.setMsix_out (n : Nat) (x : Msix) : (s.setMsix n x).out = s.out := rfl
@[simp] theorem Dev.setMsix_free (n : Nat) (x : Msix) : (s.setMsix n x).free = s.free := rfl
@[simp] theorem Dev.setMsix_clk (n : Nat) (x : Msix) : (s.setMsix n x).clk = s.clk := rfl
@[simp] theorem Dev.setMsix_pwr (n : Nat) (x : Msix) : (s.setMsix n x).pwr = s.pwr := rfl
@[simp] theorem Dev.setMsix_regs (n : Nat) (x : Msix) : (s.setMsix n x).regs = s.regs := rfl
@[simp] theorem Dev.setMsix_tempo (n : Nat) (x : Msix) : (s.setMsix n x).tempo = s.tempo := rfl
@[simp] theorem Dev.setMsix_ring (n : Nat) (x : Msix) : (s.setMsix n x).ring = { s.ring with msix := tabSet {} s.ring.msix n x } := rfl
@[simp] theorem Dev.setMsix_chan (n : Nat) (x : Msix) : (s.setMsix n x).chan = s.chan := rfl
@[simp] theorem Dev.setMsix_str (n : Nat) (x : Msix) : (s.setMsix n x).str = s.str := rfl
@[simp] theorem Dev.setMsix_mtx (n : Nat) (x : Msix) : (s.setMsix n x).mtx = s.mtx := rfl
@[simp] theorem Dev.setMsix_clr (n : Nat) (x : Msix) : (s.setMsix n x).clr = s.clr := rfl
@[simp] theorem Dev.setMsix_rip (n : Nat) (x : Msix) : (s.setMsix n x).rip = s.rip := rfl
@[simp] theorem Dev.setMsix_cult (n : Nat) (x : Msix) : (s.setMsix n x).cult = s.cult := rfl
@[simp] theorem Dev.setMsix_harp (n : Nat) (x : Msix) : (s.setMsix n x).harp = s.harp := rfl
@[simp] theorem Dev.setMsix_pins (n : Nat) (x : Msix) : (s.setMsix n x).pins = s.pins := rfl
@[simp] theorem Dev.setMsix_car (n : Nat) (x : Msix) : (s.setMsix n x).car = s.car := rfl
@[simp] theorem Dev.setMsix_trips (n : Nat) (x : Msix) : (s.setMsix n x).trips = s.trips := rfl
@[simp] theorem Dev.setMsix_seq (n : Nat) (x : Msix) : (s.setMsix n x).seq = s.seq := rfl
@[simp] theorem Dev.setMsix_ntcConv (n : Nat) (x : Msix) : (s.setMsix n x).ntcConv = s.ntcConv := rfl
@[simp] theorem Dev.setMsix_hoop (n : Nat) (x : Msix) : (s.setMsix n x).hoop = s.hoop := rfl
@[simp] theorem Dev.setMsix_twin (n : Nat) (x : Msix) : (s.setMsix n x).twin = s.twin := rfl
@[simp] theorem Dev.setMsix_ozh (n : Nat) (x : Msix) : (s.setMsix n x).ozh = s.ozh := rfl
@[simp] theorem Dev.setMsix_ozhKept (n : Nat) (x : Msix) : (s.setMsix n x).ozhKept = s.ozhKept := rfl
@[simp] theorem Dev.setMsix_flt (n : Nat) (x : Msix) : (s.setMsix n x).flt = s.flt := rfl
@[simp] theorem Dev.setMsix_br (n : Nat) (x : Msix) : (s.setMsix n x).br = s.br := rfl

@[simp] theorem Dev.setPort_out (n : Nat) (x : HPort) : (s.setPort n x).out = s.out := rfl
@[simp] theorem Dev.setPort_free (n : Nat) (x : HPort) : (s.setPort n x).free = s.free := rfl
@[simp] theorem Dev.setPort_clk (n : Nat) (x : HPort) : (s.setPort n x).clk = s.clk := rfl
@[simp] theorem Dev.setPort_pwr (n : Nat) (x : HPort) : (s.setPort n x).pwr = s.pwr := rfl
@[simp] theorem Dev.setPort_regs (n : Nat) (x : HPort) : (s.setPort n x).regs = s.regs := rfl
@[simp] theorem Dev.setPort_tempo (n : Nat) (x : HPort) : (s.setPort n x).tempo = s.tempo := rfl
@[simp] theorem Dev.setPort_ring (n : Nat) (x : HPort) : (s.setPort n x).ring = s.ring := rfl
@[simp] theorem Dev.setPort_chan (n : Nat) (x : HPort) : (s.setPort n x).chan = s.chan := rfl
@[simp] theorem Dev.setPort_str (n : Nat) (x : HPort) : (s.setPort n x).str = s.str := rfl
@[simp] theorem Dev.setPort_mtx (n : Nat) (x : HPort) : (s.setPort n x).mtx = s.mtx := rfl
@[simp] theorem Dev.setPort_clr (n : Nat) (x : HPort) : (s.setPort n x).clr = s.clr := rfl
@[simp] theorem Dev.setPort_rip (n : Nat) (x : HPort) : (s.setPort n x).rip = s.rip := rfl
@[simp] theorem Dev.setPort_cult (n : Nat) (x : HPort) : (s.setPort n x).cult = s.cult := rfl
@[simp] theorem Dev.setPort_harp (n : Nat) (x : HPort) : (s.setPort n x).harp = s.harp := rfl
@[simp] theorem Dev.setPort_pins (n : Nat) (x : HPort) : (s.setPort n x).pins = s.pins := rfl
@[simp] theorem Dev.setPort_car (n : Nat) (x : HPort) : (s.setPort n x).car = s.car := rfl
@[simp] theorem Dev.setPort_trips (n : Nat) (x : HPort) : (s.setPort n x).trips = s.trips := rfl
@[simp] theorem Dev.setPort_seq (n : Nat) (x : HPort) : (s.setPort n x).seq = s.seq := rfl
@[simp] theorem Dev.setPort_ntcConv (n : Nat) (x : HPort) : (s.setPort n x).ntcConv = s.ntcConv := rfl
@[simp] theorem Dev.setPort_hoop (n : Nat) (x : HPort) : (s.setPort n x).hoop = { s.hoop with ports := tabSet {} s.hoop.ports n x } := rfl
@[simp] theorem Dev.setPort_twin (n : Nat) (x : HPort) : (s.setPort n x).twin = s.twin := rfl
@[simp] theorem Dev.setPort_ozh (n : Nat) (x : HPort) : (s.setPort n x).ozh = s.ozh := rfl
@[simp] theorem Dev.setPort_ozhKept (n : Nat) (x : HPort) : (s.setPort n x).ozhKept = s.ozhKept := rfl
@[simp] theorem Dev.setPort_flt (n : Nat) (x : HPort) : (s.setPort n x).flt = s.flt := rfl
@[simp] theorem Dev.setPort_br (n : Nat) (x : HPort) : (s.setPort n x).br = s.br := rfl

@[simp] theorem Dev.setSlot_out (n : Nat) (x : Slot) : (s.setSlot n x).out = s.out := rfl
@[simp] theorem Dev.setSlot_free (n : Nat) (x : Slot) : (s.setSlot n x).free = s.free := rfl
@[simp] theorem Dev.setSlot_clk (n : Nat) (x : Slot) : (s.setSlot n x).clk = s.clk := rfl
@[simp] theorem Dev.setSlot_pwr (n : Nat) (x : Slot) : (s.setSlot n x).pwr = s.pwr := rfl
@[simp] theorem Dev.setSlot_regs (n : Nat) (x : Slot) : (s.setSlot n x).regs = s.regs := rfl
@[simp] theorem Dev.setSlot_tempo (n : Nat) (x : Slot) : (s.setSlot n x).tempo = s.tempo := rfl
@[simp] theorem Dev.setSlot_ring (n : Nat) (x : Slot) : (s.setSlot n x).ring = s.ring := rfl
@[simp] theorem Dev.setSlot_chan (n : Nat) (x : Slot) : (s.setSlot n x).chan = s.chan := rfl
@[simp] theorem Dev.setSlot_str (n : Nat) (x : Slot) : (s.setSlot n x).str = s.str := rfl
@[simp] theorem Dev.setSlot_mtx (n : Nat) (x : Slot) : (s.setSlot n x).mtx = s.mtx := rfl
@[simp] theorem Dev.setSlot_clr (n : Nat) (x : Slot) : (s.setSlot n x).clr = s.clr := rfl
@[simp] theorem Dev.setSlot_rip (n : Nat) (x : Slot) : (s.setSlot n x).rip = s.rip := rfl
@[simp] theorem Dev.setSlot_cult (n : Nat) (x : Slot) : (s.setSlot n x).cult = s.cult := rfl
@[simp] theorem Dev.setSlot_harp (n : Nat) (x : Slot) : (s.setSlot n x).harp = s.harp := rfl
@[simp] theorem Dev.setSlot_pins (n : Nat) (x : Slot) : (s.setSlot n x).pins = s.pins := rfl
@[simp] theorem Dev.setSlot_car (n : Nat) (x : Slot) : (s.setSlot n x).car = s.car := rfl
@[simp] theorem Dev.setSlot_trips (n : Nat) (x : Slot) : (s.setSlot n x).trips = s.trips := rfl
@[simp] theorem Dev.setSlot_seq (n : Nat) (x : Slot) : (s.setSlot n x).seq = s.seq := rfl
@[simp] theorem Dev.setSlot_ntcConv (n : Nat) (x : Slot) : (s.setSlot n x).ntcConv = s.ntcConv := rfl
@[simp] theorem Dev.setSlot_hoop (n : Nat) (x : Slot) : (s.setSlot n x).hoop = s.hoop := rfl
@[simp] theorem Dev.setSlot_twin (n : Nat) (x : Slot) : (s.setSlot n x).twin = s.twin := rfl
@[simp] theorem Dev.setSlot_ozh (n : Nat) (x : Slot) : (s.setSlot n x).ozh = s.ozh := rfl
@[simp] theorem Dev.setSlot_ozhKept (n : Nat) (x : Slot) : (s.setSlot n x).ozhKept = s.ozhKept := rfl
@[simp] theorem Dev.setSlot_flt (n : Nat) (x : Slot) : (s.setSlot n x).flt = { s.flt with slots := tabSet {} s.flt.slots n x } := rfl
@[simp] theorem Dev.setSlot_br (n : Nat) (x : Slot) : (s.setSlot n x).br = s.br := rfl

@[simp] theorem Dev.setUpd_out (n : Nat) (x : Upd) : (s.setUpd n x).out = s.out := rfl
@[simp] theorem Dev.setUpd_free (n : Nat) (x : Upd) : (s.setUpd n x).free = s.free := rfl
@[simp] theorem Dev.setUpd_clk (n : Nat) (x : Upd) : (s.setUpd n x).clk = s.clk := rfl
@[simp] theorem Dev.setUpd_pwr (n : Nat) (x : Upd) : (s.setUpd n x).pwr = s.pwr := rfl
@[simp] theorem Dev.setUpd_regs (n : Nat) (x : Upd) : (s.setUpd n x).regs = s.regs := rfl
@[simp] theorem Dev.setUpd_tempo (n : Nat) (x : Upd) : (s.setUpd n x).tempo = s.tempo := rfl
@[simp] theorem Dev.setUpd_ring (n : Nat) (x : Upd) : (s.setUpd n x).ring = s.ring := rfl
@[simp] theorem Dev.setUpd_chan (n : Nat) (x : Upd) : (s.setUpd n x).chan = s.chan := rfl
@[simp] theorem Dev.setUpd_str (n : Nat) (x : Upd) : (s.setUpd n x).str = s.str := rfl
@[simp] theorem Dev.setUpd_mtx (n : Nat) (x : Upd) : (s.setUpd n x).mtx = s.mtx := rfl
@[simp] theorem Dev.setUpd_clr (n : Nat) (x : Upd) : (s.setUpd n x).clr = s.clr := rfl
@[simp] theorem Dev.setUpd_rip (n : Nat) (x : Upd) : (s.setUpd n x).rip = s.rip := rfl
@[simp] theorem Dev.setUpd_cult (n : Nat) (x : Upd) : (s.setUpd n x).cult = s.cult := rfl
@[simp] theorem Dev.setUpd_harp (n : Nat) (x : Upd) : (s.setUpd n x).harp = s.harp := rfl
@[simp] theorem Dev.setUpd_pins (n : Nat) (x : Upd) : (s.setUpd n x).pins = s.pins := rfl
@[simp] theorem Dev.setUpd_car (n : Nat) (x : Upd) : (s.setUpd n x).car = s.car := rfl
@[simp] theorem Dev.setUpd_trips (n : Nat) (x : Upd) : (s.setUpd n x).trips = s.trips := rfl
@[simp] theorem Dev.setUpd_seq (n : Nat) (x : Upd) : (s.setUpd n x).seq = s.seq := rfl
@[simp] theorem Dev.setUpd_ntcConv (n : Nat) (x : Upd) : (s.setUpd n x).ntcConv = s.ntcConv := rfl
@[simp] theorem Dev.setUpd_hoop (n : Nat) (x : Upd) : (s.setUpd n x).hoop = s.hoop := rfl
@[simp] theorem Dev.setUpd_twin (n : Nat) (x : Upd) : (s.setUpd n x).twin = s.twin := rfl
@[simp] theorem Dev.setUpd_ozh (n : Nat) (x : Upd) : (s.setUpd n x).ozh = s.ozh := rfl
@[simp] theorem Dev.setUpd_ozhKept (n : Nat) (x : Upd) : (s.setUpd n x).ozhKept = s.ozhKept := rfl
@[simp] theorem Dev.setUpd_flt (n : Nat) (x : Upd) : (s.setUpd n x).flt = { s.flt with upd := tabSet {} s.flt.upd n x } := rfl
@[simp] theorem Dev.setUpd_br (n : Nat) (x : Upd) : (s.setUpd n x).br = s.br := rfl

@[simp] theorem Dev.setCult_out (a : Nat) (w : Word) : (s.setCult a w).out = s.out := rfl
@[simp] theorem Dev.setCult_free (a : Nat) (w : Word) : (s.setCult a w).free = s.free := rfl
@[simp] theorem Dev.setCult_clk (a : Nat) (w : Word) : (s.setCult a w).clk = s.clk := rfl
@[simp] theorem Dev.setCult_pwr (a : Nat) (w : Word) : (s.setCult a w).pwr = s.pwr := rfl
@[simp] theorem Dev.setCult_regs (a : Nat) (w : Word) : (s.setCult a w).regs = s.regs := rfl
@[simp] theorem Dev.setCult_tempo (a : Nat) (w : Word) : (s.setCult a w).tempo = s.tempo := rfl
@[simp] theorem Dev.setCult_ring (a : Nat) (w : Word) : (s.setCult a w).ring = s.ring := rfl
@[simp] theorem Dev.setCult_chan (a : Nat) (w : Word) : (s.setCult a w).chan = s.chan := rfl
@[simp] theorem Dev.setCult_str (a : Nat) (w : Word) : (s.setCult a w).str = s.str := rfl
@[simp] theorem Dev.setCult_mtx (a : Nat) (w : Word) : (s.setCult a w).mtx = s.mtx := rfl
@[simp] theorem Dev.setCult_clr (a : Nat) (w : Word) : (s.setCult a w).clr = s.clr := rfl
@[simp] theorem Dev.setCult_rip (a : Nat) (w : Word) : (s.setCult a w).rip = s.rip := rfl
@[simp] theorem Dev.setCult_cult (a : Nat) (w : Word) : (s.setCult a w).cult = tabSet 0 s.cult a w := rfl
@[simp] theorem Dev.setCult_harp (a : Nat) (w : Word) : (s.setCult a w).harp = s.harp := rfl
@[simp] theorem Dev.setCult_pins (a : Nat) (w : Word) : (s.setCult a w).pins = s.pins := rfl
@[simp] theorem Dev.setCult_car (a : Nat) (w : Word) : (s.setCult a w).car = s.car := rfl
@[simp] theorem Dev.setCult_trips (a : Nat) (w : Word) : (s.setCult a w).trips = s.trips := rfl
@[simp] theorem Dev.setCult_seq (a : Nat) (w : Word) : (s.setCult a w).seq = s.seq := rfl
@[simp] theorem Dev.setCult_ntcConv (a : Nat) (w : Word) : (s.setCult a w).ntcConv = s.ntcConv := rfl
@[simp] theorem Dev.setCult_hoop (a : Nat) (w : Word) : (s.setCult a w).hoop = s.hoop := rfl
@[simp] theorem Dev.setCult_twin (a : Nat) (w : Word) : (s.setCult a w).twin = s.twin := rfl
@[simp] theorem Dev.setCult_ozh (a : Nat) (w : Word) : (s.setCult a w).ozh = s.ozh := rfl
@[simp] theorem Dev.setCult_ozhKept (a : Nat) (w : Word) : (s.setCult a w).ozhKept = s.ozhKept := rfl
@[simp] theorem Dev.setCult_flt (a : Nat) (w : Word) : (s.setCult a w).flt = s.flt := rfl
@[simp] theorem Dev.setCult_br (a : Nat) (w : Word) : (s.setCult a w).br = s.br := rfl

@[simp] theorem Dev.modClk_out (f : Clk → Clk) : (s.modClk f).out = s.out := rfl
@[simp] theorem Dev.modClk_free (f : Clk → Clk) : (s.modClk f).free = s.free := rfl
@[simp] theorem Dev.modClk_clk (f : Clk → Clk) : (s.modClk f).clk = f s.clk := rfl
@[simp] theorem Dev.modClk_pwr (f : Clk → Clk) : (s.modClk f).pwr = s.pwr := rfl
@[simp] theorem Dev.modClk_regs (f : Clk → Clk) : (s.modClk f).regs = s.regs := rfl
@[simp] theorem Dev.modClk_tempo (f : Clk → Clk) : (s.modClk f).tempo = s.tempo := rfl
@[simp] theorem Dev.modClk_ring (f : Clk → Clk) : (s.modClk f).ring = s.ring := rfl
@[simp] theorem Dev.modClk_chan (f : Clk → Clk) : (s.modClk f).chan = s.chan := rfl
@[simp] theorem Dev.modClk_str (f : Clk → Clk) : (s.modClk f).str = s.str := rfl
@[simp] theorem Dev.modClk_mtx (f : Clk → Clk) : (s.modClk f).mtx = s.mtx := rfl
@[simp] theorem Dev.modClk_clr (f : Clk → Clk) : (s.modClk f).clr = s.clr := rfl
@[simp] theorem Dev.modClk_rip (f : Clk → Clk) : (s.modClk f).rip = s.rip := rfl
@[simp] theorem Dev.modClk_cult (f : Clk → Clk) : (s.modClk f).cult = s.cult := rfl
@[simp] theorem Dev.modClk_harp (f : Clk → Clk) : (s.modClk f).harp = s.harp := rfl
@[simp] theorem Dev.modClk_pins (f : Clk → Clk) : (s.modClk f).pins = s.pins := rfl
@[simp] theorem Dev.modClk_car (f : Clk → Clk) : (s.modClk f).car = s.car := rfl
@[simp] theorem Dev.modClk_trips (f : Clk → Clk) : (s.modClk f).trips = s.trips := rfl
@[simp] theorem Dev.modClk_seq (f : Clk → Clk) : (s.modClk f).seq = s.seq := rfl
@[simp] theorem Dev.modClk_ntcConv (f : Clk → Clk) : (s.modClk f).ntcConv = s.ntcConv := rfl
@[simp] theorem Dev.modClk_hoop (f : Clk → Clk) : (s.modClk f).hoop = s.hoop := rfl
@[simp] theorem Dev.modClk_twin (f : Clk → Clk) : (s.modClk f).twin = s.twin := rfl
@[simp] theorem Dev.modClk_ozh (f : Clk → Clk) : (s.modClk f).ozh = s.ozh := rfl
@[simp] theorem Dev.modClk_ozhKept (f : Clk → Clk) : (s.modClk f).ozhKept = s.ozhKept := rfl
@[simp] theorem Dev.modClk_flt (f : Clk → Clk) : (s.modClk f).flt = s.flt := rfl
@[simp] theorem Dev.modClk_br (f : Clk → Clk) : (s.modClk f).br = s.br := rfl

@[simp] theorem Dev.modPwr_out (f : Pwr → Pwr) : (s.modPwr f).out = s.out := rfl
@[simp] theorem Dev.modPwr_free (f : Pwr → Pwr) : (s.modPwr f).free = s.free := rfl
@[simp] theorem Dev.modPwr_clk (f : Pwr → Pwr) : (s.modPwr f).clk = s.clk := rfl
@[simp] theorem Dev.modPwr_pwr (f : Pwr → Pwr) : (s.modPwr f).pwr = f s.pwr := rfl
@[simp] theorem Dev.modPwr_regs (f : Pwr → Pwr) : (s.modPwr f).regs = s.regs := rfl
@[simp] theorem Dev.modPwr_tempo (f : Pwr → Pwr) : (s.modPwr f).tempo = s.tempo := rfl
@[simp] theorem Dev.modPwr_ring (f : Pwr → Pwr) : (s.modPwr f).ring = s.ring := rfl
@[simp] theorem Dev.modPwr_chan (f : Pwr → Pwr) : (s.modPwr f).chan = s.chan := rfl
@[simp] theorem Dev.modPwr_str (f : Pwr → Pwr) : (s.modPwr f).str = s.str := rfl
@[simp] theorem Dev.modPwr_mtx (f : Pwr → Pwr) : (s.modPwr f).mtx = s.mtx := rfl
@[simp] theorem Dev.modPwr_clr (f : Pwr → Pwr) : (s.modPwr f).clr = s.clr := rfl
@[simp] theorem Dev.modPwr_rip (f : Pwr → Pwr) : (s.modPwr f).rip = s.rip := rfl
@[simp] theorem Dev.modPwr_cult (f : Pwr → Pwr) : (s.modPwr f).cult = s.cult := rfl
@[simp] theorem Dev.modPwr_harp (f : Pwr → Pwr) : (s.modPwr f).harp = s.harp := rfl
@[simp] theorem Dev.modPwr_pins (f : Pwr → Pwr) : (s.modPwr f).pins = s.pins := rfl
@[simp] theorem Dev.modPwr_car (f : Pwr → Pwr) : (s.modPwr f).car = s.car := rfl
@[simp] theorem Dev.modPwr_trips (f : Pwr → Pwr) : (s.modPwr f).trips = s.trips := rfl
@[simp] theorem Dev.modPwr_seq (f : Pwr → Pwr) : (s.modPwr f).seq = s.seq := rfl
@[simp] theorem Dev.modPwr_ntcConv (f : Pwr → Pwr) : (s.modPwr f).ntcConv = s.ntcConv := rfl
@[simp] theorem Dev.modPwr_hoop (f : Pwr → Pwr) : (s.modPwr f).hoop = s.hoop := rfl
@[simp] theorem Dev.modPwr_twin (f : Pwr → Pwr) : (s.modPwr f).twin = s.twin := rfl
@[simp] theorem Dev.modPwr_ozh (f : Pwr → Pwr) : (s.modPwr f).ozh = s.ozh := rfl
@[simp] theorem Dev.modPwr_ozhKept (f : Pwr → Pwr) : (s.modPwr f).ozhKept = s.ozhKept := rfl
@[simp] theorem Dev.modPwr_flt (f : Pwr → Pwr) : (s.modPwr f).flt = s.flt := rfl
@[simp] theorem Dev.modPwr_br (f : Pwr → Pwr) : (s.modPwr f).br = s.br := rfl

@[simp] theorem Dev.modRing_out (f : Ring → Ring) : (s.modRing f).out = s.out := rfl
@[simp] theorem Dev.modRing_free (f : Ring → Ring) : (s.modRing f).free = s.free := rfl
@[simp] theorem Dev.modRing_clk (f : Ring → Ring) : (s.modRing f).clk = s.clk := rfl
@[simp] theorem Dev.modRing_pwr (f : Ring → Ring) : (s.modRing f).pwr = s.pwr := rfl
@[simp] theorem Dev.modRing_regs (f : Ring → Ring) : (s.modRing f).regs = s.regs := rfl
@[simp] theorem Dev.modRing_tempo (f : Ring → Ring) : (s.modRing f).tempo = s.tempo := rfl
@[simp] theorem Dev.modRing_ring (f : Ring → Ring) : (s.modRing f).ring = f s.ring := rfl
@[simp] theorem Dev.modRing_chan (f : Ring → Ring) : (s.modRing f).chan = s.chan := rfl
@[simp] theorem Dev.modRing_str (f : Ring → Ring) : (s.modRing f).str = s.str := rfl
@[simp] theorem Dev.modRing_mtx (f : Ring → Ring) : (s.modRing f).mtx = s.mtx := rfl
@[simp] theorem Dev.modRing_clr (f : Ring → Ring) : (s.modRing f).clr = s.clr := rfl
@[simp] theorem Dev.modRing_rip (f : Ring → Ring) : (s.modRing f).rip = s.rip := rfl
@[simp] theorem Dev.modRing_cult (f : Ring → Ring) : (s.modRing f).cult = s.cult := rfl
@[simp] theorem Dev.modRing_harp (f : Ring → Ring) : (s.modRing f).harp = s.harp := rfl
@[simp] theorem Dev.modRing_pins (f : Ring → Ring) : (s.modRing f).pins = s.pins := rfl
@[simp] theorem Dev.modRing_car (f : Ring → Ring) : (s.modRing f).car = s.car := rfl
@[simp] theorem Dev.modRing_trips (f : Ring → Ring) : (s.modRing f).trips = s.trips := rfl
@[simp] theorem Dev.modRing_seq (f : Ring → Ring) : (s.modRing f).seq = s.seq := rfl
@[simp] theorem Dev.modRing_ntcConv (f : Ring → Ring) : (s.modRing f).ntcConv = s.ntcConv := rfl
@[simp] theorem Dev.modRing_hoop (f : Ring → Ring) : (s.modRing f).hoop = s.hoop := rfl
@[simp] theorem Dev.modRing_twin (f : Ring → Ring) : (s.modRing f).twin = s.twin := rfl
@[simp] theorem Dev.modRing_ozh (f : Ring → Ring) : (s.modRing f).ozh = s.ozh := rfl
@[simp] theorem Dev.modRing_ozhKept (f : Ring → Ring) : (s.modRing f).ozhKept = s.ozhKept := rfl
@[simp] theorem Dev.modRing_flt (f : Ring → Ring) : (s.modRing f).flt = s.flt := rfl
@[simp] theorem Dev.modRing_br (f : Ring → Ring) : (s.modRing f).br = s.br := rfl

@[simp] theorem Dev.modHoop_out (f : Hoop → Hoop) : (s.modHoop f).out = s.out := rfl
@[simp] theorem Dev.modHoop_free (f : Hoop → Hoop) : (s.modHoop f).free = s.free := rfl
@[simp] theorem Dev.modHoop_clk (f : Hoop → Hoop) : (s.modHoop f).clk = s.clk := rfl
@[simp] theorem Dev.modHoop_pwr (f : Hoop → Hoop) : (s.modHoop f).pwr = s.pwr := rfl
@[simp] theorem Dev.modHoop_regs (f : Hoop → Hoop) : (s.modHoop f).regs = s.regs := rfl
@[simp] theorem Dev.modHoop_tempo (f : Hoop → Hoop) : (s.modHoop f).tempo = s.tempo := rfl
@[simp] theorem Dev.modHoop_ring (f : Hoop → Hoop) : (s.modHoop f).ring = s.ring := rfl
@[simp] theorem Dev.modHoop_chan (f : Hoop → Hoop) : (s.modHoop f).chan = s.chan := rfl
@[simp] theorem Dev.modHoop_str (f : Hoop → Hoop) : (s.modHoop f).str = s.str := rfl
@[simp] theorem Dev.modHoop_mtx (f : Hoop → Hoop) : (s.modHoop f).mtx = s.mtx := rfl
@[simp] theorem Dev.modHoop_clr (f : Hoop → Hoop) : (s.modHoop f).clr = s.clr := rfl
@[simp] theorem Dev.modHoop_rip (f : Hoop → Hoop) : (s.modHoop f).rip = s.rip := rfl
@[simp] theorem Dev.modHoop_cult (f : Hoop → Hoop) : (s.modHoop f).cult = s.cult := rfl
@[simp] theorem Dev.modHoop_harp (f : Hoop → Hoop) : (s.modHoop f).harp = s.harp := rfl
@[simp] theorem Dev.modHoop_pins (f : Hoop → Hoop) : (s.modHoop f).pins = s.pins := rfl
@[simp] theorem Dev.modHoop_car (f : Hoop → Hoop) : (s.modHoop f).car = s.car := rfl
@[simp] theorem Dev.modHoop_trips (f : Hoop → Hoop) : (s.modHoop f).trips = s.trips := rfl
@[simp] theorem Dev.modHoop_seq (f : Hoop → Hoop) : (s.modHoop f).seq = s.seq := rfl
@[simp] theorem Dev.modHoop_ntcConv (f : Hoop → Hoop) : (s.modHoop f).ntcConv = s.ntcConv := rfl
@[simp] theorem Dev.modHoop_hoop (f : Hoop → Hoop) : (s.modHoop f).hoop = f s.hoop := rfl
@[simp] theorem Dev.modHoop_twin (f : Hoop → Hoop) : (s.modHoop f).twin = s.twin := rfl
@[simp] theorem Dev.modHoop_ozh (f : Hoop → Hoop) : (s.modHoop f).ozh = s.ozh := rfl
@[simp] theorem Dev.modHoop_ozhKept (f : Hoop → Hoop) : (s.modHoop f).ozhKept = s.ozhKept := rfl
@[simp] theorem Dev.modHoop_flt (f : Hoop → Hoop) : (s.modHoop f).flt = s.flt := rfl
@[simp] theorem Dev.modHoop_br (f : Hoop → Hoop) : (s.modHoop f).br = s.br := rfl

@[simp] theorem Dev.modTwin_out (f : Twin → Twin) : (s.modTwin f).out = s.out := rfl
@[simp] theorem Dev.modTwin_free (f : Twin → Twin) : (s.modTwin f).free = s.free := rfl
@[simp] theorem Dev.modTwin_clk (f : Twin → Twin) : (s.modTwin f).clk = s.clk := rfl
@[simp] theorem Dev.modTwin_pwr (f : Twin → Twin) : (s.modTwin f).pwr = s.pwr := rfl
@[simp] theorem Dev.modTwin_regs (f : Twin → Twin) : (s.modTwin f).regs = s.regs := rfl
@[simp] theorem Dev.modTwin_tempo (f : Twin → Twin) : (s.modTwin f).tempo = s.tempo := rfl
@[simp] theorem Dev.modTwin_ring (f : Twin → Twin) : (s.modTwin f).ring = s.ring := rfl
@[simp] theorem Dev.modTwin_chan (f : Twin → Twin) : (s.modTwin f).chan = s.chan := rfl
@[simp] theorem Dev.modTwin_str (f : Twin → Twin) : (s.modTwin f).str = s.str := rfl
@[simp] theorem Dev.modTwin_mtx (f : Twin → Twin) : (s.modTwin f).mtx = s.mtx := rfl
@[simp] theorem Dev.modTwin_clr (f : Twin → Twin) : (s.modTwin f).clr = s.clr := rfl
@[simp] theorem Dev.modTwin_rip (f : Twin → Twin) : (s.modTwin f).rip = s.rip := rfl
@[simp] theorem Dev.modTwin_cult (f : Twin → Twin) : (s.modTwin f).cult = s.cult := rfl
@[simp] theorem Dev.modTwin_harp (f : Twin → Twin) : (s.modTwin f).harp = s.harp := rfl
@[simp] theorem Dev.modTwin_pins (f : Twin → Twin) : (s.modTwin f).pins = s.pins := rfl
@[simp] theorem Dev.modTwin_car (f : Twin → Twin) : (s.modTwin f).car = s.car := rfl
@[simp] theorem Dev.modTwin_trips (f : Twin → Twin) : (s.modTwin f).trips = s.trips := rfl
@[simp] theorem Dev.modTwin_seq (f : Twin → Twin) : (s.modTwin f).seq = s.seq := rfl
@[simp] theorem Dev.modTwin_ntcConv (f : Twin → Twin) : (s.modTwin f).ntcConv = s.ntcConv := rfl
@[simp] theorem Dev.modTwin_hoop (f : Twin → Twin) : (s.modTwin f).hoop = s.hoop := rfl
@[simp] theorem Dev.modTwin_twin (f : Twin → Twin) : (s.modTwin f).twin = f s.twin := rfl
@[simp] theorem Dev.modTwin_ozh (f : Twin → Twin) : (s.modTwin f).ozh = s.ozh := rfl
@[simp] theorem Dev.modTwin_ozhKept (f : Twin → Twin) : (s.modTwin f).ozhKept = s.ozhKept := rfl
@[simp] theorem Dev.modTwin_flt (f : Twin → Twin) : (s.modTwin f).flt = s.flt := rfl
@[simp] theorem Dev.modTwin_br (f : Twin → Twin) : (s.modTwin f).br = s.br := rfl

@[simp] theorem Dev.modOzh_out (f : Ozh → Ozh) : (s.modOzh f).out = s.out := rfl
@[simp] theorem Dev.modOzh_free (f : Ozh → Ozh) : (s.modOzh f).free = s.free := rfl
@[simp] theorem Dev.modOzh_clk (f : Ozh → Ozh) : (s.modOzh f).clk = s.clk := rfl
@[simp] theorem Dev.modOzh_pwr (f : Ozh → Ozh) : (s.modOzh f).pwr = s.pwr := rfl
@[simp] theorem Dev.modOzh_regs (f : Ozh → Ozh) : (s.modOzh f).regs = s.regs := rfl
@[simp] theorem Dev.modOzh_tempo (f : Ozh → Ozh) : (s.modOzh f).tempo = s.tempo := rfl
@[simp] theorem Dev.modOzh_ring (f : Ozh → Ozh) : (s.modOzh f).ring = s.ring := rfl
@[simp] theorem Dev.modOzh_chan (f : Ozh → Ozh) : (s.modOzh f).chan = s.chan := rfl
@[simp] theorem Dev.modOzh_str (f : Ozh → Ozh) : (s.modOzh f).str = s.str := rfl
@[simp] theorem Dev.modOzh_mtx (f : Ozh → Ozh) : (s.modOzh f).mtx = s.mtx := rfl
@[simp] theorem Dev.modOzh_clr (f : Ozh → Ozh) : (s.modOzh f).clr = s.clr := rfl
@[simp] theorem Dev.modOzh_rip (f : Ozh → Ozh) : (s.modOzh f).rip = s.rip := rfl
@[simp] theorem Dev.modOzh_cult (f : Ozh → Ozh) : (s.modOzh f).cult = s.cult := rfl
@[simp] theorem Dev.modOzh_harp (f : Ozh → Ozh) : (s.modOzh f).harp = s.harp := rfl
@[simp] theorem Dev.modOzh_pins (f : Ozh → Ozh) : (s.modOzh f).pins = s.pins := rfl
@[simp] theorem Dev.modOzh_car (f : Ozh → Ozh) : (s.modOzh f).car = s.car := rfl
@[simp] theorem Dev.modOzh_trips (f : Ozh → Ozh) : (s.modOzh f).trips = s.trips := rfl
@[simp] theorem Dev.modOzh_seq (f : Ozh → Ozh) : (s.modOzh f).seq = s.seq := rfl
@[simp] theorem Dev.modOzh_ntcConv (f : Ozh → Ozh) : (s.modOzh f).ntcConv = s.ntcConv := rfl
@[simp] theorem Dev.modOzh_hoop (f : Ozh → Ozh) : (s.modOzh f).hoop = s.hoop := rfl
@[simp] theorem Dev.modOzh_twin (f : Ozh → Ozh) : (s.modOzh f).twin = s.twin := rfl
@[simp] theorem Dev.modOzh_ozh (f : Ozh → Ozh) : (s.modOzh f).ozh = f s.ozh := rfl
@[simp] theorem Dev.modOzh_ozhKept (f : Ozh → Ozh) : (s.modOzh f).ozhKept = s.ozhKept := rfl
@[simp] theorem Dev.modOzh_flt (f : Ozh → Ozh) : (s.modOzh f).flt = s.flt := rfl
@[simp] theorem Dev.modOzh_br (f : Ozh → Ozh) : (s.modOzh f).br = s.br := rfl

@[simp] theorem Dev.modFlt_out (f : Flt → Flt) : (s.modFlt f).out = s.out := rfl
@[simp] theorem Dev.modFlt_free (f : Flt → Flt) : (s.modFlt f).free = s.free := rfl
@[simp] theorem Dev.modFlt_clk (f : Flt → Flt) : (s.modFlt f).clk = s.clk := rfl
@[simp] theorem Dev.modFlt_pwr (f : Flt → Flt) : (s.modFlt f).pwr = s.pwr := rfl
@[simp] theorem Dev.modFlt_regs (f : Flt → Flt) : (s.modFlt f).regs = s.regs := rfl
@[simp] theorem Dev.modFlt_tempo (f : Flt → Flt) : (s.modFlt f).tempo = s.tempo := rfl
@[simp] theorem Dev.modFlt_ring (f : Flt → Flt) : (s.modFlt f).ring = s.ring := rfl
@[simp] theorem Dev.modFlt_chan (f : Flt → Flt) : (s.modFlt f).chan = s.chan := rfl
@[simp] theorem Dev.modFlt_str (f : Flt → Flt) : (s.modFlt f).str = s.str := rfl
@[simp] theorem Dev.modFlt_mtx (f : Flt → Flt) : (s.modFlt f).mtx = s.mtx := rfl
@[simp] theorem Dev.modFlt_clr (f : Flt → Flt) : (s.modFlt f).clr = s.clr := rfl
@[simp] theorem Dev.modFlt_rip (f : Flt → Flt) : (s.modFlt f).rip = s.rip := rfl
@[simp] theorem Dev.modFlt_cult (f : Flt → Flt) : (s.modFlt f).cult = s.cult := rfl
@[simp] theorem Dev.modFlt_harp (f : Flt → Flt) : (s.modFlt f).harp = s.harp := rfl
@[simp] theorem Dev.modFlt_pins (f : Flt → Flt) : (s.modFlt f).pins = s.pins := rfl
@[simp] theorem Dev.modFlt_car (f : Flt → Flt) : (s.modFlt f).car = s.car := rfl
@[simp] theorem Dev.modFlt_trips (f : Flt → Flt) : (s.modFlt f).trips = s.trips := rfl
@[simp] theorem Dev.modFlt_seq (f : Flt → Flt) : (s.modFlt f).seq = s.seq := rfl
@[simp] theorem Dev.modFlt_ntcConv (f : Flt → Flt) : (s.modFlt f).ntcConv = s.ntcConv := rfl
@[simp] theorem Dev.modFlt_hoop (f : Flt → Flt) : (s.modFlt f).hoop = s.hoop := rfl
@[simp] theorem Dev.modFlt_twin (f : Flt → Flt) : (s.modFlt f).twin = s.twin := rfl
@[simp] theorem Dev.modFlt_ozh (f : Flt → Flt) : (s.modFlt f).ozh = s.ozh := rfl
@[simp] theorem Dev.modFlt_ozhKept (f : Flt → Flt) : (s.modFlt f).ozhKept = s.ozhKept := rfl
@[simp] theorem Dev.modFlt_flt (f : Flt → Flt) : (s.modFlt f).flt = f s.flt := rfl
@[simp] theorem Dev.modFlt_br (f : Flt → Flt) : (s.modFlt f).br = s.br := rfl

@[simp] theorem Dev.modMtx_out (f : Mtx → Mtx) : (s.modMtx f).out = s.out := rfl
@[simp] theorem Dev.modMtx_free (f : Mtx → Mtx) : (s.modMtx f).free = s.free := rfl
@[simp] theorem Dev.modMtx_clk (f : Mtx → Mtx) : (s.modMtx f).clk = s.clk := rfl
@[simp] theorem Dev.modMtx_pwr (f : Mtx → Mtx) : (s.modMtx f).pwr = s.pwr := rfl
@[simp] theorem Dev.modMtx_regs (f : Mtx → Mtx) : (s.modMtx f).regs = s.regs := rfl
@[simp] theorem Dev.modMtx_tempo (f : Mtx → Mtx) : (s.modMtx f).tempo = s.tempo := rfl
@[simp] theorem Dev.modMtx_ring (f : Mtx → Mtx) : (s.modMtx f).ring = s.ring := rfl
@[simp] theorem Dev.modMtx_chan (f : Mtx → Mtx) : (s.modMtx f).chan = s.chan := rfl
@[simp] theorem Dev.modMtx_str (f : Mtx → Mtx) : (s.modMtx f).str = s.str := rfl
@[simp] theorem Dev.modMtx_mtx (f : Mtx → Mtx) : (s.modMtx f).mtx = f s.mtx := rfl
@[simp] theorem Dev.modMtx_clr (f : Mtx → Mtx) : (s.modMtx f).clr = s.clr := rfl
@[simp] theorem Dev.modMtx_rip (f : Mtx → Mtx) : (s.modMtx f).rip = s.rip := rfl
@[simp] theorem Dev.modMtx_cult (f : Mtx → Mtx) : (s.modMtx f).cult = s.cult := rfl
@[simp] theorem Dev.modMtx_harp (f : Mtx → Mtx) : (s.modMtx f).harp = s.harp := rfl
@[simp] theorem Dev.modMtx_pins (f : Mtx → Mtx) : (s.modMtx f).pins = s.pins := rfl
@[simp] theorem Dev.modMtx_car (f : Mtx → Mtx) : (s.modMtx f).car = s.car := rfl
@[simp] theorem Dev.modMtx_trips (f : Mtx → Mtx) : (s.modMtx f).trips = s.trips := rfl
@[simp] theorem Dev.modMtx_seq (f : Mtx → Mtx) : (s.modMtx f).seq = s.seq := rfl
@[simp] theorem Dev.modMtx_ntcConv (f : Mtx → Mtx) : (s.modMtx f).ntcConv = s.ntcConv := rfl
@[simp] theorem Dev.modMtx_hoop (f : Mtx → Mtx) : (s.modMtx f).hoop = s.hoop := rfl
@[simp] theorem Dev.modMtx_twin (f : Mtx → Mtx) : (s.modMtx f).twin = s.twin := rfl
@[simp] theorem Dev.modMtx_ozh (f : Mtx → Mtx) : (s.modMtx f).ozh = s.ozh := rfl
@[simp] theorem Dev.modMtx_ozhKept (f : Mtx → Mtx) : (s.modMtx f).ozhKept = s.ozhKept := rfl
@[simp] theorem Dev.modMtx_flt (f : Mtx → Mtx) : (s.modMtx f).flt = s.flt := rfl
@[simp] theorem Dev.modMtx_br (f : Mtx → Mtx) : (s.modMtx f).br = s.br := rfl

@[simp] theorem Dev.modTempo_out (f : Tempo → Tempo) : (s.modTempo f).out = s.out := rfl
@[simp] theorem Dev.modTempo_free (f : Tempo → Tempo) : (s.modTempo f).free = s.free := rfl
@[simp] theorem Dev.modTempo_clk (f : Tempo → Tempo) : (s.modTempo f).clk = s.clk := rfl
@[simp] theorem Dev.modTempo_pwr (f : Tempo → Tempo) : (s.modTempo f).pwr = s.pwr := rfl
@[simp] theorem Dev.modTempo_regs (f : Tempo → Tempo) : (s.modTempo f).regs = s.regs := rfl
@[simp] theorem Dev.modTempo_tempo (f : Tempo → Tempo) : (s.modTempo f).tempo = f s.tempo := rfl
@[simp] theorem Dev.modTempo_ring (f : Tempo → Tempo) : (s.modTempo f).ring = s.ring := rfl
@[simp] theorem Dev.modTempo_chan (f : Tempo → Tempo) : (s.modTempo f).chan = s.chan := rfl
@[simp] theorem Dev.modTempo_str (f : Tempo → Tempo) : (s.modTempo f).str = s.str := rfl
@[simp] theorem Dev.modTempo_mtx (f : Tempo → Tempo) : (s.modTempo f).mtx = s.mtx := rfl
@[simp] theorem Dev.modTempo_clr (f : Tempo → Tempo) : (s.modTempo f).clr = s.clr := rfl
@[simp] theorem Dev.modTempo_rip (f : Tempo → Tempo) : (s.modTempo f).rip = s.rip := rfl
@[simp] theorem Dev.modTempo_cult (f : Tempo → Tempo) : (s.modTempo f).cult = s.cult := rfl
@[simp] theorem Dev.modTempo_harp (f : Tempo → Tempo) : (s.modTempo f).harp = s.harp := rfl
@[simp] theorem Dev.modTempo_pins (f : Tempo → Tempo) : (s.modTempo f).pins = s.pins := rfl
@[simp] theorem Dev.modTempo_car (f : Tempo → Tempo) : (s.modTempo f).car = s.car := rfl
@[simp] theorem Dev.modTempo_trips (f : Tempo → Tempo) : (s.modTempo f).trips = s.trips := rfl
@[simp] theorem Dev.modTempo_seq (f : Tempo → Tempo) : (s.modTempo f).seq = s.seq := rfl
@[simp] theorem Dev.modTempo_ntcConv (f : Tempo → Tempo) : (s.modTempo f).ntcConv = s.ntcConv := rfl
@[simp] theorem Dev.modTempo_hoop (f : Tempo → Tempo) : (s.modTempo f).hoop = s.hoop := rfl
@[simp] theorem Dev.modTempo_twin (f : Tempo → Tempo) : (s.modTempo f).twin = s.twin := rfl
@[simp] theorem Dev.modTempo_ozh (f : Tempo → Tempo) : (s.modTempo f).ozh = s.ozh := rfl
@[simp] theorem Dev.modTempo_ozhKept (f : Tempo → Tempo) : (s.modTempo f).ozhKept = s.ozhKept := rfl
@[simp] theorem Dev.modTempo_flt (f : Tempo → Tempo) : (s.modTempo f).flt = s.flt := rfl
@[simp] theorem Dev.modTempo_br (f : Tempo → Tempo) : (s.modTempo f).br = s.br := rfl

@[simp] theorem Dev.modBr_out (f : Bridge → Bridge) : (s.modBr f).out = s.out := rfl
@[simp] theorem Dev.modBr_free (f : Bridge → Bridge) : (s.modBr f).free = s.free := rfl
@[simp] theorem Dev.modBr_clk (f : Bridge → Bridge) : (s.modBr f).clk = s.clk := rfl
@[simp] theorem Dev.modBr_pwr (f : Bridge → Bridge) : (s.modBr f).pwr = s.pwr := rfl
@[simp] theorem Dev.modBr_regs (f : Bridge → Bridge) : (s.modBr f).regs = s.regs := rfl
@[simp] theorem Dev.modBr_tempo (f : Bridge → Bridge) : (s.modBr f).tempo = s.tempo := rfl
@[simp] theorem Dev.modBr_ring (f : Bridge → Bridge) : (s.modBr f).ring = s.ring := rfl
@[simp] theorem Dev.modBr_chan (f : Bridge → Bridge) : (s.modBr f).chan = s.chan := rfl
@[simp] theorem Dev.modBr_str (f : Bridge → Bridge) : (s.modBr f).str = s.str := rfl
@[simp] theorem Dev.modBr_mtx (f : Bridge → Bridge) : (s.modBr f).mtx = s.mtx := rfl
@[simp] theorem Dev.modBr_clr (f : Bridge → Bridge) : (s.modBr f).clr = s.clr := rfl
@[simp] theorem Dev.modBr_rip (f : Bridge → Bridge) : (s.modBr f).rip = s.rip := rfl
@[simp] theorem Dev.modBr_cult (f : Bridge → Bridge) : (s.modBr f).cult = s.cult := rfl
@[simp] theorem Dev.modBr_harp (f : Bridge → Bridge) : (s.modBr f).harp = s.harp := rfl
@[simp] theorem Dev.modBr_pins (f : Bridge → Bridge) : (s.modBr f).pins = s.pins := rfl
@[simp] theorem Dev.modBr_car (f : Bridge → Bridge) : (s.modBr f).car = s.car := rfl
@[simp] theorem Dev.modBr_trips (f : Bridge → Bridge) : (s.modBr f).trips = s.trips := rfl
@[simp] theorem Dev.modBr_seq (f : Bridge → Bridge) : (s.modBr f).seq = s.seq := rfl
@[simp] theorem Dev.modBr_ntcConv (f : Bridge → Bridge) : (s.modBr f).ntcConv = s.ntcConv := rfl
@[simp] theorem Dev.modBr_hoop (f : Bridge → Bridge) : (s.modBr f).hoop = s.hoop := rfl
@[simp] theorem Dev.modBr_twin (f : Bridge → Bridge) : (s.modBr f).twin = s.twin := rfl
@[simp] theorem Dev.modBr_ozh (f : Bridge → Bridge) : (s.modBr f).ozh = s.ozh := rfl
@[simp] theorem Dev.modBr_ozhKept (f : Bridge → Bridge) : (s.modBr f).ozhKept = s.ozhKept := rfl
@[simp] theorem Dev.modBr_flt (f : Bridge → Bridge) : (s.modBr f).flt = s.flt := rfl
@[simp] theorem Dev.modBr_br (f : Bridge → Bridge) : (s.modBr f).br = f s.br := rfl

@[simp] theorem Dev.setRegs_out (r : Regs) : (s.setRegs r).out = s.out := rfl
@[simp] theorem Dev.setRegs_free (r : Regs) : (s.setRegs r).free = s.free := rfl
@[simp] theorem Dev.setRegs_clk (r : Regs) : (s.setRegs r).clk = s.clk := rfl
@[simp] theorem Dev.setRegs_pwr (r : Regs) : (s.setRegs r).pwr = s.pwr := rfl
@[simp] theorem Dev.setRegs_regs (r : Regs) : (s.setRegs r).regs = r := rfl
@[simp] theorem Dev.setRegs_tempo (r : Regs) : (s.setRegs r).tempo = s.tempo := rfl
@[simp] theorem Dev.setRegs_ring (r : Regs) : (s.setRegs r).ring = s.ring := rfl
@[simp] theorem Dev.setRegs_chan (r : Regs) : (s.setRegs r).chan = s.chan := rfl
@[simp] theorem Dev.setRegs_str (r : Regs) : (s.setRegs r).str = s.str := rfl
@[simp] theorem Dev.setRegs_mtx (r : Regs) : (s.setRegs r).mtx = s.mtx := rfl
@[simp] theorem Dev.setRegs_clr (r : Regs) : (s.setRegs r).clr = s.clr := rfl
@[simp] theorem Dev.setRegs_rip (r : Regs) : (s.setRegs r).rip = s.rip := rfl
@[simp] theorem Dev.setRegs_cult (r : Regs) : (s.setRegs r).cult = s.cult := rfl
@[simp] theorem Dev.setRegs_harp (r : Regs) : (s.setRegs r).harp = s.harp := rfl
@[simp] theorem Dev.setRegs_pins (r : Regs) : (s.setRegs r).pins = s.pins := rfl
@[simp] theorem Dev.setRegs_car (r : Regs) : (s.setRegs r).car = s.car := rfl
@[simp] theorem Dev.setRegs_trips (r : Regs) : (s.setRegs r).trips = s.trips := rfl
@[simp] theorem Dev.setRegs_seq (r : Regs) : (s.setRegs r).seq = s.seq := rfl
@[simp] theorem Dev.setRegs_ntcConv (r : Regs) : (s.setRegs r).ntcConv = s.ntcConv := rfl
@[simp] theorem Dev.setRegs_hoop (r : Regs) : (s.setRegs r).hoop = s.hoop := rfl
@[simp] theorem Dev.setRegs_twin (r : Regs) : (s.setRegs r).twin = s.twin := rfl
@[simp] theorem Dev.setRegs_ozh (r : Regs) : (s.setRegs r).ozh = s.ozh := rfl
@[simp] theorem Dev.setRegs_ozhKept (r : Regs) : (s.setRegs r).ozhKept = s.ozhKept := rfl
@[simp] theorem Dev.setRegs_flt (r : Regs) : (s.setRegs r).flt = s.flt := rfl
@[simp] theorem Dev.setRegs_br (r : Regs) : (s.setRegs r).br = s.br := rfl

@[simp] theorem Dev.setForce_out (off : Nat) (w : Word) : (s.setForce off w).out = s.out := rfl
@[simp] theorem Dev.setForce_free (off : Nat) (w : Word) : (s.setForce off w).free = s.free := rfl
@[simp] theorem Dev.setForce_clk (off : Nat) (w : Word) : (s.setForce off w).clk = s.clk := rfl
@[simp] theorem Dev.setForce_pwr (off : Nat) (w : Word) : (s.setForce off w).pwr = s.pwr := rfl
@[simp] theorem Dev.setForce_tempo (off : Nat) (w : Word) : (s.setForce off w).tempo = s.tempo := rfl
@[simp] theorem Dev.setForce_ring (off : Nat) (w : Word) : (s.setForce off w).ring = s.ring := rfl
@[simp] theorem Dev.setForce_chan (off : Nat) (w : Word) : (s.setForce off w).chan = s.chan := rfl
@[simp] theorem Dev.setForce_str (off : Nat) (w : Word) : (s.setForce off w).str = s.str := rfl
@[simp] theorem Dev.setForce_mtx (off : Nat) (w : Word) : (s.setForce off w).mtx = s.mtx := rfl
@[simp] theorem Dev.setForce_clr (off : Nat) (w : Word) : (s.setForce off w).clr = s.clr := rfl
@[simp] theorem Dev.setForce_rip (off : Nat) (w : Word) : (s.setForce off w).rip = s.rip := rfl
@[simp] theorem Dev.setForce_cult (off : Nat) (w : Word) : (s.setForce off w).cult = s.cult := rfl
@[simp] theorem Dev.setForce_harp (off : Nat) (w : Word) : (s.setForce off w).harp = s.harp := rfl
@[simp] theorem Dev.setForce_pins (off : Nat) (w : Word) : (s.setForce off w).pins = s.pins := rfl
@[simp] theorem Dev.setForce_car (off : Nat) (w : Word) : (s.setForce off w).car = s.car := rfl
@[simp] theorem Dev.setForce_trips (off : Nat) (w : Word) : (s.setForce off w).trips = s.trips := rfl
@[simp] theorem Dev.setForce_seq (off : Nat) (w : Word) : (s.setForce off w).seq = s.seq := rfl
@[simp] theorem Dev.setForce_ntcConv (off : Nat) (w : Word) : (s.setForce off w).ntcConv = s.ntcConv := rfl
@[simp] theorem Dev.setForce_hoop (off : Nat) (w : Word) : (s.setForce off w).hoop = s.hoop := rfl
@[simp] theorem Dev.setForce_twin (off : Nat) (w : Word) : (s.setForce off w).twin = s.twin := rfl
@[simp] theorem Dev.setForce_ozh (off : Nat) (w : Word) : (s.setForce off w).ozh = s.ozh := rfl
@[simp] theorem Dev.setForce_ozhKept (off : Nat) (w : Word) : (s.setForce off w).ozhKept = s.ozhKept := rfl
@[simp] theorem Dev.setForce_flt (off : Nat) (w : Word) : (s.setForce off w).flt = s.flt := rfl
@[simp] theorem Dev.setForce_br (off : Nat) (w : Word) : (s.setForce off w).br = s.br := rfl

@[simp] theorem Dev.setForceField_out (off hi lo v : Nat) : (s.setForceField off hi lo v).out = s.out := rfl
@[simp] theorem Dev.setForceField_free (off hi lo v : Nat) : (s.setForceField off hi lo v).free = s.free := rfl
@[simp] theorem Dev.setForceField_clk (off hi lo v : Nat) : (s.setForceField off hi lo v).clk = s.clk := rfl
@[simp] theorem Dev.setForceField_pwr (off hi lo v : Nat) : (s.setForceField off hi lo v).pwr = s.pwr := rfl
@[simp] theorem Dev.setForceField_tempo (off hi lo v : Nat) : (s.setForceField off hi lo v).tempo = s.tempo := rfl
@[simp] theorem Dev.setForceField_ring (off hi lo v : Nat) : (s.setForceField off hi lo v).ring = s.ring := rfl
@[simp] theorem Dev.setForceField_chan (off hi lo v : Nat) : (s.setForceField off hi lo v).chan = s.chan := rfl
@[simp] theorem Dev.setForceField_str (off hi lo v : Nat) : (s.setForceField off hi lo v).str = s.str := rfl
@[simp] theorem Dev.setForceField_mtx (off hi lo v : Nat) : (s.setForceField off hi lo v).mtx = s.mtx := rfl
@[simp] theorem Dev.setForceField_clr (off hi lo v : Nat) : (s.setForceField off hi lo v).clr = s.clr := rfl
@[simp] theorem Dev.setForceField_rip (off hi lo v : Nat) : (s.setForceField off hi lo v).rip = s.rip := rfl
@[simp] theorem Dev.setForceField_cult (off hi lo v : Nat) : (s.setForceField off hi lo v).cult = s.cult := rfl
@[simp] theorem Dev.setForceField_harp (off hi lo v : Nat) : (s.setForceField off hi lo v).harp = s.harp := rfl
@[simp] theorem Dev.setForceField_pins (off hi lo v : Nat) : (s.setForceField off hi lo v).pins = s.pins := rfl
@[simp] theorem Dev.setForceField_car (off hi lo v : Nat) : (s.setForceField off hi lo v).car = s.car := rfl
@[simp] theorem Dev.setForceField_trips (off hi lo v : Nat) : (s.setForceField off hi lo v).trips = s.trips := rfl
@[simp] theorem Dev.setForceField_seq (off hi lo v : Nat) : (s.setForceField off hi lo v).seq = s.seq := rfl
@[simp] theorem Dev.setForceField_ntcConv (off hi lo v : Nat) : (s.setForceField off hi lo v).ntcConv = s.ntcConv := rfl
@[simp] theorem Dev.setForceField_hoop (off hi lo v : Nat) : (s.setForceField off hi lo v).hoop = s.hoop := rfl
@[simp] theorem Dev.setForceField_twin (off hi lo v : Nat) : (s.setForceField off hi lo v).twin = s.twin := rfl
@[simp] theorem Dev.setForceField_ozh (off hi lo v : Nat) : (s.setForceField off hi lo v).ozh = s.ozh := rfl
@[simp] theorem Dev.setForceField_ozhKept (off hi lo v : Nat) : (s.setForceField off hi lo v).ozhKept = s.ozhKept := rfl
@[simp] theorem Dev.setForceField_flt (off hi lo v : Nat) : (s.setForceField off hi lo v).flt = s.flt := rfl
@[simp] theorem Dev.setForceField_br (off hi lo v : Nat) : (s.setForceField off hi lo v).br = s.br := rfl

@[simp] theorem Dev.setWrittenField_out (off hi lo v : Nat) : (s.setWrittenField off hi lo v).out = s.out := rfl
@[simp] theorem Dev.setWrittenField_free (off hi lo v : Nat) : (s.setWrittenField off hi lo v).free = s.free := rfl
@[simp] theorem Dev.setWrittenField_clk (off hi lo v : Nat) : (s.setWrittenField off hi lo v).clk = s.clk := rfl
@[simp] theorem Dev.setWrittenField_pwr (off hi lo v : Nat) : (s.setWrittenField off hi lo v).pwr = s.pwr := rfl
@[simp] theorem Dev.setWrittenField_tempo (off hi lo v : Nat) : (s.setWrittenField off hi lo v).tempo = s.tempo := rfl
@[simp] theorem Dev.setWrittenField_ring (off hi lo v : Nat) : (s.setWrittenField off hi lo v).ring = s.ring := rfl
@[simp] theorem Dev.setWrittenField_chan (off hi lo v : Nat) : (s.setWrittenField off hi lo v).chan = s.chan := rfl
@[simp] theorem Dev.setWrittenField_str (off hi lo v : Nat) : (s.setWrittenField off hi lo v).str = s.str := rfl
@[simp] theorem Dev.setWrittenField_mtx (off hi lo v : Nat) : (s.setWrittenField off hi lo v).mtx = s.mtx := rfl
@[simp] theorem Dev.setWrittenField_clr (off hi lo v : Nat) : (s.setWrittenField off hi lo v).clr = s.clr := rfl
@[simp] theorem Dev.setWrittenField_rip (off hi lo v : Nat) : (s.setWrittenField off hi lo v).rip = s.rip := rfl
@[simp] theorem Dev.setWrittenField_cult (off hi lo v : Nat) : (s.setWrittenField off hi lo v).cult = s.cult := rfl
@[simp] theorem Dev.setWrittenField_harp (off hi lo v : Nat) : (s.setWrittenField off hi lo v).harp = s.harp := rfl
@[simp] theorem Dev.setWrittenField_pins (off hi lo v : Nat) : (s.setWrittenField off hi lo v).pins = s.pins := rfl
@[simp] theorem Dev.setWrittenField_car (off hi lo v : Nat) : (s.setWrittenField off hi lo v).car = s.car := rfl
@[simp] theorem Dev.setWrittenField_trips (off hi lo v : Nat) : (s.setWrittenField off hi lo v).trips = s.trips := rfl
@[simp] theorem Dev.setWrittenField_seq (off hi lo v : Nat) : (s.setWrittenField off hi lo v).seq = s.seq := rfl
@[simp] theorem Dev.setWrittenField_ntcConv (off hi lo v : Nat) : (s.setWrittenField off hi lo v).ntcConv = s.ntcConv := rfl
@[simp] theorem Dev.setWrittenField_hoop (off hi lo v : Nat) : (s.setWrittenField off hi lo v).hoop = s.hoop := rfl
@[simp] theorem Dev.setWrittenField_twin (off hi lo v : Nat) : (s.setWrittenField off hi lo v).twin = s.twin := rfl
@[simp] theorem Dev.setWrittenField_ozh (off hi lo v : Nat) : (s.setWrittenField off hi lo v).ozh = s.ozh := rfl
@[simp] theorem Dev.setWrittenField_ozhKept (off hi lo v : Nat) : (s.setWrittenField off hi lo v).ozhKept = s.ozhKept := rfl
@[simp] theorem Dev.setWrittenField_flt (off hi lo v : Nat) : (s.setWrittenField off hi lo v).flt = s.flt := rfl
@[simp] theorem Dev.setWrittenField_br (off hi lo v : Nat) : (s.setWrittenField off hi lo v).br = s.br := rfl

@[simp] theorem Dev.setBothField_out (off hi lo v : Nat) : (s.setBothField off hi lo v).out = s.out := rfl
@[simp] theorem Dev.setBothField_free (off hi lo v : Nat) : (s.setBothField off hi lo v).free = s.free := rfl
@[simp] theorem Dev.setBothField_clk (off hi lo v : Nat) : (s.setBothField off hi lo v).clk = s.clk := rfl
@[simp] theorem Dev.setBothField_pwr (off hi lo v : Nat) : (s.setBothField off hi lo v).pwr = s.pwr := rfl
@[simp] theorem Dev.setBothField_tempo (off hi lo v : Nat) : (s.setBothField off hi lo v).tempo = s.tempo := rfl
@[simp] theorem Dev.setBothField_ring (off hi lo v : Nat) : (s.setBothField off hi lo v).ring = s.ring := rfl
@[simp] theorem Dev.setBothField_chan (off hi lo v : Nat) : (s.setBothField off hi lo v).chan = s.chan := rfl
@[simp] theorem Dev.setBothField_str (off hi lo v : Nat) : (s.setBothField off hi lo v).str = s.str := rfl
@[simp] theorem Dev.setBothField_mtx (off hi lo v : Nat) : (s.setBothField off hi lo v).mtx = s.mtx := rfl
@[simp] theorem Dev.setBothField_clr (off hi lo v : Nat) : (s.setBothField off hi lo v).clr = s.clr := rfl
@[simp] theorem Dev.setBothField_rip (off hi lo v : Nat) : (s.setBothField off hi lo v).rip = s.rip := rfl
@[simp] theorem Dev.setBothField_cult (off hi lo v : Nat) : (s.setBothField off hi lo v).cult = s.cult := rfl
@[simp] theorem Dev.setBothField_harp (off hi lo v : Nat) : (s.setBothField off hi lo v).harp = s.harp := rfl
@[simp] theorem Dev.setBothField_pins (off hi lo v : Nat) : (s.setBothField off hi lo v).pins = s.pins := rfl
@[simp] theorem Dev.setBothField_car (off hi lo v : Nat) : (s.setBothField off hi lo v).car = s.car := rfl
@[simp] theorem Dev.setBothField_trips (off hi lo v : Nat) : (s.setBothField off hi lo v).trips = s.trips := rfl
@[simp] theorem Dev.setBothField_seq (off hi lo v : Nat) : (s.setBothField off hi lo v).seq = s.seq := rfl
@[simp] theorem Dev.setBothField_ntcConv (off hi lo v : Nat) : (s.setBothField off hi lo v).ntcConv = s.ntcConv := rfl
@[simp] theorem Dev.setBothField_hoop (off hi lo v : Nat) : (s.setBothField off hi lo v).hoop = s.hoop := rfl
@[simp] theorem Dev.setBothField_twin (off hi lo v : Nat) : (s.setBothField off hi lo v).twin = s.twin := rfl
@[simp] theorem Dev.setBothField_ozh (off hi lo v : Nat) : (s.setBothField off hi lo v).ozh = s.ozh := rfl
@[simp] theorem Dev.setBothField_ozhKept (off hi lo v : Nat) : (s.setBothField off hi lo v).ozhKept = s.ozhKept := rfl
@[simp] theorem Dev.setBothField_flt (off hi lo v : Nat) : (s.setBothField off hi lo v).flt = s.flt := rfl
@[simp] theorem Dev.setBothField_br (off hi lo v : Nat) : (s.setBothField off hi lo v).br = s.br := rfl

@[simp] theorem Dev.setBoth_out (off : Nat) (w : Word) : (s.setBoth off w).out = s.out := rfl
@[simp] theorem Dev.setBoth_free (off : Nat) (w : Word) : (s.setBoth off w).free = s.free := rfl
@[simp] theorem Dev.setBoth_clk (off : Nat) (w : Word) : (s.setBoth off w).clk = s.clk := rfl
@[simp] theorem Dev.setBoth_pwr (off : Nat) (w : Word) : (s.setBoth off w).pwr = s.pwr := rfl
@[simp] theorem Dev.setBoth_tempo (off : Nat) (w : Word) : (s.setBoth off w).tempo = s.tempo := rfl
@[simp] theorem Dev.setBoth_ring (off : Nat) (w : Word) : (s.setBoth off w).ring = s.ring := rfl
@[simp] theorem Dev.setBoth_chan (off : Nat) (w : Word) : (s.setBoth off w).chan = s.chan := rfl
@[simp] theorem Dev.setBoth_str (off : Nat) (w : Word) : (s.setBoth off w).str = s.str := rfl
@[simp] theorem Dev.setBoth_mtx (off : Nat) (w : Word) : (s.setBoth off w).mtx = s.mtx := rfl
@[simp] theorem Dev.setBoth_clr (off : Nat) (w : Word) : (s.setBoth off w).clr = s.clr := rfl
@[simp] theorem Dev.setBoth_rip (off : Nat) (w : Word) : (s.setBoth off w).rip = s.rip := rfl
@[simp] theorem Dev.setBoth_cult (off : Nat) (w : Word) : (s.setBoth off w).cult = s.cult := rfl
@[simp] theorem Dev.setBoth_harp (off : Nat) (w : Word) : (s.setBoth off w).harp = s.harp := rfl
@[simp] theorem Dev.setBoth_pins (off : Nat) (w : Word) : (s.setBoth off w).pins = s.pins := rfl
@[simp] theorem Dev.setBoth_car (off : Nat) (w : Word) : (s.setBoth off w).car = s.car := rfl
@[simp] theorem Dev.setBoth_trips (off : Nat) (w : Word) : (s.setBoth off w).trips = s.trips := rfl
@[simp] theorem Dev.setBoth_seq (off : Nat) (w : Word) : (s.setBoth off w).seq = s.seq := rfl
@[simp] theorem Dev.setBoth_ntcConv (off : Nat) (w : Word) : (s.setBoth off w).ntcConv = s.ntcConv := rfl
@[simp] theorem Dev.setBoth_hoop (off : Nat) (w : Word) : (s.setBoth off w).hoop = s.hoop := rfl
@[simp] theorem Dev.setBoth_twin (off : Nat) (w : Word) : (s.setBoth off w).twin = s.twin := rfl
@[simp] theorem Dev.setBoth_ozh (off : Nat) (w : Word) : (s.setBoth off w).ozh = s.ozh := rfl
@[simp] theorem Dev.setBoth_ozhKept (off : Nat) (w : Word) : (s.setBoth off w).ozhKept = s.ozhKept := rfl
@[simp] theorem Dev.setBoth_flt (off : Nat) (w : Word) : (s.setBoth off w).flt = s.flt := rfl
@[simp] theorem Dev.setBoth_br (off : Nat) (w : Word) : (s.setBoth off w).br = s.br := rfl

@[simp] theorem Dev.markLive_out (off : Nat) : (s.markLive off).out = s.out := rfl
@[simp] theorem Dev.markLive_free (off : Nat) : (s.markLive off).free = s.free := rfl
@[simp] theorem Dev.markLive_clk (off : Nat) : (s.markLive off).clk = s.clk := rfl
@[simp] theorem Dev.markLive_pwr (off : Nat) : (s.markLive off).pwr = s.pwr := rfl
@[simp] theorem Dev.markLive_tempo (off : Nat) : (s.markLive off).tempo = s.tempo := rfl
@[simp] theorem Dev.markLive_ring (off : Nat) : (s.markLive off).ring = s.ring := rfl
@[simp] theorem Dev.markLive_chan (off : Nat) : (s.markLive off).chan = s.chan := rfl
@[simp] theorem Dev.markLive_str (off : Nat) : (s.markLive off).str = s.str := rfl
@[simp] theorem Dev.markLive_mtx (off : Nat) : (s.markLive off).mtx = s.mtx := rfl
@[simp] theorem Dev.markLive_clr (off : Nat) : (s.markLive off).clr = s.clr := rfl
@[simp] theorem Dev.markLive_rip (off : Nat) : (s.markLive off).rip = s.rip := rfl
@[simp] theorem Dev.markLive_cult (off : Nat) : (s.markLive off).cult = s.cult := rfl
@[simp] theorem Dev.markLive_harp (off : Nat) : (s.markLive off).harp = s.harp := rfl
@[simp] theorem Dev.markLive_pins (off : Nat) : (s.markLive off).pins = s.pins := rfl
@[simp] theorem Dev.markLive_car (off : Nat) : (s.markLive off).car = s.car := rfl
@[simp] theorem Dev.markLive_trips (off : Nat) : (s.markLive off).trips = s.trips := rfl
@[simp] theorem Dev.markLive_seq (off : Nat) : (s.markLive off).seq = s.seq := rfl
@[simp] theorem Dev.markLive_ntcConv (off : Nat) : (s.markLive off).ntcConv = s.ntcConv := rfl
@[simp] theorem Dev.markLive_hoop (off : Nat) : (s.markLive off).hoop = s.hoop := rfl
@[simp] theorem Dev.markLive_twin (off : Nat) : (s.markLive off).twin = s.twin := rfl
@[simp] theorem Dev.markLive_ozh (off : Nat) : (s.markLive off).ozh = s.ozh := rfl
@[simp] theorem Dev.markLive_ozhKept (off : Nat) : (s.markLive off).ozhKept = s.ozhKept := rfl
@[simp] theorem Dev.markLive_flt (off : Nat) : (s.markLive off).flt = s.flt := rfl
@[simp] theorem Dev.markLive_br (off : Nat) : (s.markLive off).br = s.br := rfl

@[simp] theorem Dev.markStaged_out (off : Nat) : (s.markStaged off).out = s.out := rfl
@[simp] theorem Dev.markStaged_free (off : Nat) : (s.markStaged off).free = s.free := rfl
@[simp] theorem Dev.markStaged_clk (off : Nat) : (s.markStaged off).clk = s.clk := rfl
@[simp] theorem Dev.markStaged_pwr (off : Nat) : (s.markStaged off).pwr = s.pwr := rfl
@[simp] theorem Dev.markStaged_tempo (off : Nat) : (s.markStaged off).tempo = s.tempo := rfl
@[simp] theorem Dev.markStaged_ring (off : Nat) : (s.markStaged off).ring = s.ring := rfl
@[simp] theorem Dev.markStaged_chan (off : Nat) : (s.markStaged off).chan = s.chan := rfl
@[simp] theorem Dev.markStaged_str (off : Nat) : (s.markStaged off).str = s.str := rfl
@[simp] theorem Dev.markStaged_mtx (off : Nat) : (s.markStaged off).mtx = s.mtx := rfl
@[simp] theorem Dev.markStaged_clr (off : Nat) : (s.markStaged off).clr = s.clr := rfl
@[simp] theorem Dev.markStaged_rip (off : Nat) : (s.markStaged off).rip = s.rip := rfl
@[simp] theorem Dev.markStaged_cult (off : Nat) : (s.markStaged off).cult = s.cult := rfl
@[simp] theorem Dev.markStaged_harp (off : Nat) : (s.markStaged off).harp = s.harp := rfl
@[simp] theorem Dev.markStaged_pins (off : Nat) : (s.markStaged off).pins = s.pins := rfl
@[simp] theorem Dev.markStaged_car (off : Nat) : (s.markStaged off).car = s.car := rfl
@[simp] theorem Dev.markStaged_trips (off : Nat) : (s.markStaged off).trips = s.trips := rfl
@[simp] theorem Dev.markStaged_seq (off : Nat) : (s.markStaged off).seq = s.seq := rfl
@[simp] theorem Dev.markStaged_ntcConv (off : Nat) : (s.markStaged off).ntcConv = s.ntcConv := rfl
@[simp] theorem Dev.markStaged_hoop (off : Nat) : (s.markStaged off).hoop = s.hoop := rfl
@[simp] theorem Dev.markStaged_twin (off : Nat) : (s.markStaged off).twin = s.twin := rfl
@[simp] theorem Dev.markStaged_ozh (off : Nat) : (s.markStaged off).ozh = s.ozh := rfl
@[simp] theorem Dev.markStaged_ozhKept (off : Nat) : (s.markStaged off).ozhKept = s.ozhKept := rfl
@[simp] theorem Dev.markStaged_flt (off : Nat) : (s.markStaged off).flt = s.flt := rfl
@[simp] theorem Dev.markStaged_br (off : Nat) : (s.markStaged off).br = s.br := rfl

@[simp] theorem Dev.setFlag_out (off i : Nat) : (s.setFlag off i).out = s.out := rfl
@[simp] theorem Dev.setFlag_free (off i : Nat) : (s.setFlag off i).free = s.free := rfl
@[simp] theorem Dev.setFlag_clk (off i : Nat) : (s.setFlag off i).clk = s.clk := rfl
@[simp] theorem Dev.setFlag_pwr (off i : Nat) : (s.setFlag off i).pwr = s.pwr := rfl
@[simp] theorem Dev.setFlag_tempo (off i : Nat) : (s.setFlag off i).tempo = s.tempo := rfl
@[simp] theorem Dev.setFlag_ring (off i : Nat) : (s.setFlag off i).ring = s.ring := rfl
@[simp] theorem Dev.setFlag_chan (off i : Nat) : (s.setFlag off i).chan = s.chan := rfl
@[simp] theorem Dev.setFlag_str (off i : Nat) : (s.setFlag off i).str = s.str := rfl
@[simp] theorem Dev.setFlag_mtx (off i : Nat) : (s.setFlag off i).mtx = s.mtx := rfl
@[simp] theorem Dev.setFlag_clr (off i : Nat) : (s.setFlag off i).clr = s.clr := rfl
@[simp] theorem Dev.setFlag_rip (off i : Nat) : (s.setFlag off i).rip = s.rip := rfl
@[simp] theorem Dev.setFlag_cult (off i : Nat) : (s.setFlag off i).cult = s.cult := rfl
@[simp] theorem Dev.setFlag_harp (off i : Nat) : (s.setFlag off i).harp = s.harp := rfl
@[simp] theorem Dev.setFlag_pins (off i : Nat) : (s.setFlag off i).pins = s.pins := rfl
@[simp] theorem Dev.setFlag_car (off i : Nat) : (s.setFlag off i).car = s.car := rfl
@[simp] theorem Dev.setFlag_trips (off i : Nat) : (s.setFlag off i).trips = s.trips := rfl
@[simp] theorem Dev.setFlag_seq (off i : Nat) : (s.setFlag off i).seq = s.seq := rfl
@[simp] theorem Dev.setFlag_ntcConv (off i : Nat) : (s.setFlag off i).ntcConv = s.ntcConv := rfl
@[simp] theorem Dev.setFlag_hoop (off i : Nat) : (s.setFlag off i).hoop = s.hoop := rfl
@[simp] theorem Dev.setFlag_twin (off i : Nat) : (s.setFlag off i).twin = s.twin := rfl
@[simp] theorem Dev.setFlag_ozh (off i : Nat) : (s.setFlag off i).ozh = s.ozh := rfl
@[simp] theorem Dev.setFlag_ozhKept (off i : Nat) : (s.setFlag off i).ozhKept = s.ozhKept := rfl
@[simp] theorem Dev.setFlag_flt (off i : Nat) : (s.setFlag off i).flt = s.flt := rfl
@[simp] theorem Dev.setFlag_br (off i : Nat) : (s.setFlag off i).br = s.br := rfl

@[simp] theorem Dev.clearFlags_out (off : Nat) (m : Word) : (s.clearFlags off m).out = s.out := rfl
@[simp] theorem Dev.clearFlags_free (off : Nat) (m : Word) : (s.clearFlags off m).free = s.free := rfl
@[simp] theorem Dev.clearFlags_clk (off : Nat) (m : Word) : (s.clearFlags off m).clk = s.clk := rfl
@[simp] theorem Dev.clearFlags_pwr (off : Nat) (m : Word) : (s.clearFlags off m).pwr = s.pwr := rfl
@[simp] theorem Dev.clearFlags_tempo (off : Nat) (m : Word) : (s.clearFlags off m).tempo = s.tempo := rfl
@[simp] theorem Dev.clearFlags_ring (off : Nat) (m : Word) : (s.clearFlags off m).ring = s.ring := rfl
@[simp] theorem Dev.clearFlags_chan (off : Nat) (m : Word) : (s.clearFlags off m).chan = s.chan := rfl
@[simp] theorem Dev.clearFlags_str (off : Nat) (m : Word) : (s.clearFlags off m).str = s.str := rfl
@[simp] theorem Dev.clearFlags_mtx (off : Nat) (m : Word) : (s.clearFlags off m).mtx = s.mtx := rfl
@[simp] theorem Dev.clearFlags_clr (off : Nat) (m : Word) : (s.clearFlags off m).clr = s.clr := rfl
@[simp] theorem Dev.clearFlags_rip (off : Nat) (m : Word) : (s.clearFlags off m).rip = s.rip := rfl
@[simp] theorem Dev.clearFlags_cult (off : Nat) (m : Word) : (s.clearFlags off m).cult = s.cult := rfl
@[simp] theorem Dev.clearFlags_harp (off : Nat) (m : Word) : (s.clearFlags off m).harp = s.harp := rfl
@[simp] theorem Dev.clearFlags_pins (off : Nat) (m : Word) : (s.clearFlags off m).pins = s.pins := rfl
@[simp] theorem Dev.clearFlags_car (off : Nat) (m : Word) : (s.clearFlags off m).car = s.car := rfl
@[simp] theorem Dev.clearFlags_trips (off : Nat) (m : Word) : (s.clearFlags off m).trips = s.trips := rfl
@[simp] theorem Dev.clearFlags_seq (off : Nat) (m : Word) : (s.clearFlags off m).seq = s.seq := rfl
@[simp] theorem Dev.clearFlags_ntcConv (off : Nat) (m : Word) : (s.clearFlags off m).ntcConv = s.ntcConv := rfl
@[simp] theorem Dev.clearFlags_hoop (off : Nat) (m : Word) : (s.clearFlags off m).hoop = s.hoop := rfl
@[simp] theorem Dev.clearFlags_twin (off : Nat) (m : Word) : (s.clearFlags off m).twin = s.twin := rfl
@[simp] theorem Dev.clearFlags_ozh (off : Nat) (m : Word) : (s.clearFlags off m).ozh = s.ozh := rfl
@[simp] theorem Dev.clearFlags_ozhKept (off : Nat) (m : Word) : (s.clearFlags off m).ozhKept = s.ozhKept := rfl
@[simp] theorem Dev.clearFlags_flt (off : Nat) (m : Word) : (s.clearFlags off m).flt = s.flt := rfl
@[simp] theorem Dev.clearFlags_br (off : Nat) (m : Word) : (s.clearFlags off m).br = s.br := rfl

@[simp] theorem Dev.draw_out : s.draw.2.out = s.out := rfl
@[simp] theorem Dev.draw_free : s.draw.2.free = s.free + 1 := rfl
@[simp] theorem Dev.draw_clk : s.draw.2.clk = s.clk := rfl
@[simp] theorem Dev.draw_pwr : s.draw.2.pwr = s.pwr := rfl
@[simp] theorem Dev.draw_regs : s.draw.2.regs = s.regs := rfl
@[simp] theorem Dev.draw_tempo : s.draw.2.tempo = s.tempo := rfl
@[simp] theorem Dev.draw_ring : s.draw.2.ring = s.ring := rfl
@[simp] theorem Dev.draw_chan : s.draw.2.chan = s.chan := rfl
@[simp] theorem Dev.draw_str : s.draw.2.str = s.str := rfl
@[simp] theorem Dev.draw_mtx : s.draw.2.mtx = s.mtx := rfl
@[simp] theorem Dev.draw_clr : s.draw.2.clr = s.clr := rfl
@[simp] theorem Dev.draw_rip : s.draw.2.rip = s.rip := rfl
@[simp] theorem Dev.draw_cult : s.draw.2.cult = s.cult := rfl
@[simp] theorem Dev.draw_harp : s.draw.2.harp = s.harp := rfl
@[simp] theorem Dev.draw_pins : s.draw.2.pins = s.pins := rfl
@[simp] theorem Dev.draw_car : s.draw.2.car = s.car := rfl
@[simp] theorem Dev.draw_trips : s.draw.2.trips = s.trips := rfl
@[simp] theorem Dev.draw_seq : s.draw.2.seq = s.seq := rfl
@[simp] theorem Dev.draw_ntcConv : s.draw.2.ntcConv = s.ntcConv := rfl
@[simp] theorem Dev.draw_hoop : s.draw.2.hoop = s.hoop := rfl
@[simp] theorem Dev.draw_twin : s.draw.2.twin = s.twin := rfl
@[simp] theorem Dev.draw_ozh : s.draw.2.ozh = s.ozh := rfl
@[simp] theorem Dev.draw_ozhKept : s.draw.2.ozhKept = s.ozhKept := rfl
@[simp] theorem Dev.draw_flt : s.draw.2.flt = s.flt := rfl
@[simp] theorem Dev.draw_br : s.draw.2.br = s.br := rfl

@[simp] theorem Dev.modStr_eq (n : Nat) (f : Str → Str) : s.modStr n f = s.setStr n (f (s.strOf n)) := rfl
@[simp] theorem Dev.modChan_eq (n : Nat) (f : Chan → Chan) : s.modChan n f = s.setChan n (f (s.chanOf n)) := rfl
@[simp] theorem Dev.modPos_eq (n : Nat) (f : Pos → Pos) : s.modPos n f = s.setPos n (f (s.posOf n)) := rfl
@[simp] theorem Dev.modCls_eq (n : Nat) (f : Cls → Cls) : s.modCls n f = s.setCls n (f (s.clsOf n)) := rfl
@[simp] theorem Dev.modRip_eq (n : Nat) (f : Rip → Rip) : s.modRip n f = s.setRip n (f (s.ripOf n)) := rfl
@[simp] theorem Dev.modHarp_eq (n : Nat) (f : Harp → Harp) : s.modHarp n f = s.setHarp n (f (s.harpOf n)) := rfl
@[simp] theorem Dev.modCar_eq (n : Nat) (f : Car → Car) : s.modCar n f = s.setCar n (f (s.carOf n)) := rfl
@[simp] theorem Dev.modSeq_eq (n : Nat) (f : Seq → Seq) : s.modSeq n f = s.setSeq n (f (s.seqOf n)) := rfl
@[simp] theorem Dev.modCurd_eq (n : Nat) (f : Curd → Curd) : s.modCurd n f = s.setCurd n (f (s.curdOf n)) := rfl
@[simp] theorem Dev.modWhey_eq (n : Nat) (f : Whey → Whey) : s.modWhey n f = s.setWhey n (f (s.wheyOf n)) := rfl
@[simp] theorem Dev.modPort_eq (n : Nat) (f : HPort → HPort) : s.modPort n f = s.setPort n (f (s.portOf n)) := rfl

end Sys2Proof.Machine
end

