-- ==== Sys2Proof/Laws/Tab.lean ====
section
/-! SUPPORT. Laws of sparse tables: what a write leaves at every key, and that it keeps the canonical form. -/

namespace Sys2Proof.Machine

variable {α : Type}

theorem tabGet_tabDel (d : α) (k j : Nat) (m : Tab α) : tabGet d (tabDel m k) j = if j = k then d else tabGet d m j := by
  induction m with
  | nil => simp [tabDel, tabGet]
  | cons e m ih =>
    obtain ⟨i, w⟩ := e
    by_cases hk : i = k
    · simp only [tabDel, hk, if_true, ih, tabGet]
      by_cases hj : j = k
      · simp [hj]
      · simp [hj, Ne.symm hj]
    · by_cases hj : i = j
      · subst hj
        simp [tabDel, hk, tabGet]
      · simp [tabDel, hk, tabGet, hj, ih]

theorem tabGet_tabIns (d v : α) (k j : Nat) (m : Tab α) (h : tabGet d m k = d) :
    tabGet d (tabIns m k v) j = if j = k then v else tabGet d m j := by
  induction m with
  | nil =>
    by_cases hj : j = k
    · simp [tabIns, tabGet, hj]
    · simp [tabIns, tabGet, hj, Ne.symm hj]
  | cons e m ih =>
    obtain ⟨i, w⟩ := e
    by_cases hi : i < k
    · have hik : i ≠ k := by omega
      simp only [tabGet, hik, if_false] at h
      by_cases hij : i = j
      · subst hij
        simp [tabIns, hi, tabGet, hik]
      · simp [tabIns, hi, tabGet, hij, ih h]
    · by_cases hj : j = k
      · simp [tabIns, hi, tabGet, hj]
      · simp [tabIns, hi, tabGet, hj, Ne.symm hj]

/-- A read after a write gives the value written at its key, and what stood there at any other. -/
theorem tabGet_tabSet [DecidableEq α] (d v : α) (k j : Nat) (m : Tab α) :
    tabGet d (tabSet d m k v) j = if j = k then v else tabGet d m j := by
  have h : tabGet d (tabDel m k) k = d := by simp [tabGet_tabDel]
  by_cases hv : v = d
  · simp [tabSet, hv, tabGet_tabDel]
  · simp only [tabSet, hv, if_false, tabGet_tabIns d v k j _ h, tabGet_tabDel]
    by_cases hj : j = k <;> simp [hj]

@[simp] theorem tabGet_tabSet_self [DecidableEq α] (d v : α) (k : Nat) (m : Tab α) : tabGet d (tabSet d m k v) k = v := by
  simp [tabGet_tabSet]

theorem tabGet_tabSet_ne [DecidableEq α] (d v : α) (k j : Nat) (m : Tab α) (h : j ≠ k) :
    tabGet d (tabSet d m k v) j = tabGet d m j := by
  simp [tabGet_tabSet, h]

/-- The same where an unlisted key reads differently at the two keys. -/
theorem tabGet_tabSet_ne' [DecidableEq α] (d d' v : α) (k j : Nat) (m : Tab α) (h : j ≠ k) :
    tabGet d' (tabSet d m k v) j = tabGet d' m j := by
  have ins : ∀ l : Tab α, tabGet d' (tabIns l k v) j = tabGet d' l j := by
    intro l
    induction l with
    | nil => simp [tabIns, tabGet, Ne.symm h]
    | cons e l ih =>
      obtain ⟨i, w⟩ := e
      by_cases hi : i < k
      · simp only [tabIns, hi, if_true, tabGet, ih]
      · simp [tabIns, hi, tabGet, Ne.symm h]
  by_cases hv : v = d
  · simp [tabSet, hv, tabGet_tabDel, h]
  · simp [tabSet, hv, ins, tabGet_tabDel, h]

theorem tabSorted_wider (m : Tab α) (a b : Nat) (h : a ≤ b) (hb : tabSorted b m = true) : tabSorted a m = true := by
  cases m with
  | nil => rfl
  | cons e m =>
    simp only [tabSorted, Bool.and_eq_true, decide_eq_true_eq] at hb ⊢
    exact ⟨by omega, hb.2⟩

theorem tabSorted_tabDel (k : Nat) (m : Tab α) : ∀ lo, tabSorted lo m = true → tabSorted lo (tabDel m k) = true := by
  induction m with
  | nil => intro _ _; rfl
  | cons e m ih =>
    intro lo h
    obtain ⟨i, w⟩ := e
    simp only [tabSorted, Bool.and_eq_true, decide_eq_true_eq] at h
    by_cases hk : i = k
    · simp only [tabDel, hk, if_true]
      exact tabSorted_wider _ _ (i + 1) (by omega) (ih _ h.2)
    · simp [tabDel, hk, tabSorted, h.1, ih _ h.2]

theorem mem_tabDel (k : Nat) (m : Tab α) (e : Nat × α) : e ∈ tabDel m k ↔ e ∈ m ∧ e.1 ≠ k := by
  induction m with
  | nil => simp [tabDel]
  | cons f m ih =>
    obtain ⟨i, w⟩ := f
    by_cases hk : i = k
    · simp only [tabDel, hk, if_true, ih, List.mem_cons]
      constructor
      · exact fun h => ⟨.inr h.1, h.2⟩
      · rintro ⟨rfl | h, h2⟩
        · exact absurd rfl h2
        · exact ⟨h, h2⟩
    · simp only [tabDel, hk, if_false, List.mem_cons, ih]
      constructor
      · rintro (rfl | h)
        · exact ⟨.inl rfl, hk⟩
        · exact ⟨.inr h.1, h.2⟩
      · rintro ⟨rfl | h, h2⟩
        · exact .inl rfl
        · exact .inr ⟨h, h2⟩

theorem tabSorted_tabIns (v : α) (k : Nat) (m : Tab α) (hm : ∀ e ∈ m, e.1 ≠ k) :
    ∀ lo, tabSorted lo m = true → lo ≤ k → tabSorted lo (tabIns m k v) = true := by
  induction m with
  | nil => intro lo _ h; simpa [tabIns, tabSorted] using h
  | cons e m ih =>
    intro lo h hk
    obtain ⟨i, w⟩ := e
    have hne : i ≠ k := hm (i, w) (by simp)
    simp only [tabSorted, Bool.and_eq_true, decide_eq_true_eq] at h
    by_cases hi : i < k
    · simp [tabIns, hi, tabSorted, h.1, ih (fun e he => hm e (by simp [he])) _ h.2 (by omega)]
    · simp only [tabIns, hi, if_false, tabSorted, Bool.and_eq_true, decide_eq_true_eq]
      exact ⟨hk, by omega, h.2⟩

theorem mem_tabIns (v : α) (k : Nat) (m : Tab α) (e : Nat × α) : e ∈ tabIns m k v ↔ e = (k, v) ∨ e ∈ m := by
  induction m with
  | nil => simp [tabIns]
  | cons f m ih =>
    obtain ⟨i, w⟩ := f
    by_cases hi : i < k
    · simp only [tabIns, hi, if_true, List.mem_cons, ih]
      tauto
    · simp [tabIns, hi]

/-- A write keeps the canonical form. -/
theorem tabWf_tabSet [DecidableEq α] (d : Nat → α) (m : Tab α) (k : Nat) (v : α) (h : tabWf d m = true) :
    tabWf d (tabSet (d k) m k v) = true := by
  simp only [tabWf, Bool.and_eq_true, List.all_eq_true, decide_eq_true_eq] at h ⊢
  have hs := tabSorted_tabDel k m 0 h.1
  by_cases hv : v = d k
  · simp only [tabSet, hv, if_true]
    exact ⟨hs, fun e he => h.2 e ((mem_tabDel _ _ _).1 he).1⟩
  · simp only [tabSet, hv, if_false]
    refine ⟨tabSorted_tabIns _ _ _ (fun e he => ((mem_tabDel _ _ _).1 he).2) _ hs (Nat.zero_le _), fun e he => ?_⟩
    rcases (mem_tabIns _ _ _ _).1 he with rfl | he
    · exact hv
    · exact h.2 e ((mem_tabDel _ _ _).1 he).1

/-- The empty table is in canonical form. -/
@[simp] theorem tabWf_nil [DecidableEq α] (d : Nat → α) : tabWf d ([] : Tab α) = true := rfl

end Sys2Proof.Machine
end

