-- ==== Sys2Proof/Laws/Settle.lean ====
section
/-! SUPPORT. What `settle` can change: only the rings, their registers and flags, the fault summary, the Hoop's queues, the twin's deltas,
the bridge's note of the mailbox, and what has been put out. -/

namespace Sys2Proof.Machine

/-- Everything that `settle` leaves as it was. -/
structure Quiet (s t : Dev) : Prop where
  clk : t.clk = s.clk
  pwr : t.pwr = s.pwr
  tempo : t.tempo = s.tempo
  chan : t.chan = s.chan
  str : t.str = s.str
  mtx : t.mtx = s.mtx
  clr : t.clr = s.clr
  rip : t.rip = s.rip
  cult : t.cult = s.cult
  harp : t.harp = s.harp
  pins : t.pins = s.pins
  car : t.car = s.car
  trips : t.trips = s.trips
  seq : t.seq = s.seq
  ntcConv : t.ntcConv = s.ntcConv
  ozh : t.ozh = s.ozh
  ozhKept : t.ozhKept = s.ozhKept
  free : t.free = s.free
  ring : sameRing s t
  flt : sameFlt s t
  hoop : sameHoop s t
  twin : sameTwin s t
  br : sameBr s t
  commit : t.regs.commit = s.regs.commit
  live : t.regs.live = s.regs.live
  staged : t.regs.staged = s.regs.staged
  out : s.out <:+ t.out
  force : ∀ off, noteReg off = false → t.force off = s.force off
  written : ∀ off, noteReg off = false → t.written off = s.written off

theorem sameRing.refl (s : Dev) : sameRing s s := ⟨⟨_, _, _, _, _, _, _, _, rfl⟩, fun _ => ⟨_, _, rfl⟩, fun _ => ⟨_, rfl⟩⟩

theorem sameRing.trans {s t u : Dev} (h : sameRing s t) (k : sameRing t u) : sameRing s u := by
  obtain ⟨⟨_, _, _, _, _, _, _, _, h1⟩, h2, h3⟩ := h
  obtain ⟨⟨_, _, _, _, _, _, _, _, k1⟩, k2, k3⟩ := k
  refine ⟨⟨_, _, _, _, _, _, _, _, by rw [k1, h1]⟩, fun n => ?_, fun n => ?_⟩
  · obtain ⟨_, _, hv⟩ := h2 n
    obtain ⟨_, _, hw⟩ := k2 n
    exact ⟨_, _, by rw [hw, hv]⟩
  · obtain ⟨v, hv⟩ := h3 n
    obtain ⟨w, hw⟩ := k3 n
    exact ⟨w, by rw [hw, hv]⟩

theorem sameFlt.trans {s t u : Dev} (h : sameFlt s t) (k : sameFlt t u) : sameFlt s u := by
  obtain ⟨_, _, h⟩ := h
  obtain ⟨_, _, k⟩ := k
  exact ⟨_, _, by rw [k, h]⟩

theorem sameHoop.trans {s t u : Dev} (h : sameHoop s t) (k : sameHoop t u) : sameHoop s u := by
  obtain ⟨_, _, h⟩ := h
  obtain ⟨_, _, k⟩ := k
  exact ⟨_, _, by rw [k, h]⟩

theorem sameTwin.trans {s t u : Dev} (h : sameTwin s t) (k : sameTwin t u) : sameTwin s u := by
  obtain ⟨_, _, _, _, h⟩ := h
  obtain ⟨_, _, _, _, k⟩ := k
  exact ⟨_, _, _, _, by rw [k, h]⟩

theorem sameBr.trans {s t u : Dev} (h : sameBr s t) (k : sameBr t u) : sameBr s u := by
  obtain ⟨_, _, _, h⟩ := h
  obtain ⟨_, _, _, k⟩ := k
  exact ⟨_, _, _, by rw [k, h]⟩

theorem Quiet.refl (s : Dev) : Quiet s s where
  clk := rfl
  pwr := rfl
  tempo := rfl
  chan := rfl
  str := rfl
  mtx := rfl
  clr := rfl
  rip := rfl
  cult := rfl
  harp := rfl
  pins := rfl
  car := rfl
  trips := rfl
  seq := rfl
  ntcConv := rfl
  ozh := rfl
  ozhKept := rfl
  free := rfl
  ring := .refl s
  flt := ⟨_, _, rfl⟩
  hoop := ⟨_, _, rfl⟩
  twin := ⟨_, _, _, _, rfl⟩
  br := ⟨_, _, _, rfl⟩
  commit := rfl
  live := rfl
  staged := rfl
  out := List.suffix_rfl
  force := fun _ _ => rfl
  written := fun _ _ => rfl

theorem Quiet.trans {s t u : Dev} (h : Quiet s t) (k : Quiet t u) : Quiet s u where
  clk := k.clk.trans h.clk
  pwr := k.pwr.trans h.pwr
  tempo := k.tempo.trans h.tempo
  chan := k.chan.trans h.chan
  str := k.str.trans h.str
  mtx := k.mtx.trans h.mtx
  clr := k.clr.trans h.clr
  rip := k.rip.trans h.rip
  cult := k.cult.trans h.cult
  harp := k.harp.trans h.harp
  pins := k.pins.trans h.pins
  car := k.car.trans h.car
  trips := k.trips.trans h.trips
  seq := k.seq.trans h.seq
  ntcConv := k.ntcConv.trans h.ntcConv
  ozh := k.ozh.trans h.ozh
  ozhKept := k.ozhKept.trans h.ozhKept
  free := k.free.trans h.free
  ring := h.ring.trans k.ring
  flt := h.flt.trans k.flt
  hoop := h.hoop.trans k.hoop
  twin := h.twin.trans k.twin
  br := h.br.trans k.br
  commit := k.commit.trans h.commit
  live := k.live.trans h.live
  staged := k.staged.trans h.staged
  out := h.out.trans k.out
  force := fun off ho => (k.force off ho).trans (h.force off ho)
  written := fun off ho => (k.written off ho).trans (h.written off ho)

/-- A fold of quiet steps is quiet. -/
theorem Quiet.foldl {α : Type} (f : Dev → α → Dev) (hf : ∀ s a, Quiet s (f s a)) : ∀ (xs : List α) (s : Dev), Quiet s (xs.foldl f s)
  | [], s => Quiet.refl s
  | a :: xs, s => (hf s a).trans (Quiet.foldl f hf xs (f s a))

theorem sameHoop.refl (s : Dev) : sameHoop s s := ⟨_, _, rfl⟩

theorem sameBr.refl (s : Dev) : sameBr s s := ⟨_, _, _, rfl⟩

theorem quiet_emit (s : Dev) (o : Out) : Quiet s (s.emit o) := { Quiet.refl s with out := List.suffix_cons _ _ }

theorem quiet_setFlag (s : Dev) (o i : Nat) (h : noteReg o = true) : Quiet s (s.setFlag o i) :=
  { Quiet.refl s with
    force := by
      intro off ho
      have : off ≠ o := by rintro rfl; simp [h] at ho
      simp [Dev.setFlag, Dev.noteSet, Dev.setForce, Dev.setRegs, Dev.force, tabGet_tabSet_ne' _ _ _ _ _ _ this] }

theorem quiet_setBoth (s : Dev) (o : Nat) (w : Word) (h : noteReg o = true) : Quiet s (s.setBoth o w) :=
  { Quiet.refl s with
    force := by
      intro off ho
      have : off ≠ o := by rintro rfl; simp [h] at ho
      simp [Dev.setBoth, Dev.setRegs, Dev.force, tabGet_tabSet_ne' _ _ _ _ _ _ this]
    written := by
      intro off ho
      have : off ≠ o := by rintro rfl; simp [h] at ho
      simp [Dev.setBoth, Dev.setRegs, Dev.written, tabGet_tabSet_ne' _ _ _ _ _ _ this] }

theorem noteReg_tail (m : Nat) : noteReg (wheyOff m + 0x1C) = true := by
  have : m % 4 = 0 ∨ m % 4 = 1 ∨ m % 4 = 2 ∨ m % 4 = 3 := by omega
  rcases this with h | h | h | h <;> simp [wheyOff, h, noteReg]

/-- An update of the rings that keeps `sameRing` is quiet. -/
theorem quiet_ring (s : Dev) (f : Ring → Ring) (h : sameRing s (s.modRing f)) : Quiet s (s.modRing f) := { Quiet.refl s with ring := h }

theorem quiet_setWhey (s : Dev) (m : Nat) (w : Whey) : Quiet s (s.setWhey m w) :=
  { Quiet.refl s with ring := ⟨⟨_, _, _, _, _, _, _, _, rfl⟩, fun _ => ⟨_, _, rfl⟩, fun _ => ⟨_, rfl⟩⟩ }

theorem quiet_setPend (s : Dev) (v : Nat) (b : Bool) : Quiet s (s.setMsix v { s.msixOf v with pend := b }) :=
  { Quiet.refl s with
    ring := by
      refine ⟨⟨_, _, _, _, _, _, _, _, rfl⟩, fun _ => ⟨_, _, rfl⟩, fun k => ?_⟩
      by_cases hk : k = v
      · exact ⟨b, by subst hk; simp [Dev.msixOf, Dev.setMsix]⟩
      · exact ⟨_, by simp [Dev.msixOf, Dev.setMsix, tabGet_tabSet, hk]; rfl⟩ }

theorem quiet_setShadow (s : Dev) (n : Nat) (v : Option (BitVec 64)) (w : Bool) :
    Quiet s (s.setCurd n { s.curdOf n with shadow := v, shadowDue := w }) :=
  { Quiet.refl s with
    ring := by
      refine ⟨⟨_, _, _, _, _, _, _, _, rfl⟩, fun k => ?_, fun _ => ⟨_, rfl⟩⟩
      by_cases hk : k = n
      · exact ⟨v, w, by subst hk; simp [Dev.curdOf, Dev.setCurd]⟩
      · exact ⟨_, _, by simp [Dev.curdOf, Dev.setCurd, tabGet_tabSet, hk]; rfl⟩ }

theorem quiet_setPort (s : Dev) (k : Nat) (q : HPort) : Quiet s (s.setPort k q) := { Quiet.refl s with hoop := ⟨_, _, rfl⟩ }

theorem quiet_last (s : Dev) (c : Nat) : Quiet s (s.modFlt (fun f => { f with last := BitVec.ofNat 8 c })) :=
  { Quiet.refl s with flt := ⟨_, _, rfl⟩ }

theorem quiet_local (s : Dev) (l : BitVec 5) : Quiet s (s.modFlt (fun f => { f with local_ := l })) :=
  { Quiet.refl s with flt := ⟨_, _, rfl⟩ }

theorem quiet_told (s : Dev) (b : Bool) : Quiet s (s.modBr (fun x => { x with told := b })) := { Quiet.refl s with br := ⟨_, _, _, rfl⟩ }

theorem quiet_watchClock (s : Dev) : Quiet s s.watchClock := { Quiet.refl s with br := ⟨_, _, _, rfl⟩ }

theorem quiet_sendMsix (s : Dev) (v : Nat) : Quiet s (s.sendMsix v) := by
  unfold Dev.sendMsix
  simp only
  split
  · exact quiet_setPend _ _ _
  · exact quiet_emit _ _

theorem quiet_putWhey (s : Dev) (m : Nat) (e : Entry) : Quiet s (s.putWhey m e) := by
  unfold Dev.putWhey
  have h := ((quiet_emit s (.whey m (s.wheyTail m) (s.wheyAddr m) e)).trans (quiet_setBoth _ (wheyOff m + 0x1C) (s.wheyTail m + 1) (noteReg_tail m))).trans
    (quiet_emit _ (.tail m ((((s.emit (.whey m (s.wheyTail m) (s.wheyAddr m) e)).setBoth (wheyOff m + 0x1C) (s.wheyTail m + 1)).addr64
      (wheyOff m + 0x10))) ((s.wheyTail m + 1).setWidth 64)))
  simp only
  split
  · exact h.trans ((quiet_setWhey _ _ _).trans (quiet_sendMsix _ _))
  · exact h.trans (quiet_setWhey _ _ _)

theorem quiet_dropPacket (s : Dev) (k : Nat) : Quiet s (s.dropPacket k) := (quiet_setPort s k _).trans (quiet_setFlag _ _ _ rfl)

theorem quiet_queuePacket (s : Dev) (k : Nat) (p : Packet) : Quiet s (s.queuePacket k p) := by
  unfold Dev.queuePacket
  split
  · exact quiet_setPort _ _ _
  · exact quiet_dropPacket _ _

theorem quiet_sendPacket (s : Dev) (type : Nat) (dest : BitVec 12) (tag : BitVec 16) (p : List Byte) :
    Quiet s (s.sendPacket type dest tag p) := by
  unfold Dev.sendPacket
  simp only
  split
  · exact { Quiet.refl _ with hoop := ⟨_, _, rfl⟩ }
  · split
    · exact quiet_queuePacket _ _ _
    · exact quiet_dropPacket _ _

theorem quiet_loseEvent (s : Dev) (o : Bool) : Quiet s (s.loseEvent o) := (quiet_ring _ _ ⟨⟨_, _, _, _, _, _, _, _, rfl⟩, fun _ => ⟨_, _, rfl⟩, fun _ => ⟨_, rfl⟩⟩).trans (quiet_setFlag _ _ _ rfl)

theorem quiet_postEvent (s : Dev) (e : Entry) : Quiet s (s.postEvent e) := by
  unfold Dev.postEvent
  split
  · split
    · exact quiet_sendPacket _ _ _ _ _
    · exact quiet_loseEvent _ _
  · simp only
    split
    · exact quiet_putWhey _ _ _
    · split
      · split
        · exact (quiet_ring _ _ ⟨⟨_, _, _, _, _, _, _, _, rfl⟩, fun _ => ⟨_, _, rfl⟩, fun _ => ⟨_, rfl⟩⟩).trans (quiet_emit _ _)
        · exact quiet_ring _ _ ⟨⟨_, _, _, _, _, _, _, _, rfl⟩, fun _ => ⟨_, _, rfl⟩, fun _ => ⟨_, rfl⟩⟩
      · exact quiet_loseEvent _ _

theorem quiet_event (s : Dev) (c : Nat) (st : Status) (d : Nat) : Quiet s (s.event c st d) := quiet_postEvent _ _
theorem quiet_eventOk (s : Dev) (c d : Nat) : Quiet s (s.eventOk c d) := quiet_event _ _ _ _
theorem quiet_freeCue (s : Dev) (i : Nat) : Quiet s (s.freeCue i) := quiet_ring _ _ ⟨⟨_, _, _, _, _, _, _, _, rfl⟩, fun _ => ⟨_, _, rfl⟩, fun _ => ⟨_, rfl⟩⟩
theorem quiet_loseCompletion (s : Dev) : Quiet s s.loseCompletion := (quiet_ring _ _ ⟨⟨_, _, _, _, _, _, _, _, rfl⟩, fun _ => ⟨_, _, rfl⟩, fun _ => ⟨_, rfl⟩⟩).trans (quiet_setFlag _ _ _ rfl)

theorem quiet_flushList (ws : List Waiting) : ∀ s : Dev, Quiet s (Dev.flushList ws s) := by
  induction ws with
  | nil => exact Quiet.refl
  | cons w ws ih =>
    intro s
    unfold Dev.flushList
    refine Quiet.trans ?_ (ih _)
    simp only
    split
    · split
      · exact (quiet_putWhey _ _ _).trans (quiet_freeCue _ _)
      · exact quiet_putWhey _ _ _
    · exact quiet_ring _ _ ⟨⟨_, _, _, _, _, _, _, _, rfl⟩, fun _ => ⟨_, _, rfl⟩, fun _ => ⟨_, rfl⟩⟩

theorem quiet_writeOwed (s : Dev) : Quiet s s.writeOwed := by
  unfold Dev.writeOwed
  split
  · exact (quiet_ring _ _ ⟨⟨_, _, _, _, _, _, _, _, rfl⟩, fun _ => ⟨_, _, rfl⟩, fun _ => ⟨_, rfl⟩⟩).trans (quiet_putWhey _ _ _)
  · exact Quiet.refl s

theorem quiet_flushWhey (s : Dev) : Quiet s s.flushWhey :=
  ((quiet_ring _ _ ⟨⟨_, _, _, _, _, _, _, _, rfl⟩, fun _ => ⟨_, _, rfl⟩, fun _ => ⟨_, rfl⟩⟩).trans (quiet_flushList _ _)).trans (quiet_writeOwed _)

theorem quiet_reportFault (s : Dev) (c : Nat) : Quiet s (s.reportFault c) :=
  Quiet.trans (quiet_last s c) (quiet_eventOk _ _ _)

theorem quiet_scanFaults (s : Dev) : Quiet s s.scanFaults := by
  unfold Dev.scanFaults
  simp only
  refine Quiet.trans (t := s.modFlt (fun f => { f with local_ := s.localNow })) (quiet_local s _) (Quiet.foldl _ (fun s i => ?_) _ _)
  split
  · exact quiet_reportFault _ _
  · exact Quiet.refl _

theorem quiet_writeShadow (s : Dev) (n : Fin 8) : Quiet s (s.writeShadow n) := by
  unfold Dev.writeShadow
  simp only
  split
  · exact quiet_setShadow _ _ _ _
  · split
    · exact quiet_setShadow _ _ _ _
    · exact (quiet_setShadow _ _ _ _).trans (quiet_emit _ _)

theorem quiet_syncShadows (s : Dev) : Quiet s s.syncShadows := by
  refine Quiet.foldl _ (fun s n => ?_) _ _
  split
  · exact quiet_writeShadow _ _
  · exact Quiet.refl _

theorem quiet_mirror (s : Dev) : Quiet s s.mirror := by
  unfold Dev.mirror Dev.startImage
  split
  · exact Quiet.refl _
  · simp only
    split
    · exact Quiet.refl _
    · split
      · exact (quiet_setFlag _ _ _ rfl).trans { Quiet.refl _ with twin := ⟨_, _, _, _, rfl⟩ }
      · exact { Quiet.refl _ with twin := ⟨_, _, _, _, rfl⟩ }

theorem quiet_mailboxTold (s : Dev) : Quiet s s.mailboxTold := by
  unfold Dev.mailboxTold
  simp only
  split
  · exact Quiet.refl _
  · refine (quiet_told s s.mbxOpen).trans ?_
    split
    · split
      · exact quiet_eventOk _ _ _
      · exact Quiet.refl _
    · split
      · exact quiet_eventOk _ _ _
      · exact Quiet.refl _

/-- What every command does after its own effect leaves the engines as they are. -/
theorem quiet_settle (s : Dev) : Quiet s s.settle :=
  (((((quiet_watchClock s).trans (quiet_mailboxTold _)).trans (quiet_flushWhey _)).trans (quiet_scanFaults _)).trans (quiet_syncShadows _)).trans (quiet_mirror _)

@[simp] theorem settle_clk (s : Dev) : s.settle.clk = s.clk := (quiet_settle s).clk
@[simp] theorem settle_pwr (s : Dev) : s.settle.pwr = s.pwr := (quiet_settle s).pwr
@[simp] theorem settle_tempo (s : Dev) : s.settle.tempo = s.tempo := (quiet_settle s).tempo
@[simp] theorem settle_chan (s : Dev) : s.settle.chan = s.chan := (quiet_settle s).chan
@[simp] theorem settle_str (s : Dev) : s.settle.str = s.str := (quiet_settle s).str
@[simp] theorem settle_mtx (s : Dev) : s.settle.mtx = s.mtx := (quiet_settle s).mtx
@[simp] theorem settle_clr (s : Dev) : s.settle.clr = s.clr := (quiet_settle s).clr
@[simp] theorem settle_rip (s : Dev) : s.settle.rip = s.rip := (quiet_settle s).rip
@[simp] theorem settle_cult (s : Dev) : s.settle.cult = s.cult := (quiet_settle s).cult
@[simp] theorem settle_harp (s : Dev) : s.settle.harp = s.harp := (quiet_settle s).harp
@[simp] theorem settle_pins (s : Dev) : s.settle.pins = s.pins := (quiet_settle s).pins
@[simp] theorem settle_car (s : Dev) : s.settle.car = s.car := (quiet_settle s).car
@[simp] theorem settle_trips (s : Dev) : s.settle.trips = s.trips := (quiet_settle s).trips
@[simp] theorem settle_seq (s : Dev) : s.settle.seq = s.seq := (quiet_settle s).seq
@[simp] theorem settle_ntcConv (s : Dev) : s.settle.ntcConv = s.ntcConv := (quiet_settle s).ntcConv
@[simp] theorem settle_ozh (s : Dev) : s.settle.ozh = s.ozh := (quiet_settle s).ozh
@[simp] theorem settle_ozhKept (s : Dev) : s.settle.ozhKept = s.ozhKept := (quiet_settle s).ozhKept
@[simp] theorem settle_free (s : Dev) : s.settle.free = s.free := (quiet_settle s).free
theorem settle_force (s : Dev) (off : Nat) (h : noteReg off = false) : s.settle.force off = s.force off := (quiet_settle s).force off h
theorem settle_written (s : Dev) (off : Nat) (h : noteReg off = false) : s.settle.written off = s.written off :=
  (quiet_settle s).written off h

end Sys2Proof.Machine
end

