-- ==== Sys2Proof/Laws/Exec.lean ====
section
/-! SUPPORT. How a claim about a command is reached: a command on the device is its effect and then `settle`, and `settle` keeps every
area. -/

namespace Sys2Proof.Machine

theorem Area.same_refl (a : Area) (s : State) : a.same s s := by
  cases a
  case ring => exact .refl _
  case flt => exact ⟨_, _, rfl⟩
  case hoop => exact sameHoop.refl _
  case twin => exact ⟨_, _, _, _, rfl⟩
  case br => exact sameBr.refl _
  case regs => exact fun _ _ => ⟨rfl, rfl⟩
  all_goals rfl

theorem Area.same_trans (a : Area) {s t u : State} (h : a.same s t) (k : a.same t u) : a.same s u := by
  cases a
  case ring => exact sameRing.trans h k
  case flt => exact sameFlt.trans h k
  case hoop => exact sameHoop.trans h k
  case twin => exact sameTwin.trans h k
  case br => exact sameBr.trans h k
  case regs => exact fun off ho => ⟨(k off ho).1.trans (h off ho).1, (k off ho).2.trans (h off ho).2⟩
  all_goals exact Eq.trans k h

/-- An area that a quiet change keeps. -/
theorem Area.same_of_quiet (a : Area) (s : State) (d : Dev) (h : Quiet s.dev d) : a.same s { s with dev := d } := by
  cases a
  case regs => exact fun off ho => ⟨h.force off ho, h.written off ho⟩
  case clk => exact h.clk
  case pwr => exact h.pwr
  case tempo => exact h.tempo
  case chan => exact h.chan
  case str => exact h.str
  case mtx => exact h.mtx
  case clr => exact h.clr
  case rip => exact h.rip
  case cult => exact h.cult
  case harp => exact h.harp
  case pins => exact h.pins
  case car => exact h.car
  case trips => exact h.trips
  case seq => exact h.seq
  case ntc => exact h.ntcConv
  case ozh => exact h.ozh
  case kept => exact h.ozhKept
  case free => exact h.free
  case ring => exact h.ring
  case hoop => exact h.hoop
  case twin => exact h.twin
  case flt => exact h.flt
  case br => exact h.br
  case rind => rfl

/-- A command on the device keeps what its own effect keeps. -/
theorem keepsBut_settle (areas : List Area) (s : State) (d : Dev) (ho : s.dev.out <:+ d.out)
    (h : ∀ a, a ∉ areas → a.same s { s with dev := d }) : KeepsBut areas s { s with dev := d.settle } := by
  refine ⟨rfl, ho.trans (quiet_settle d).out, fun a ha => a.same_trans (h a ha) ?_⟩
  exact a.same_of_quiet { s with dev := d } d.settle (quiet_settle d)

end Sys2Proof.Machine
end

