-- ==== Sys2Proof/WellFormed.lean ====
section
/-! DEFINITION. Which terms of `Instr` spell a command that can reach the device: the lengths of what it carries fit the spec's layouts.
The meanings do not rest on it: a shorter list reads as zeros, and a frame or packet of a wrong length is discarded as the spec says. -/

namespace Sys2Proof

/-- The bytes of a BAR (R104). -/
def Bar.bytes : Bar → Nat
  | .bar0 => 65536
  | .bar2 => 4096

/-- A descriptor has twenty payload bytes (Table DSC-1). -/
def Desc.wf (d : Desc) : Bool := decide (d.payload.length = 20)

/-- A SYNC or heartbeat has 48 code groups (R313, R343). -/
def SyncRx.wf (c : SyncRx) : Bool := decide (c.groups.length = 48)

/-- A packet fits a frame of 10,240 symbols (R312, R326). -/
def PktRx.wf (r : PktRx) : Bool := decide (r.groups.length ≤ 10240)

/-- A PSDU has 1 to 48 bytes (R362). -/
def RadioRx.wf (rx : RadioRx) : Bool := decide (0 < rx.psdu.length) && decide (rx.psdu.length ≤ 48)

/-- A command that can reach the device. -/
def Instr.wf : Instr → Bool
  | .registerWrite _ bar off size _ => decide (0 < size) && decide (size ≤ 8) && decide (off + size ≤ bar.bytes)
  | .whlNowLoRead r => decide (r.size ≤ 8) && decide (r.off < 0x400 + 4) && decide (0x400 < r.off + r.size)
  | .ozhAsnLoRead r => decide (r.size ≤ 8) && decide (r.off < 0x8034 + 4) && decide (0x8034 < r.off + r.size)
  | .rndEInLoRead r => decide (r.size ≤ 8) && decide (r.off < 0x9014 + 4) && decide (0x9014 < r.off + r.size)
  | .rndRtimeLoRead r => decide (r.size ≤ 8) && decide (r.off < 0x9024 + 4) && decide (0x9024 < r.off + r.size)
  | .nudge _ => true
  | .ringAbiHostWrite _ _ => true
  | .pwrModeReq _ _ => true
  | .restart _ => true
  | .strCommit _ => true
  | .mtxCommit _ => true
  | .clrCommit _ => true
  | .clrArm _ _ => true
  | .ripCommit _ => true
  | .hoopCommit _ => true
  | .ozhCommit _ => true
  | .flushTx _ _ => true
  | .flushRx _ _ => true
  | .adcStart _ _ => true
  | .hoopEnum _ => true
  | .rswGo _ => true
  | .ozhJoin _ => true
  | .ozhLeave _ => true
  | .ozhRekey _ => true
  | .statClr _ => true
  | .strFltClear _ _ _ => true
  | .strPhClear _ _ _ => true
  | .mtxFltClear _ _ _ _ => true
  | .carLatchClear _ _ => true
  | .fltDevClear _ _ => true
  | .hrpPinOwnWrite _ _ _ => true
  | .ripOwnWrite _ _ _ => true
  | .msixUnmask _ => true
  | .pressBoundary => true
  | .nop _ d => d.wf
  | .level _ d => d.wf
  | .levelBlock _ d => d.wf
  | .owner _ d => d.wf
  | .press _ d => d.wf
  | .ripenStart _ d => d.wf
  | .ripenStop _ d => d.wf
  | .ripenPause _ d => d.wf
  | .ripenResume _ d => d.wf
  | .ripenTrigger _ d => d.wf
  | .cultureLoad _ d => d.wf
  | .harpLoad _ d => d.wf
  | .harpQueue _ d => d.wf
  | .carrierSet _ d => d.wf
  | .readSetup _ d => d.wf
  | .readChannel _ d => d.wf
  | .readCulture _ d => d.wf
  | .readHarpRx _ d => d.wf
  | .routeHoop _ d => d.wf
  | .routeOzhild _ d => d.wf
  | .radioSend _ d => d.wf
  | .rindRequest _ d => d.wf
  | .rindRequestTimeout => true
  | .tempo _ d => d.wf
  | .fence _ d => d.wf
  | .fenceSatisfied _ => true
  | .mode _ d => d.wf
  | .sleepLinkReady => true
  | .sleepAbort => true
  | .setupWrite _ d => d.wf
  | .imageBegin _ d => d.wf
  | .imageEraseDone _ => true
  | .imageData _ d => d.wf
  | .imagePageProgrammed _ _ => true
  | .imageVerify _ d => d.wf
  | .imageActivate _ d => d.wf
  | .imageAbort _ d => d.wf
  | .discoverEnumerate _ d => d.wf
  | .discoverEntry _ d => d.wf
  | .twinPairActive _ d => d.wf
  | .twinPairShadow _ d => d.wf
  | .twinUnpair _ d => d.wf
  | .twinSwap _ d => d.wf
  | .twinStatus _ d => d.wf
  | .unknownOpcode _ d => d.wf
  | .cueRelease => true
  | .doorbellReadDone _ _ => true
  | .wheyHeadReadDone _ _ => true
  | .descriptorFetchDone _ ds _ => ds.all Desc.wf
  | .ringReadTimeout r => r.got.all Desc.wf
  | .ringStallRetry _ => true
  | .remoteTimeout => true
  | .msixModerationTimer _ => true
  | .busMasterDisable _ _ => true
  | .busMasterEnable => true
  | .perstNAssert => true
  | .linkDown => true
  | .functionLevelReset => true
  | .wordClockEdge _ _ => true
  | .wordRange => true
  | .wordLost => true
  | .woscCalDone _ => true
  | .tempoEvent => true
  | .tempoLost => true
  | .vioHLockoutExit _ => true
  | .wakePinEdge _ _ => true
  | .referenceMeasured _ => true
  | .wheelSet _ => true
  | .stewardBootDone _ => true
  | .thermalShutdown _ => true
  | .dimmingPeriodBoundary _ => true
  | .converterCycle _ _ => true
  | .peakCurrentLimit _ => true
  | .ovpHit _ => true
  | .bootstrapUndervoltage _ => true
  | .detectionSample _ _ _ => true
  | .phaseOpen _ => true
  | .phaseSense _ _ => true
  | .xchkWindow own => decide (own.length = 16)
  | .selfTestEnd _ _ => true
  | .scanFrameStart die => decide (die.length = 4)
  | .loopHoldTimer _ => true
  | .ditherProbe _ => true
  | .rowSlotStart => true
  | .matrixSample _ _ _ _ _ => true
  | .rowOverCurrent => true
  | .ripenerStep _ => true
  | .ripNop _ => true
  | .ripStop _ => true
  | .ripJmp _ => true
  | .ripDjnz _ => true
  | .ripJz _ => true
  | .ripLdi _ => true
  | .ripAddi _ => true
  | .ripMuli _ => true
  | .ripExt _ => true
  | .ripSel _ => true
  | .ripSet _ => true
  | .ripSetr _ => true
  | .ripFade _ => true
  | .ripTime _ => true
  | .ripRamp _ => true
  | .ripHold _ => true
  | .ripBreathe _ => true
  | .ripWave _ => true
  | .ripWait _ => true
  | .ripEmit _ => true
  | .ripMask _ => true
  | .ripRet _ => true
  | .hrpDly _ => true
  | .hrpWait _ => true
  | .harpWaitDone _ => true
  | .hrpShin _ => true
  | .hrpShout _ => true
  | .hrpPins _ => true
  | .hrpGet _ => true
  | .hrpPut _ => true
  | .queueUnblock _ => true
  | .hrpMark _ => true
  | .hrpAddi _ => true
  | .hrpAlu _ => true
  | .hrpLdi _ => true
  | .hrpBr _ => true
  | .hrpPkt _ => true
  | .hrpAtw _ => true
  | .atwDone _ => true
  | .hrpStamp _ => true
  | .hrpClrs _ => true
  | .hrpHalt _ => true
  | .hrpArm _ => true
  | .hpPinEdge _ _ => true
  | .carrierPeriodStart _ => true
  | .syncInEdge => true
  | .tripActive _ => true
  | .triggerCompare _ _ => true
  | .adcRunEnd _ res => decide (res.length ≤ 16)
  | .linkAligned _ => true
  | .alignmentLost _ => true
  | .linkSignalLoss _ => true
  | .syncMissing _ => true
  | .frameSend => true
  | .hoopSyncCapture _ c => c.wf
  | .upstreamSyncCapture _ c => c.wf
  | .shiftSectionEnd _ => true
  | .shiftHeaderReadDone _ => true
  | .shiftImageReadDone _ _ => true
  | .pktDesc _ p => p.wf
  | .pktCpl _ p => p.wf
  | .pktEvt _ p => p.wf
  | .pktSetw _ p => p.wf
  | .enumStart _ p => p.wf
  | .enumCount _ p => p.wf
  | .enumAssign _ p => p.wf
  | .enumRec _ p => p.wf
  | .enumEnd _ p => p.wf
  | .enumReq _ p => p.wf
  | .enumTimeout => true
  | .hoopHoldExpired => true
  | .heartbeat c => c.wf
  | .heartbeatMissed => true
  | .pfltLow => true
  | .mirrorFrameEnd _ _ _ _ _ => true
  | .slotStart => true
  | .beacon rx => rx.wf
  | .data rx => rx.wf
  | .ack rx => rx.wf
  | .ackWindowClose => true
  | .joinReq rx => rx.wf
  | .joinRsp rx => rx.wf
  | .poll rx => rx.wf
  | .childInfo rx => rx.wf
  | .routeSet rx => rx.wf
  | .leave rx => rx.wf
  | .rekeyReq rx => rx.wf
  | .ozhCpl rx => rx.wf
  | .descFrame rx => rx.wf
  | .fast rx => rx.wf
  | .fastAck rx => rx.wf
  | .parentTimeout => true
  | .joinRetry => true
  | .joinRescan => true
  | .heldFrameExpiry => true
  | .keySwitch => true
  | .rindWindowEnd w => decide (w.strUw.length = 16)
  | .rndRecord => true
  | .rindStageCurrent ma => decide (ma.length = 16)
  | .status => true
  | .fetch => true
  | .fetchEvent => true
  | .rindAck => true
  | .closePeriod => true
  | .calSet => true
  | .sealPrepare => true
  | .sealCommit => true
  | .tamperOpen => true
  | .tamperClosed => true
  | .powerOnReset _ => true
  | .rstNRelease => true
  | .syncInFall => true
  | .ntcConversionsEnd codes => decide (codes.length = 4)
  | .driftCompensation => true
  | .vinLockout => true
  | .vinLockoutExit => true
  | .supplySuspensionEnd => true
  | .vrowLockout => true
  | .vrowLockoutExit => true
  | .vrowSuspensionEnd => true
  | .vioHLockout => true
  | .v3Lockout => true
  | .v3LockoutExit => true
  | .vcorePgoodLoss => true
  | .vbatLow => true
  | .vrindLoss => true
  | .vrindRise => true
  | .wakeEdge => true
  | .vaultAlarm => true
  | .perstNDeassert => true
  | .hoopSignalDetect => true
  | .rstN => true
  | .vcorePgood => true
  | .pgoodTimeout => true
  | .vaultLockRelease => true
  | .crystalAmplitudeGood => true
  | .clockStepTimeout => true
  | .clockRetryPauseEnd => true
  | .pllLock => true
  | .limpClockLock => true
  | .dozeTimer => true
  | .dozeEventSleep => true
  | .dozeEventStayAwake => true
  | .dozeOverrun => true
  | .thermalRelease => true
  | .watchdogExpiry => true
  | .pllLockLoss => true
  | .debugHalt => true
  | .debugHaltEnd => true
  | .trialPass => true
/-- The descriptor that a row executes and the source at whose head it stands; none for a row that executes none. -/
def Instr.descOf : Instr → Option (Src × Desc)
  | .nop o d => some (o, d)
  | .level o d => some (o, d)
  | .levelBlock o d => some (o, d)
  | .owner o d => some (o, d)
  | .press o d => some (o, d)
  | .ripenStart o d => some (o, d)
  | .ripenStop o d => some (o, d)
  | .ripenPause o d => some (o, d)
  | .ripenResume o d => some (o, d)
  | .ripenTrigger o d => some (o, d)
  | .cultureLoad o d => some (o, d)
  | .harpLoad o d => some (o, d)
  | .harpQueue o d => some (o, d)
  | .carrierSet o d => some (o, d)
  | .readSetup o d => some (o, d)
  | .readChannel o d => some (o, d)
  | .readCulture o d => some (o, d)
  | .readHarpRx o d => some (o, d)
  | .routeHoop o d => some (o, d)
  | .routeOzhild o d => some (o, d)
  | .radioSend o d => some (o, d)
  | .rindRequest o d => some (o, d)
  | .tempo o d => some (o, d)
  | .fence o d => some (o, d)
  | .mode o d => some (o, d)
  | .setupWrite o d => some (o, d)
  | .imageBegin o d => some (o, d)
  | .imageData o d => some (o, d)
  | .imageVerify o d => some (o, d)
  | .imageActivate o d => some (o, d)
  | .imageAbort o d => some (o, d)
  | .discoverEnumerate o d => some (o, d)
  | .discoverEntry o d => some (o, d)
  | .twinPairActive o d => some (o, d)
  | .twinPairShadow o d => some (o, d)
  | .twinUnpair o d => some (o, d)
  | .twinSwap o d => some (o, d)
  | .twinStatus o d => some (o, d)
  | .unknownOpcode o d => some (o, d)
  | _ => none

end Sys2Proof
end

