-- ==== Sys2Proof/Laws/PerInstr.lean ====
section
/-! SUPPORT. Of every row: a row that executes a descriptor is well formed when its descriptor has its 32 bytes, and by nothing else
(Table DSC-1). -/

namespace Sys2Proof.Laws.Row

/-- A row that executes a descriptor is well formed exactly when the descriptor is. -/
def Statement (i : Instr) : Prop := ∀ o d, i.descOf = some (o, d) → i.wf = d.wf

theorem registerWrite x0 x1 x2 x3 x4 : Statement (.registerWrite x0 x1 x2 x3 x4) := by
  intro _ _ h; cases h

theorem whlNowLoRead x0 : Statement (.whlNowLoRead x0) := by
  intro _ _ h; cases h

theorem ozhAsnLoRead x0 : Statement (.ozhAsnLoRead x0) := by
  intro _ _ h; cases h

theorem rndEInLoRead x0 : Statement (.rndEInLoRead x0) := by
  intro _ _ h; cases h

theorem rndRtimeLoRead x0 : Statement (.rndRtimeLoRead x0) := by
  intro _ _ h; cases h

theorem nudge x0 : Statement (.nudge x0) := by
  intro _ _ h; cases h

theorem ringAbiHostWrite x0 x1 : Statement (.ringAbiHostWrite x0 x1) := by
  intro _ _ h; cases h

theorem pwrModeReq x0 x1 : Statement (.pwrModeReq x0 x1) := by
  intro _ _ h; cases h

theorem restart x0 : Statement (.restart x0) := by
  intro _ _ h; cases h

theorem strCommit x0 : Statement (.strCommit x0) := by
  intro _ _ h; cases h

theorem mtxCommit x0 : Statement (.mtxCommit x0) := by
  intro _ _ h; cases h

theorem clrCommit x0 : Statement (.clrCommit x0) := by
  intro _ _ h; cases h

theorem clrArm x0 x1 : Statement (.clrArm x0 x1) := by
  intro _ _ h; cases h

theorem ripCommit x0 : Statement (.ripCommit x0) := by
  intro _ _ h; cases h

theorem hoopCommit x0 : Statement (.hoopCommit x0) := by
  intro _ _ h; cases h

theorem ozhCommit x0 : Statement (.ozhCommit x0) := by
  intro _ _ h; cases h

theorem flushTx x0 x1 : Statement (.flushTx x0 x1) := by
  intro _ _ h; cases h

theorem flushRx x0 x1 : Statement (.flushRx x0 x1) := by
  intro _ _ h; cases h

theorem adcStart x0 x1 : Statement (.adcStart x0 x1) := by
  intro _ _ h; cases h

theorem hoopEnum x0 : Statement (.hoopEnum x0) := by
  intro _ _ h; cases h

theorem rswGo x0 : Statement (.rswGo x0) := by
  intro _ _ h; cases h

theorem ozhJoin x0 : Statement (.ozhJoin x0) := by
  intro _ _ h; cases h

theorem ozhLeave x0 : Statement (.ozhLeave x0) := by
  intro _ _ h; cases h

theorem ozhRekey x0 : Statement (.ozhRekey x0) := by
  intro _ _ h; cases h

theorem statClr x0 : Statement (.statClr x0) := by
  intro _ _ h; cases h

theorem strFltClear x0 x1 x2 : Statement (.strFltClear x0 x1 x2) := by
  intro _ _ h; cases h

theorem strPhClear x0 x1 x2 : Statement (.strPhClear x0 x1 x2) := by
  intro _ _ h; cases h

theorem mtxFltClear x0 x1 x2 x3 : Statement (.mtxFltClear x0 x1 x2 x3) := by
  intro _ _ h; cases h

theorem carLatchClear x0 x1 : Statement (.carLatchClear x0 x1) := by
  intro _ _ h; cases h

theorem fltDevClear x0 x1 : Statement (.fltDevClear x0 x1) := by
  intro _ _ h; cases h

theorem hrpPinOwnWrite x0 x1 x2 : Statement (.hrpPinOwnWrite x0 x1 x2) := by
  intro _ _ h; cases h

theorem ripOwnWrite x0 x1 x2 : Statement (.ripOwnWrite x0 x1 x2) := by
  intro _ _ h; cases h

theorem msixUnmask x0 : Statement (.msixUnmask x0) := by
  intro _ _ h; cases h

theorem pressBoundary : Statement (.pressBoundary) := by
  intro _ _ h; cases h

theorem nop (o : Src) (d : Desc) : Statement (.nop o d) := by
  intro _ _ h; cases h; rfl

theorem level (o : Src) (d : Desc) : Statement (.level o d) := by
  intro _ _ h; cases h; rfl

theorem levelBlock (o : Src) (d : Desc) : Statement (.levelBlock o d) := by
  intro _ _ h; cases h; rfl

theorem owner (o : Src) (d : Desc) : Statement (.owner o d) := by
  intro _ _ h; cases h; rfl

theorem press (o : Src) (d : Desc) : Statement (.press o d) := by
  intro _ _ h; cases h; rfl

theorem ripenStart (o : Src) (d : Desc) : Statement (.ripenStart o d) := by
  intro _ _ h; cases h; rfl

theorem ripenStop (o : Src) (d : Desc) : Statement (.ripenStop o d) := by
  intro _ _ h; cases h; rfl

theorem ripenPause (o : Src) (d : Desc) : Statement (.ripenPause o d) := by
  intro _ _ h; cases h; rfl

theorem ripenResume (o : Src) (d : Desc) : Statement (.ripenResume o d) := by
  intro _ _ h; cases h; rfl

theorem ripenTrigger (o : Src) (d : Desc) : Statement (.ripenTrigger o d) := by
  intro _ _ h; cases h; rfl

theorem cultureLoad (o : Src) (d : Desc) : Statement (.cultureLoad o d) := by
  intro _ _ h; cases h; rfl

theorem harpLoad (o : Src) (d : Desc) : Statement (.harpLoad o d) := by
  intro _ _ h; cases h; rfl

theorem harpQueue (o : Src) (d : Desc) : Statement (.harpQueue o d) := by
  intro _ _ h; cases h; rfl

theorem carrierSet (o : Src) (d : Desc) : Statement (.carrierSet o d) := by
  intro _ _ h; cases h; rfl

theorem readSetup (o : Src) (d : Desc) : Statement (.readSetup o d) := by
  intro _ _ h; cases h; rfl

theorem readChannel (o : Src) (d : Desc) : Statement (.readChannel o d) := by
  intro _ _ h; cases h; rfl

theorem readCulture (o : Src) (d : Desc) : Statement (.readCulture o d) := by
  intro _ _ h; cases h; rfl

theorem readHarpRx (o : Src) (d : Desc) : Statement (.readHarpRx o d) := by
  intro _ _ h; cases h; rfl

theorem routeHoop (o : Src) (d : Desc) : Statement (.routeHoop o d) := by
  intro _ _ h; cases h; rfl

theorem routeOzhild (o : Src) (d : Desc) : Statement (.routeOzhild o d) := by
  intro _ _ h; cases h; rfl

theorem radioSend (o : Src) (d : Desc) : Statement (.radioSend o d) := by
  intro _ _ h; cases h; rfl

theorem rindRequest (o : Src) (d : Desc) : Statement (.rindRequest o d) := by
  intro _ _ h; cases h; rfl

theorem rindRequestTimeout : Statement (.rindRequestTimeout) := by
  intro _ _ h; cases h

theorem tempo (o : Src) (d : Desc) : Statement (.tempo o d) := by
  intro _ _ h; cases h; rfl

theorem fence (o : Src) (d : Desc) : Statement (.fence o d) := by
  intro _ _ h; cases h; rfl

theorem fenceSatisfied x0 : Statement (.fenceSatisfied x0) := by
  intro _ _ h; cases h

theorem mode (o : Src) (d : Desc) : Statement (.mode o d) := by
  intro _ _ h; cases h; rfl

theorem sleepLinkReady : Statement (.sleepLinkReady) := by
  intro _ _ h; cases h

theorem sleepAbort : Statement (.sleepAbort) := by
  intro _ _ h; cases h

theorem setupWrite (o : Src) (d : Desc) : Statement (.setupWrite o d) := by
  intro _ _ h; cases h; rfl

theorem imageBegin (o : Src) (d : Desc) : Statement (.imageBegin o d) := by
  intro _ _ h; cases h; rfl

theorem imageEraseDone x0 : Statement (.imageEraseDone x0) := by
  intro _ _ h; cases h

theorem imageData (o : Src) (d : Desc) : Statement (.imageData o d) := by
  intro _ _ h; cases h; rfl

theorem imagePageProgrammed x0 x1 : Statement (.imagePageProgrammed x0 x1) := by
  intro _ _ h; cases h

theorem imageVerify (o : Src) (d : Desc) : Statement (.imageVerify o d) := by
  intro _ _ h; cases h; rfl

theorem imageActivate (o : Src) (d : Desc) : Statement (.imageActivate o d) := by
  intro _ _ h; cases h; rfl

theorem imageAbort (o : Src) (d : Desc) : Statement (.imageAbort o d) := by
  intro _ _ h; cases h; rfl

theorem discoverEnumerate (o : Src) (d : Desc) : Statement (.discoverEnumerate o d) := by
  intro _ _ h; cases h; rfl

theorem discoverEntry (o : Src) (d : Desc) : Statement (.discoverEntry o d) := by
  intro _ _ h; cases h; rfl

theorem twinPairActive (o : Src) (d : Desc) : Statement (.twinPairActive o d) := by
  intro _ _ h; cases h; rfl

theorem twinPairShadow (o : Src) (d : Desc) : Statement (.twinPairShadow o d) := by
  intro _ _ h; cases h; rfl

theorem twinUnpair (o : Src) (d : Desc) : Statement (.twinUnpair o d) := by
  intro _ _ h; cases h; rfl

theorem twinSwap (o : Src) (d : Desc) : Statement (.twinSwap o d) := by
  intro _ _ h; cases h; rfl

theorem twinStatus (o : Src) (d : Desc) : Statement (.twinStatus o d) := by
  intro _ _ h; cases h; rfl

theorem unknownOpcode (o : Src) (d : Desc) : Statement (.unknownOpcode o d) := by
  intro _ _ h; cases h; rfl

theorem cueRelease : Statement (.cueRelease) := by
  intro _ _ h; cases h

theorem doorbellReadDone x0 x1 : Statement (.doorbellReadDone x0 x1) := by
  intro _ _ h; cases h

theorem wheyHeadReadDone x0 x1 : Statement (.wheyHeadReadDone x0 x1) := by
  intro _ _ h; cases h

theorem descriptorFetchDone x0 x1 x2 : Statement (.descriptorFetchDone x0 x1 x2) := by
  intro _ _ h; cases h

theorem ringReadTimeout x0 : Statement (.ringReadTimeout x0) := by
  intro _ _ h; cases h

theorem ringStallRetry x0 : Statement (.ringStallRetry x0) := by
  intro _ _ h; cases h

theorem remoteTimeout : Statement (.remoteTimeout) := by
  intro _ _ h; cases h

theorem msixModerationTimer x0 : Statement (.msixModerationTimer x0) := by
  intro _ _ h; cases h

theorem busMasterDisable x0 x1 : Statement (.busMasterDisable x0 x1) := by
  intro _ _ h; cases h

theorem busMasterEnable : Statement .busMasterEnable := by
  intro _ _ h; cases h

theorem perstNAssert : Statement (.perstNAssert) := by
  intro _ _ h; cases h

theorem linkDown : Statement (.linkDown) := by
  intro _ _ h; cases h

theorem functionLevelReset : Statement (.functionLevelReset) := by
  intro _ _ h; cases h

theorem wordClockEdge x0 x1 : Statement (.wordClockEdge x0 x1) := by
  intro _ _ h; cases h

theorem wordRange : Statement (.wordRange) := by
  intro _ _ h; cases h

theorem wordLost : Statement (.wordLost) := by
  intro _ _ h; cases h

theorem woscCalDone x0 : Statement (.woscCalDone x0) := by
  intro _ _ h; cases h

theorem tempoEvent : Statement (.tempoEvent) := by
  intro _ _ h; cases h

theorem tempoLost : Statement (.tempoLost) := by
  intro _ _ h; cases h

theorem vioHLockoutExit x0 : Statement (.vioHLockoutExit x0) := by
  intro _ _ h; cases h

theorem wakePinEdge x0 x1 : Statement (.wakePinEdge x0 x1) := by
  intro _ _ h; cases h

theorem referenceMeasured x0 : Statement (.referenceMeasured x0) := by
  intro _ _ h; cases h

theorem wheelSet x0 : Statement (.wheelSet x0) := by
  intro _ _ h; cases h

theorem stewardBootDone x0 : Statement (.stewardBootDone x0) := by
  intro _ _ h; cases h

theorem thermalShutdown x0 : Statement (.thermalShutdown x0) := by
  intro _ _ h; cases h

theorem dimmingPeriodBoundary x0 : Statement (.dimmingPeriodBoundary x0) := by
  intro _ _ h; cases h

theorem converterCycle x0 x1 : Statement (.converterCycle x0 x1) := by
  intro _ _ h; cases h

theorem peakCurrentLimit x0 : Statement (.peakCurrentLimit x0) := by
  intro _ _ h; cases h

theorem ovpHit x0 : Statement (.ovpHit x0) := by
  intro _ _ h; cases h

theorem bootstrapUndervoltage x0 : Statement (.bootstrapUndervoltage x0) := by
  intro _ _ h; cases h

theorem detectionSample x0 x1 x2 : Statement (.detectionSample x0 x1 x2) := by
  intro _ _ h; cases h

theorem phaseOpen x0 : Statement (.phaseOpen x0) := by
  intro _ _ h; cases h

theorem phaseSense x0 x1 : Statement (.phaseSense x0 x1) := by
  intro _ _ h; cases h

theorem xchkWindow x0 : Statement (.xchkWindow x0) := by
  intro _ _ h; cases h

theorem selfTestEnd x0 x1 : Statement (.selfTestEnd x0 x1) := by
  intro _ _ h; cases h

theorem scanFrameStart x0 : Statement (.scanFrameStart x0) := by
  intro _ _ h; cases h

theorem loopHoldTimer x0 : Statement (.loopHoldTimer x0) := by
  intro _ _ h; cases h

theorem ditherProbe x0 : Statement (.ditherProbe x0) := by
  intro _ _ h; cases h

theorem rowSlotStart : Statement (.rowSlotStart) := by
  intro _ _ h; cases h

theorem matrixSample x0 x1 x2 x3 x4 : Statement (.matrixSample x0 x1 x2 x3 x4) := by
  intro _ _ h; cases h

theorem rowOverCurrent : Statement (.rowOverCurrent) := by
  intro _ _ h; cases h

theorem ripenerStep x0 : Statement (.ripenerStep x0) := by
  intro _ _ h; cases h

theorem ripNop x0 : Statement (.ripNop x0) := by
  intro _ _ h; cases h

theorem ripStop x0 : Statement (.ripStop x0) := by
  intro _ _ h; cases h

theorem ripJmp x0 : Statement (.ripJmp x0) := by
  intro _ _ h; cases h

theorem ripDjnz x0 : Statement (.ripDjnz x0) := by
  intro _ _ h; cases h

theorem ripJz x0 : Statement (.ripJz x0) := by
  intro _ _ h; cases h

theorem ripLdi x0 : Statement (.ripLdi x0) := by
  intro _ _ h; cases h

theorem ripAddi x0 : Statement (.ripAddi x0) := by
  intro _ _ h; cases h

theorem ripMuli x0 : Statement (.ripMuli x0) := by
  intro _ _ h; cases h

theorem ripExt x0 : Statement (.ripExt x0) := by
  intro _ _ h; cases h

theorem ripSel x0 : Statement (.ripSel x0) := by
  intro _ _ h; cases h

theorem ripSet x0 : Statement (.ripSet x0) := by
  intro _ _ h; cases h

theorem ripSetr x0 : Statement (.ripSetr x0) := by
  intro _ _ h; cases h

theorem ripFade x0 : Statement (.ripFade x0) := by
  intro _ _ h; cases h

theorem ripTime x0 : Statement (.ripTime x0) := by
  intro _ _ h; cases h

theorem ripRamp x0 : Statement (.ripRamp x0) := by
  intro _ _ h; cases h

theorem ripHold x0 : Statement (.ripHold x0) := by
  intro _ _ h; cases h

theorem ripBreathe x0 : Statement (.ripBreathe x0) := by
  intro _ _ h; cases h

theorem ripWave x0 : Statement (.ripWave x0) := by
  intro _ _ h; cases h

theorem ripWait x0 : Statement (.ripWait x0) := by
  intro _ _ h; cases h

theorem ripEmit x0 : Statement (.ripEmit x0) := by
  intro _ _ h; cases h

theorem ripMask x0 : Statement (.ripMask x0) := by
  intro _ _ h; cases h

theorem ripRet x0 : Statement (.ripRet x0) := by
  intro _ _ h; cases h

theorem hrpDly x0 : Statement (.hrpDly x0) := by
  intro _ _ h; cases h

theorem hrpWait x0 : Statement (.hrpWait x0) := by
  intro _ _ h; cases h

theorem harpWaitDone x0 : Statement (.harpWaitDone x0) := by
  intro _ _ h; cases h

theorem hrpShin x0 : Statement (.hrpShin x0) := by
  intro _ _ h; cases h

theorem hrpShout x0 : Statement (.hrpShout x0) := by
  intro _ _ h; cases h

theorem hrpPins x0 : Statement (.hrpPins x0) := by
  intro _ _ h; cases h

theorem hrpGet x0 : Statement (.hrpGet x0) := by
  intro _ _ h; cases h

theorem hrpPut x0 : Statement (.hrpPut x0) := by
  intro _ _ h; cases h

theorem queueUnblock x0 : Statement (.queueUnblock x0) := by
  intro _ _ h; cases h

theorem hrpMark x0 : Statement (.hrpMark x0) := by
  intro _ _ h; cases h

theorem hrpAddi x0 : Statement (.hrpAddi x0) := by
  intro _ _ h; cases h

theorem hrpAlu x0 : Statement (.hrpAlu x0) := by
  intro _ _ h; cases h

theorem hrpLdi x0 : Statement (.hrpLdi x0) := by
  intro _ _ h; cases h

theorem hrpBr x0 : Statement (.hrpBr x0) := by
  intro _ _ h; cases h

theorem hrpPkt x0 : Statement (.hrpPkt x0) := by
  intro _ _ h; cases h

theorem hrpAtw x0 : Statement (.hrpAtw x0) := by
  intro _ _ h; cases h

theorem atwDone x0 : Statement (.atwDone x0) := by
  intro _ _ h; cases h

theorem hrpStamp x0 : Statement (.hrpStamp x0) := by
  intro _ _ h; cases h

theorem hrpClrs x0 : Statement (.hrpClrs x0) := by
  intro _ _ h; cases h

theorem hrpHalt x0 : Statement (.hrpHalt x0) := by
  intro _ _ h; cases h

theorem hrpArm x0 : Statement (.hrpArm x0) := by
  intro _ _ h; cases h

theorem hpPinEdge x0 x1 : Statement (.hpPinEdge x0 x1) := by
  intro _ _ h; cases h

theorem carrierPeriodStart x0 : Statement (.carrierPeriodStart x0) := by
  intro _ _ h; cases h

theorem syncInEdge : Statement (.syncInEdge) := by
  intro _ _ h; cases h

theorem tripActive x0 : Statement (.tripActive x0) := by
  intro _ _ h; cases h

theorem triggerCompare x0 x1 : Statement (.triggerCompare x0 x1) := by
  intro _ _ h; cases h

theorem adcRunEnd x0 x1 : Statement (.adcRunEnd x0 x1) := by
  intro _ _ h; cases h

theorem linkAligned x0 : Statement (.linkAligned x0) := by
  intro _ _ h; cases h

theorem alignmentLost x0 : Statement (.alignmentLost x0) := by
  intro _ _ h; cases h

theorem linkSignalLoss x0 : Statement (.linkSignalLoss x0) := by
  intro _ _ h; cases h

theorem syncMissing x0 : Statement (.syncMissing x0) := by
  intro _ _ h; cases h

theorem frameSend : Statement (.frameSend) := by
  intro _ _ h; cases h

theorem hoopSyncCapture x0 x1 : Statement (.hoopSyncCapture x0 x1) := by
  intro _ _ h; cases h

theorem upstreamSyncCapture x0 x1 : Statement (.upstreamSyncCapture x0 x1) := by
  intro _ _ h; cases h

theorem shiftSectionEnd x0 : Statement (.shiftSectionEnd x0) := by
  intro _ _ h; cases h

theorem shiftHeaderReadDone x0 : Statement (.shiftHeaderReadDone x0) := by
  intro _ _ h; cases h

theorem shiftImageReadDone x0 x1 : Statement (.shiftImageReadDone x0 x1) := by
  intro _ _ h; cases h

theorem pktDesc x0 x1 : Statement (.pktDesc x0 x1) := by
  intro _ _ h; cases h

theorem pktCpl x0 x1 : Statement (.pktCpl x0 x1) := by
  intro _ _ h; cases h

theorem pktEvt x0 x1 : Statement (.pktEvt x0 x1) := by
  intro _ _ h; cases h

theorem pktSetw x0 x1 : Statement (.pktSetw x0 x1) := by
  intro _ _ h; cases h

theorem enumStart x0 x1 : Statement (.enumStart x0 x1) := by
  intro _ _ h; cases h

theorem enumCount x0 x1 : Statement (.enumCount x0 x1) := by
  intro _ _ h; cases h

theorem enumAssign x0 x1 : Statement (.enumAssign x0 x1) := by
  intro _ _ h; cases h

theorem enumRec x0 x1 : Statement (.enumRec x0 x1) := by
  intro _ _ h; cases h

theorem enumEnd x0 x1 : Statement (.enumEnd x0 x1) := by
  intro _ _ h; cases h

theorem enumReq x0 x1 : Statement (.enumReq x0 x1) := by
  intro _ _ h; cases h

theorem enumTimeout : Statement (.enumTimeout) := by
  intro _ _ h; cases h

theorem hoopHoldExpired : Statement (.hoopHoldExpired) := by
  intro _ _ h; cases h

theorem heartbeat x0 : Statement (.heartbeat x0) := by
  intro _ _ h; cases h

theorem heartbeatMissed : Statement (.heartbeatMissed) := by
  intro _ _ h; cases h

theorem pfltLow : Statement (.pfltLow) := by
  intro _ _ h; cases h

theorem mirrorFrameEnd x0 x1 x2 x3 x4 : Statement (.mirrorFrameEnd x0 x1 x2 x3 x4) := by
  intro _ _ h; cases h

theorem slotStart : Statement (.slotStart) := by
  intro _ _ h; cases h

theorem beacon x0 : Statement (.beacon x0) := by
  intro _ _ h; cases h

theorem data x0 : Statement (.data x0) := by
  intro _ _ h; cases h

theorem ack x0 : Statement (.ack x0) := by
  intro _ _ h; cases h

theorem ackWindowClose : Statement (.ackWindowClose) := by
  intro _ _ h; cases h

theorem joinReq x0 : Statement (.joinReq x0) := by
  intro _ _ h; cases h

theorem joinRsp x0 : Statement (.joinRsp x0) := by
  intro _ _ h; cases h

theorem poll x0 : Statement (.poll x0) := by
  intro _ _ h; cases h

theorem childInfo x0 : Statement (.childInfo x0) := by
  intro _ _ h; cases h

theorem routeSet x0 : Statement (.routeSet x0) := by
  intro _ _ h; cases h

theorem leave x0 : Statement (.leave x0) := by
  intro _ _ h; cases h

theorem rekeyReq x0 : Statement (.rekeyReq x0) := by
  intro _ _ h; cases h

theorem ozhCpl x0 : Statement (.ozhCpl x0) := by
  intro _ _ h; cases h

theorem descFrame x0 : Statement (.descFrame x0) := by
  intro _ _ h; cases h

theorem fast x0 : Statement (.fast x0) := by
  intro _ _ h; cases h

theorem fastAck x0 : Statement (.fastAck x0) := by
  intro _ _ h; cases h

theorem parentTimeout : Statement (.parentTimeout) := by
  intro _ _ h; cases h

theorem joinRetry : Statement (.joinRetry) := by
  intro _ _ h; cases h

theorem joinRescan : Statement (.joinRescan) := by
  intro _ _ h; cases h

theorem heldFrameExpiry : Statement (.heldFrameExpiry) := by
  intro _ _ h; cases h

theorem keySwitch : Statement (.keySwitch) := by
  intro _ _ h; cases h

theorem rindWindowEnd x0 : Statement (.rindWindowEnd x0) := by
  intro _ _ h; cases h

theorem rndRecord : Statement (.rndRecord) := by
  intro _ _ h; cases h

theorem rindStageCurrent x0 : Statement (.rindStageCurrent x0) := by
  intro _ _ h; cases h

theorem status : Statement (.status) := by
  intro _ _ h; cases h

theorem fetch : Statement (.fetch) := by
  intro _ _ h; cases h

theorem fetchEvent : Statement (.fetchEvent) := by
  intro _ _ h; cases h

theorem rindAck : Statement (.rindAck) := by
  intro _ _ h; cases h

theorem closePeriod : Statement (.closePeriod) := by
  intro _ _ h; cases h

theorem calSet : Statement (.calSet) := by
  intro _ _ h; cases h

theorem sealPrepare : Statement (.sealPrepare) := by
  intro _ _ h; cases h

theorem sealCommit : Statement (.sealCommit) := by
  intro _ _ h; cases h

theorem tamperOpen : Statement (.tamperOpen) := by
  intro _ _ h; cases h

theorem tamperClosed : Statement (.tamperClosed) := by
  intro _ _ h; cases h

theorem powerOnReset x0 : Statement (.powerOnReset x0) := by
  intro _ _ h; cases h

theorem rstNRelease : Statement (.rstNRelease) := by
  intro _ _ h; cases h

theorem syncInFall : Statement (.syncInFall) := by
  intro _ _ h; cases h

theorem ntcConversionsEnd x0 : Statement (.ntcConversionsEnd x0) := by
  intro _ _ h; cases h

theorem driftCompensation : Statement (.driftCompensation) := by
  intro _ _ h; cases h

theorem vinLockout : Statement (.vinLockout) := by
  intro _ _ h; cases h

theorem vinLockoutExit : Statement (.vinLockoutExit) := by
  intro _ _ h; cases h

theorem supplySuspensionEnd : Statement (.supplySuspensionEnd) := by
  intro _ _ h; cases h

theorem vrowLockout : Statement (.vrowLockout) := by
  intro _ _ h; cases h

theorem vrowLockoutExit : Statement (.vrowLockoutExit) := by
  intro _ _ h; cases h

theorem vrowSuspensionEnd : Statement (.vrowSuspensionEnd) := by
  intro _ _ h; cases h

theorem vioHLockout : Statement (.vioHLockout) := by
  intro _ _ h; cases h

theorem v3Lockout : Statement (.v3Lockout) := by
  intro _ _ h; cases h

theorem v3LockoutExit : Statement (.v3LockoutExit) := by
  intro _ _ h; cases h

theorem vcorePgoodLoss : Statement (.vcorePgoodLoss) := by
  intro _ _ h; cases h

theorem vbatLow : Statement (.vbatLow) := by
  intro _ _ h; cases h

theorem vrindLoss : Statement (.vrindLoss) := by
  intro _ _ h; cases h

theorem vrindRise : Statement (.vrindRise) := by
  intro _ _ h; cases h

theorem wakeEdge : Statement (.wakeEdge) := by
  intro _ _ h; cases h

theorem vaultAlarm : Statement (.vaultAlarm) := by
  intro _ _ h; cases h

theorem perstNDeassert : Statement (.perstNDeassert) := by
  intro _ _ h; cases h

theorem hoopSignalDetect : Statement (.hoopSignalDetect) := by
  intro _ _ h; cases h

theorem rstN : Statement (.rstN) := by
  intro _ _ h; cases h

theorem vcorePgood : Statement (.vcorePgood) := by
  intro _ _ h; cases h

theorem pgoodTimeout : Statement (.pgoodTimeout) := by
  intro _ _ h; cases h

theorem vaultLockRelease : Statement (.vaultLockRelease) := by
  intro _ _ h; cases h

theorem crystalAmplitudeGood : Statement (.crystalAmplitudeGood) := by
  intro _ _ h; cases h

theorem clockStepTimeout : Statement (.clockStepTimeout) := by
  intro _ _ h; cases h

theorem clockRetryPauseEnd : Statement (.clockRetryPauseEnd) := by
  intro _ _ h; cases h

theorem pllLock : Statement (.pllLock) := by
  intro _ _ h; cases h

theorem limpClockLock : Statement (.limpClockLock) := by
  intro _ _ h; cases h

theorem dozeTimer : Statement (.dozeTimer) := by
  intro _ _ h; cases h

theorem dozeEventSleep : Statement (.dozeEventSleep) := by
  intro _ _ h; cases h

theorem dozeEventStayAwake : Statement (.dozeEventStayAwake) := by
  intro _ _ h; cases h

theorem dozeOverrun : Statement (.dozeOverrun) := by
  intro _ _ h; cases h

theorem thermalRelease : Statement (.thermalRelease) := by
  intro _ _ h; cases h

theorem watchdogExpiry : Statement (.watchdogExpiry) := by
  intro _ _ h; cases h

theorem pllLockLoss : Statement (.pllLockLoss) := by
  intro _ _ h; cases h

theorem debugHalt : Statement (.debugHalt) := by
  intro _ _ h; cases h

theorem debugHaltEnd : Statement (.debugHaltEnd) := by
  intro _ _ h; cases h

theorem trialPass : Statement (.trialPass) := by
  intro _ _ h; cases h

end Sys2Proof.Laws.Row
end

