-- ==== Sys2Proof/Laws/Radio.lean ====
section
/-! SUPPORT. What a secured frame is to a receiver that holds its key: sealing and opening are inverse (R365, R392), so a frame with a good
header, sealed by a neighbour under the key index in force, is taken as what was sealed. -/

namespace Sys2Proof.Machine

@[simp] theorem length_leBytes (v n : Nat) : (leBytes v n).length = n := by
  induction n generalizing v with
  | zero => rfl
  | succ n ih => simp [leBytes, ih]

@[simp] theorem length_beBytes (v n : Nat) : (beBytes v n).length = n := by simp [beBytes]

@[simp] theorem length_xorBytes (a b : List Byte) : (xorBytes a b).length = min a.length b.length := by simp [xorBytes]

theorem xorBytes_cancel : ∀ (a b : List Byte), a.length ≤ b.length → xorBytes (xorBytes a b) b = a
  | [], _, _ => rfl
  | x :: a, [], h => by simp at h
  | x :: a, y :: b, h => by
    have hx : (x ^^^ y) ^^^ y = x := by rw [BitVec.xor_assoc, BitVec.xor_self, BitVec.xor_zero]
    show ((x ^^^ y) ^^^ y) :: xorBytes (xorBytes a b) b = x :: a
    rw [hx, xorBytes_cancel a b (Nat.le_of_succ_le_succ h)]

@[simp] theorem length_aesShift (s : List Byte) : (aesShift s).length = 16 := by simp [aesShift, upTo]

@[simp] theorem length_aesNextKey (k : List Byte) (rc : Byte) (h : k.length = 16) : (aesNextKey k rc).length = 16 := by
  simp [aesNextKey, h]

@[simp] theorem length_aesMix (c : List Byte) : (aesMix c).length = 4 := by simp [aesMix, upTo]

theorem length_aesRounds (n : Nat) (rc : Byte) (k s : List Byte) (h : k.length = 16) : (aesRounds n rc k s).length = 16 := by
  induction n generalizing rc k s with
  | zero => simp [aesRounds, h]
  | succ n ih => exact ih _ _ _ (by simp [h])

@[simp] theorem length_aesBlock (key : BitVec 128) (block : List Byte) : (aesBlock key block).length = 16 := by
  rw [aesBlock]
  exact length_aesRounds _ _ _ _ (length_beBytes ..)

@[simp] theorem length_cbcMac (key : BitVec 128) (iv : List Byte) (bs : List (List Byte)) (h : iv.length = 16) : (cbcMac key iv bs).length = 16 := by
  induction bs generalizing iv with
  | nil => exact h
  | cons b bs ih =>
    rw [cbcMac, List.foldl_cons]
    simp only [cbcMac] at ih
    exact ih _ (length_aesBlock ..)

theorem length_ccmTag (key : BitVec 128) (nonce aad clear : List Byte) (mic : Nat) (h : mic ≤ 16) : (ccmTag key nonce aad clear mic).length = mic := by
  simp [ccmTag, zero16, h]

@[simp] theorem length_ccmCrypt (key : BitVec 128) (nonce bs : List Byte) : (ccmCrypt key nonce bs).length = bs.length := by
  simp [ccmCrypt, ccmStream, upTo, ceilDiv, List.map_const']
  omega

theorem ccmCrypt_twice (key : BitVec 128) (nonce bs : List Byte) : ccmCrypt key nonce (ccmCrypt key nonce bs) = bs := by
  have h : (ccmCrypt key nonce bs).length = bs.length := length_ccmCrypt ..
  rw [ccmCrypt, h]
  refine xorBytes_cancel _ _ ?_
  have := length_ccmCrypt key nonce bs
  simp only [ccmCrypt, length_xorBytes] at this
  omega

/-- Opening gives what was sealed (R392). -/
theorem ccmOpen_ccmSeal (key : BitVec 128) (nonce aad clear : List Byte) (mic : Nat) (h : mic ≤ 16) :
    ccmOpen key nonce aad (ccmSeal key nonce aad clear mic) mic = some clear := by
  have hl : (ccmCrypt key nonce clear).length = clear.length := length_ccmCrypt ..
  have ht := length_ccmTag key nonce aad clear mic h
  have hn : (ccmSeal key nonce aad clear mic).length - mic = (ccmCrypt key nonce clear).length := by
    simp [ccmSeal, ccmStream, ht, h]
  simp only [ccmOpen, hn]
  rw [ccmSeal, List.take_left, List.drop_left, ccmCrypt_twice]
  simp [ccmStream, ht, h]

theorem ozOpen_ozSeal (key : BitVec 128) (nonce : List Byte) (level : Nat) (hdr clear : List Byte) :
    ozOpen key nonce level hdr (ozSeal key nonce level hdr clear) = some clear := by
  unfold ozOpen ozSeal
  split
  · have h : (ccmSeal key nonce (hdr ++ clear) [] 4).length = 4 := by
      simp [ccmSeal, ccmStream, length_ccmTag]
    have e : (clear ++ ccmSeal key nonce (hdr ++ clear) [] 4).length - 4 = clear.length := by simp [h]
    simp only [e, List.take_left, List.drop_left, ccmOpen_ccmSeal _ _ _ _ 4 (by decide), Option.map_some]
  · exact ccmOpen_ccmSeal _ _ _ _ _ (by split <;> decide)

/-- Bytes that securing adds (Table OZH-2). -/
theorem length_ozSeal (key : BitVec 128) (nonce : List Byte) (level : Nat) (hdr clear : List Byte) :
    (ozSeal key nonce level hdr clear).length = clear.length + if level = 6 then 8 else 4 := by
  unfold ozSeal
  split <;> (try subst level) <;> simp [ccmSeal, ccmStream, length_ccmTag]
  split <;> simp [length_ccmTag]

/-- A frame that a neighbour sealed under the key index in force passes its checks (R394, R395). -/
theorem judgeFrame_sealed (s : Dev) (a : BitVec 16) (type fcfB level : Nat) (hdr clear : List Byte) (low : Nat)
    (hk : (s.nbrOf a).known = true) (hh : s.haveKey = true) (hp : s.ozh.keyIdx.toNat % 2 = b2n (bitOf fcfB 6))
    (hf : ∀ l, (s.nbrOf a).fcNow = some l → fcNear (some l) low - l < 2 ^ 23) :
    s.judgeFrame a type fcfB level hdr (ozSeal (linkKey (s.ozh.nk.getD 0) (s.nbrOf a).eui (s.nbrOf a).session s.ozh.keyIdx.toNat)
        (ozNonce (s.nbrOf a).eui (fcNear (s.nbrOf a).fcNow low) level) level hdr clear) low =
      (some ⟨type, a, bitOf fcfB 3, bitOf fcfB 4, clear, (s.nbrOf a).fcNow = some (fcNear (s.nbrOf a).fcNow low),
        fcNear (s.nbrOf a).fcNow low, s.ozh.keyIdx.toNat⟩, s) := by
  have ht : s.tryIdx (b2n (bitOf fcfB 6)) = [s.ozh.keyIdx.toNat] := by simp [Dev.tryIdx, hp]
  have hl : s.lastFc (s.nbrOf a) s.ozh.keyIdx.toNat = (s.nbrOf a).fcNow := by simp [Dev.lastFc]
  cases e : (s.nbrOf a).fcNow with
  | none => simp [Dev.judgeFrame, ht, hl, e, hk, hh, Dev.openWith, ozOpen_ozSeal]
  | some l =>
    have hn : ¬8388608 ≤ fcNear (some l) low - l := by simpa using hf l e
    simp [Dev.judgeFrame, ht, hl, hn, e, hk, hh, Dev.openWith, ozOpen_ozSeal]

theorem leAt_append (h x : List Byte) (i n : Nat) (hi : i + n ≤ h.length) : leAt (h ++ x) i n = leAt h i n := by
  induction n generalizing i with
  | zero => rfl
  | succ n ih => simp [leAt, byteAt, ih (i + 1) (by omega), List.getElem?_append_left (by omega : i < h.length)]

/-- A frame with the full header that a neighbour sealed is received as what it sealed (R365, R374, R392). -/
theorem rxFrame_sealed (s : Dev) (src : BitVec 16) (hdr clear : List Byte) (start : Nat) (rssi : Int) (rx : RadioRx)
    (hrx : rx = ⟨s.accessWord, hdr ++ ozSeal (linkKey (s.ozh.nk.getD 0) (s.nbrOf src).eui (s.nbrOf src).session s.ozh.keyIdx.toNat)
        (ozNonce (s.nbrOf src).eui (fcNear (s.nbrOf src).fcNow (leAt hdr 5 3)) (ozLevel (byteAt hdr 0 % 8) (bitOf (byteAt hdr 0) 5)))
        (ozLevel (byteAt hdr 0 % 8) (bitOf (byteAt hdr 0) 5)) hdr clear, crc24 rx.psdu, start, rssi⟩)
    (h8 : hdr.length = 8) (ho : s.rxOpen rx = true)
    (hs : psduFits (8 + clear.length + if ozLevel (byteAt hdr 0 % 8) (bitOf (byteAt hdr 0) 5) = 6 then 8 else 4) (byteAt hdr 0 % 8)
      (byteAt hdr 0) = true) (h5 : byteAt hdr 0 % 8 < 5)
    (hd : BitVec.ofNat 16 (leAt hdr 1 2) = s.ozhAddr ∨ BitVec.ofNat 16 (leAt hdr 1 2) = 0xFFFF)
    (ha : BitVec.ofNat 16 (leAt hdr 3 2) = src) (hc : s.ozh.slotKind = 2 → s.ozh.slotNbr = 0xFFFF ∨ s.ozh.slotNbr = src)
    (hk : (s.nbrOf src).known = true) (hh : s.haveKey = true) (hp : s.ozh.keyIdx.toNat % 2 = b2n (bitOf (byteAt hdr 0) 6))
    (hf : ∀ l, (s.nbrOf src).fcNow = some l → fcNear (some l) (leAt hdr 5 3) - l < 2 ^ 23) :
    s.rxFrame rx 0 = (some ⟨byteAt hdr 0 % 8, src, bitOf (byteAt hdr 0) 3, bitOf (byteAt hdr 0) 4, clear,
        (s.nbrOf src).fcNow = some (fcNear (s.nbrOf src).fcNow (leAt hdr 5 3)), fcNear (s.nbrOf src).fcNow (leAt hdr 5 3),
        s.ozh.keyIdx.toNat⟩, (if src = s.ozh.parent then s.modOzh (fun z => { z with rssi := rssi }) else s).exchange src
          ((s.ozh.slotAt + 4096 : Nat) - (start : Int))) := by
  generalize hy : ozSeal _ _ _ hdr clear = y at hrx
  have hl : y.length = clear.length + if ozLevel (byteAt hdr 0 % 8) (bitOf (byteAt hdr 0) 5) = 6 then 8 else 4 := by
    rw [← hy, length_ozSeal]
  have e0 : byteAt (hdr ++ y) 0 = byteAt hdr 0 := by
    simp [byteAt, List.getElem?_append_left (by omega : 0 < hdr.length)]
  have hcrc : rx.crc = crc24 rx.psdu := by conv => lhs; rw [hrx]
  have hps : rx.psdu = hdr ++ y := by rw [hrx]
  have hst : rx.start = start := by rw [hrx]
  have hrs : rx.rssi = rssi := by rw [hrx]
  have hlen : (hdr ++ y).length = 8 + clear.length + if ozLevel (byteAt hdr 0 % 8) (bitOf (byteAt hdr 0) 5) = 6 then 8 else 4 := by
    rw [List.length_append, h8, hl]; omega
  have hj := judgeFrame_sealed s src (byteAt hdr 0 % 8) (byteAt hdr 0) (ozLevel (byteAt hdr 0 % 8) (bitOf (byteAt hdr 0) 5)) hdr clear
    (leAt hdr 5 3) hk hh hp hf
  rw [hy] at hj
  have hsl : (s.ozh.slotKind = 2 && s.ozh.slotNbr ≠ 0xFFFF && s.ozh.slotNbr ≠ src) = false := by
    by_cases e : s.ozh.slotKind = 2
    · rcases hc e with h | h <;> simp [h]
    · simp [e]
  have htk : (hdr ++ y).take 8 = hdr := by rw [← h8, List.take_left]
  have hdr' : (hdr ++ y).drop 8 = y := by rw [← h8, List.drop_left]
  have hdd : (BitVec.ofNat 16 (leAt hdr 1 2) ≠ s.ozhAddr && BitVec.ofNat 16 (leAt hdr 1 2) ≠ 0xFFFF) = false := by
    rcases hd with h | h <;> simp [h]
  simp only [Dev.rxFrame, hcrc, hps, hst, hrs, e0, leAt_append hdr y _ _ (by omega : 1 + 2 ≤ hdr.length),
    leAt_append hdr y _ _ (by omega : 3 + 2 ≤ hdr.length), leAt_append hdr y _ _ (by omega : 5 + 3 ≤ hdr.length), hlen, hs, ho, ha,
    hsl, hdd, htk, hdr']
  simp [Nat.not_le.mpr h5]
  rw [hj]
  dsimp only
  split <;> rfl

end Sys2Proof.Machine
end

