-- ==== Sys2Proof/Tests/Slice0.lean ====
section
/-! SUPPORT. Tests: a term that each check of WellFormed refuses; one step of a row against what the spec states; and for each statement with
hypotheses a state and operands that meet them (`meets_<Name>`, one conjunct for each clause). -/

namespace Sys2Proof.Tests

set_option Elab.async false

open Sys2Proof Sys2Proof.Machine

/-! ### Small states -/

/-- A register of the device that reads and holds `v`. -/
def regAt (s : Dev) (off v : Nat) : Dev :=
  { s with regs := { s.regs with
    force := tabSet (regReset off) s.regs.force off (BitVec.ofNat 32 v)
    written := tabSet (regReset off) s.regs.written off (BitVec.ofNat 32 v) } }

/-- Registers one after the other. -/
def regsAt (s : Dev) (rs : List (Nat × Nat)) : Dev := rs.foldl (fun s e => regAt s e.1 e.2) s

/-- The device in RUN on the tick on which the Wheel becomes `w`, with the rings enabled and whey ring 0 able to take 16 entries. -/
def runAt (w : Nat) : Dev :=
  let s := State.reset.dev
  let s := { s with clk := { s.clk with
    now := 400000000, wheel := BitVec.ofNat 64 w, prev := BitVec.ofNat 64 (w - 1), running := true, pllLock := true } }
  let s := { s with pwr := { s.pwr with mode := .run, wake := .idle, cold := false } }
  let s := { s with ring := { s.ring with bme := true, link := true, abiState := 1, whey := [(0, { st := .running })] } }
  regsAt s [(0x1008, 1), (0x1218, 9)]

/-- RUN at a Wheel value that lies on no grid. -/
def run : Dev := runAt 1000003

/-- The whole machine with this device and no command waiting. -/
def st (s : Dev) : State := { State.reset with dev := s }

/-- A descriptor with a SEQ of 7 for this unit: its opcode and the bytes of its payload. -/
def dsc (op : Nat) (p : List Nat) : Desc :=
  { op := BitVec.ofNat 8 op, flags := 0, seq := 7, target := 0, at48 := 0, payload := ((p ++ List.replicate 20 0).take 20).map (BitVec.ofNat 8) }

/-- Host ring 0 enabled and running with a descriptor at its head. -/
def fed (s : Dev) (d : Desc) : Dev :=
  let s := regAt s 0x1118 9
  { s with ring := { s.ring with curd := [(0, { st := .running, pend := 1, ready := [d] })] } }

/-- The machine with a descriptor at the head of host ring 0. -/
def on (s : Dev) (d : Desc) : State := st (fed s d)

/-- Host ring 0. -/
def r0 : Src := .ring 0

/-- The device in another mode. -/
def inMode (s : Dev) (m : Mode) : Dev := { s with pwr := { s.pwr with mode := m } }

/-! ### Ill-formed terms -/

/-- A register write has 1 to 8 bytes inside its BAR. -/
theorem test_wf_registerWrite :
    (Instr.registerWrite 0 .bar0 0 0 0).wf = false ∧ (Instr.registerWrite 0 .bar0 0 9 0).wf = false ∧
      (Instr.registerWrite 0 .bar0 65533 4 0).wf = false ∧ (Instr.registerWrite 0 .bar2 4096 1 0).wf = false ∧
      (Instr.registerWrite 0 .bar0 65532 4 0).wf = true := by decide

/-- A descriptor has 20 payload bytes, also one that a fetch brings. -/
theorem test_wf_descriptor :
    (Instr.nop r0 { dsc 0 [] with payload := [] }).wf = false ∧ (Instr.level .lh { dsc 1 [] with payload := [1, 2] }).wf = false ∧
      (Instr.descriptorFetchDone 0 [dsc 0 [], { dsc 0 [] with payload := [] }] none).wf = false ∧ (Instr.nop r0 (dsc 0 [])).wf = true := by
  decide +kernel

/-- A SYNC and a heartbeat have 48 code groups, a packet fits a frame, a PSDU has 1 to 48 bytes. -/
theorem test_wf_received :
    (Instr.hoopSyncCapture 0 ⟨List.replicate 47 0, true, 0⟩).wf = false ∧ (Instr.heartbeat ⟨List.replicate 49 0, true, 0⟩).wf = false ∧
      (Instr.pktEvt 1 ⟨List.replicate 10241 0, true⟩).wf = false ∧
      (Instr.data ⟨0, [], 0, 0, 0⟩).wf = false ∧ (Instr.data ⟨0, List.replicate 49 0, 0, 0, 0⟩).wf = false ∧
      (Instr.data ⟨0, List.replicate 48 0, 0, 0, 0⟩).wf = true := by decide +kernel

/-- A read of a LO register touches it; readings come one for each stage, die sensor or NTC input, and an ADC run has at most 16 results. -/
theorem test_wf_readings :
    (Instr.whlNowLoRead ⟨0x404, 4⟩).wf = false ∧ (Instr.whlNowLoRead ⟨0x3FE, 3⟩).wf = true ∧
      (Instr.xchkWindow (List.replicate 15 0)).wf = false ∧ (Instr.scanFrameStart [1, 2, 3]).wf = false ∧
      (Instr.adcRunEnd 0 (List.replicate 17 0)).wf = false ∧ (Instr.rindStageCurrent []).wf = false ∧
      (Instr.rindWindowEnd ⟨0, 0, 0, 0, false, [], false⟩).wf = false ∧ (Instr.ntcConversionsEnd [1]).wf = false := by decide +kernel

/-! ### Hypotheses that are met -/

/-- A press on the tick; and the Wheel stopped, running, and with a slew left in each direction, with nothing asked for on the tick. -/
theorem meets_IdleStepKeepsTime :
    (State.reset.pending = [] ∧ nextRow State.reset = none ∧ State.reset.dev.clk.running = false) ∧
      (let quiet (s : Dev) : Prop := nextRow (st s) = none ∧ s.twin.takeDue = false ∧ s.pwr.asked = none ∧ s.ring.flights = [] ∧
         s.hoop.own = [] ∧ s.clk.running = true
       (quiet run ∧ run.clk.skip = 0) ∧ ∀ k ∈ [(1 : Int), -1], quiet { run with clk := { run.clk with skip := k } }) ∧
      (nextRow (st (runAt 4096))).isSome = true := by decide +kernel

/-- A read that touches a LO register with one byte, one that does not, and a Rind that is on. -/
theorem meets_LowReadLatchesHigh :
    run.coreOn = true ∧ touches 0x400 0x3FD 4 = true ∧ touches 0x400 0x404 4 = false ∧ { run with br := { run.br with on := true } }.br.on = true := by
  decide +kernel

theorem meets_CommitStrobesTakeShadowCopies : run.coreOn = true ∧ run.pwr.mode ≠ .shadow := by decide +kernel

theorem meets_StrobesActAtOnce : run.coreOn = true ∧ run.pwr.mode ≠ .shadow := by decide +kernel

theorem meets_AdcStartMakesSequencesPending :
    let s := regAt run (seqOff 2) 1
    s.coreOn = true ∧ s.pwr.mode ≠ .shadow ∧ s.rb (seqOff 2) 0 = true ∧ s.rf (seqOff 2) 6 4 = 0 := by decide +kernel

theorem meets_FaultClearsRelease :
    let s := regsAt run [(0x2010, 1), (0x2018, 0x8000), (0x3200, 1), (0x6004, 0x2000), (0xA008, 1)]
    s.coreOn = true ∧ s.rb 0x2010 0 = true ∧ s.rb 0x2018 15 = true ∧ s.rb 0x3200 0 = true ∧ s.rb 0x6004 13 = true ∧ s.rf 0xA008 1 0 ≠ 0 := by
  decide +kernel

/-- The lowest and the highest owner register of pins and of channels. -/
theorem meets_OwnerWritesTakeOver :
    run.coreOn = true ∧ run.pwr.mode ≠ .shadow ∧ run.writeRefused 0x5010 0x12345678 (BitVec.allOnes 32) = none ∧
      run.writeRefused 0x501C 0 (BitVec.allOnes 32) = none ∧ run.writeRefused 0x4400 0x02010002 (BitVec.allOnes 32) = none ∧
      run.writeRefused (0x4400 + 4 * 259) 0 (BitVec.allOnes 32) = none := by decide +kernel

theorem meets_PowerWritesRequestAndRestart :
    run.coreOn = true ∧ modeOfCode ((0 : BitVec 32).toNat % 8) = some .vault ∧ modeOfCode ((5 : BitVec 32).toNat % 8) = some .hold ∧
      modeOfCode ((7 : BitVec 32).toNat % 8) = none := by
  decide +kernel

/-- READY, with no ring enabled. -/
def bare : Dev := { State.reset.dev with pwr := { State.reset.dev.pwr with mode := .ready, wake := .idle } }

theorem meets_RingWritesActAtOnce :
    bare.coreOn = true ∧ bare.writeRefused 0x1004 0x0100 (BitVec.allOnes 32) = none ∧ bare.flt.refuse = false ∧
      (let s := fed run (dsc 0 [])
       s.curdEn 0 = true ∧ (s.curdOf 0).st ≠ .stopped ∧ (s.curdOf 0).rdOut = 0 ∧ s.mayIssue = true ∧ s.wheyEn 0 = true ∧
         (s.wheyOf 0).st ≠ .stopped ∧ (s.wheyOf 0).rdOut = 0 ∧ s.pressSoon = none) ∧
      (∀ m : Bool, let s : Dev := { run with ring := { run.ring with msix := [(0, { mask := m, pend := true })] } }
       (s.msixOf 0).mask = m ∧ (s.msixOf 0).pend = true ∧ s.ring.fmask = false ∧ s.mayIssue = true ∧ s.vectorNamed 0 = true) := by
  decide +kernel

/-- A staged key. -/
def keyStaged : Dev := { run with regs := { run.regs with staged := [(0x7008, true), (0x805C, true)] } }

/-- A staged key with a staged slice; and a staged block mask that leaves 15 channels, or 14. -/
theorem meets_FabricCommitsInstall :
    keyStaged.coreOn = true ∧ 0x7008 ∈ keyStaged.regs.staged.map Prod.fst ∧
      (∃ j < 4, tabGet false keyStaged.regs.staged (0x8050 + 4 * j) = true) ∧
      ¬(∃ j < 4, tabGet false run.regs.staged (0x8050 + 4 * j) = true) ∧
      ∀ p ∈ [(0x1FFFFFF, 15), (0x3FFFFFF, 14)],
        let s : Dev := regAt { run with regs := { run.regs with staged := [(0x8014, true)] } } 0x8014 p.1
        s.coreOn = true ∧ tabGet false s.regs.staged 0x8014 = true ∧ (openChans s.blockStaged).length = p.2 := by decide +kernel

/-- RUN with the Hoop enabled: a root, or another unit. -/
def hoopAt (s : Dev) (root : Bool) : Dev :=
  let s := regAt s 0x7000 (if root then 3 else 1)
  { s with hoop := { s.hoop with busy := true } }

/-- RUN with Ozhild enabled in a role, joined and with a key. -/
def meshAt (s : Dev) (role : Nat) : Dev :=
  let s := { s with regs := { s.regs with
    force := s.regs.force ++ [(0x8028, 5), (0x802C, 6)], written := s.regs.written ++ [(0x8028, 5), (0x802C, 6)] } }
  let s := regsAt s [(0x8000, 1 + 2 * role), (0x8010, 0x1234)]
  { s with ozh := { s.ozh with busy := true, st := 3, nk := some 0x0123456789ABCDEF, jk := some 0x77, keyIdx := 4, session := 9, parent := 2, short := 5 } }

theorem meets_FabricStrobesStart :
    (let s := hoopAt run true
     s.coreOn = true ∧ s.isRoot = true ∧ s.hoop.enumBusy = false) ∧
      (let s := hoopAt run true
       let s := { s with hoop := { s.hoop with enumBusy := true } }
       s.isRoot = true ∧ s.hoop.enumBusy = true) ∧
      (run.isRoot = false ∧ run.ozhOn = false) ∧
      (let s := meshAt run 1
       s.ozhOn = true ∧ s.pwr.mode ≠ .shadow ∧ s.isCoord = false ∧ s.ozh.jk.isSome = true ∧ (s.ozh.st = 3 ∨ s.ozh.st = 4)) ∧
      (let s := meshAt run 0
       let pending (b : Option (BitVec 40)) : Dev := { s with ozh := { s.ozh with switch := some ⟨10, b⟩ } }
       s.ozhOn = true ∧ s.isCoord = true ∧ s.flt.dbgHalt = false ∧ s.ozh.switch = none ∧
         ((pending (some 3)).ozhOn = true ∧ (pending (some 3)).isCoord = true ∧ ∃ w m, (pending (some 3)).ozh.switch = some ⟨w, some m⟩) ∧
         ((pending none).ozhOn = true ∧ (pending none).isCoord = true ∧ ∃ w, (pending none).ozh.switch = some ⟨w, none⟩)) := by
  refine ⟨by decide +kernel, by decide +kernel, by decide +kernel, by decide +kernel, by decide +kernel, by decide +kernel, by decide +kernel,
    by decide +kernel, ⟨by decide +kernel, by decide +kernel, _, _, rfl⟩, by decide +kernel, by decide +kernel, _, rfl⟩

/-- An RW-staged register (STR_ phase) and an RW-live one (tempo). -/
theorem meets_RegisterWriteFollowsAccessClass :
    ∀ p ∈ [(0x444, 12000), (0x2108, 7), (0x80C, 1)], run.coreOn = true ∧ p.1 % 4 = 0 ∧ noteReg p.1 = false ∧
      run.writeRefused p.1 (BitVec.ofNat 32 p.2) (BitVec.allOnes 32) = none ∧ p.1 ≠ 0x808 ∧
      run.maskRefused p.1 (BitVec.ofNat 32 p.2) (BitVec.allOnes 32) = false := by decide +kernel

/-- A block without power, and a refused value. -/
theorem meets_RejectedWriteIsRecorded :
    ((regRow 0xA0C0).isSome = true ∧ 0xA0C0 % 4 = 0 ∧ 0xA0C0 < 65536 ∧ State.reset.dev.coreOn = false) ∧
      (run.coreOn = true ∧ (run.writeRefused 0x4400 0xFF (BitVec.allOnes 32)).isSome = true ∧ (regRow 0x4400).isSome = true) := by decide +kernel

theorem meets_NopCompletesUnknownRefused :
    (Runs r0 (dsc 0 []) (on run (dsc 0 [])) ∧ (dsc 0 []).op = 0x00) ∧
      (let d := dsc 0x15 []
       (((on run d).dev.readyOf r0).head? = some d ∧ (on run d).dev.mayAccept r0 d = true ∧ 0x14 < d.op.toNat ∧ run.flt.refuse = false)) := by
  unfold Runs; decide +kernel

/-- The last channel, and a block that ends at it. -/
theorem meets_LevelsWriteStepwiseValues :
    (let d := dsc 0x01 [0, 0, 5, 0, 0x0F, 0x04, 6, 0, 0, 0, 0, 0, 0, 0, 0, 0, 2]
     Runs r0 d (on run d) ∧ d.op = 0x01 ∧ d.b 28 = 2 ∧ d.v 16 2 = 1039) ∧
      (let d := dsc 0x02 [0x0D, 0x04, 2, 2, 1, 0, 2, 0]
       Runs r0 d (on run d) ∧ d.op = 0x02 ∧ d.v 12 2 + 1 * d.b 15 = 1039) := by
  unfold Runs; decide +kernel

theorem meets_OwnerWaitsForBoundary :
    ∀ d ∈ [dsc 0x03 [0x0F, 0x04, 1, 0, 0x1B, 1], dsc 0x03 [0, 0, 0x10, 0x04, 2, 0]], Runs r0 d (on run d) ∧ d.op = 0x03 := by
  unfold Runs; decide +kernel

/-- A PRESS before and after the press of its tick, one with FABRIC on the root and elsewhere, and each action of RIPEN. -/
theorem meets_PressAndRipenWait :
    (let d := dsc 0x04 []
     Runs r0 d (on run d) ∧ d.op = 0x04 ∧ bitOf (d.b 12) 0 = false ∧ (on run d).dev.gridNow 4096 0 = false) ∧
      (let d := dsc 0x04 []
       let s : Dev := { runAt 4096 with clk := { (runAt 4096).clk with served := [.press] } }
       Runs r0 d (on s d) ∧ (on s d).dev.clk.running = true ∧ (on s d).dev.gridNow 4096 0 = true ∧ (on s d).dev.isServed .press = true ∧
         (on s d).dev.blockBad = false) ∧
      (let d := dsc 0x04 [1]
       (Runs r0 d (on (hoopAt run true) d) ∧ bitOf (d.b 12) 0 = true ∧ (on (hoopAt run true) d).dev.isRoot = true) ∧
         (Runs r0 d (on run d) ∧ (on run d).dev.isRoot = false)) ∧
      ∀ a < 5, Runs r0 (dsc 0x05 [11, a]) (on run (dsc 0x05 [11, a])) ∧ (dsc 0x05 [11, a]).op = 0x05 ∧ (dsc 0x05 [11, a]).b 13 = a := by
  unfold Runs; decide +kernel

theorem meets_LoadsFillEngineMemories :
    (let d := dsc 0x06 [0xFF, 0x1F, 1, 0, 9]
     Runs r0 d (on run d) ∧ d.op = 0x06 ∧ d.v 12 2 = 8191) ∧
      (let d := dsc 0x07 [7, 31, 1, 0, 0, 0xB0]
       let s := regAt run (hrpOff 7) 1
       (Runs r0 d (on run d) ∧ d.op = 0x07 ∧ (on run d).dev.harpIdle (d.b 12) = true) ∧
         (let s := { s with harp := [(7, { st := 1 })] }
          Runs r0 d (on s d) ∧ (on s d).dev.harpIdle (d.b 12) = false)) ∧
      (let d := dsc 0x08 [0, 4, 0, 0, 1]
       Runs r0 d (on run d) ∧ d.op = 0x08 ∧ d.b 13 ≤ (on run d).dev.txDepth 0) := by
  unfold Runs; decide +kernel

theorem meets_CarrierSetWaitsForUpdate :
    let d := dsc 0x09 [5, 1, 0, 0, 0, 16]
    (Runs r0 d (on (regAt run 0x6240 1) d) ∧ d.op = 0x09 ∧ (regAt run 0x6240 1).rb (0x6100 + 0x40 * d.b 12) 0 = true ∧
      (on (regAt run 0x6240 1) d).dev.inHold = false) ∧
      (Runs r0 d (on run d) ∧ run.rb (0x6100 + 0x40 * d.b 12) 0 = false) := by
  unfold Runs; decide +kernel

theorem meets_ReadsReturnValues :
    ∀ p ∈ [(dsc 0x0A [0, 0, 0, 0x04], 0), (dsc 0x0A [1, 0, 0x0F, 0x04], 1), (dsc 0x0A [2, 0, 0xFF, 0x1F], 2), (dsc 0x0A [3, 0, 7], 3)],
      let s : Dev := { run with harp := [(7, { rx := [1, 2] })] }
      Runs r0 p.1 (on s p.1) ∧ Runs r0 p.1 (on run p.1) ∧ p.1.op = 0x0A ∧ p.1.b 12 = p.2 ∧ (s.harpOf 7).rx = [1, 2] ∧ (run.harpOf 7).rx = [] := by
  unfold Runs; decide +kernel

theorem meets_RouteWritesTables :
    (let d := dsc 0x0B [0, 0, 0xFF, 0, 1, 0x50]
     Runs r0 d (on run d) ∧ d.op = 0x0B ∧ d.b 12 = 0) ∧
      (let d := dsc 0x0B [1, 0, 0xFF, 1, 3, 0, 5, 0, 2, 0, 1, 0, 1]
       d.b 12 = 1 ∧ (Runs r0 d (on (meshAt run 0) d) ∧ (on (meshAt run 0) d).dev.isCoord = true) ∧
         (Runs r0 d (on (meshAt run 1) d) ∧ (on (meshAt run 1) d).dev.isCoord = false)) := by
  unfold Runs; decide +kernel

theorem meets_RadioSendQueuesFrame :
    let d := dsc 0x0C [3, 0, 1, 8, 0x55]
    let final : BitVec 16 := BitVec.ofNat 16 (d.v 12 2)
    let child (h : List TxFrame) : Dev := { meshAt run 1 with ozh := { (meshAt run 1).ozh with
      held := h, nbrs := [(7, { ({} : Nbr) with known := true, role := 2 })], routes := [(0, ⟨3, 3, 7, 5, true, false, false⟩)] } }
    (let s := (on (meshAt run 1) d).dev
     Runs r0 d (st s) ∧ s.ozhOn = true ∧ s.haveKey = true ∧ s.fcExhausted = false ∧ s.nextHop final = .to 2 ∧ s.isSleepyChild 2 = false ∧
       s.ozh.queue = []) ∧
      (∀ h ∈ [[], List.replicate 4 (⟨7, 1, true, [], none, 0, 3, 0, none, none, some 1, none⟩ : TxFrame)],
        let s := (on (child h) d).dev
        Runs r0 d (st s) ∧ s.ozhOn = true ∧ s.haveKey = true ∧ s.fcExhausted = false ∧ s.nextHop final = .to 7 ∧ s.isSleepyChild 7 = true ∧
          s.ozh.held.length < 64 ∧ (s.ozh.held.filter (fun g => g.nbr = 7)).length = h.length) ∧
      (let s := (on { meshAt run 1 with ozh := { (meshAt run 1).ozh with nk := none } } d).dev
       Runs r0 d (st s) ∧ s.ozhOn = true ∧ s.haveKey = false) ∧
      (let s := (on (meshAt run 0) d).dev
       Runs r0 d (st s) ∧ s.ozhOn = true ∧ s.haveKey = true ∧ s.fcExhausted = false ∧ s.nextHop final = .nowhere) ∧
      (let s := (on run d).dev
       Runs r0 d (st s) ∧ s.ozhOn = false) := by
  unfold Runs; decide +kernel

/-- A free place in the transmit queue exists whatever its depth. -/
theorem queue_has_room : ([] : List TxFrame).length < Config.ozhQueueDepth := Nat.succ_pos _

/-- The Rind on and its mailbox open. -/
def rindOn (s : Dev) : Dev := { s with br := { s.br with on := true, mbx := 1 } }

theorem meets_RindRequestGoesToMailbox :
    let d := dsc 0x0D [0x12]
    (∀ h : Bool, let s : Dev := { rindOn run with flt := { run.flt with dbgHalt := h } }
      Runs r0 d (on s d) ∧ (on s d).dev.mbxOpen = true ∧ d.b 12 ∈ [0x01, 0x02, 0x03, 0x04, 0x05, 0x10, 0x11, 0x12] ∧
        (on s d).dev.flt.dbgHalt = h) ∧
      (let d := dsc 0x0D [0x13]
       Runs r0 d (on (rindOn run) d) ∧ (on (rindOn run) d).dev.mbxOpen = true ∧
         d.b 12 ∉ [0x01, 0x02, 0x03, 0x04, 0x05, 0x10, 0x11, 0x12]) ∧
      (Runs r0 d (on run d) ∧ (on run d).dev.mbxOpen = false) := by
  unfold Runs; decide +kernel

theorem meets_TempoAnchorsGrid :
    let d := dsc 0x0E [7, 0, 0xE0, 0x2E, 5]
    let s := regAt run 0x440 3
    (Runs r0 d (on s d) ∧ d.op = 0x0E ∧ s.rf 0x440 2 1 = 1 ∧ s.tempo.runs = false) ∧
      (let s := { s with tempo := { s.tempo with runs := true } }
       Runs r0 d (on s d) ∧ s.rf 0x440 2 1 = 1 ∧ s.tempo.runs = true ∧ bitOf (d.b 12) 0 = true) ∧
      (Runs r0 d (on run d) ∧ run.rf 0x440 2 1 ≠ 1) := by
  unfold Runs; decide +kernel

/-- A PRESS that waits, accepted before. -/
def waiting : Flight := ⟨⟨.ring 1, .curd 1, dsc 0x04 [], 0, none, false⟩, 5, .press⟩

theorem meets_FenceAwaitsSources :
    let d := dsc 0x0F [2, 0]
    (Runs r0 d (on run d) ∧ d.op = 0x0F ∧
      (fenceSrcs (d.v 12 2)).any (fun q => ((on run d).taken r0 d).outstanding q (bitOf (d.b 14) 0) run.ring.serial) = false) ∧
      (let s := on { run with ring := { run.ring with serial := 3, flights := [waiting] } } d
       Runs r0 d s ∧ (fenceSrcs (d.v 12 2)).any (fun q => (s.taken r0 d).outstanding q (bitOf (d.b 14) 0) s.dev.ring.serial) = true) ∧
      (let f : Fence := ⟨⟨r0, .curd 0, d, 2, none, false⟩, 5⟩
       f.job.src = r0 ∧ (fenceSrcs (f.job.d.v 12 2)).any (fun q => run.outstanding q (bitOf (f.job.d.b 14) 0) f.job.serial) = false) := by
  unfold Runs; decide +kernel

/-- A MODE that waits to be judged. -/
def modeAsks (m : Mode) : Flight := ⟨⟨r0, .curd 0, dsc 0x10 [m.code], 3, none, false⟩, 5, .mode m⟩

/-- MODE executes, also while the Steward is halted; and one is judged: each transition of Table MOD-2, one refused, and one while another runs. -/
theorem meets_ModeRequestsTransitions :
    (∀ h : Bool, ∀ c < 6, let s : Dev := { run with flt := { run.flt with dbgHalt := h } }
      Runs r0 (dsc 0x10 [c]) (on s (dsc 0x10 [c])) ∧ (on s (dsc 0x10 [c])).dev.flt.dbgHalt = h ∧ (dsc 0x10 [c]).op = 0x10 ∧
        (modeOfCode ((dsc 0x10 [c]).b 12)).isSome = true) ∧
      ∀ p ∈ [(Mode.run, Mode.run), (.ready, .run), (.run, .ready), (.run, .vault), (.ready, .doze), (.run, .hold), (.shadow, .hold), (.hold, .ready),
          (.run, .shadow), (.hold, .run), (.shadow, .ready)],
        let s : Dev := { inMode run p.1 with ring := { run.ring with flights := [modeAsks p.2] } }
        s.twin.takeDue = false ∧ s.pwr.asked = none ∧ s.ring.flights.filter (fun g => g.modeAsked.isSome) = [modeAsks p.2] ∧
          s.transBusy = false ∧ s.pwr.transAt ≠ some s.clk.now ∧ s.pwr.cause = 0 ∧
          { s with pwr := { s.pwr with sleepTo := some .doze } }.transBusy = true := by
  unfold Runs; decide +kernel

/-- A masked write, one that is refused, one of no register, and the RESTART strobe with and without its bit. -/
theorem meets_SetupWriteIsMaskedWrite :
    (let d := dsc 0x11 [0x44, 0x04, 0, 0, 0xE0, 0x2E, 0, 0, 0xFF, 0xFF]
     let s := (on run d).taken r0 d
     Runs r0 d (on run d) ∧ d.op = 0x11 ∧ d.v 12 2 = 0x444 ∧ (regRow 0x444).isSome = true ∧
       s.writeRefused 0x444 ((s.readReg 0x444 &&& ~~~ 0xFFFF) ||| (0x2EE0 &&& 0xFFFF)) 0xFFFF = none ∧
       s.maskRefused 0x444 ((s.readReg 0x444 &&& ~~~ 0xFFFF) ||| (0x2EE0 &&& 0xFFFF)) 0xFFFF = false) ∧
      (let d := dsc 0x11 [0x44, 0x04, 0, 0, 1, 0, 0, 0, 0xFF, 0xFF]
       let s := (on run d).taken r0 d
       Runs r0 d (on run d) ∧ (s.writeRefused 0x444 ((s.readReg 0x444 &&& ~~~ 0xFFFF) ||| (1 &&& 0xFFFF)) 0xFFFF).isSome = true) ∧
      (let d := dsc 0x11 [0xFC, 0x0F, 0, 0, 0, 0, 0, 0, 1]
       Runs r0 d (on run d) ∧ regRow (d.v 12 2) = none) ∧
      ∀ b < 2, let d := dsc 0x11 [0x08, 0x08, 0, 0, b, 0, 0, 0, 1]
        Runs r0 d (on run d) ∧ d.v 12 2 = 0x808 ∧ bitOf (d.v 20 4) 0 = true ∧ bitOf (d.v 16 4) 0 = decide (b = 1) := by
  unfold Runs; decide +kernel

/-- An update of the Steward's slot in progress. -/
def updating (u : Upd) : Dev := { run with flt := { run.flt with upd := [(0, u)] } }

/-- Each action in order, on the Steward's slot and on the Rind's; each out of order; after a page that failed, while one is programmed, while the
Steward is halted, on a Rind without power, with a bad LENGTH, and in REFUSE. -/
theorem meets_ImageUpdateSequence :
    let whole : Upd := { open_ := true, length := 192, count := 12 }
    let calm (a k : Nat) (s : Dev) (rest : List Nat) : Bool :=
      let d := dsc 0x12 ([a + 8 * k] ++ rest)
      let u := (on s d).dev
      (u.readyOf r0).head? = some d && u.mayAccept r0 d && u.formRefused r0 d = none && u.destOf r0 d = .self && !u.modeRefuses d && !d.flag 0 &&
        d.b 12 % 8 = a && bits (d.b 12) 4 3 = k && !u.flt.dbgHalt
    (calm 0 0 run [0, 0, 0, 0x80] = true ∧ (run.updOf 0).open_ = false ∧ (dsc 0x12 [0, 0, 0, 0, 0x80]).v 16 4 = 128) ∧
      (calm 0 1 (rindOn run) [0, 0, 0, 0, 0, 2] = true ∧ (rindOn run).br.on = true ∧ (dsc 0x12 [8, 0, 0, 0, 0, 0, 2]).v 16 4 = slotSize 2) ∧
      (calm 0 0 run [0, 0, 0, 0x70] = true ∧ (dsc 0x12 [0, 0, 0, 0, 0x70]).v 16 4 = 112) ∧
      (let u : Upd := { open_ := true, length := 192, count := 3 }
       calm 1 0 (updating u) [11] = true ∧ 16 * (dsc 0x12 [1, 11]).v 13 3 < u.length ∧ tabGet false u.got 11 = false) ∧
      (calm 2 0 (updating whole) [] = true ∧ whole.count * 16 = whole.length) ∧
      (∀ r : Bool, let s := updating { whole with valid := true }
        calm 3 0 { s with flt := { s.flt with refuse := r } } [] = true) ∧
      (calm 4 0 (updating whole) [] = true ∧ whole.erasing = false) ∧
      (calm 1 0 (updating whole) [12] = true ∧ whole.length ≤ 16 * (dsc 0x12 [1, 12]).v 13 3) ∧
      (∀ a < 5, 1 ≤ a → calm a 0 run [] = true) ∧
      (∀ a ∈ [1, 2], calm a 0 (updating { whole with bad := true }) [] = true ∧ calm a 0 (updating { whole with programming := true }) [] = true) ∧
      (∀ a < 5, calm a 1 run [] = true ∧ run.br.on = false ∧
        (let d := dsc 0x12 [a]
         Runs r0 d (on { run with flt := { run.flt with dbgHalt := true } } d))) := by
  unfold Runs; decide +kernel

/-- An erase that ends and its BEGIN; a page that ends, with no DATA waiting and with one; and neither in progress. -/
theorem meets_FlashWorkEnds :
    (let s := updating { open_ := true, erasing := true }
     let f : Flight := ⟨⟨r0, .curd 0, dsc 0x12 [], 3, none, false⟩, 5, .erase false⟩
     (s.updOf 0).erasing = true ∧ { s with ring := { s.ring with flights := [f] } }.ring.flights.filter (fun f => decide (f.await = Await.erase false)) = [f]) ∧
      (run.coreOn = true ∧ ((updating { open_ := true, programming := true }).updOf 0).programming = true ∧ run.ring.steward = []) ∧
      (let s := updating { open_ := true, programming := true, length := 192, count := 3 }
       let j : Job := ⟨r0, .curd 0, dsc 0x12 [1, 11], 3, none, false⟩
       s.coreOn = true ∧ (s.updOf 0).programming = true ∧ s.flt.dbgHalt = false ∧ j.d.op = 0x12 ∧ j.d.b 12 % 8 = 1 ∧ bits (j.d.b 12) 4 3 = 0 ∧
         (s.updOf 0).open_ = true ∧ 16 * j.d.v 13 3 < (s.updOf 0).length ∧ tabGet false (s.updOf 0).got (j.d.v 13 3) = false) ∧
      ((run.updOf 1).erasing = false ∧ (run.updOf 1).programming = false) := by decide +kernel

theorem meets_DiscoverEnumeratesAndReads :
    let root := hoopAt run true
    let busy := { root with hoop := { root.hoop with enumBusy := true, enumList := [⟨5, 1, 2, 7, 9, 1, true⟩] } }
    let stopped := { root with flt := { root.flt with dbgHalt := true } }
    (∀ a ∈ [0, 1], Runs r0 (dsc 0x13 [a]) (on run (dsc 0x13 [a])) ∧ run.isRoot = false ∧ Runs r0 (dsc 0x13 [a]) (on stopped (dsc 0x13 [a]))) ∧
      (let d := dsc 0x13 []
       (Runs r0 d (on root d) ∧ d.op = 0x13 ∧ root.isRoot = true ∧ root.flt.dbgHalt = false ∧ d.b 12 = 0 ∧ root.hoop.enumBusy = false) ∧
         (Runs r0 d (on busy d) ∧ busy.isRoot = true ∧ busy.hoop.enumBusy = true)) ∧
      (Runs r0 (dsc 0x13 [1]) (on busy (dsc 0x13 [1])) ∧ busy.hoop.enumList[(dsc 0x13 [1]).v 14 2]? = some ⟨5, 1, 2, 7, 9, 1, true⟩) ∧
      (Runs r0 (dsc 0x13 [1, 0, 1]) (on busy (dsc 0x13 [1, 0, 1])) ∧ busy.hoop.enumList[(dsc 0x13 [1, 0, 1]).v 14 2]? = none) := by
  unfold Runs; decide +kernel

/-- A unit in twin mode with a partner. -/
def twinAt (s : Dev) (r : TRole) : Dev :=
  let s := regsAt s [(0x7000, 9), (0x7800, 2)]
  { s with
    hoop := { s.hoop with busy := true }
    twin := { s.twin with role := r, partner := true, pRole := .active, pCurrent := true, lastHb := some s.clk.now } }

/-- Each action where it succeeds; where the mode, the role or a SWAP under way forbids it; and without a partner, or with one that is not fit. -/
theorem meets_TwinControlSetsRoles :
    (∀ p ∈ [(TRole.unpaired, 0), (.unpaired, 1), (.active, 2), (.shadow, 2), (.active, 3), (.shadow, 3), (.shadow, 4), (.active, 0), (.shadow, 1),
        (.unpaired, 2), (.unpaired, 3)],
      let s := twinAt run p.1
      let s := { s with twin := { s.twin with current := true } }
      Runs r0 (dsc 0x14 [p.2]) (on s (dsc 0x14 [p.2])) ∧ s.brMode = 2 ∧ s.twin.role = p.1 ∧ (dsc 0x14 [p.2]).b 12 = p.2 ∧
        s.twin.partner = true ∧ s.twin.pRole = .active ∧ s.twin.pCurrent = true ∧ s.twin.swapAt = none ∧ s.pwr.mode = .run ∧
        (s.portOf 2).txq.length < 64) ∧
      ∀ p ∈ [(TRole.unpaired, 0), (.unpaired, 1), (.active, 3), (.shadow, 3)],
        let s := twinAt run p.1
        let lone := { s with twin := { s.twin with partner := false } }
        let poor := { s with twin := { s.twin with pRole := .shadow, pCurrent := false } }
        Runs r0 (dsc 0x14 [p.2]) (on lone (dsc 0x14 [p.2])) ∧ lone.twin.swapAt = none ∧ lone.twin.partner = false ∧ lone.brMode = 2 ∧
          Runs r0 (dsc 0x14 [p.2]) (on poor (dsc 0x14 [p.2])) ∧ poor.twin.partner = true ∧ poor.twin.pRole ≠ .active ∧
          poor.twin.pCurrent = false ∧ poor.twin.current = false ∧ poor.twin.role = p.1 := by
  unfold Runs; decide +kernel

/-- A cue at the Wheel's value, and one at the far end of what the store takes. -/
def cued (op : Nat) (p : List Nat) (w : Nat) : Desc := { dsc op p with flags := 1, at48 := BitVec.ofNat 48 w }

/-- What a cue that enters the store meets. -/
def enters (s : Dev) (d : Desc) : Bool :=
  let u := (on s d).dev
  (u.readyOf r0).head? = some d && u.mayAccept r0 d && u.formRefused r0 d = none && u.destOf r0 d = .self && !u.modeRefuses d && !u.inHold &&
    d.flag 0 && decide ((u.wheelN : Int) ≤ resolve u.wheelN d.at48) && decide (resolve u.wheelN d.at48 ≤ u.wheelN + 393216000) &&
    u.freeIdx = some 0 && u.ring.wait = []

/-- A store that is full. -/
def storeFull (s : Dev) : Dev :=
  { s with ring := { s.ring with cues := (upTo 4096).map (fun i => ⟨i, ⟨.ring 1, .curd 1, dsc 0 [], 0, some i, false⟩, 0, 400000000, false, false⟩) } }

theorem freeIdx_full {s : Dev} (f : Nat → Cue) (hf : ∀ i, (f i).idx = i) (h : s.ring.cues = (upTo 4096).map f) : s.freeIdx = none := by
  rw [Dev.freeIdx, h]
  generalize upTo 4096 = l
  rw [List.find?_eq_none]
  intro i hi
  have e : (l.map f).any (fun c => decide (c.idx = i)) = true := by
    rw [List.any_map, List.any_eq_true]
    exact ⟨i, hi, by simp [hf]⟩
  simp [e]

theorem storeFull_freeIdx (s : Dev) (d : Desc) (off v : Nat) : (regAt (fed (storeFull s) d) off v).freeIdx = none :=
  freeIdx_full (fun i => ⟨i, ⟨.ring 1, .curd 1, dsc 0 [], 0, some i, false⟩, 0, 400000000, false, false⟩) (fun _ => rfl)
    (by simp only [fed, regAt, storeFull])

/-- A cue of each opcode at both ends of what the store takes; one beyond it, one that is late, and one in HOLD; and a full store. -/
theorem meets_CueEntersStore :
    (∀ e ∈ [cued 0x00 [], cued 0x01 [0, 0, 5, 0, 0, 0, 0, 0, 0, 0, 0, 0, 0, 0, 0, 0, 1], cued 0x02 [0, 0, 1, 1], cued 0x03 [0, 0, 1, 0, 2],
        cued 0x04 [], cued 0x06 [0, 0, 1], cued 0x07 [0, 0, 1], cued 0x08 [0, 1], cued 0x09 [0, 1, 0, 0, 0, 16], cued 0x0C [3, 0, 1],
        cued 0x0E [2], cued 0x10 [2], cued 0x11 [0x44, 0x04, 0, 0, 0xE0, 0x2E, 0, 0, 0xFF, 0xFF]],
      enters run (e 1000003) = true ∧ enters run (e (1000003 + 393216000)) = true) ∧
      (let far (d : Desc) : Prop := d.flag 0 = true ∧ (fed run d).inHold = false ∧ ((fed run d).readyOf r0).head? = some d ∧
         (fed run d).mayAccept r0 d = true ∧ (fed run d).formRefused r0 d = none ∧ (fed run d).destOf r0 d = .self
       (far (cued 0x00 [] (1000003 + 393216001)) ∧ (1000003 + 393216000 : Int) < resolve 1000003 (BitVec.ofNat 48 (1000003 + 393216001))) ∧
         (let d : Desc := { cued 0x00 [] (1000002 - run.lateTol) with flags := 3 }
          far d ∧ d.flag 1 = true ∧ (run.lateTol : Int) < 1000003 - resolve 1000003 d.at48)) ∧
      (let d := cued 0x00 [] 1000003
       let s := fed (inMode run .hold) d
       s.inHold = true ∧ (s.readyOf r0).head? = some d ∧ s.mayAccept r0 d = true ∧ s.formRefused r0 d = none ∧ s.destOf r0 d = .self ∧
         s.modeRefuses d = false) ∧
      (let d := cued 0x00 [] 1000003
       let s (v : Nat) := regAt (fed (storeFull run) d) 0x1118 v
       (∀ v, (s v).freeIdx = none) ∧ (s 9).skips r0 = false ∧ (s 0x409).skips r0 = true ∧ (s 9).mayAccept r0 d = true ∧
         (s 0x409).mayAccept r0 d = true) :=
  ⟨by decide +kernel, by decide +kernel, by decide +kernel, fun _ => storeFull_freeIdx run _ _ _, by decide +kernel, by decide +kernel,
    by decide +kernel, by decide +kernel⟩

theorem meets_CueReleasesInOrder :
    let c (i t : Nat) (d : Desc) : Cue := ⟨i, ⟨.ring 0, .curd 0, d, i, some i, false⟩, 0, t, false, false⟩
    let a (op : Nat) := c 3 1000003 (dsc op [0, 0, 5, 0, 0, 0, 0, 0, 0, 0, 0, 0, 0, 0, 0, 0, 1])
    let b := c 4 1000 { dsc 0x04 [] with flags := 3 }
    let s (op : Nat) : Dev := { run with ring := { run.ring with cues := [c 5 1000004 (dsc 0x00 []), a op] } }
    let s2 : Dev := { run with ring := { run.ring with cues := [b, a 0] } }
    (∀ op ∈ [0x00, 0x01], (s op).cuesRun = true ∧ a op ∈ (s op).ring.cues ∧ (a op).out = false ∧ (a op).t ≤ (s op).wheelN ∧
      (a op).job.d.op = BitVec.ofNat 8 op ∧
      (∀ e ∈ (s op).ring.cues, e.out = false → e ≠ a op → (a op).t < e.t ∨ ((a op).t = e.t ∧ (a op).job.serial < e.job.serial))) ∧
      (s2.cuesRun = true ∧ b ∈ s2.ring.cues ∧ b.t ≤ s2.wheelN ∧ b.job.d.flag 1 = true ∧ (s2.lateTol : Int) < s2.wheelN - b.t ∧
        (∀ e ∈ s2.ring.cues, e.out = false → e ≠ b → b.t < e.t ∨ (b.t = e.t ∧ b.job.serial < e.job.serial))) := by decide +kernel

/-- A root whose DN port is up. -/
def rootUp : Dev :=
  let s := regsAt (hoopAt run true) [(0x7000, 0x13), (0x7400, 0x11005001)]
  { s with hoop := { s.hoop with ports := [(1, { link := 2, everUp := true })] } }

/-- A descriptor for a unit that has a route, and for one that has none; one that has waited too long for its completion, or for the Rind. -/
theorem meets_RemoteDescriptorTravels :
    let d (t : Nat) : Desc := { dsc 0x01 [0, 0, 5, 0, 0, 0, 0, 0, 0, 0, 0, 0, 0, 0, 0, 0, 1] with flags := 16, target := BitVec.ofNat 16 t }
    let late (a : Await) : Flight := ⟨⟨r0, .curd 0, dsc 0 [], 3, none, false⟩, 5, a⟩
    (∀ t ∈ [0x1005, 0x1006], let s := fed rootUp (d t)
      (s.readyOf r0).head? = some (d t) ∧ s.mayAccept r0 (d t) = true ∧ s.formRefused r0 (d t) = none ∧
        s.destOf r0 (d t) = .hoop (BitVec.ofNat 12 t)) ∧
      ((fed rootUp (d 0x1005)).deliverPort none 5 = some 1 ∧ ((fed rootUp (d 0x1005)).portOf 1).txq.length < 64 ∧
        ((fed rootUp (d 0x1005)).curdOf 0).haltAt = none ∧ (fed rootUp (d 0x1006)).deliverPort none 6 = none) ∧
      (run.coreOn = true ∧ [late (.remote 9 400000000)].filter (Flight.remoteLate run.clk.now) = [late (.remote 9 400000000)] ∧
        [late (.rind 7 400000000)].filter (Flight.rindLate run.clk.now) = [late (.rind 7 400000000)]) ∧
      State.reset.dev.coreOn = false := by decide +kernel

/-- A host word with its complement above it. -/
def host (v : Nat) : BitVec 64 := BitVec.ofNat 64 (v + 2 ^ 32 * (2 ^ 32 - 1 - v))

/-- A doorbell and a head word at both ends of what is good, a fetch, and reads of before a stop; moderation; and a cue that stalled its ring. -/
theorem meets_RingReadsAdvance :
    (let s := fed run (dsc 0 [])
     let s := { s with ring := { s.ring with
      curd := [(0, { st := .running, rdOut := 1, fetching := 2 }), (1, { st := .running, rdOut := 1 }),
        (2, { st := .running, rdOut := 1, rdDrop := 1, fetchDrop := 1 })],
      whey := [(0, { st := .running, rdOut := 1, since := 1, age := 1 })] } }
     let s := regAt s 0x1218 0x10109
     s.coreOn = true ∧ s.mayIssue = true ∧
       (∀ n ∈ [0, 1], (s.curdOf n).rdOut = 1 ∧ (s.curdOf n).rdDrop = 0 ∧ (s.curdOf n).st = .running) ∧
       ((s.curdOf 1).ready = [] ∧ (s.curdOf 1).fetching = 0 ∧ (s.curdOf 1).haltAt = none ∧ (s.curdOf 1).stopping = false) ∧
       (s.curdOf 2).rdDrop = 1 ∧ (s.curdOf 2).rdOut = 1 ∧ (s.curdOf 2).fetchDrop = 1 ∧
       (∀ v ∈ [0, 16], (host v).toNat / 2 ^ 32 + (host v).toNat % 2 ^ 32 = 2 ^ 32 - 1 ∧
         ((host v).setWidth 32 - s.curdCi 0).toNat ≤ 2 ^ s.rf (curdOff 0 + 0x18) 4 1) ∧
       ((s.wheyOf 0).rdOut = 1 ∧ (s.wheyOf 0).rdDrop = 0 ∧ (s.wheyOf 0).st = .running) ∧
       ((host 0).setWidth 32 - (s.wheyOf 0).head).toNat ≤ (s.wheyTail 0 - (s.wheyOf 0).head).toNat ∧
       ((s.curdOf 0).fetching = 2 ∧ (s.curdOf 0).fetchDrop = 0) ∧
       0 < (s.wheyOf 0).since ∧ s.rf (wheyOff 0 + 0x18) 15 8 ≠ 0 ∧ s.rf (wheyOff 0 + 0x18) 21 16 ≠ 0 ∧
       s.rf (wheyOff 0 + 0x18) 21 16 ≤ (s.wheyOf 0).age ∧ s.ring.fmask = false ∧
       ({ s with ring := { s.ring with msix := [(0, { mask := false })] } }.msixOf (s.rf (wheyOff 0 + 0x18) 7 5)).mask = false) ∧
      (let s := fed run (dsc 0 [])
       let s := { s with ring := { s.ring with curd := [(0, { st := .running, rdOut := 1 })] } }
       s.mayIssue = true ∧ ∀ k : Fin 8, k ≠ 0 → (s.curdOf k).fetching = 0 ∧ s.fetchWanted k = false) ∧
      (let d := cued 0x00 [] 1000003
       let s : Dev := { fed run d with ring := { (fed run d).ring with curd := [(0, { st := .running, pend := 1, ready := [d], told := true })] } }
       enters run d = true ∧ s.isTold r0 = true ∧ s.mayAccept r0 d = true ∧ run.isTold r0 = false) := by
  decide +kernel

theorem meets_EndpointEventsAct :
    run.coreOn = true ∧ run.clk.limp = false ∧ run.ring.wait = [] ∧
      (let s : Dev := { run with clk := { run.clk with limp := true } }
       s.coreOn = true ∧ s.clk.limp = true) := by decide +kernel

theorem meets_ClockRowsAct :
    let w (x : WordState) (good : Nat) : Dev := { run with clk := { run.clk with
      wordState := x, wordGood := good, wordEdge := 1000, wordFull := some (400000000 - 196608000) } }
    (run.coreOn = true ∧ run.clk.running = true ∧ run.clk.role = .master ∧ run.rb 0x410 3 = false ∧ run.clk.wordState = .off) ∧
      (∀ x ∈ [WordState.acquire, .locked, .holdover], (w x 15).clk.wordState = x) ∧
      ((w .acquire 0).clk.wordFull = some 203392000 ∧ 203392000 + 196608000 ≤ (w .acquire 0).clk.now ∧
        (w .locked 0).clk.wordEdge + 8 * (w .locked 0).wordPeriod ≤ (w .locked 0).clk.now) ∧
      (let s := meshAt run 1
       { s with clk := { s.clk with role := .radio }, ozh := { s.ozh with driftAcc := 1000000001, nbrs := [(2, { known := true, delta := 40 })] } }.driftDue = true) ∧
      run.tempoDue = false ∧
      (let s := regAt run 0x440 5
       let t : Tempo := { runs := true, anchored := true, a := 1000, k0 := 0, pq := 65536 * 1000, lastClk := some 0 }
       { s with tempo := t }.tempoDue = true ∧ s.rf 0x440 2 1 = 2 ∧ 24 * 65536 * 0 + 3 * t.pq ≤ 24 * 65536 * s.clk.now) := by
  decide +kernel

theorem meets_RailsSuspendTheirOutputs :
    (run.pwr.vinLow = false ∧ run.pwr.vrowLow = false ∧ run.pwr.vioLow = false ∧ run.pwr.vinEnd = none ∧ run.pwr.vrowEnd = none) ∧
      (let s : Dev := { run with pwr := { run.pwr with
        vinLow := true, vrowLow := true, vioLow := true, vinEnd := some 400000000, vrowEnd := some 400000000 } }
       s.pwr.vinLow = true ∧ s.pwr.vrowLow = true ∧ s.pwr.vioLow = true ∧ s.pwr.vinEnd = some s.clk.now ∧ s.pwr.vrowEnd = some s.clk.now) ∧
      (let s : Dev := { run with pwr := { run.pwr with vinEnd := some 400000001, vrowEnd := some 400000001 } }
       s.pwr.vinEnd = some (s.clk.now + 1) ∧ s.pwr.vrowEnd = some (s.clk.now + 1)) ∧
      (let s : Dev := { regsAt run [(0x501C, 0x77777777), (0x5040 + 4 * 31, 4)] with pins := { run.pins with ext := [(31, some true)] } }
       s.pinSampled 31 = true ∧ s.ballLevel 31 = some true) ∧
      (State.reset.rind.on = false ∧ { State.reset with rind := { State.reset.rind with on := true } }.rind.on = true) := by decide +kernel

/-- The device with another wake step. -/
def waking (s : Dev) (w : Wake) : Dev := { s with pwr := { s.pwr with wake := w } }

/-- V3 lost while it is on, in a wake step before and after the buck, and while it is off; V3 back in VAULT, in a sequence that waits for it, and in
one that does not; VCORE lost; and the end of a power-on reset and of RST_N. -/
theorem meets_ResetsKeepTheRind :
    (run.coreOn = true ∧ run.pwr.v3Low = false ∧ run.pwr.wake = .idle ∧ run.pwr.mode = .run) ∧
      (let w (x : Wake) (low : Bool) : Dev := { inMode run .vault with pwr := { (inMode run .vault).pwr with wake := x, v3Low := low } }
       (∀ x ∈ [Wake.buck, .refMeas, .crystal, .pll, .pause, .limpPll, .wheelWait, .steward, .idle, .v3wait],
         (w x false).pwr.wake = x ∧ (w x false).pwr.v3Low = false ∧ (w x false).pwr.vaultLock = false) ∧
         ((w .idle true).pwr.v3Low = true ∧ (w .idle true).pwr.wake = .idle ∧ (w .idle true).pwr.mode = .vault ∧
           (w .idle true).pwr.vaultLock = false) ∧
         ((w .v3wait true).pwr.wake = .v3wait ∧ (w .buck true).pwr.v3Low = true ∧ (w .buck true).pwr.wake ≠ .v3wait) ∧
         ((w .buck false).coreOn = false ∧ (w .steward false).coreOn = false)) ∧
      (State.reset.dev.pwr.wake = .por ∧ State.reset.dev.pwr.vbatLow = false ∧ State.reset.dev.pwr.v3Low = false) := by decide +kernel

/-- WAKE, the alarm, PERST_N, the Hoop and pin 31 wake from DOZE or VAULT as enabled, are latched during entry to sleep, and wake out of a DOZE event
and of its steps. -/
theorem meets_WakeSourcesBeginWake :
    let s (m : Mode) : Dev := inMode (regsAt run [(0x80C, 0xF), (0x818, 5), (0x810, 0x7F)]) m
    let entry (m : Mode) (l : Option (Nat × Nat)) : Dev := { s .run with pwr := { (s .run).pwr with sleepTo := some m, latched := l } }
    let event (e : Bool) (c : BitVec 5) : Dev := { s .doze with pwr := { (s .doze).pwr with dozeEvent := e, dozeWake := !e, cause := c } }
    ((s .vault).rb 0x80C 0 = true ∧ (s .vault).rf 0x818 31 0 ≠ 0 ∧ (s .doze).rb 0x80C 1 = true ∧ (s .doze).rb 0x80C 2 = true ∧
      ((s .doze).rb 0x80C 3 && (s .doze).wakePinHit 31 true) = true ∧ (regAt run 0x80C 0).rb 0x80C 1 = false) ∧
      (∀ m ∈ [Mode.vault, .doze], (s m).pwr.mode = m ∧ (s m).pwr.wake = .idle ∧ (s m).pwr.sleepTo = none ∧ (s m).pwr.dozeEvent = false ∧
        (s m).pwr.dozeWake = false ∧ (s m).pwr.vaultLock = false ∧ (entry m none).pwr.latched = none ∧
        (entry m none).pwr.sleepTo = some m ∧ (entry m (some (3, 0))).pwr.latched = some (3, 0)) ∧
      (∀ c ∈ [(0 : BitVec 5), 2], ∀ e : Bool, (event e c).pwr.dozeEvent = e ∧ (event e c).pwr.dozeWake = !e ∧ (event e c).pwr.cause = c ∧
        (event e c).pwr.sleepTo = none ∧ (event e c).pwr.mode = .doze ∧ (event e c).pwr.vaultLock = false ∧ (event e c).clk.limp = false ∧
        (event e c).flt.refuse = false) := by decide +kernel

/-- Each step on the tick on which it ends, cold and warm, on the limp clock and off it, in a DOZE event, and of a unit that followed. -/
theorem meets_WakeStepsInOrder :
    (∀ w ∈ [Wake.buck, .refMeas, .crystal, .pause, .pll, .limpPll, .wheelWait, .steward], (waking run w).pwr.wake = w) ∧
      (∀ d ∈ [2048, 39322, 196608, 393216, 983040], let p : Pwr := { run.pwr with stepAt := 400000000 - d }
        p.stepAt + d = run.clk.now ∧ { p with vaultLock := true }.vaultLock = true) ∧
      (∀ hz ∈ [24330240, 24821760], 24330240 ≤ hz ∧ hz ≤ 24821760) ∧ ¬(24330240 ≤ 24330239) ∧
      (∀ d l f : Bool, ∀ r ∈ [WRole.master, .hoop], let s : Dev := { waking run .wheelWait with
          clk := { run.clk with limp := l, role := r }, pwr := { (waking run .wheelWait).pwr with dozeWake := d, cold := f } }
        s.pwr.wake = .wheelWait ∧ s.pwr.cold = f ∧ s.pwr.dozeWake = d ∧ s.clk.limp = l ∧ s.clk.role = r) ∧
      (∀ r : Bool, let s : Dev := { waking run .steward with pwr := { (waking run .steward).pwr with retained := r } }
        s.pwr.wake = .steward ∧ s.pwr.retained = r ∧ s.pwr.cause = 0 ∧ s.flt.trial = false ∧ s.flt.refuse = false) ∧
      (tabGet {} run.flt.slots 0).st = 1 := by decide +kernel

/-- No slot of a device as delivered is PENDING. -/
theorem meets_WakeStepsInOrder_slots : ∀ k, (run.slotOf k).st ≠ 3 := by
  intro k
  have h : run.flt.slots = [(0, { orig := true, st := 1 }), (2, { orig := true, st := 1 })] := by decide +kernel
  simp only [Dev.slotOf, h, tabGet]
  repeat' split
  all_goals decide

theorem meets_SleepAndDozeAct :
    (∀ m ∈ [Mode.vault, .doze], ∀ l ∈ [none, some (3, 0)],
      let s : Dev := { run with pwr := { run.pwr with sleepTo := some m, latched := l, sleepStart := 400000000 - 393216001 } }
      s.pwr.sleepTo = some m ∧ s.pwr.latched = l ∧ s.pwr.wake = .idle ∧ s.pwr.sleepStart + 393216000 < s.clk.now) ∧
      run.pwr.sleepTo = none ∧
      (let s := regAt (inMode run .doze) 0x814 1000
       s.pwr.mode = .doze ∧ s.pwr.wake = .idle ∧ s.pwr.dozeEvent = false ∧ s.rf 0x814 23 0 ≠ 0) ∧
      (∀ c ∈ [(0 : BitVec 5), 2], let s := regAt (inMode run .doze) 0x81C 0x100
       let s : Dev := { s with pwr := { s.pwr with dozeEvent := true, dozeStart := 399803391, cause := c } }
       s.pwr.dozeEvent = true ∧ s.flt.dbgHalt = false ∧ s.pwr.latched = none ∧ s.pwr.wake = .idle ∧ s.flt.refuse = false ∧
         s.clk.limp = false ∧ s.pwr.cause = c ∧ s.pwr.dozeStart + 196608 * s.rf 0x81C 15 8 < s.clk.now) := by decide +kernel

theorem meets_HoldHaltAndTrialAct :
    (∀ m ∈ [Mode.ready, .run, .shadow, .hold], let s := inMode run m
      s.coreOn = true ∧ s.pwr.mode = m ∧ s.hasCause 1 = false ∧ s.hasCause 2 = false) ∧
      (let s : Dev := { inMode run .doze with pwr := { (inMode run .doze).pwr with dozeEvent := true } }
       s.coreOn = true ∧ s.pwr.mode = .doze ∧ s.hasCause 1 = false ∧ s.hasCause 2 = false) ∧
      (run.stewardRuns = true ∧ run.flt.trial = false ∧ run.flt.wdogAt = [] ∧ run.clk.pllLock = true ∧ run.clk.limp = false ∧
        run.rb 0xA008 1 = false) ∧
      (∀ c ∈ [(2 : BitVec 5), 3], let s : Dev := { inMode run .hold with pwr := { (inMode run .hold).pwr with cause := c } }
       s.coreOn = true ∧ s.pwr.mode = .hold ∧ s.pwr.cause = c ∧ s.hasCause 1 = true) ∧
      (let s : Dev := { run with flt := { run.flt with wdogAt := [399999999, 1], trial := true, trialAt := 400000000 - 393216000 } }
       s.flt.wdogAt = [399999999, 1] ∧ s.clk.now ≤ 1 + 1966080000 ∧ s.stewardRuns = true ∧ s.flt.trial = true ∧
         s.flt.trialAt + 393216000 = s.clk.now) ∧
      (∀ h : Bool, let s : Dev := { regAt run 0xA0C0 1 with flt := { run.flt with dbgHalt := h } }
        s.rb 0xA0C0 0 = true ∧ s.flt.dbgHalt = h ∧ s.stewardRuns = !h) ∧
      (run.rb 0xA0C0 0 = false ∧ run.ring.steward = [] ∧ (∀ n < 8, (run.curdOf n).stopping = false) ∧ run.hoop.enumHeld = [] ∧
        run.ozh.later = [] ∧ run.ozh.leaves = [] ∧ run.ozh.rspLater = none ∧ run.ozh.rekeyLater = false) := by decide +kernel

/-- The Rind on, with a mailbox request at the front. -/
def asking (req : Nat) (args : List Nat) : State :=
  let s := rindOn run
  { st { s with br := { s.br with queue := [⟨req, 3, (args ++ List.replicate 16 0).take 16 |>.map (BitVec.ofNat 8), 1⟩] } } with
    rind := { State.reset.rind with
      on := true, recno := 5, ring := [(4, [0, 0, 0, 0, 4])], log := [(2, [0, 0, 2])], nonce := some (9, 10), cal := { shunt := 2000 } } }

/-- Each request served and not; a record and an event that are held and not; an ACK of the newest record and of one not written; and sealed. -/
theorem meets_MailboxRequestsServed :
    (∀ q ∈ [0x01, 0x02, 0x03, 0x04, 0x05, 0x10, 0x11, 0x12], (asking q [4]).dev.mbxOpen = true ∧ (asking q [4]).rind.on = true ∧
      (asking q [4]).dev.br.queue.map (fun m => m.req) = [q] ∧ run.mbxOpen = false) ∧
      ((asking 2 [4]).rind.heldRec 4 = some [0, 0, 0, 0, 4] ∧ (asking 2 [4]).rind.heldRec 3 = none ∧
        (asking 3 [2]).rind.heldEvt 2 = some [0, 0, 2] ∧ (asking 3 [2]).rind.heldEvt 7 = none ∧ (asking 4 [4]).rind.recno = 4 + 1) ∧
      ((asking 0x12 [9]).rind.nonce = some (9, 10) ∧ (asking 0x12 [9]).rind.sealed = false ∧ (asking 0x12 [9]).rind.tamper = false ∧
        (asking 0x12 [9]).rind.calSoon.shunt ≠ 0 ∧ calFits 0 100 = true ∧ calFits 0 100001 = false) := by decide +kernel

/-- A window that registers energy, one that seals, one in a trial, and one without VRIND; a tag; a stage current that is due; and a tamper, watched and
not, told and not. -/
theorem meets_MeasurementRegisters :
    let r : Rind := { State.reset.rind with on := true, cal := { shunt := 200, policy := 2 } }
    (r.on = true ∧ r.trial = none ∧ run.br.handed = none ∧ r.sealReq = false ∧ r.closeTag = none ∧ r.cal.shunt ≠ 0 ∧ r.romOnly = false ∧
      State.reset.rind.on = false) ∧
      (let q : RindTrial := { ended := 2 }
       { r with trial := some q, sealReq := true }.trial = some q ∧ q.ended + 1 < 4 ∧
         (⟨0, 0, 0, 0, false, [], true⟩ : RindWindow).held = true) ∧
      (let s := runAt 65536
       s.coreOn = true ∧ s.clk.running = true ∧ s.gridNow 65536 0 = true ∧ s.isServed .stageCurrent = false) ∧
      (({ r with pendRec := [(0, [1])] } : Rind).pendRec = [(0, [1])] ∧ r.pendRec = []) ∧
      (r.tamperEn = true ∧ r.tamperTold = false ∧ State.reset.rind.tamperEn = false) := by decide +kernel

/-- A sealed Rind in which the invariant holds. -/
def sealedRind : Rind := { on := true, sealed := true, cal := { shunt := 200, interval := 15 }, recno := 3, ackno := some 2 }

theorem sealedRind_inv : sealedRind.Inv := by
  unfold Rind.Inv Cal.ok
  refine ⟨by decide, by decide, by decide, by decide, by decide, ?_, by decide, by decide, by decide, by decide⟩
  intro a h
  cases h
  decide

/-- A step from it: the idle step of a running device, and a command at the front of the queue. -/
theorem meets_RindInvariantKept : sealedRind.Inv ∧ ∃ t, step { st run with rind := sealedRind, pending := [.tamperOpen] } = .next t :=
  ⟨sealedRind_inv, _, rfl⟩

theorem meets_SealedRindNeverFallsBack :
    sealedRind.Inv ∧ sealedRind.sealed = true ∧ ∃ t, step { st run with rind := sealedRind, pending := [.tamperOpen] } = .next t :=
  ⟨sealedRind_inv, rfl, _, rfl⟩

/-- A string that switches, sampled and driven. -/
def stringAt (s : Dev) (x : Str) : Dev := { s with str := [(0, x)] }

theorem meets_StringsDriveAndProtect :
    let x : Str := { switching := true, pulsed := true, width := 100, pulseEnd := 400000000, sampleDue := true, ampUa := 100000, share := 100000 }
    (let s := stringAt (runAt 65536) x
     s.leadOf 0 = 0 ∧ s.coreOn = true ∧ s.clk.running = true ∧ s.gridNow (s.dimP 0) (s.dimPhase 0) = true ∧ s.isServed (.dim 0) = false ∧
       (s.chanOf 0).was = none ∧ (s.chanOf 0).handoff = false ∧ (regAt s 0x2000 2).leadOf 1 = 0) ∧
      ((stringAt (runAt 96000) x).cycleNow 0 = true ∧ run.cycleNow 0 = false ∧
        (let s := stringAt (runAt 96001) { x with pulseEnd := 399999999 }
         s.cycleNow 0 = false ∧ s.lowHold 0 = true ∧ run.lowHold 0 = false)) ∧
      ((stringAt run x).strOf ((stringAt run x).leadOf 0) = x ∧ (run.strOf 0).switching = false) ∧
      (∀ e ∈ [4095, 4096], let s := regAt (stringAt run { x with opens := 2, shorts := 2, started := 400000000 - e }) 0x2008 3
       s.isMember 0 = false ∧ s.sampleNow 0 = true ∧ (s.strOf 0).started + e = s.clk.now ∧ s.pwr.vinSusp = false ∧
         classSample false 4 2000 10 100000 = .good ∧ classSample true 4 2000 9 100000 = .openLike ∧
         classSample false 4 999 50 100000 = .shortLike ∧ s.rf 0x2008 7 0 = (s.strOf 0).opens + 1 ∧ s.rf 0x2008 7 0 = (s.strOf 0).shorts + 1 ∧
         run.sampleNow 0 = false) ∧
      (∀ b : Bool, let s := stringAt run { x with openRun := 8, testing := some 16, testBad := b }
       (s.strOf 0).openRun = 8 ∧ s.phaseOff 0 = false ∧ (s.strOf 0).testing.getD 0 = 16 ∧ (s.strOf 0).testBad = b ∧
         9 * (s.strOf 0).share ≤ 90 * 10000 ∧ 89 * 10000 < 9 * (s.strOf 0).share ∧ run.phaseOff 0 = false ∧ (run.strOf 0).openRun < 8) ∧
      (∀ r ∈ [2, 3], ∀ t ∈ [none, some 5], let s := stringAt (runAt 66000) { x with offAt := some 399999904, senseRun := r, testing := t }
       s.senseNow 0 = true ∧ (s.strOf 0).senseRun = r ∧ (s.strOf 0).testing = t ∧ run.senseNow 0 = false) ∧
      (let s := regAt (rindOn (stringAt (runAt 65536) { x with xchk := 1 })) 0x2008 0x203
       let own := (List.replicate 16 0)
       s.gridNow 65536 0 = true ∧ s.isServed .xchk = false ∧ s.xchkOn = true ∧ s.pwr.vinSusp = false ∧ (s.strOf (s.leadOf 0)).switching = true ∧
         s.phaseOff 0 = false ∧ xchkDiffers (own.getD 0 0) (tabGet 0 s.br.stage 0) (s.strOf 0).share = false ∧
         xchkDiffers 51 (tabGet 0 s.br.stage 0) (s.strOf 0).share = true ∧ 1 ≤ (s.strOf 0).xchk) := by decide +kernel

theorem meets_MatrixAndColourEvaluate :
    (let s := runAt 65536
     s.coreOn = true ∧ s.clk.running = true ∧ s.gridNow 65536 0 = true ∧ s.isServed .frame = false ∧ s.gridNow 4096 0 = true ∧
       s.isServed .rowSlot = false ∧ run.gridNow 4096 0 = false ∧
       (let c : Dev := { s with ntcConv := true, clr := { s.clr with ntcEnd := 400000000 } }
        c.ntcConv = true ∧ c.clr.ntcEnd = c.clk.now ∧ run.ntcConv = false)) ∧
      (∀ b : Bool, let s : Dev := { regAt run 0x300C 1 with mtx := { run.mtx with
        busy := true, driving := true, slot := 15, slotAt := 400000000 - (256 + 94 - 1), blank := if b then 400000001 else 0,
        pos := [(1023, { w := 100, due := true })] } }
       (s.posOf 1023).due = true ∧ s.mtx.cut = false ∧ s.mtx.driving = true ∧ s.mtx.slot = 1023 / 64 ∧ s.pwr.mode = .run ∧
         s.pulseOver 1023 = true ∧ s.posBlanked 1023 = b ∧ s.posFaulted 1023 = false ∧
         classPos (s.rf (0x3100 + 4 * 63) 22 16) 0 1000 (s.icol63 63) 0 5000 = 0 ∧
         classPos (s.rf (0x3100 + 4 * 63) 22 16) 0 0 (s.icol63 63 + 1) 0 0 = 1 ∧ s.rf 0x300C 7 0 ≤ 1 ∧ run.mtx.driving = false) ∧
      (let s : Dev := { regAt run (clsOff 7) 0x6000 with clr := { run.clr with cls := [(7, { state := loopLost, hold := 100000 })] } }
       s.loopHoldDue 7 = true ∧ run.loopHoldDue 7 = false) ∧
      (let s : Dev := { regAt run (clsOff 0) 0x6000 with clr := { run.clr with cls := [(0, { state := loopClosed, probeFrames := 1000000 })] } }
       s.ditherDue 0 = true ∧ run.ditherDue 0 = false) := by decide +kernel

/-- RUN with Ripener 11 in an open step at culture word 5, which is `w`; a NOP follows. -/
def ripAt (w : Nat) (r : Rip) : Dev :=
  { run with
    cult := [(5, BitVec.ofNat 32 w)]
    rip := [(11, { r with budget := some 2, group := [16, 17], ctx := { r.ctx with pc := 5, selCount := 2, tVal := 1 } })] }

/-- The hypotheses of a culture instruction: an open step, the opcode, reserved bits 0, and a listed instruction after it. -/
def ripOpens (w op mask : Nat) : Bool :=
  let s := ripAt w {}
  let r := s.ripOf 11
  r.budget = some 2 && r.ctx.timed = none && decide (r.ctx.pc ≤ 8191) && fieldOf (s.ripWord 11) 31 26 = op && clear (s.ripWord 11) mask &&
    ripListed (fieldOf (s.cultWord (r.ctx.pc + 1)) 31 26)

/-- A word with an opcode. -/
def cw (op low : Nat) : Nat := op * 2 ^ 26 + low

/-- Every row with its reserved bits 0 and with its lowest one set; the last instruction of a step, no step, and the ends of culture memory. -/
theorem meets_CultureInstructionsExecute :
    (∀ p ∈ [(0x00, 0, 0x03FFFFFF), (0x01, 0, 0x03FFFFFF), (0x02, 0x1FFF, 0x03FFE000), (0x03, 0x03000000, 0x00FFE000), (0x04, 0, 0x00FFE000),
        (0x05, 0x1FFFF, 0x00FE0000), (0x06, 0xC0FFFF, 0x003F0000), (0x07, 0xFFFF, 0x003F0000), (0x08, 0x1F0010, 0x0020FFE0), (0x09, 0x1000001, 0x003F0000),
        (0x0A, 0xFFFF, 0x03FF0000), (0x0B, 0x3000000, 0x00FFFFFF), (0x0C, 0xFFFF, 0x03FF0000), (0x0D, 0xFFFFFF, 0), (0x0D, 0x2000003, 0x00FFFFFC),
        (0x10, 0xE0FFFF, 0x001F0000), (0x11, 0, 0x00FFFFFF), (0x12, 0xFFFFFF, 0), (0x13, 0xFFFF, 0x001F0000), (0x14, 0x101, 0x03FF00F0),
        (0x15, 0x3000000, 0x00FFFFFF), (0x16, 0xF, 0x03FFFFF0), (0x17, 0, 0x03FFFFFF)],
      ripOpens (cw p.1 p.2.1) p.1 p.2.2 = true ∧ (p.2.2 ≠ 0 → clear (BitVec.ofNat 32 (cw p.1 (p.2.2 &&& (2 ^ 32 - p.2.2)))) p.2.2 = false)) ∧
      ((run.ripOf 11).budget = none ∧ ({ (ripAt 0 {}).ripOf 11 with budget := some 1 } : Rip).budget = some 1) ∧
      (∀ a ∈ [8190, 8191], let s : Dev := { run with cult := [(8191, 0xFC000000)], rip := [(11, { budget := some 2, ctx := handlerCtx a 2 })] }
        (s.ripOf 11).ctx.pc = a ∧ fieldOf (s.ripWord 11) 31 26 = (if a = 8190 then 0 else 63) ∧
          ripListed (fieldOf (s.cultWord 8191) 31 26) = false) := by decide +kernel

/-- What the branches of single instructions meet: A0 at 1 and not; a field of 0 bits; a selection that fits, one that does not, and none; timed ones
that start, end at once, wait for the Tempo unit or have no length; and WAIT as it begins, goes on and ends. -/
theorem meets_CultureInstructionsExecute_operands :
    (let s := ripAt (cw 0x03 0) { regs := [(0, 1)] }
     (s.ripOf 11).a 0 = 1 ∧ (s.ripOf 11).a 1 ≠ 1 ∧ (s.ripOf 11).a 1 = 0 ∧ ripListed (fieldOf (s.cultWord 0) 31 26) = true) ∧
      (ripOpens (cw 0x08 0) 0x08 0x0020FFE0 && ripOpens (cw 0x09 0x3000000) 0x09 0x003F0000 && ripOpens (cw 0x09 0x1000002) 0x09 0x003F0000 &&
        ripOpens (cw 0x0D 0x3000000) 0x0D 0 && ripOpens (cw 0x10 0x3000000) 0x10 0x001F0000) = true ∧
      (let r := (ripAt (cw 0x09 0x1000001) {}).ripOf 11
       0 + 2 ≤ r.group.length ∧ r.group.length < 0 + 3 ∧ r.ctx.tUnit = .steps ∧ r.ctx.anchor = none ∧ 1 ≤ r.ctx.tVal ∧ r.ctx.waiting = false ∧
         r.handler = none ∧ run.subsRun = false) ∧
      (∀ v ∈ [(0 : Nat), 1], let tm : Timed := ⟨.ramp, 0, 0, 0, 1, 0, 0, 0, 0, 512 * v, (512 * v : Nat), 0, false⟩
        timedEnded tm 0 = decide (v = 0)) ∧
      (∀ c < 3, let r := (ripAt (cw 0x14 0x201) { ctx := { ({} : Rip).ctx with waiting := true, waitCnt := c } }).ripOf 11
        r.ctx.waiting = true ∧ (r.ctx.waitCnt < 2 ↔ c < 2)) ∧
      (ripOpens (cw 0x14 0x104) 0x14 0x03FF00F0 && ripOpens (cw 0x14 0x100) 0x14 0x03FF00F0 && ripOpens (cw 0x14 0x1) 0x14 0x03FF00F0 &&
        ripOpens (cw 0x14 0) 0x14 0x03FF00F0) = true := by decide +kernel

/-- RET from a handler with no latch and with one, into a timed instruction of each resumption, and without a handler. -/
theorem meets_CultureInstructionsExecute_returns :
    let in_ (f : Ctx) (l : Tab (Option Word)) : Rip := (ripAt (cw 0x17 0) { handler := some 3, frame := some f, latch := l }).ripOf 11
    ((in_ (handlerCtx 6 2) []).handler = some 3 ∧ (in_ (handlerCtx 6 2) []).frame = some (handlerCtx 6 2) ∧ (in_ (handlerCtx 6 2) []).firstLatch = none ∧
      (handlerCtx 6 2).timed = none) ∧
      ((in_ (handlerCtx 6 2) [(1, some 7)]).firstLatch = some 1 ∧ ripListed (fieldOf (run.cultWord (run.rf (bindOff 11 1 + 4) 12 0)) 31 26) = true) ∧
      (∀ k < 3, let tm : Timed := ⟨.hold, k, 0, 0, 1, 0, 0, 0, 0, 1024, 1024, 512, false⟩
        let f : Ctx := { handlerCtx 6 2 with timed := some tm }
        (in_ f []).frame = some f ∧ f.timed = some tm ∧ f.pc ≤ 8191 ∧ tm.res = k ∧ timedEnded tm (in_ f []).lastStep = false ∧
          timedEnded tm 1024 = true) ∧
      ((ripAt (cw 0x17 0) {}).ripOf 11).handler = none := by decide +kernel

/-- A Ripener's step falls due on a multiple of 512: idle, running, with a timed instruction that goes on and one that has ended, with a latched trigger,
and with each RIPEN action. -/
theorem meets_CultureInstructionsExecute_steps :
    let at_ (r : Rip) : Dev := { runAt 512000 with rip := [(11, r)] }
    ((at_ {}).ripStepDue 11 = true ∧ ((at_ {}).ripOf 11).run = false ∧ (at_ {}).ring.flights = [] ∧ run.ripStepDue 11 = false) ∧
      (let r : Rip := { run := true }
       (at_ r).ripStepDue 11 = true ∧ r.paused = false ∧ r.firstLatch = none ∧ r.ctx.timed = none) ∧
      (∀ e ∈ [512000, 512512], let tm : Timed := ⟨.ramp, 0, 0, 100, 1, 0, 0, 0, 511488, e, 1024, 0, false⟩
       let r : Rip := { run := true, ctx := { ({} : Rip).ctx with timed := some tm } }
       (at_ r).ripStepDue 11 = true ∧ timedEnded tm 512000 = decide (e = 512000) ∧ r.ctx.pc ≤ 8191 ∧ r.fades = []) ∧
      (let r : Rip := { run := true, latch := [(3, some 7)] }
       (at_ r).ripStepDue 11 = true ∧ r.handler = none ∧ r.firstLatch = some 3) ∧
      (∀ a < 4, let d := dsc 0x05 [11, a, 6, 0, 0, 0, 0, 0, 9]
       let s : Dev := { at_ { hostPause := decide (a = 3) } with cult := [(20, 0x00110010)] }
       let s := regAt s 0x43C0 0x20014
       let s : Dev := { s with ring := { s.ring with flights := [⟨⟨r0, .curd 0, d, 0, none, false⟩, 0, .ripen 11⟩] } }
       s.ripStepDue 11 = true ∧ d.b 13 = a ∧ s.inHold = false ∧ s.groupList 11 = some [16, 17] ∧ (s.ripOf 11).faulted = false ∧
         (s.ripOf 11).run = false ∧ (s.ripOf 11).hostPause = decide (a = 3)) := by decide +kernel

/-- RUN with Harp 7 about to execute an instruction, or waiting at it. -/
def harpAt (w : Nat) (h : Harp) : Dev :=
  { regsAt run [(0x52C0, 0x1801), (0x55C0, w), (0x501C, 0x77777777)] with
    harp := [(7, { h with r := 400000000 })] }

theorem meets_HarpInstructionsExecute :
    (∀ w ∈ [0x0FFF, 0x1000, 0x1400, 0x1800, 0x2F3F, 0x3FFF, 0x4FFF, 0x5000, 0x5800, 0x6000, 0x7EFF, 0x9FFF, 0xAFFF, 0xBFFF, 0xCFFF, 0xDFFF, 0xD000,
        0xEC00, 0xEE00, 0xF000, 0xF100, 0xF2E0],
      let s := harpAt w { st := 1 }
      s.harpDue 7 = true ∧ s.harpInstr 7 (s.harpOf 7).pc.toNat = w) ∧
      run.harpDue 7 = false ∧
      (let s := harpAt 0x1800 { st := 1, fall := [(0, some (5, 6))] }
       2 ≤ bits (s.harpInstr 7 0) 11 10 ∧ tabGet none (s.harpOf 7).fall 0 = some (5, 6) ∧ tabGet none (s.harpOf 7).rise 0 = none) ∧
      (∀ w ∈ [0x1000, 0x1800, 0x5800, 0x6800, 0xE000],
        let s := harpAt w { st := 2, tx := [9], fall := [(0, some (5, 6))] }
        s.harpMay 7 = true ∧ (s.harpOf 7).st = 2 ∧ s.harpInstr 7 0 = w ∧ s.harpClock 7 = some 0) ∧
      ((harpAt 0x1000 { st := 2, free := 400000001 }).harpClock 7 = none ∧ (run.harpOf 7).st ≠ 2) ∧
      ((harpAt 0x5000 { st := 1 }).harpOf 7).tx = [] ∧ ((harpAt 0x6000 { st := 1 }).harpOf 7).rx.length < (harpAt 0x6000 { st := 1 }).rxDepth 7 ∧
      (let s := harpAt 0x6800 { st := 1, rx := List.replicate 16 0 }
       s.rxDepth 7 ≤ (s.harpOf 7).rx.length) ∧
      ((harpAt 0x1000 {}).pinRead 7 0 = false ∧ (harpAt 0xE000 {}).pwr.vioLow = false ∧
        0 ≤ ((harpAt 0xE000 {}).wheel32 - ((harpAt 0xE000 {}).harpOf 7).s).toInt ∧
        ((harpAt 0xE000 {}).wheel32 - ((harpAt 0xE000 { s := 1000004 }).harpOf 7).s).toInt < 0) ∧
      ((harpAt 0xC145 { st := 1, x := 7 }).brHolds 7 1 2 = true ∧ (harpAt 0xC145 { st := 1 }).brHolds 7 1 2 = false) := by decide +kernel

/-- A ball whose level changes: filtered at once, after a wait, and not sampled; and one that is named again as its filter passes. -/
theorem meets_HarpInstructionsExecute_balls :
    let s := harpAt 0x1000 { st := 1 }
    let p := s.pinOf 7 0
    (s.pinOwner p = 7 ∧ p < 32 ∧ s.coreOn = true ∧ s.extOf p = none ∧ s.pwr.vioLow = false ∧ s.pinDriven p = false ∧
      ((some true).or (s.pullLevel p) = some true) ∧ true ≠ s.pins.ball.toNat.testBit p ∧ s.pins.syncd.toNat.testBit p = false ∧
      s.clk.now + s.filtTicks p ≤ s.clk.now + 1 ∧ s.pinSampled p = true ∧ run.pinSampled 31 = false ∧ s.filtDue p = false) ∧
      (let f := regAt s (0x5040 + 4 * p) 0x10
       f.filtTicks p = 8 ∧ ¬(f.clk.now + f.filtTicks p ≤ f.clk.now + 1)) ∧
      (let q : Dev := { regAt s (0x5040 + 4 * p) 0x10 with
         pins := { s.pins with ext := [(p, some true)], syncd := BitVec.ofNat 32 (2 ^ p), since := [(p, 400000001 - 8)] } }
       q.extOf p = some true ∧ q.coreOn = true ∧ q.pinOwner p = 7 ∧ q.filtDue p = true) := by decide +kernel

/-- Presses that are not due or find the CORE off, a mode request that is passed on, that waits for a transition or for a halt, or that was made on the
press tick, and live fields and latches. -/
theorem meets_PressTakesLiveFieldsAndLatches :
    run.pressDue = false ∧ ((inMode (runAt 4096) .vault).pressDue = true ∧ (inMode (runAt 4096) .vault).coreOn = false) ∧
      (∀ q ∈ [(399999999, none, false), (399999999, some Mode.doze, false), (399999999, none, true), (400000000, none, false)],
        let s : Dev := { runAt 4096 with flt := { run.flt with dbgHalt := q.2.2 } }
        let s : Dev := { s with pwr := { s.pwr with request := some (.ready, q.1), sleepTo := q.2.1 } }
        s.pressDue = true ∧ s.coreOn = true ∧ s.twin.swapAt = none ∧ s.hoop.own = [] ∧ s.hoop.rswGo = false ∧
          s.pwr.request = some (.ready, q.1) ∧ (s.transBusy = true ↔ q.2.1 ≠ none) ∧ s.flt.dbgHalt = q.2.2 ∧
          (q.1 < s.clk.now ↔ q.1 = 399999999)) ∧
      (let s : Dev := { runAt 4096 with
        regs := { (runAt 4096).regs with live := [(0x3000, true)] }, ring := { run.ring with flights := [waiting] } }
       s.pressDue = true ∧ s.coreOn = true ∧ s.pwr.request = none ∧ s.twin.swapAt = none ∧ s.hoop.own = [] ∧ s.hoop.rswGo = false ∧
         (∃ f ∈ s.ring.flights, f.await = .press) ∧ 0x3000 ∈ s.regs.live.map Prod.fst ∧ 0x3000 < 0x7000 ∧ noteReg 0x3000 = false ∧
         (∃ f ∈ regFields 0x3000, f.liveOn (fun g => g = .press) = true) ∧ (∀ f ∈ regFields 0x3000, f.isStaged = false)) ∧
      (let s : Dev := regAt { runAt 4096 with ring := { run.ring with flights := [waiting] } } 0x7244 0x2040E
       s.pressDue = true ∧ s.regs.live = [] ∧ (∃ f ∈ s.ring.flights, f.await = .press) ∧ 0 < s.rf 0x7244 26 16 ∧
         s.rf 0x7244 10 0 + 1 = 1039) := by decide +kernel

/-- RUN with carrier 5 begun. -/
def carAt (w : Nat) (c : Car) : Dev := { regsAt (runAt w) [(0x6240, 1), (0x6244, 0x10000)] with car := [(5, { c with busy := true })] }

/-- Carriers that begin, stop, put a pulse on SYNC_OUT, follow a leader or SYNC_IN, or are not due; a trip at once, after its filter, blanked and of the
other polarity; triggers that make a sequence pending, overflow or are of another kind; and runs that end. -/
theorem meets_CarriersAndConvertersRun :
    (let s := carAt 4096 {}
     s.carDue 5 = true ∧ s.rb (carOff 5) 0 = true ∧ s.carLink 5 = false ∧ s.carSync 5 = false ∧ s.rb (carOff 5 + 0x24) 0 = false) ∧
      (carAt 1000 {}).carDue 5 = false ∧
      ((regAt (carAt 4096 {}) 0x6240 0).carDue 5 = true ∧ (regAt (carAt 4096 {}) 0x6240 0).rb (carOff 5) 0 = false) ∧
      (let s : Dev := { regsAt (carAt 4096 {}) [(0x6200, 0), (0x6204, 0x10000), (0x6240, 0x11)] with
         car := [(4, { busy := true }), (5, { busy := true })] }
       s.carDue 4 = true ∧ s.rb (carOff 4) 0 = false ∧ s.carLink 5 = true ∧ s.rb (carOff 5) 0 = true) ∧
      (∀ w ∈ [0, 7], let s := regAt (carAt 4096 {}) 0x6000 (0x51 + 256 * w)
       s.carDue 5 = true ∧ s.rf 0x6000 1 0 = 1 ∧ s.rf 0x6000 6 4 = 5 ∧ s.rf 0x6000 15 8 = w) ∧
      (State.reset.dev.coreOn = false ∧ (let s := regAt (carAt 1000 {}) 0x6240 9
       s.coreOn = true ∧ s.carSync 5 = true ∧ (s.carOf 5).busy = true)) ∧
      (let t : Dev := carAt 1000 { driving := true }
       let s : Dev := regAt t 0x602C 0x20
       let since (x : Dev) (l : Bool) := if x.trips.level.getLsbD 3 = l then tabGet 0 x.trips.since 3 else x.clk.now
       (s.coreOn = true ∧ since s true + s.rf 0x6028 4 1 ≤ s.clk.now + 1 ∧ true ≠ s.rb 0x6028 0 ∧ s.tripBlanked 3 = false ∧
         s.rb 0x602C 5 = true ∧ (s.carOf 5).driving = true ∧ (s.carOf 5).cut = false ∧ s.carDue 5 = false) ∧
         (let f := regAt s 0x6028 0x1E
          ¬(since f true + f.rf 0x6028 4 1 ≤ f.clk.now + 1) ∧
            (let g : Dev := { f with trips := { f.trips with level := 8, since := [(3, 399999900)] } }
             since g true + g.rf 0x6028 4 1 ≤ g.clk.now + 1)) ∧
         (regAt s 0x6028 1).rb 0x6028 0 = true ∧
         (let b : Dev := { regAt s 0x6028 0xFF0500 with car := [(5, { s.carOf 5 with lastEdge := some 399999999 })] }
          b.tripBlanked 3 = true)) ∧
      (let c : Car := { begun := true, start := 399999990, len := 4096 }
       let s := regsAt (carAt 1000 c) [(0x625C, 0x000A000A), (0x6260, 0xF0F), (seqOff 7, 0x11)]
       s.trigDue 5 false = true ∧ s.trigDue 5 true = true ∧ s.rf (carOff 5 + 0x20) 3 1 = 7 ∧ s.rf (carOff 5 + 0x20) 11 9 = 7 ∧
         s.rb (seqOff 7) 0 = true ∧ s.rf (seqOff 7) 6 4 = 1 ∧ (s.seqOf 7).pend = false ∧ (s.seqOf 7).running = false ∧
         (∀ p ∈ [true, false], let t : Dev := { s with seq := [(7, { pend := p, running := !p })] }
          t.trigDue 5 true = true ∧ (t.seqOf 7).pend = p ∧ (t.seqOf 7).running = !p)) ∧
      (∀ x : Bool, run.trigDue 5 x = false) ∧
      (let s : Dev := { run with seq := [(7, { running := true, beginAt := 399999936 })] }
       (s.seqOf 7).running = true ∧ s.seqEntries 7 = 1 ∧ (s.seqOf 7).beginAt + 64 * s.seqEntries 7 = s.clk.now ∧
         ¬((run.seqOf 7).running = true ∧ (run.seqOf 7).beginAt + 64 * run.seqEntries 7 ≤ run.clk.now)) := by decide +kernel

/-- A SYNC with valid code groups and CRC: byte 1, byte 2, the Wheel, ORIGIN and what follows it, SENDER and bytes 32 to 34. -/
def syncRx (down : Bool) (b2 : Nat) (mid : List Nat) (sender : Nat) (b32 : List Nat) : SyncRx :=
  let b := mkSync down (BitVec.ofNat 8 b2) 0 8000000 (mid.map (BitVec.ofNat 8)) sender (b32.map (BitVec.ofNat 8)) [] 3 40
  ⟨groupsOf false (symComma :: (b.drop 1).map .data), false, 5⟩

/-- A shift section of page 1 with this data; its CRC is right or not, and it ends in /SE/ or in other symbols. -/
def shiftRx (data : List Byte) (bad : Bool) (tail : List Sym) : ShiftRx :=
  let crc := shiftCrc 1 data ^^^ (if bad then 1 else 0)
  ⟨groupsOf false (symShift :: ((1 : Byte) :: leBytes data.length 2 ++ data ++ leBytes crc.toNat 4).map .data ++ tail), false⟩

/-- A unit of the Hoop with these ports. -/
def portsAt (s : Dev) (root : Bool) (ps : List (Nat × HPort)) : Dev :=
  let s := regsAt s [(0x7000, if root then 0x17 else 0x15), (0x7008, 5)]
  { s with hoop := { s.hoop with busy := true, ports := ps } }

/-- Ports that align, keep and lose their alignment, and lose the signal or a SYNC; and a root's frame with and without an image. -/
theorem meets_HoopLinksFramesAndImages :
    (let s := portsAt run false []
     s.fabricOn = true ∧ s.isRoot = false ∧
       ∀ k ∈ [0, 1, 2], s.isFabricPort k = true ∧ (s.portOf k).link = 0 ∧ (s.portOf k).aligned = false ∧ s.hears k = false) ∧
      ((portsAt run true []).fabricOn = true ∧ (portsAt run true []).isRoot = true) ∧
      (let s := portsAt run false [(0, { link := 2 }), (1, { link := 2 }), (2, { link := 1, missed := 2, lastSync := some 6399934335 })]
       let bad : List (BitVec 10) := [0, 0, 0, 0]
       s.fabricOn = true ∧ (∀ k ∈ [0, 1, 2], s.isFabricPort k = true ∧ (s.portOf k).link ≠ 0 ∧ s.hears k = true ∧
         (groupWindow (s.portOf k).recent (symbolsOf false bad)).2 = true ∧
         (groupWindow (s.portOf k).recent (symbolsOf false (bad.drop 1))).2 = false) ∧
         s.syncOverdue 1 = false ∧ s.syncOverdue 2 = true ∧ (s.portOf 2).missed = 2) ∧
      (let s := portsAt run false [(1, { link := 2, missed := 1, lastSync := some 6399934335 })]
       s.fabricOn = true ∧ s.syncOverdue 1 = true ∧ (s.portOf 1).missed < 2) ∧
      ((portsAt run true []).frameDue = false) ∧
      (let s := portsAt (runAt 4120) true [(1, { link := 2 }), (2, { link := 1 })]
       s.frameDue = true ∧ (∀ j ∈ [1, 2], s.isFabricPort j = true ∧ (s.portOf j).link ≠ 0) ∧ s.shiftHost = false) ∧
      (let s := regAt (portsAt (runAt 4120) true [(1, { link := 2 })]) 0x7200 0x00100011
       let s : Dev := { s with hoop := { s.hoop with image := List.replicate 32 7 } }
       s.frameDue = true ∧ s.shiftHost = true ∧ s.hoop.imageNew = none ∧ s.hoop.image ≠ [] ∧ s.shiftPages = 2 ∧ s.shiftLen = 16 ∧
         s.pressIndex % s.shiftPages = 1) ∧
      (let s := regAt (portsAt (runAt 8216) true [(1, { link := 2 })]) 0x7200 0x00100011
       let s : Dev := { s with hoop := { s.hoop with imageNew := some (4, List.replicate 32 7) } }
       s.frameDue = true ∧ s.shiftHost = true ∧ s.pressIndex % s.shiftPages = 0 ∧
         (s.hoop.imageNew.map (·.2)).getD s.hoop.image ≠ []) := by decide +kernel

/-- SYNCs of both directions; a shift section that is whole, broken or of a wrong CRC; header and image reads that are wanted and that are not; and a hold that runs
out. -/
theorem meets_HoopLinksFramesAndImages_received :
    (let c := syncRx true 0x10 [0x70, 0, 1] 0x1003 []
       let s := portsAt run false [(0, { link := 2 }), (1, { link := 2 })]
       let t := portsAt run false [(0, { link := 1, good := 2 })]
       syncValid c = true ∧ byteAt c.bytes 1 = 0xB5 ∧ bitOf (byteAt c.bytes 2) 4 = true ∧ (leAt c.bytes 14 16).testBit 0 = true ∧
         s.isRoot = false ∧ (s.portOf 0).link = 2 ∧ (t.portOf 0).link = 1 ∧ 2 ≤ (t.portOf 0).good) ∧
      (let c := syncRx false 0 [0x70, 0] 0x1003 [100, 0, 0]
       let s := portsAt run false [(2, { link := 2, sent := [(0x70, 6399990000)] })]
       syncValid c = true ∧ byteAt c.bytes 1 = 0xB6 ∧ (s.isFabricPort 2 = true) ∧ (s.portOf 2).link = 2 ∧
         (s.portOf 2).sent.find? (fun e => e.1 = BitVec.ofNat 16 (leAt c.bytes 12 2)) = some (0x70, 6399990000)) ∧
      (let data : List Byte := List.replicate 12 3
       let s := regsAt (portsAt run false [(0, { link := 2 })]) [(0x7240, 0x10008), (0x7244, 0x0002040E)]
       let whole := shiftRx data false symShiftEnd
       let cut := shiftRx data false (symShiftEnd.drop 1)
       let wrong := shiftRx data true symShiftEnd
       s.isRoot = false ∧ (s.portOf 0).link ≠ 0 ∧ s.cutOff = false ∧
         (∀ sec ∈ [whole, cut, wrong], (groupWindow (s.portOf 0).recent sec.syms).2 = false) ∧
         whole.closed = true ∧ whole.crc = shiftCrc whole.page whole.data ∧ whole.page.toNat = s.rf 0x7240 19 16 ∧
         s.rf 0x7240 12 0 + 2 * s.rf 0x7244 26 16 ≤ whole.data.length ∧ 0 < s.rf 0x7244 26 16 ∧ s.rf 0x7244 10 0 + 1 = 1039 ∧
         cut.closed = false ∧ wrong.closed = true ∧ wrong.crc ≠ shiftCrc wrong.page wrong.data) ∧
      run.hoop.hdrOut = 0 ∧ run.hoop.reading = [] ∧
      (let at_ (v : Nat) (gs : List Word) : Dev :=
         let s := regAt (portsAt run true []) 0x7200 v
         { s with hoop := { s.hoop with hdrOut := 1, reading := gs } }
       let wanted (s : Dev) (w : BitVec 64) : Bool :=
         let g : Word := w.setWidth 32
         wordGood w && g ≠ s.hoop.gen && s.hoop.imageNew.map (·.1) ≠ some g && !s.hoop.reading.contains g && s.shiftHost && s.shiftMayRead
       (at_ 0x00100011 []).fabricOn = true ∧ 0 < (at_ 0x00100011 []).hoop.hdrOut ∧ wanted (at_ 0x00100011 []) (host 8) = true ∧
         wanted (at_ 0x00100011 []) 8 = false ∧ wanted (at_ 0x00100011 []) (host 0) = false ∧ wanted (at_ 0 []) (host 8) = false ∧
         wanted (at_ 0x00100011 [8]) (host 8) = false ∧ (at_ 0x00100011 [8, 9]).hoop.reading = 8 :: [9]) ∧
      (let s := regsAt (portsAt run false [(0, { everUp := true })]) [(0x7000, 0x55), (0x7014, 4)]
       let s : Dev := { s with hoop := { s.hoop with holdCnt := 4 } }
       s.fabricOn = true ∧ s.holdExpired = true ∧ s.rb 0xA008 0 = false) := by decide +kernel

/-- A packet that came whole, with a TAG of 9. -/
def pkt (type dmode : Nat) (dest src : Nat) (payload : List Nat) : PktRx :=
  let body : List Byte := [BitVec.ofNat 8 type, BitVec.ofNat 8 dmode] ++ leBytes dest 2 ++ leBytes src 2 ++ leBytes 9 2 ++ payload.map (BitVec.ofNat 8)
  ⟨groupsOf false (symPacket :: (body ++ leBytes (crc32 body).toNat 4).map .data ++ [symPacketEnd]), false⟩

/-- An enumeration in progress. -/
def enumAt (s : Dev) (e : Nat) (h : Hoop → Hoop) : Dev := { s with hoop := h { s.hoop with enumBusy := true, epoch := BitVec.ofNat 16 e } }

/-- Packets of each type for this unit, for another, and those of an enumeration in each of its stages. -/
theorem meets_PacketsAndEnumerationAct :
    let root := portsAt run true [(1, { link := 2 }), (2, { link := 2 })]
    let unit := portsAt run false [(0, { link := 2 }), (1, { link := 2 })]
    let good (s : Dev) (k : Nat) (r : PktRx) (type mode : Nat) : Bool :=
      s.fabricOn && pktGood r && s.portUp k && !(k = 2 && s.twinOn) && r.packet.type.toNat = type && r.packet.dmode.toNat % 4 = mode && !s.flt.dbgHalt
    let here (s : Dev) (k : Nat) (r : PktRx) (type : Nat) : Bool := good s k r type 0 && s.ownId r.packet.dest
    let n16 := List.replicate 16 1
    (∀ q ∈ [(1, n16 ++ n16), (2, n16), (3, n16), (4, n16.take 12)],
      let p := pkt q.1 0 0 7 q.2
      good unit 1 p q.1 0 = true ∧ unit.ownId p.packet.dest = false ∧ unit.deliverPort (some 1) p.packet.dest = some 0 ∧ (unit.portOf 0).txq.length < 64) ∧
      (here unit 0 (pkt 1 0 5 0 (n16 ++ n16)) 1 = true ∧ unit.ring.lh = []) ∧
      (let p := pkt 2 0 5 7 n16
       let f : Flight := ⟨⟨r0, .curd 0, dsc 0 [], 3, none, false⟩, 0, .remote 9 500000000⟩
       let s : Dev := { unit with ring := { unit.ring with flights := [f] } }
       here s 0 p 2 = true ∧ s.ring.flights.filter (fun f => (f.await.remoteTag.map (·.1)) = some p.packet.tag) = [f] ∧
         f.job.origin = .curd 0 ∧ f.job.cue = none ∧ s.ring.shut.toNat.testBit (s.rf (curdOff 0 + 0x18) 9 8) = false ∧
         s.wheyCan (s.rf (curdOff 0 + 0x18) 9 8) = true ∧ s.ring.wait = []) ∧
      (here root 1 (pkt 3 0 0 7 n16) 3 = true ∧ root.isRoot = true ∧ root.wheyCan root.evtRing = true ∧ root.ring.owed = false ∧ root.ring.wait = []) ∧
      (let p := pkt 4 0 5 0 [0x44, 4, 0, 0, 0xE0, 0x2E, 0, 0, 0xFF, 0xFF, 0, 0]
       let q := pkt 4 0 5 0 [0x44, 4, 0, 0, 1, 0, 0, 0, 0xFF, 0xFF, 0, 0]
       let w (p : Packet) :=
         unit.setupWrite (p.src.setWidth 16) (leAt p.payload 0 2) (BitVec.ofNat 32 (leAt p.payload 4 4)) (BitVec.ofNat 32 (leAt p.payload 8 4))
       let u := (w q.packet).2
       here unit 0 p 4 = true ∧ leAt p.packet.payload 0 2 % 4 = 0 ∧ (w p.packet).1 = .ok ∧ here unit 0 q 4 = true ∧
         leAt q.packet.payload 0 2 % 4 = 0 ∧ (w q.packet).1 ≠ .ok ∧ u.wheyCan u.evtRing = true ∧ u.ring.owed = false ∧ u.ring.wait = []) ∧
      (let p := pkt 0x10 2 0 0 [3, 0, 0, 0]
       good unit 0 p 0x10 2 = true ∧ unit.isRoot = false ∧ BitVec.ofNat 16 (leAt p.packet.payload 0 2) ≠ unit.hoop.epoch) ∧
      (let p := pkt 0x11 2 0 7 [3, 0, 4, 0]
       let s := enumAt unit 3 (fun h => { h with asked := [1], enumN := some 1 })
       let t := enumAt unit 3 (fun h => { h with asked := [1] })
       good s 1 p 0x11 2 = true ∧ leAt p.packet.payload 0 2 = s.hoop.epoch.toNat ∧ s.hoop.enumBusy = true ∧ s.hoop.asked.contains 1 = true ∧
         s.hoop.enumN.isSome = true ∧ good t 1 p 0x11 2 = true ∧ leAt p.packet.payload 0 2 = t.hoop.epoch.toNat ∧
         t.hoop.enumBusy = true ∧ t.hoop.asked = [1] ∧ t.hoop.enumN = none ∧ t.isRoot = false) ∧
      (∀ m ∈ [0x15, 0x35],
        let p := pkt 0x12 2 0 0 [3, 0, 0xFF, 0x0F]
        let s := regAt (enumAt unit 3 id) 0x7000 m
        good s 0 p 0x12 2 = true ∧ leAt p.packet.payload 0 2 = s.hoop.epoch.toNat ∧ s.hoop.enumBusy = true ∧ s.rb 0x7000 5 = decide (m = 0x35)) ∧
      (let p := pkt 0x13 0 0 7 ([3, 0] ++ n16 ++ [0, 0])
       let s (n : Nat) := enumAt root 3 (fun h => { h with enumN := some n })
       (here (s 3) 1 p 0x13 = true ∧ leAt p.packet.payload 0 2 = (s 3).hoop.epoch.toNat ∧ (s 3).hoop.enumRecs.length + 2 < 3) ∧
         (here (s 2) 1 p 0x13 = true ∧ 2 ≤ (s 2).hoop.enumRecs.length + 2 ∧ (s 2).hoop.enumWant = false)) ∧
      (let p := pkt 0x14 1 0xFFF 0 ([3, 0, 9, 14] ++ List.replicate 26 0 ++ [5, 0])
       good unit 0 p 0x14 1 = true ∧ unit.isRoot = false ∧ unit.ownId p.packet.src = false ∧ min 14 (byteAt p.packet.payload 3) = 14 ∧ leAt p.packet.payload (4 + 2 * 13) 2 = unit.hoopId.toNat) ∧
      here root 1 (pkt 0x15 0 0 7 []) 0x15 = true ∧
      (let s := regAt (enumAt root 3 id) 0x7020 200
       s.fabricOn = true ∧ s.enumTmoDue = true ∧ s.hoop.enumWant = false) := by decide +kernel

/-- A heartbeat with valid code groups: its role and flag byte, the sender's epoch, and whether its CRC is right. -/
def hb (b2 epoch : Nat) (good : Bool := true) : SyncRx :=
  let body : List Byte := [0xBC, 0xB9, BitVec.ofNat 8 b2] ++ List.replicate 10 0 ++ leBytes epoch 4 ++ List.replicate 29 0
  let crc := if good then syncCrc body else [0, 0]
  ⟨groupsOf true (symComma :: ((body ++ crc).drop 1).map .data), true, 3⟩

/-- A twin in a role, whose partner runs. -/
def twinRole (r : TRole) (m : Mode) (t : Twin → Twin) : Dev :=
  let s := twinAt (inMode run m) r
  { s with twin := t { s.twin with epoch := 6, lastHb := some 399980000, pMode := 3 } }

/-- Heartbeats that are valid and not, of two active units, and with a fault in either mode of the partner; missed ones in each role; the fault pin; a takeover that
is due, and one whose unit is no shadow any more; and mirror frames. -/
theorem meets_TwinHeartbeatsAndMirror :
    (hbValid (hb 0x69 9) = true ∧ hbValid (hb 0x69 9 false) = false ∧
      hbValid { hb 0x69 9 with groups := 0 :: (hb 0x69 9).groups.drop 1 } = false) ∧
      (let s := twinRole .unpaired .run id
       s.twinOn = true ∧ s.rb 0x7800 7 = false) ∧
      (∀ e ∈ [5, 7], (twinRole .active .run id).twinOn = true ∧ hbValid (hb 0x61 e) = true ∧ (twinRole .active .run id).twin.role = .active ∧
        byteAt (hb 0x61 e).bytes 2 % 4 = 1 ∧ (twinRole .active .run id).twin.epoch.toNat = 6 ∧
        leAt (hb 0x61 e).bytes 13 4 = e) ∧
      (∀ v ∈ [0, 0x40], ∀ m ∈ [3, 5, 2], let s := regAt (twinRole .shadow .shadow (fun t => { t with pFault := false })) 0x7800 v
        let c := hb (4 + 32 * m) 9
        s.twinOn = true ∧ hbValid c = true ∧ s.twin.role = .shadow ∧ s.pwr.mode = .shadow ∧ bitOf (byteAt c.bytes 2) 2 = true ∧
          s.twin.pFault = false ∧ byteAt c.bytes 2 / 32 = m ∧ s.rb 0x7800 6 = decide (v = 0x40)) ∧
      ((regAt (twinRole .shadow .shadow (fun t => { t with pFault := true })) 0x7800 0x40).rb 0x7800 6 = true) ∧
      (run.twinOn = false ∧ run.hears 2 = false ∧ run.hbMissDue = false) ∧
      ((twinRole .active .run id).hbMissDue = true ∧ (twinRole .active .run id).twin.missed ≠ 2) ∧
      (∀ q ∈ [(TRole.unpaired, Mode.run), (.active, .run), (.shadow, .shadow)],
        let s := twinRole q.1 q.2 (fun t => { t with missed := 2 })
        s.hbMissDue = true ∧ s.twin.missed = 2 ∧ s.twin.role = q.1 ∧ s.pwr.mode = q.2) ∧
      (∀ v ∈ [0x20, 0x60], ∀ c ∈ [31, 32, 33],
        let s := regAt (twinRole .shadow .shadow (fun t => { t with missed := 2, pfltCnt := c })) 0x7800 v
        s.coreOn = true ∧ s.rb 0x7800 5 = true ∧ s.hbMissDue = true ∧ s.rb 0x7800 6 = decide (v = 0x60) ∧ s.twin.pMode = 3 ∧
          s.twin.role = .shadow ∧ s.pwr.mode = .shadow ∧ s.twin.pfltCnt = c) ∧
      (∀ m ∈ [Mode.shadow, .hold], let s := twinRole .shadow m (fun t => { t with takeDue := true, secKey := some 7 })
       s.twin.takeDue = true ∧ s.pwr.asked = none ∧ (∀ f ∈ s.ring.flights, f.modeAsked = none) ∧ s.twin.role = .shadow ∧ s.pwr.mode = m ∧
         s.twin.secKey = some 7 ∧ s.twin.current = false) ∧
      (let s := twinRole .shadow .shadow (fun t => { t with fresh := false, mseq := 4 })
       s.twinOn = true ∧ s.twin.role = .shadow ∧ s.pwr.mode = .shadow ∧ (5 : BitVec 32) = s.twin.mseq + 1 ∧ (7 : BitVec 32) ≠ s.twin.mseq + 1 ∧ s.twin.fresh = false ∧
         (twinRole .shadow .shadow id).twin.fresh = true) := by decide +kernel

/-- A neighbour, known by its EUI-64. -/
def nbr (eui : Nat) : Nbr := { ({} : Nbr) with known := true, eui := BitVec.ofNat 64 eui, session := 9 }

/-- A node that listens in the slot at 983040 of kind `kind`, and knows nodes 2 (its parent) and 7. -/
def hears (role kind : Nat) : Dev :=
  let s := meshAt run role
  { s with ozh := { s.ozh with slotAt := 983040, slotAsn := 10, slotKind := kind, nbrs := [(2, nbr 0xAA02), (7, nbr 0xAA07)] } }

/-- A full header with counter 20. -/
def header (s : Dev) (type : Nat) (ack : Bool) (dst src : BitVec 16) : List Byte :=
  [fcf type ack false false s.ozh.keyIdx.toNat] ++ leBytes dst.toNat 2 ++ leBytes src.toNat 2 ++ leBytes 20 3

/-- The level of a header's type. -/
def levelOf (hdr : List Byte) : Nat := ozLevel (byteAt hdr 0 % 8) (bitOf (byteAt hdr 0) 5)

/-- What a neighbour's payload becomes under the key that it shares with this node. -/
def sealed (s : Dev) (src : BitVec 16) (low level : Nat) (hdr body : List Byte) : List Byte :=
  ozSeal (linkKey (s.ozh.nk.getD 0) (s.nbrOf src).eui (s.nbrOf src).session s.ozh.keyIdx.toNat)
    (ozNonce (s.nbrOf src).eui (fcNear (s.nbrOf src).fcNow low) level) level hdr body

/-- A PSDU on the air of a node's mesh, with its CRC. -/
def air (s : Dev) (psdu : List Byte) (start : Nat) : RadioRx := ⟨s.accessWord, psdu, crc24 psdu, start, -60⟩

/-- A frame with a full header that a neighbour sealed, at the receive offset. -/
def frame (s : Dev) (src : BitVec 16) (hdr body : List Byte) : RadioRx :=
  air s (hdr ++ sealed s src (leAt hdr 5 3) (levelOf hdr) hdr body) (s.ozh.slotAt + 4096)

/-- What the reception of a neighbour's frame at the receive offset leaves. -/
def exchanged (s : Dev) (src : BitVec 16) : Dev :=
  (if src = s.ozh.parent then s.modOzh (fun z => { z with rssi := -60 }) else s).exchange src
    ((s.ozh.slotAt + 4096 : Nat) - ((s.ozh.slotAt + 4096 : Nat) : Int))

/-- Whether the counter of a neighbour's frame lies in its window. -/
def inWindow (s : Dev) (src : BitVec 16) (low : Nat) : Bool :=
  match (s.nbrOf src).fcNow with
  | some l => fcNear (some l) low - l < 2 ^ 23
  | none => true

/-- What a sealed frame says to its receiver. -/
def said (s : Dev) (src : BitVec 16) (hdr body : List Byte) (low : Nat) : OzRx :=
  ⟨byteAt hdr 0 % 8, src, bitOf (byteAt hdr 0) 3, bitOf (byteAt hdr 0) 4, body,
    (s.nbrOf src).fcNow = some (fcNear (s.nbrOf src).fcNow low), fcNear (s.nbrOf src).fcNow low, s.ozh.keyIdx.toNat⟩

/-- Whether a neighbour and its header pass the checks that come before the MIC. -/
def knows (s : Dev) (src : BitVec 16) (hdr : List Byte) (low : Nat) : Bool :=
  (s.nbrOf src).known && s.haveKey && s.ozh.keyIdx.toNat % 2 = b2n (bitOf (byteAt hdr 0) 6) && inWindow s src low

/-- Whether the form of a frame and its addresses are good, and the receiver is open for it. -/
def fits (s : Dev) (src : BitVec 16) (hdr body : List Byte) : Bool :=
  hdr.length = 8 && s.rxOpen (frame s src hdr body) &&
    psduFits (8 + body.length + if levelOf hdr = 6 then 8 else 4) (byteAt hdr 0 % 8) (byteAt hdr 0) && decide (byteAt hdr 0 % 8 < 5) &&
    (BitVec.ofNat 16 (leAt hdr 1 2) = s.ozhAddr || BitVec.ofNat 16 (leAt hdr 1 2) = 0xFFFF) && BitVec.ofNat 16 (leAt hdr 3 2) = src &&
    (s.ozh.slotKind ≠ 2 || s.ozh.slotNbr = 0xFFFF || s.ozh.slotNbr = src) && knows s src hdr (leAt hdr 5 3)

theorem inWindow_lt {s : Dev} {src : BitVec 16} {low : Nat} (h : inWindow s src low = true) (l : Nat) (e : (s.nbrOf src).fcNow = some l) :
    fcNear (some l) low - l < 2 ^ 23 := by
  rw [inWindow, e] at h
  exact of_decide_eq_true h

theorem judgeFrame_knows {s : Dev} {src : BitVec 16} {hdr body : List Byte} {low level : Nat} (h : knows s src hdr low = true) :
    s.judgeFrame src (byteAt hdr 0 % 8) (byteAt hdr 0) level hdr (sealed s src low level hdr body) low = (some (said s src hdr body low), s) := by
  simp only [knows, Bool.and_eq_true, decide_eq_true_eq] at h
  exact judgeFrame_sealed s src _ _ level hdr body low h.1.1.1 h.1.1.2 h.1.2 (inWindow_lt h.2)

/-- A frame that fits is received as what was sealed in it. -/
theorem rxFrame_fits {s : Dev} {src : BitVec 16} {hdr body : List Byte} (h : fits s src hdr body = true) :
    s.rxFrame (frame s src hdr body) 0 = (some (said s src hdr body (leAt hdr 5 3)), exchanged s src) := by
  simp only [fits, knows, Bool.and_eq_true, Bool.or_eq_true, decide_eq_true_eq] at h
  obtain ⟨⟨⟨⟨⟨⟨⟨h8, ho⟩, hs⟩, h5⟩, hd⟩, ha⟩, hc⟩, ⟨⟨hk, hh⟩, hp⟩, hf⟩ := h
  refine rxFrame_sealed s src hdr body (s.ozh.slotAt + 4096) (-60) _ rfl h8 ho hs h5 hd ha (fun e => ?_) hk hh hp (inWindow_lt hf)
  rcases hc with (h | h) | h
  · exact absurd e h
  · exact .inl h
  · exact .inr h

/-- What a received frame says is new, and this holds of it and of what its reception leaves. -/
def hearsOf (s : Dev) (src : BitVec 16) (hdr body : List Byte) (p : OzRx → Dev → Bool) : Prop :=
  ∃ r u, s.rxFrame (frame s src hdr body) 0 = (some r, u) ∧ r.dup = false ∧ p r u = true

theorem hears_fits {s : Dev} {src : BitVec 16} {hdr body : List Byte} {p : OzRx → Dev → Bool} (h : (fits s src hdr body &&
    (s.nbrOf src).fcNow = none && p (said s src hdr body (leAt hdr 5 3)) (exchanged s src)) = true) :
    hearsOf s src hdr body p := by
  simp only [Bool.and_eq_true, decide_eq_true_eq] at h
  exact ⟨_, _, rxFrame_fits h.1.1, by simp [said, h.1.2], h.2⟩

/-- A command of Table OZH-4 for this node from node 7, heard as one. -/
def commanded (s : Dev) (ack : Bool) (code : Nat) (rest : List Nat) (p : OzRx → Dev → Bool) : Prop :=
  hearsOf s 7 (header s 3 ack s.ozhAddr 7) (netHeader 7 s.ozhAddr 3 ++ [BitVec.ofNat 8 code] ++ rest.map (BitVec.ofNat 8))
    (fun r u => r.type = 3 && isCmd code r.clear && netFinal r.clear = u.ozhAddr && r.ackReq = ack && !r.pend && p r u)

/-- A frame with a wrong CRC. -/
theorem meets_ReceivedRadioFramesAct_crc :
    let rx : RadioRx := ⟨(hears 1 2).accessWord, [1], crc24 [1] + 1, 987136, 0⟩
    (hears 1 2).rxOpen rx = true ∧ crc24 rx.psdu ≠ rx.crc := by decide +kernel

/-- A POLL that asks for an ACK from a child for which a frame is held. -/
theorem meets_ReceivedRadioFramesAct_polls :
    let f : TxFrame := ⟨7, 1, true, [], none, 0, 3, 0, none, none, some 1, none⟩
    let s : Dev := { hears 1 2 with ozh := { (hears 1 2).ozh with held := [f] } }
    leAt (header s 3 true s.ozhAddr 7) 1 2 ≠ 0xFFFF ∧ commanded s true 3 [] (fun _ u => u.maySend && u.holdsFor 7) :=
  ⟨by decide +kernel, hears_fits (by decide +kernel)⟩

/-- A node with a route to 9 by node 7, and one that drops what is for 10. -/
def routed : Dev :=
  { hears 1 2 with ozh := { (hears 1 2).ozh with routes := [(3, ⟨9, 9, 7, 5, true, false, false⟩), (4, ⟨10, 10, 0, 5, true, true, false⟩)] } }

/-- Data from node 7. -/
def dataHeard (s : Dev) (final : BitVec 16) (hops : Nat) (p : OzRx → Dev → Bool) : Prop :=
  hearsOf s 7 (header s 1 false s.ozhAddr 7) (netHeader 7 final hops ++ [1, 2, 3, 4]) (fun r u => r.type = 1 && !r.ackReq && !r.pend && p r u)

/-- Data for this node, and to be relayed or not; a broadcast that comes back to its originator, and a network header with reserved bits. -/
theorem meets_ReceivedRadioFramesAct_data :
    dataHeard routed 5 3 (fun r u => netFinal r.clear = u.ozhAddr && decide (byteAt r.clear 4 < 16)) ∧
      dataHeard routed 5 0x13 (fun r _ => decide (16 ≤ byteAt r.clear 4)) ∧
      hearsOf routed 7 (header routed 1 false 0xFFFF 7) (leBytes 5 2 ++ leBytes 0xFFFF 2 ++ [3, 1, 2, 3, 4]) (fun r u => r.type = 1 && !r.ackReq &&
        !r.pend && decide (byteAt r.clear 4 < 16) && netFinal r.clear = 0xFFFF && netOrig r.clear = u.ozhAddr && netFinal r.clear ≠ u.ozhAddr) ∧
      dataHeard routed 9 1 (fun r u => netFinal r.clear ≠ u.ozhAddr && netFinal r.clear ≠ 0xFFFF && u.ozhRole ≠ 2 && netHops r.clear ≤ 1) ∧
      dataHeard routed 9 2 (fun r u => netFinal r.clear ≠ u.ozhAddr && 1 < netHops r.clear && u.nextHop (netFinal r.clear) = .to 7 &&
        !u.isSleepyChild 7 && u.ozh.queue = []) ∧
      dataHeard routed 10 2 (fun r u => netFinal r.clear ≠ u.ozhAddr && 1 < netHops r.clear && u.nextHop (netFinal r.clear) = .drop) ∧
      leAt (header routed 1 false routed.ozhAddr 7) 1 2 ≠ 0xFFFF :=
  ⟨hears_fits (by decide +kernel), hears_fits (by decide +kernel), hears_fits (by decide +kernel), hears_fits (by decide +kernel),
    hears_fits (by decide +kernel), hears_fits (by decide +kernel), by decide +kernel⟩

/-- A descriptor for this node from node 7. -/
def descHeard (s : Dev) (p : OzRx → Dev → Bool) : Prop :=
  hearsOf s 7 (header s 4 false s.ozhAddr 7) (netHeader 7 5 3 ++ [1, 0, 9, 0, 0]) (fun r u => r.type = 4 && !r.ackReq && !r.pend &&
    netFinal r.clear = u.ozhAddr && isAirDesc r.clear && netFinal r.clear ≠ 0xFFFF && p r u)

/-- Ring LR empty, and full. -/
theorem meets_ReceivedRadioFramesAct_descriptors :
    descHeard (hears 1 2) (fun _ u => u.ring.lr.length < 64) ∧
      descHeard { hears 1 2 with ring := { run.ring with lr := List.replicate 64 ⟨.lr, .radio 7, dsc 0 [], 0, none, false⟩ } }
        (fun r u => 64 ≤ u.ring.lr.length && u.maySend && netOrig r.clear ≠ 0xFFFF && u.nextHop (netOrig r.clear) = .to 2 && !u.isSleepyChild 2) :=
  ⟨hears_fits (by decide +kernel), hears_fits (by decide +kernel)⟩

/-- The coordinator, with re-keying on. -/
def coordinator : Dev := regAt (hears 0 2) 0x8000 0x11

/-- The commands of Table OZH-4, and the answer to a joiner's request on its way. -/
theorem meets_ReceivedRadioFramesAct_commands :
    let s := hears 1 2
    let q : JoinReq := ⟨0xCC, 6, 0xFFFE⟩
    let t : Dev := { s with ozh := { s.ozh with joinPend := [q] } }
    commanded s false 3 [] (fun _ _ => true) ∧
      commanded s false 4 [1, 0, 0, 0, 0, 0, 0, 0, 9, 0, 5, 0, 0, 0, 1] (fun r _ => leAt r.clear 14 2 ≠ r.src.toNat) ∧
      commanded s false 5 [0xFF, 1, 1, 0, 9, 0, 2, 0, 0, 0, 1, 0, 0, 0] (fun r _ => leAt r.clear 6 2 = 511) ∧
      commanded s false 16 [0, 0, 9, 0, 0, 0, 0, 0, 0, 0, 0, 0, 0, 0, 0, 0] (fun _ _ => true) ∧
      commanded coordinator false 6 [] (fun _ u => u.isCoord && !u.flt.dbgHalt) ∧
      commanded { coordinator with flt := { run.flt with dbgHalt := true } } false 6 [] (fun _ u => u.isCoord && u.flt.dbgHalt) ∧
      commanded coordinator false 7 [0, 0, 0, 0] (fun _ u => u.isCoord && u.rb 0x8000 4 && !u.flt.dbgHalt && u.ozh.switch = none) ∧
      hearsOf t 2 (header t 3 false t.ozhAddr 2) ([2, 0, 9, 0] ++ List.replicate 28 0)
        (fun r u => r.type = 3 && !r.ackReq && !r.pend && byteAt r.clear 0 = 2 && r.clear.length = 32 && u.ozh.joinPend = [q]) ∧
      q.child = 0xFFFE ∧
      leAt (header t 3 false t.ozhAddr 2) 1 2 ≠ 0xFFFE :=
  ⟨hears_fits (by decide +kernel), hears_fits (by decide +kernel), hears_fits (by decide +kernel), hears_fits (by decide +kernel),
    hears_fits (by decide +kernel), hears_fits (by decide +kernel), hears_fits (by decide +kernel), hears_fits (by decide +kernel),
    by decide +kernel, by decide +kernel⟩

/-- A beacon's payload: its flags and how deep its sender is. -/
def beacon (flags depth : Nat) : List Byte :=
  leBytes 10 5 ++ leBytes 0x1234 2 ++ leBytes 8 2 ++ [BitVec.ofNat 8 flags, BitVec.ofNat 8 depth, 4] ++ leBytes 16 2 ++ leBytes 3 5 ++ List.replicate 17 0

/-- A beacon of the parent, heard. -/
def beaconHeard (flags : Nat) : Prop :=
  hearsOf (hears 1 5) 2 (header (hears 1 5) 0 false 0xFFFF 2) (beacon flags 0) (fun r u => r.type = 0 && !r.ackReq && !r.pend &&
    r.src = u.ozh.parent && !u.isCoord && !bitOf (byteAt r.clear 9) 1 && decide (byteAt r.clear 9 < 16))

theorem meets_ReceivedRadioFramesAct_beacons : (hears 1 5).seeking = false ∧ beaconHeard 1 ∧ beaconHeard 4 ∧ beaconHeard 8 :=
  ⟨by decide +kernel, hears_fits (by decide +kernel), hears_fits (by decide +kernel), hears_fits (by decide +kernel)⟩

/-- A beacon that a joiner hears, the first one, and the eighth one of its parent. -/
theorem meets_ReceivedRadioFramesAct_scan :
    let s (f : Ozh → Ozh) : Dev := { hears 1 10 with ozh := f { (hears 1 10).ozh with st := 1 } }
    let rx := air (s id) (header (hears 1 10) 0 false 0xFFFF 2 ++ beacon 1 7 ++ [1, 2, 3, 4]) 987136
    let b := (rx.psdu.drop 8).take 36
    let t := s (fun z => { z with joinParent := some 2, joinBeacons := 7, joinLast := some (987136 - 98304, 9) })
    (s id).seeking = true ∧ (s id).rxOpen rx = true ∧ rx.psdu.length = 48 ∧ byteAt rx.psdu 0 % 8 = 0 ∧ crc24 rx.psdu = rx.crc ∧
      BitVec.ofNat 16 (leAt rx.psdu 3 2) = 2 ∧ leAt b 5 2 = (s id).meshId ∧ bitOf (byteAt b 9) 0 = true ∧ byteAt b 10 = 7 ∧
      (s id).ozh.rescanAt = none ∧ (s id).ozh.jk.isSome = true ∧ (s id).ozh.joinParent = none ∧
      t.seeking = true ∧ t.rxOpen rx = true ∧ t.flt.dbgHalt = false ∧ byteAt b 9 < 16 ∧ t.ozh.joinParent = some 2 ∧ t.ozh.joinBeacons = 7 ∧ t.ozh.joinFc = none ∧ t.ozh.joinLast = some (888832, 9) ∧ leAt b 0 5 = 10 ∧
      (((rx.start : Int) - 888832) - ((leAt b 0 5 : Int) - 9) * 98304).natAbs ≤ 2048 := by decide +kernel

/-- The header of a joiner's request, and the request. -/
def askHdr (s : Dev) : List Byte := [fcf 3 false false false 0] ++ leBytes s.ozhAddr.toNat 2 ++ leBytes 0xFFFE 2 ++ leBytes 6 3
def askBody : List Byte := [1] ++ leBytes 0xCC 8 ++ [3, 1] ++ leBytes 7 2

/-- A joiner's request on the air, under the join key and counter 6. -/
def joinAsk (s : Dev) : RadioRx :=
  air s (askHdr s ++ ozSeal (joinKey (s.ozh.nk.getD 0) 0xCC) (ozNonce 0xCC 6 1) 1 (askHdr s) askBody) (s.ozh.slotAt + 4096)

/-- What a request meets when it passes its checks. -/
def joinHeard (s : Dev) : Prop :=
  let rx := joinAsk s
  let e := BitVec.ofNat 64 (leAt (rx.psdu.drop 8) 1 8)
  (leAt rx.psdu 3 2 = 0xFFFE ∧ s.rxOpen rx = true ∧ leAt rx.psdu 1 2 = s.ozhAddr.toNat ∧ byteAt rx.psdu 0 % 8 = 3 ∧
    s.haveKey = true ∧ s.flt.dbgHalt = false ∧ e = 0xCC ∧ leAt rx.psdu 5 3 = 6 ∧ byteAt askBody 0 = 1 ∧ askBody.length = 13) ∧
    crc24 rx.psdu = rx.crc ∧
    ozOpen (joinKey (s.ozh.nk.getD 0) 0xCC) (ozNonce 0xCC 6 1) 1 (rx.psdu.take 8) (rx.psdu.drop 8) = some askBody

theorem joinHeard_of (s : Dev)
    (h : let rx := joinAsk s
      let e := BitVec.ofNat 64 (leAt (rx.psdu.drop 8) 1 8)
      leAt rx.psdu 3 2 = 0xFFFE ∧ s.rxOpen rx = true ∧ leAt rx.psdu 1 2 = s.ozhAddr.toNat ∧ byteAt rx.psdu 0 % 8 = 3 ∧
        s.haveKey = true ∧ s.flt.dbgHalt = false ∧ e = 0xCC ∧ leAt rx.psdu 5 3 = 6 ∧ byteAt askBody 0 = 1 ∧ askBody.length = 13) :
    joinHeard s := by
  refine ⟨h, rfl, ?_⟩
  have h8 : (askHdr s).length = 8 := by simp [askHdr]
  rw [joinAsk, air, ← h8, List.take_left, List.drop_left]
  exact ozOpen_ozSeal ..

/-- A coordinator in its join cell, with joining off, on, and on with its tables full; and a router. -/
theorem meets_ReceivedRadioFramesAct_requests :
    let c := regAt (hears 0 8) 0x8000 9
    let full : Dev := { c with ozh := { c.ozh with nodes := List.replicate 1024 ⟨1, 1, 1, 1, 0⟩ } }
    (joinHeard (hears 0 8) ∧ joinHeard c ∧ joinHeard full ∧ joinHeard (hears 1 8)) ∧
      ((hears 0 8).isCoord = true ∧ (hears 0 8).rb 0x8000 3 = false) ∧
      (c.rb 0x8000 3 = true ∧ c.ozh.nodes = [] ∧ joinAddr c.ozh.nodes 0xCC (BitVec.ofNat 16 (leAt askBody 11 2)) = 7 ∧
        (addRoute c.ozh.routes 0 7 7).isSome = true) ∧
      (full.ozh.nodes.find? (fun x => x.eui = 0xCC) = none ∧ 1024 ≤ full.ozh.nodes.length) ∧
      ((hears 1 8).isCoord = false ∧ (hears 1 8).ozh.st = 3 ∧ (hears 1 8).ozh.queue = []) :=
  ⟨⟨joinHeard_of _ (by decide +kernel), joinHeard_of _ (by decide +kernel), joinHeard_of _ (by decide +kernel), joinHeard_of _ (by decide +kernel)⟩,
    by decide +kernel⟩

/-- A joiner that awaits its answer under counter 30, the answer's header, and the answer with a status. -/
def joiner : Dev := { hears 1 11 with ozh := { (hears 1 11).ozh with st := 2, joinFc := some 30, joinDepth := 1 } }
def rspHdr : List Byte := [fcf 3 false false false 0] ++ leBytes 0xFFFE 2 ++ leBytes 2 2 ++ leBytes 30 3
def rspBody (st : Nat) : List Byte := [2, BitVec.ofNat 8 st] ++ leBytes 6 2 ++ List.replicate 28 1
def rsp (st : Nat) : RadioRx := air joiner (rspHdr ++ ozSeal 0x77 (ozNonce joiner.ozhEui 30 5) 5 rspHdr (rspBody st)) 987136

/-- The answer to this unit's own request: accepted, and refused. -/
theorem meets_ReceivedRadioFramesAct_answers :
    (∀ st ∈ [0, 1], crc24 (rsp st).psdu = (rsp st).crc ∧
      ozOpen 0x77 (ozNonce joiner.ozhEui 30 5) 5 ((rsp st).psdu.take 8) ((rsp st).psdu.drop 8) = some (rspBody st)) ∧
      (∀ st ∈ [0, 1], leAt (rsp st).psdu 1 2 = 0xFFFE ∧ joiner.ozh.jk = some 0x77 ∧ joiner.ozh.joinFc = some 30 ∧
        joiner.rxOpen (rsp st) = true ∧ byteAt (rsp st).psdu 0 % 8 = 3 ∧ byteAt (rspBody st) 0 = 2 ∧ (rspBody st).length = 32 ∧ byteAt (rspBody st) 1 = st ∧
        joiner.flt.dbgHalt = false) := by
  refine ⟨fun st _ => ⟨rfl, ?_⟩, by decide +kernel⟩
  have h8 : rspHdr.length = 8 := by decide
  rw [rsp, air, ← h8, List.take_left, List.drop_left]
  exact ozOpen_ozSeal ..

/-- A sent frame whose acknowledgement is awaited at tick 1000000. -/
def sent : TxFrame := ⟨7, 1, true, [1], some (19, 4), 1, 3, 0, none, none, none, none⟩
def awaiting : Dev := { hears 1 1 with ozh := { (hears 1 1).ozh with await := some (7, 1000000, false), queue := [sent] } }

/-- An acknowledgement from node 7, which says BUSY or not. -/
def ackHdr : List Byte := header awaiting 2 false awaiting.ozhAddr 7
def ackRx (busy : Nat) : RadioRx := air awaiting (ackHdr ++ sealed awaiting 7 20 1 ackHdr [0, 0, BitVec.ofNat 8 busy]) 1000512

theorem meets_ReceivedRadioFramesAct_acks :
    (awaiting.awaited = some sent ∧ sent.tries < sent.limit ∧ awaiting.ozh.queue.count sent ≤ 1) ∧
      ∀ busy ∈ [0, 1], (let rx := ackRx busy
        psduFits rx.psdu.length (byteAt rx.psdu 0 % 8) (byteAt rx.psdu 0) = true ∧ byteAt rx.psdu 0 % 8 = 2 ∧
          BitVec.ofNat 16 (leAt rx.psdu 3 2) = 7 ∧ leAt rx.psdu 1 2 = awaiting.ozhAddr.toNat ∧ rx.access = awaiting.accessWord ∧
          ((rx.start : Int) - 1000000).natAbs = 512 ∧
          leAt rx.psdu 5 3 = 20) ∧
        crc24 (ackRx busy).psdu = (ackRx busy).crc ∧
        ∃ r u, awaiting.judgeFrame 7 2 (byteAt ackHdr 0) 1 ((ackRx busy).psdu.take 8) ((ackRx busy).psdu.drop 8) 20 = (some r, u) ∧
          bitOf (byteAt r.clear 2) 0 = decide (busy = 1) ∧ byteAt r.clear 2 < 2 := by
  refine ⟨by decide +kernel, fun busy hb => ⟨?_, rfl, ?_⟩⟩
  · revert busy hb; decide +kernel
  · have h8 : ackHdr.length = 8 := by decide +kernel
    refine ⟨said awaiting 7 ackHdr [0, 0, BitVec.ofNat 8 busy] 20, awaiting, ?_, by revert busy hb; decide +kernel⟩
    have e (y : List Byte) : (ackHdr ++ y).take 8 = ackHdr ∧ (ackHdr ++ y).drop 8 = y := by
      rw [← h8, List.take_left, List.drop_left]; exact ⟨rfl, rfl⟩
    rw [ackRx, air, (e _).1, (e _).2]
    exact judgeFrame_knows (by decide +kernel)

/-- A frame without addresses from a neighbour, with counter 20. -/
def fastHdr (type : Nat) : List Byte := [fcf type false false false 4] ++ leBytes 20 3
def fastRx (s : Dev) (src : BitVec 16) (type level : Nat) (body : List Byte) (start : Nat) : RadioRx :=
  air s (fastHdr type ++ sealed s src 20 level (fastHdr type) body) start

/-- A fast frame that fits is received as what was sealed in it. -/
theorem fastFrom_fits {s : Dev} {src : BitVec 16} {type level start : Nat} {body : List Byte}
    (h : (s.ozhOn && s.pwr.mode ≠ .shadow && byteAt (fastHdr type) 0 % 8 = type && psduFits (fastRx s src type level body start).psdu.length type
      (byteAt (fastHdr type) 0) && leAt (fastHdr type) 1 3 = 20 && knows s src (fastHdr type) 20) = true) :
    s.fastFrom (fastRx s src type level body start) type level src = (some (said s src (fastHdr type) body 20), s) := by
  simp only [Bool.and_eq_true, decide_eq_true_eq] at h
  obtain ⟨⟨⟨⟨⟨ho, hm⟩, ht⟩, hf⟩, hl⟩, hk⟩ := h
  have h4 : (fastHdr type).length = 4 := rfl
  have hj := judgeFrame_knows (body := body) (level := level) hk
  rw [ht] at hj
  generalize hy : sealed s src 20 level (fastHdr type) body = y at hj
  have e : fastRx s src type level body start = air s (fastHdr type ++ y) start := by rw [fastRx, hy]
  have e0 : byteAt (fastHdr type ++ y) 0 = byteAt (fastHdr type) 0 := rfl
  have e1 : leAt (fastHdr type ++ y) 1 3 = 20 := (leAt_append _ _ 1 3 (by omega)).trans hl
  have e4 : (fastHdr type ++ y).take 4 = fastHdr type := by rw [← h4, List.take_left]
  have e5 : (fastHdr type ++ y).drop 4 = y := by rw [← h4, List.drop_left]
  rw [e] at hf ⊢
  simp only [air, List.length_append] at hf
  simp [Dev.fastFrom, air, ho, hm, e0, ht, hf, e1, e4, e5, hj]

/-- A node with a fast receive cell in lane 3, and one whose fast frame in lane 3 awaits its acknowledgement. -/
def fastCell : Dev := regsAt (hears 1 7) [(cellOff 4, 0x370002), (cellOff 4 + 4, 7)]
def fastSender : Dev := { hears 1 6 with ozh := { (hears 1 6).ozh with txLanes := 8, fastSent := some 3 } }

/-- A fast frame, new and repeated, and a fast acknowledgement. -/
theorem meets_ReceivedRadioFramesAct_fast :
    (fastCell.ozh.slotKind = 7 ∧ fastCell.laneOf (983040 + 18432 * 3 + 1024) = some 3 ∧ fastCell.tempoSrc ≠ 2 ∧ fastCell.cellNbr 4 = 7 ∧
      (fastCell.cellsAt (fastCell.ozh.slotAsn % fastCell.sfLen)).find? (fun i => fastCell.cellKind i = 7 && fastCell.rf (cellOff i) 21 20 = 3) =
        some 4) ∧
      (∀ fc ∈ [none, some 20], let s := fastCell.setNbr 7 { nbr 0xAA07 with fcNow := fc }
        ∃ r, s.fastFrom (fastRx s 7 5 5 [0x40, 9] (983040 + 18432 * 3 + 1024)) 5 5 7 = (some r, s) ∧ r.dup = decide (fc = some 20)) ∧
      ∃ r, fastSender.fastFrom (fastRx fastSender 2 6 1 [8] (983040 + 81920)) 6 1 2 = (some r, fastSender) ∧
        (fastSender.ozh.txLanes ≠ 0 ∧ fastSender.ozh.parent = 2 ∧ fastSender.ozh.fastSent = some 3 ∧ byteAt r.clear 0 < 16 ∧
          ((983040 + 81920 : Int) - (fastSender.ozh.slotAt + 81920 : Nat)).natAbs ≤ 1024 ∧
          bitOf (byteAt r.clear 0) 3 = true) := by
  refine ⟨by decide +kernel, fun fc hf => ⟨_, fastFrom_fits (by revert fc hf; decide +kernel), by revert fc hf; decide +kernel⟩,
    ⟨_, fastFrom_fits (by decide +kernel), by decide +kernel⟩⟩

/-- A router at the start of slot 10 with a cell in it. -/
def slotCell (kind role : Nat) (f : Ozh → Ozh) : Dev :=
  let s := regsAt (meshAt (runAt 983040) role) [(cellOff 5, kind * 65536 + 0x402), (cellOff 5 + 4, 2)]
  let s := if role = 0 then regAt s 0x8010 0x81234 else s
  { s with ozh := f s.ozh }

/-- A slot that is not due, that turns the radio on with and without a place in a mesh, and a joiner's request. -/
theorem meets_RadioSlotsAndTimersAct :
    (run.slotDue = false ∧ (runAt 983040).slotDue = true ∧ (runAt 983040).ozh.busy = false ∧ (runAt 983040).rb 0x8000 0 = false ∧
      bitOf ((runAt 983040).writtenBefore 0x8000).toNat 0 = false) ∧
      (∀ r ∈ [0, 1], ∀ x ∈ [0, 3], let s := slotCell 2 r (fun z => { z with busy := false, st := x })
        s.slotDue = true ∧ s.regs.live = [] ∧ s.rb 0x8000 0 = true ∧ s.pwr.mode = .run ∧ s.ozh.busy = false ∧ s.isCoord = decide (r = 0) ∧
          s.ozh.jk.isSome = true ∧ s.ozh.st = x) ∧
      (let s : Dev := { slotCell 2 1 id with regs := { (slotCell 2 1 id).regs with live := [(0x8000, true)] } }
       s.slotDue = true ∧ 0x8000 ∈ s.regs.live.map Prod.fst ∧ noteReg 0x8000 = false) ∧
      (let s := slotCell 2 1 (fun z => { z with st := 1, joinTx := some (983040 + 2048, 2, 4) })
       s.slotDue = true ∧ s.regs.live = [] ∧ s.rb 0x8000 0 = true ∧ s.ozhOn = true ∧ s.pwr.mode ≠ .shadow ∧ s.ozh.follow = none ∧
         s.ozh.joinCell = none ∧ s.pwr.dozeEvent = false ∧ s.seeking = true ∧ s.flt.dbgHalt = false ∧ s.wheelN - s.wheelN % 98304 = 983040 ∧
         s.ozh.jk.isSome = true ∧ s.fcExhausted = false ∧ s.rb 0x8000 5 = false) := by decide +kernel

/-- A slot with each kind of entry, and a scan. -/
theorem meets_RadioSlotsAndTimersAct_cells :
    let f (tries : Nat) : TxFrame := ⟨2, 1, true, [5, 0, 2, 0, 3, 1], none, tries, 3, 0, none, none, none, none⟩
    (∀ k ∈ [1, 2, 4, 5],
        let s := slotCell k 1 (fun z => { z with queue := [f 0] })
        s.slotDue = true ∧ s.regs.live = [] ∧ s.rb 0x8000 0 = true ∧ s.ozhOn = true ∧ s.pwr.mode ≠ .shadow ∧ s.ozh.follow = none ∧
          s.ozh.joinCell = none ∧ s.pwr.dozeEvent = false ∧ s.ozh.joinTx = none ∧ s.cellsAt (s.asn % s.sfLen) = [5] ∧ s.cellKind 5 = k ∧ s.cellActs 5 = true ∧ s.mayTransmit 2048 = true ∧ s.rb 0x8000 5 = false ∧
          s.frameFor (s.cellNbr 5) = some (f 0) ∧ (f 0).ackReq = true ∧ s.ozh.fc + 1 < 2 ^ 32 - 2 ^ 16) ∧
      (let s := slotCell 0 1 (fun z => { z with st := 1 })
       s.slotDue = true ∧ s.regs.live = [] ∧ s.rb 0x8000 0 = true ∧ s.ozhOn = true ∧ s.pwr.mode ≠ .shadow ∧ s.ozh.follow = none ∧
         s.ozh.joinCell = none ∧ s.pwr.dozeEvent = false ∧ s.ozh.joinTx = none ∧
         (s.cellsAt (s.asn % s.sfLen)).find? (fun i => s.cellActs i) = none ∧ (∀ i ∈ s.cellsAt (s.asn % s.sfLen), s.cellKind i ≠ 6 ∧ s.cellKind i ≠ 7) ∧ s.ozh.parentJoin = none ∧ s.seeking = true) := by decide +kernel

/-- A coordinator whose switch is due, and what waits behind it. -/
def switching (block : Option (BitVec 40)) (rekey : Bool) (wait : Option (BitVec 40)) : Dev :=
  let s := regAt (meshAt run 0) 0x8010 0x81234
  { s with ozh := { s.ozh with switch := some ⟨10, block⟩, rekeyLater := rekey, blockWait := wait } }

/-- Each timer, due and not. -/
theorem meets_RadioSlotsAndTimersAct_timers :
    let f (tries : Nat) : TxFrame := ⟨2, 1, true, [5, 0, 2, 0, 3, 1], none, tries, 3, 0, none, none, none, none⟩
    run.ackClosed = false ∧
      (∀ n ∈ [2, 3], let g : TxFrame := { f n with fc := some (3, 4) }
        let s : Dev := { meshAt run 1 with ozh := { (meshAt run 1).ozh with await := some (2, 900000, false), queue := [g] } }
        s.ackClosed = true ∧ s.awaited = some g ∧ (g.tries < g.limit ↔ n = 2) ∧ g.heldAt = none ∧ s.ozh.queue.count g ≤ 1) ∧
      (let s := regAt (meshAt run 1) 0x801C 0x3F0000
       { s with ozh := { s.ozh with lastEx := some 0 } }.parentTmoDue = true ∧ s.parentTmoDue = false) ∧
      (let s := meshAt run 1
       { s with ozh := { s.ozh with st := 2, joinWait := some 10 } }.joinRetryDue = true ∧
         { s with ozh := { s.ozh with rescanAt := some 10 } }.rescanDue = true) ∧
      (let g : TxFrame := { f 0 with heldAt := some 3 }
       let s : Dev := { meshAt (runAt 1700000000) 1 with ozh := { (meshAt run 1).ozh with held := [g] } }
       s.heldExpired = some g ∧ s.ozhOn = true ∧ s.ozh.held.count g ≤ 1) ∧
      (run.joinRetryDue = false ∧ run.rescanDue = false ∧ run.heldExpired = none ∧ run.ozhOn = false ∧ run.switchDue = false) ∧
      (switching (some 3) true none).switchDue = true ∧ (switching none false none).switchDue = true ∧
      (switching none true none).switchDue = true ∧ (switching none true (some 5)).switchDue = true ∧
      (switching none true none).isCoord = true ∧ (switching none true none).flt.dbgHalt = false := by decide +kernel

/-! ### Values that the spec and the published algorithms give -/

/-- The check values of CRC-32, CRC-16 and CRC-24 over the digits 1 to 9. -/
theorem test_crc_check_values :
    let digits : List Byte := [0x31, 0x32, 0x33, 0x34, 0x35, 0x36, 0x37, 0x38, 0x39]
    crc32 digits = 0xCBF43926 ∧ crc16 digits = 0x29B1 ∧ crc24 digits = 0x21CF02 := by decide +kernel

/-- FIPS 197, appendix C.1. -/
theorem test_aes_block :
    aesBlock 0x000102030405060708090A0B0C0D0E0F (beBytes 0x00112233445566778899AABBCCDDEEFF 16) =
      beBytes 0x69C4E0D86A7B0430D8CDB78070B4C55A 16 := by decide +kernel

/-- NIST SP 800-38B, appendix D.1: no message, and one of 16 bytes. -/
theorem test_aes_cmac :
    aesCmac 0x2B7E151628AED2A6ABF7158809CF4F3C [] = 0xBB1D6929E95937287FA37D129B756746 ∧
      aesCmac 0x2B7E151628AED2A6ABF7158809CF4F3C (beBytes 0x6BC1BEE22E409F96E93D7E117393172A 16) = 0x070A16B46B4D4144F79BDD9DD04A287C := by
  decide +kernel

/-- "A cue across the short-wheel wrap" (chapter 1). -/
theorem test_short_wheel_wrap :
    resolve (2 ^ 48 + 4096) 0xFFFFFFFFF000 = 2 ^ 48 - 4096 ∧ resolve (2 ^ 48 + 4096) 0x3000 = 2 ^ 48 + 4096 + 8192 := by decide +kernel

/-- "Tempo periods" (chapter 1): 120, 128 and 133 BPM. -/
theorem test_tempo_periods :
    tempoPq 12000 = 65536 * 98304000 ∧ tempoPq 12800 = 65536 * 92160000 ∧ tempoPq 13300 = 65536 * 88695338 + 0x588B := by decide +kernel

/-- "Setting up the Marrow riser" (chapter 6): the lower limit, the pulse at mid and at low level, and the probe. -/
theorem test_string_pulses :
    dLo 131072 = 127140 ∧ pulseWidth 8192 64000 131072 0 = 64000 ∧ pulseWidth 8192 320 131072 0 = 320 ∧ probeWidth 8192 = 16 * 393 := by
  decide +kernel

/-- "Key 40 at warm white" and "A dim key and its probe" (chapter 7). -/
theorem test_matrix_widths :
    posWidth true 0 2 6 16383 = 4095 ∧ posWidth true 0 2 7 4096 = 1024 ∧ (upTo 4).map (fun f => posWidth true f 2 8 25) = [6, 6, 7, 6] ∧
      chanRow 150 = 2 ∧ chanCol 150 = 6 ∧ chanRow 264 = 3 ∧ chanCol 264 = 56 := by decide +kernel

/-- "Die derating on the Marrow riser" and the trim of "A correction under the rate limit" (chapter 8). -/
theorem test_colour_factors :
    derateAt 110 20 40 (16 * 118) = 27526 ∧ derateAt 110 20 40 (16 * 117) = 28181 ∧ chainD 65535 [32768, 27526] = 880818 ∧
      chainD 32768 [33669] = 538704 := by decide +kernel

/-- "Breathing panel", "Idle chase" and "Beat pulse" (chapter 9). -/
theorem test_ripener_curves :
    run.curve 3 32768 = 32768 ∧ blend 6554 45875 32768 = 26214 ∧ run.curve 4 32768 = 3855 ∧ blend 65535 6554 16384 = 50789 ∧
      run.curve 0 23374 = 23374 ∧ blend 65535 6554 23374 = 44498 := by decide +kernel

/-- Clocks 12, 76 and 80 of "MIDI 1.0 input on HA3" (chapter 10), counted from the edge. -/
theorem test_harp_clocks :
    let h : Harp := { r := 1 }
    h.clockTick 201327 12 = 9438 ∧ h.clockTick 201327 76 = 59769 ∧ h.clockTick 201327 80 = 62915 := by decide +kernel

/-- Air times of 10 and 39 bytes (chapter 14), rounded up to whole ticks. -/
theorem test_air_times : airTicks 10 = 14943 ∧ airTicks 39 = 37749 := by decide +kernel

/-- The calibration check of "Sealing a Marrow unit" (chapter 15): 10,000 mA. -/
theorem test_rind_current :
    let c : Cal := { shunt := 2000, ki := -3984, kv := -2494, oi := 12400 }
    let w : RindWindow := ⟨20092400, 48120, 0, 196608000, false, [], false⟩
    Int.fdiv (iNum c w) (2000 * 1000000) = 10000 := by decide +kernel

/-! ### One step of a row -/

/-- The device after a command that answers a next state. -/
def after (c : Instr) (s : Dev) : Option Dev :=
  match exec c (st s) with
  | .next t => some t.dev
  | _ => none

/-- The key reflex culture (Table RIP-6) for key 40 struck with velocity 100: EXT and MULI form the position and the level. -/
theorem test_culture_key_reflex :
    (after (.ripExt 11) (ripAt 0x21C00008 { regs := [(3, 0x6428)] })).map (fun s => (s.ripOf 11).a 1) = some 40 ∧
      (after (.ripMuli 11) (ripAt 0x1D400003 { regs := [(1, 40)] })).map (fun s => (s.ripOf 11).a 1) = some 120 ∧
      (after (.ripExt 11) (ripAt 0x22C80007 { regs := [(3, 0x6428)] })).map (fun s => (s.ripOf 11).a 2) = some 100 ∧
      (after (.ripMuli 11) (ripAt 0x1E800204 { regs := [(2, 100)] })).map (fun s => (s.ripOf 11).a 2) = some 51600 := by decide +kernel

/-- Words of the MIDI receiver (Table HRP-6): LDI X, 7, and a shift right of S by 24; BR DEC X to 5 while X is not 0. -/
theorem test_harp_midi_words :
    (after (.hrpLdi 7) (harpAt 0xB407 { st := 1 })).map (fun s => (s.harpOf 7).x) = some 7 ∧
      (after (.hrpAlu 7) (harpAt 0xA0B8 { st := 1, s := 0xF8000000 })).map (fun s => (s.harpOf 7).s) = some 0xF8 ∧
      (after (.hrpBr 7) (harpAt 0xC145 { st := 1, x := 7 })).map (fun s => ((s.harpOf 7).x, (s.harpOf 7).pc)) = some (6, 5) ∧
      (after (.hrpBr 7) (harpAt 0xC145 { st := 1, x := 0 })).map (fun s => (s.harpOf 7).pc) = some 1 := by decide +kernel

/-- "A cued move" (chapter 11): at e = 2,000 the servo of CA0 drives at its limit 117,965 and discards the new acc; at e = 100 it does not. -/
theorem test_servo_limit :
    let at_ (target : Nat) : Car :=
      let s := regsAt run [(0x6124, 0x04C80000), (0x6128, target), (0x612C, 65536), (0x6130, 13107), (0x6134, 117965)]
      { s with seq := [(0, { runs := 1, res := [(0, 1000)] })] }.servo 0 {}
    (at_ 3000).cNext = 117965 ∧ (at_ 3000).acc = 0 ∧ (at_ 1100).cNext = 65536 + 20000 + 1 ∧ (at_ 1100).acc = 400 := by decide +kernel

/-- A LEVEL writes the stepwise value at once; the channel's level waits for its boundary. -/
theorem test_level_waits_for_boundary :
    let d := dsc 0x01 [150, 0, 0xFF, 0xFF, 0, 0, 0, 0, 0, 0, 0, 0, 0, 0, 0, 0, 1]
    (after (.level r0 d) (fed run d)).map (fun s => ((s.chanOf 150).step, (s.chanOf 150).level, (s.chanOf 151).step)) = some (0xFFFF, 0, 0) := by
  decide +kernel

end Sys2Proof.Tests
end

section
/-! SUPPORT. How a claim `Does` about a command on the device is reached, and two small states that refute. -/

namespace Sys2Proof.Machine

/-! ### Claims about a command on the device -/

/-- A command that is an effect `f` on the device does what the state after `f` and `settle` shows. -/
theorem does_of_onDev {c : Instr} {s : State} {P : State → Prop} (f : Dev → Dev) (hc : exec c s = onDev f s) :
    Does c s P ↔ P { s with dev := (f s.dev).settle } := by
  constructor
  · rintro ⟨t, ht, hP⟩
    rw [hc] at ht
    cases ht
    exact hP
  · exact fun hP => ⟨_, hc, hP⟩

/-! ### The step -/

/-- Settles O1: `step` takes the front of the queue apart from the rest. -/
theorem stepRunsFrontCommand : Obligations.StepRunsFrontCommand := fun _ _ => rfl

/-! ### States that refute -/

/-- A device in RUN at a Wheel value that lies on no grid, with the ring engine enabled and whey ring 0, which events go to, running with all its
16 entries free. -/
def wheyRunning : Dev :=
  let s := State.reset.dev
  let s := s.modClk (fun c => { c with now := 400000000, wheel := 1000003, prev := 1000002, running := true, pllLock := true })
  let s := s.modPwr (fun p => { p with mode := .run, wake := .idle, cold := false })
  let s := s.modRing (fun r => { r with bme := true, link := true, abiState := 1, whey := [(0, { st := .running })] })
  (s.setBoth 0x1008 1).setBoth 0x1218 9

/-- The machine with that device. -/
def wheyRunningState : State := { State.reset with dev := wheyRunning }

/-- Refutes O14: a write of 5 to TAIL of the running whey ring 0 is refused LOCKED, but the event CFG_REJECTED that it raises is written to that
ring and advances its TAIL from 0 to 1 (R122), so that the refused field does not keep its value in force. The statement lacks the exception for
the registers of `noteReg`, in which every command may note what it has put on the rings. -/
theorem not_rejectedWriteIsRecorded : ¬ Obligations.RejectedWriteIsRecorded := by
  intro h
  have hclaim := (h wheyRunningState 0 0x121C 5 (by decide +kernel) (by decide) (by decide)).2 (by decide +kernel) (by decide) .locked
    (by decide +kernel)
  rw [does_of_onDev (fun s => s.writeBar0 0 0x121C 4 5) rfl] at hclaim
  obtain ⟨-, -, -, hfields⟩ := hclaim
  have hkept := (hfields ⟨31, 0, .idle .whey, 0, .any⟩ (by decide +kernel) (by decide +kernel) (fun j hj => by cases hj)).1
  revert hkept
  decide +kernel

/-- A SETUP_WRITE that asks for a completion and writes 0 to TAIL of whey ring 0. -/
def tailSetup : Desc :=
  { op := 0x11, flags := 8, seq := 7, target := 0, at48 := 0,
    payload := [0x1C, 0x12] ++ List.replicate 6 0 ++ List.replicate 4 255 ++ List.replicate 8 0 }

/-- The machine of `wheyRunning` with that descriptor at the head of host ring 0, which runs. -/
def tailSetupState : State :=
  { State.reset with
    dev := (wheyRunning.setBoth 0x1118 9).modRing (fun r => { r with curd := [(0, { st := .running, pend := 1, ready := [tailSetup] })] }) }

theorem runs_tailSetup : Runs (.ring 0) tailSetup tailSetupState := by
  unfold Runs
  decide +kernel

/-- Refutes O28: a SETUP_WRITE that writes its present value 0 to TAIL of the running whey ring 0 is accepted, and its own completion is then
written to that ring and advances TAIL from 0 to 1 (R122), so that the idle field does not keep the value written. The statement lacks the
exception for the registers of `noteReg`. -/
theorem not_setupWriteIsMaskedWrite : ¬ Obligations.SetupWriteIsMaskedWrite := by
  intro h
  have hclaim := (h tailSetupState (.ring 0) tailSetup runs_tailSetup (by decide)).1 (by decide +kernel) (by decide +kernel)
    (by decide +kernel) (by decide +kernel)
  rw [does_of_onDev (fun s => s.acceptRow (isOp 0x11) Dev.setupBody (.ring 0) tailSetup) rfl] at hclaim
  obtain ⟨-, -, hfields⟩ := hclaim
  have hfield := hfields ⟨31, 0, .idle .whey, 0, .any⟩ (by decide +kernel)
  rw [if_neg (by decide +kernel)] at hfield
  dsimp only at hfield
  revert hfield
  decide +kernel

end Sys2Proof.Machine
end

section
/-! SUPPORT. Writes of the command registers, whose fields are all WO: nothing is stored, and the bits written as 1 strobe (R10). -/

namespace Sys2Proof.Machine

/-! ### Registers that only strobe -/

/-- The command registers whose strobes the claims below speak of. -/
def strobeOffs : List Nat := [0x2004, 0x3004, 0x3804, 0x4004, 0x5004, 0x7004, 0x8004]

/-- The bits of a register's fields, all WO. -/
def fieldBits (fs : List Fld) : Word := fs.foldl (fun m f => m ||| maskW f.hi f.lo) 0

theorem regRow_strobeOffs : ∀ off ∈ strobeOffs, (regRow off).isNone = false := by decide +kernel

theorem acc_of_mem_strobeOffs : ∀ off ∈ strobeOffs, ∀ f ∈ regFields off, f.acc = .wo := by decide +kernel

/-- A WO field takes every write from a unit that is not a shadow. -/
theorem fieldRefused_wo {s : Dev} {off : Nat} {w : Word} {f : Fld} {v : Nat} (hf : f.acc = .wo) (hs : s.shadowRefuses off = false) :
    s.fieldRefused off w f v = none := by
  simp [Dev.fieldRefused, hf, hs]

theorem storeAll_strobe {s : Dev} {off : Nat} (w mask : Word) (ho : off ∈ strobeOffs) : s.storeAll off w mask = s := by
  unfold Dev.storeAll
  have hwo := acc_of_mem_strobeOffs off ho
  generalize regFields off = fs at hwo
  induction fs with
  | nil => rfl
  | cons f fs ih =>
    rw [List.foldl_cons]
    rw [show (let v := fieldOf w f.hi f.lo; if f.touched mask && (s.fieldRefused off w f v).isNone then s.storeOne off f v else s) = s by
      simp [Dev.storeOne, Dev.storeField, hwo f (by simp)]]
    exact ih fun g hg => hwo g (by simp [hg])

theorem afterStore_strobe {s : Dev} {off : Nat} (w mask : Word) (ho : off ∈ strobeOffs) : s.afterStore s off w mask = s := by
  simp only [strobeOffs, List.mem_cons, List.not_mem_nil, or_false] at ho
  rcases ho with rfl | rfl | rfl | rfl | rfl | rfl | rfl <;> rfl

theorem oneBits_strobe {s : Dev} {off : Nat} (w : Word) (ho : off ∈ strobeOffs) (hs : s.shadowRefuses off = false) :
    s.oneBits off w (BitVec.allOnes 32) = fieldBits (regFields off) &&& w := by
  unfold Dev.oneBits fieldBits
  rw [List.foldl_ext _ (fun m f => m ||| (maskW f.hi f.lo &&& w)) _ fun m f hf => ?_]
  · refine Eq.trans ?_ (List.foldl_hom (· &&& w) (g₂ := fun m f => m ||| (maskW f.hi f.lo &&& w)) (init := (0 : Word)) fun m f => ?_)
    · simp
    · ext i hi
      simp only [BitVec.getElem_or, BitVec.getElem_and]
      cases m[i] <;> cases w[i] <;> simp
  · have hwo := acc_of_mem_strobeOffs off ho f hf
    simp only [hwo, fieldRefused_wo hwo hs, BitVec.and_allOnes]

theorem writeRefused_strobe {s : Dev} {off : Nat} (w mask : Word) (ho : off ∈ strobeOffs) (hs : s.shadowRefuses off = false) :
    s.writeRefused off w mask = none := by
  have hbad : (regFields off).filterMap (fun f => if f.touched mask then s.fieldRefused off w f (fieldOf w f.hi f.lo) else none) = [] := by
    rw [List.filterMap_eq_nil_iff]
    intro f hf
    simp [fieldRefused_wo (acc_of_mem_strobeOffs off ho f hf) hs]
  simp [Dev.writeRefused, hbad]

/-- A write of a command register is its strobes, with the report of a block mask that leaves too few channels. -/
theorem writeReg_strobe {s : Dev} {off : Nat} (src : BitVec 16) (w : Word) (ho : off ∈ strobeOffs) (hc : s.coreOn = true)
    (hs : s.shadowRefuses off = false) :
    s.writeReg src off w =
      if s.maskRefused off w (BitVec.allOnes 32) then (s.strobes off (fieldBits (regFields off) &&& w)).rejectWrite src off .param
      else s.strobes off (fieldBits (regFields off) &&& w) := by
  simp only [Dev.writeReg, regRow_strobeOffs off ho, hc, writeRefused_strobe _ _ ho hs, Dev.putWord, storeAll_strobe _ _ ho,
    afterStore_strobe _ _ ho, oneBits_strobe _ ho hs, Bool.not_true, Bool.false_eq_true, if_false]

theorem shadowRefuses_of_mode {s : Dev} (off : Nat) (h : s.pwr.mode ≠ .shadow) : s.shadowRefuses off = false := by
  simp [Dev.shadowRefuses, h]

theorem shadowRefuses_of_block (s : Dev) {off : Nat} (h : mirBlock off = false) : s.shadowRefuses off = false := by
  simp [Dev.shadowRefuses, h]

theorem maskRefused_of_ne (s : Dev) {off : Nat} (w mask : Word) (h : off ≠ 0x8004) : s.maskRefused off w mask = false := by
  simp [Dev.maskRefused, h]

/-! ### What a COMMIT leaves -/

/-- The register files differ only in what waits for a boundary and in which shadow copies are staged. -/
def SameButCommits (s t : Dev) : Prop :=
  ∃ c g o k, t = s.setRegs { s.regs with commit := c, staged := g, cmOld := o, cmTick := k }

theorem SameButCommits.refl (s : Dev) : SameButCommits s s := ⟨_, _, _, _, rfl⟩

theorem SameButCommits.trans {s t u : Dev} (h : SameButCommits s t) (k : SameButCommits t u) : SameButCommits s u := by
  obtain ⟨_, _, _, _, rfl⟩ := h
  obtain ⟨_, _, _, _, rfl⟩ := k
  exact ⟨_, _, _, _, rfl⟩

theorem SameButCommits.force {s t : Dev} (h : SameButCommits s t) (off : Nat) : t.force off = s.force off := by
  obtain ⟨_, _, _, _, rfl⟩ := h
  rfl

theorem SameButCommits.written {s t : Dev} (h : SameButCommits s t) (off : Nat) : t.written off = s.written off := by
  obtain ⟨_, _, _, _, rfl⟩ := h
  rfl

theorem SameButCommits.writtenBefore {s t : Dev} (h : SameButCommits s t) (off : Nat) : t.writtenBefore off = s.writtenBefore off := by
  obtain ⟨_, _, _, _, rfl⟩ := h
  rfl

/-- Every area is the same: what waits for a boundary belongs to none. -/
theorem SameButCommits.same {s : State} {d : Dev} (h : SameButCommits s.dev d) (a : Area) : a.same s { s with dev := d } := by
  obtain ⟨_, _, _, _, rfl⟩ := h
  exact a.same_refl s

theorem rememberCommit_eq (s : Dev) (off : Nat) : ∃ o k, s.rememberCommit off = { s.regs with cmOld := o, cmTick := k } := by
  unfold Dev.rememberCommit
  simp only
  split <;> split <;> exact ⟨_, _, rfl⟩

theorem sameButCommits_commitReg (s : Dev) (off : Nat) : SameButCommits s (s.commitReg off) := by
  obtain ⟨o, k, hr⟩ := rememberCommit_eq s off
  unfold Dev.commitReg
  simp only [hr]
  split <;> exact ⟨_, _, _, _, rfl⟩

/-- A COMMIT of one register takes its shadow copy as it stood before this tick's writes (R18). -/
theorem commit_commitReg (s : Dev) (off o : Nat) :
    tabGet none (s.commitReg off).regs.commit o = if o = off then some (s.writtenBefore off) else tabGet none s.regs.commit o := by
  obtain ⟨x, k, hr⟩ := rememberCommit_eq s off
  unfold Dev.commitReg
  simp only [hr]
  split <;> simp only [Dev.setRegs_regs, tabGet_tabSet]

theorem sameButCommits_commitEach (xs : List Nat) (s : Dev) : SameButCommits s (xs.foldl Dev.commitReg s) := by
  induction xs generalizing s with
  | nil => exact .refl s
  | cons x xs ih => exact (sameButCommits_commitReg s x).trans (ih _)

theorem commit_commitEach (xs : List Nat) (s : Dev) (o : Nat) :
    tabGet none (xs.foldl Dev.commitReg s).regs.commit o = if o ∈ xs then some (s.writtenBefore o) else tabGet none s.regs.commit o := by
  induction xs generalizing s with
  | nil => simp
  | cons x xs ih =>
    rw [List.foldl_cons, ih, (sameButCommits_commitReg s x).writtenBefore, commit_commitReg]
    by_cases hx : o ∈ xs
    · simp [hx]
    · by_cases ho : o = x <;> simp [hx, ho]

theorem sameButCommits_commitWhere (s : Dev) (p : Nat → Bool) : SameButCommits s (s.commitWhere p) := sameButCommits_commitEach _ s

/-- A COMMIT takes the shadow copy of every register that `p` selects and that has a staged write (R18). -/
theorem commit_commitWhere (s : Dev) (p : Nat → Bool) (o : Nat) :
    tabGet none (s.commitWhere p).regs.commit o =
      if p o = true ∧ o ∈ s.regs.staged.map Prod.fst then some (s.writtenBefore o) else tabGet none s.regs.commit o := by
  rw [Dev.commitWhere, commit_commitEach]
  exact if_congr (by rw [List.mem_filter]; exact And.comm) rfl rfl

/-! ### O4 -/

/-- A COMMIT strobe of a block whose fields wait for a boundary. -/
theorem does_commitStrobe {c : Instr} {s : State} {src : BitVec 16} {off lo hi : Nat} {w : Word} (ho : off ∈ strobeOffs) (hm : off ≠ 0x8004)
    (hc : s.dev.coreOn = true) (hsh : s.dev.pwr.mode ≠ .shadow) (hex : exec c s = onDev (fun d => d.writeReg src off w) s)
    (hst : s.dev.strobes off (fieldBits (regFields off) &&& w) = s.dev.commitWhere (inRange lo hi)) :
    Does c s (fun t => KeepsBut [] s t ∧
      ∀ off, tabGet none t.dev.regs.commit off =
        if lo ≤ off ∧ off < hi ∧ off ∈ s.dev.regs.staged.map Prod.fst then some (s.dev.writtenBefore off)
        else tabGet none s.dev.regs.commit off) := by
  have hw : s.dev.writeReg src off w = s.dev.commitWhere (inRange lo hi) := by
    rw [writeReg_strobe src w ho hc (shadowRefuses_of_mode off hsh), maskRefused_of_ne _ _ _ hm, hst]
    rfl
  have hsame := sameButCommits_commitWhere s.dev (inRange lo hi)
  rw [does_of_onDev _ hex, hw]
  refine ⟨keepsBut_settle [] s _ ?_ fun a _ => hsame.same a, fun o => ?_⟩
  · obtain ⟨_, _, _, _, h⟩ := hsame
    rw [h]
    exact List.suffix_rfl
  · rw [(quiet_settle _).commit, commit_commitWhere]
    simp [inRange, and_assoc]

/-- Settles O4: the strobes of the four blocks are one COMMIT each of the registers in the block's range. -/
theorem commitStrobesTakeShadowCopies : Obligations.CommitStrobesTakeShadowCopies := by
  intro s src hc hsh p hp
  simp only [List.mem_cons, List.not_mem_nil, or_false] at hp
  obtain rfl | rfl | rfl | rfl := hp
  · exact does_commitStrobe (off := 0x2004) (w := 1) (by decide) (by decide) hc hsh rfl rfl
  · exact does_commitStrobe (off := 0x3004) (w := 1) (by decide) (by decide) hc hsh rfl rfl
  · exact does_commitStrobe (off := 0x3804) (w := 0x100) (by decide) (by decide) hc hsh rfl rfl
  · exact does_commitStrobe (off := 0x4004) (w := 1) (by decide) (by decide) hc hsh rfl rfl

end Sys2Proof.Machine
end

section
/-! SUPPORT. Strobes that act at once on the Harps, the classes, the Hoop and the radio's counts. -/

namespace Sys2Proof.Machine

/-! ### Folds over the units of a group -/

/-- A fold of steps that keep a reflexive and transitive relation keeps it. -/
theorem foldl_of_step {σ α : Type} {R : σ → σ → Prop} (hr : ∀ s, R s s) (ht : ∀ {s t u}, R s t → R t u → R s u) {f : σ → α → σ}
    (hf : ∀ s a, R s (f s a)) (xs : List α) (s : σ) : R s (xs.foldl f s) := by
  induction xs generalizing s with
  | nil => exact hr s
  | cons a xs ih => exact ht (hf s a) (ih (f s a))

/-- A fold whose step at `n` changes unit `n` only changes each unit of the list by its own step. -/
theorem foldl_units {σ α : Type} {get : σ → Nat → α} {step : σ → Nat → σ} {f : Nat → α → α}
    (h : ∀ s n m, get (step s n) m = if m = n then f n (get s n) else get s m) {xs : List Nat} (hx : xs.Nodup) (s : σ) (m : Nat) :
    get (xs.foldl step s) m = if m ∈ xs then f m (get s m) else get s m := by
  induction xs generalizing s with
  | nil => simp
  | cons n xs ih =>
    rw [List.nodup_cons] at hx
    rw [List.foldl_cons, ih hx.2, h]
    by_cases hm : m = n
    · subst hm
      simp [hx.1]
    · simp [hm]

/-- The same over the units 0 to `k - 1`. -/
theorem forEach_units {σ α : Type} {get : σ → Nat → α} {step : σ → Nat → σ} {f : Nat → α → α}
    (h : ∀ s n m, get (step s n) m = if m = n then f n (get s n) else get s m) {k m : Nat} (hm : m < k) (s : σ) :
    get (forEach (upTo k) step s) m = f m (get s m) := by
  rw [forEach, upTo, foldl_units h List.nodup_range, if_pos (List.mem_range.2 hm)]

/-! ### Flushes of the Harps' queues -/

/-- Only the Harps differ. -/
def OnlyHarps (s t : Dev) : Prop := ∃ h, t = { s with harp := h }

theorem OnlyHarps.refl (s : Dev) : OnlyHarps s s := ⟨_, rfl⟩

theorem OnlyHarps.trans {s t u : Dev} (h : OnlyHarps s t) (k : OnlyHarps t u) : OnlyHarps s u := by
  obtain ⟨_, rfl⟩ := h
  obtain ⟨_, rfl⟩ := k
  exact ⟨_, rfl⟩

theorem OnlyHarps.keepsBut {s : State} {d : Dev} (h : OnlyHarps s.dev d) : KeepsBut [.harp] s { s with dev := d.settle } := by
  obtain ⟨_, rfl⟩ := h
  refine keepsBut_settle _ s _ List.suffix_rfl fun a ha => ?_
  have hs := a.same_refl s
  cases a
  case harp => simp at ha
  all_goals exact hs

/-- The flushes that a strobe word asks of Harp `n`: its TX queue by bit `n`, its RX queue by bit `8 + n` (R273). -/
def flushStep (b : Word) (s : Dev) (n : Nat) : Dev :=
  strobe b (8 + n) (fun s => s.flushRx n) (strobe b n (fun s => s.flushTx n) s)

/-- What those flushes leave of the Harp. -/
def flushedHarp (b : Word) (n : Nat) (h : Harp) : Harp :=
  { h with tx := if b.toNat.testBit n then [] else h.tx, rx := if b.toNat.testBit (8 + n) then [] else h.rx }

theorem harpOf_setHarp (s : Dev) (n m : Nat) (x : Harp) : (s.setHarp n x).harpOf m = if m = n then x else s.harpOf m :=
  tabGet_tabSet _ _ _ _ _

theorem onlyHarps_flushStep (b : Word) (s : Dev) (n : Nat) : OnlyHarps s (flushStep b s n) := by
  unfold flushStep strobe
  split <;> split <;> exact ⟨_, rfl⟩

theorem harpOf_flushStep (b : Word) (s : Dev) (n m : Nat) :
    (flushStep b s n).harpOf m = if m = n then flushedHarp b n (s.harpOf n) else s.harpOf m := by
  by_cases hm : m = n <;> by_cases ht : b.toNat.testBit n <;> by_cases hr : b.toNat.testBit (8 + n) <;>
    simp [flushStep, strobe, flushedHarp, Dev.flushTx, Dev.flushRx, harpOf_setHarp, hm, ht, hr]

/-- A write of HRP_CMD flushes the queues whose bits it carries as 1. -/
theorem writeReg_hrpCmd {s : Dev} (src : BitVec 16) (w : Word) (hc : s.coreOn = true) (hs : s.pwr.mode ≠ .shadow) :
    s.writeReg src 0x5004 w = forEach (upTo 8) (flushStep (0xFFFF#32 &&& w)) s := by
  have hbits : fieldBits (regFields 0x5004) = 0xFFFF#32 := by decide +kernel
  rw [writeReg_strobe src w (by decide) hc (shadowRefuses_of_mode _ hs), maskRefused_of_ne _ _ _ (by decide), hbits]
  simp only [Dev.strobes, Bool.false_eq_true, if_false, show inRange 0x3200 0x3280 0x5004 = false from rfl,
    show inRange 0x3280 0x3300 0x5004 = false from rfl]
  split
  · next h0 =>
    have hid : ∀ (xs : List Nat), xs.foldl (flushStep (0xFFFF#32 &&& w)) s = s := by
      intro xs
      induction xs with
      | nil => rfl
      | cons x xs ih => simpa [h0, flushStep, strobe] using ih
    exact (hid _).symm
  · rfl

theorem does_flush {c : Instr} {s : State} {src : BitVec 16} {w : Word} {f : Nat → Harp → Harp} (hc : s.dev.coreOn = true)
    (hsh : s.dev.pwr.mode ≠ .shadow) (hex : exec c s = onDev (fun d => d.writeReg src 0x5004 w) s)
    (hf : ∀ n < 8, ∀ h, flushedHarp (0xFFFF#32 &&& w) n h = f n h) :
    Does c s (fun t => KeepsBut [.harp] s t ∧ ∀ n < 8, t.dev.harpOf n = f n (s.dev.harpOf n)) := by
  rw [does_of_onDev _ hex, writeReg_hrpCmd src w hc hsh]
  refine ⟨OnlyHarps.keepsBut (foldl_of_step .refl .trans (onlyHarps_flushStep _) _ _), fun n hn => ?_⟩
  simp only [Dev.harpOf, settle_harp]
  exact (forEach_units (get := Dev.harpOf) (harpOf_flushStep _) hn s.dev).trans (hf n hn _)

theorem testBit_low (b : BitVec 8) {n : Nat} (hn : n < 8) : (0xFFFF#32 &&& b.setWidth 32).toNat.testBit n = b.toNat.testBit n := by
  rw [BitVec.testBit_toNat, BitVec.testBit_toNat]
  decide +kernel +revert

theorem testBit_high (b : BitVec 8) {n : Nat} (hn : n < 8) : (0xFFFF#32 &&& b.setWidth 32).toNat.testBit (8 + n) = false := by
  rw [BitVec.testBit_toNat]
  decide +kernel +revert

theorem testBit_low_shifted (b : BitVec 8) {n : Nat} (hn : n < 8) : (0xFFFF#32 &&& (b.setWidth 32 <<< 8)).toNat.testBit n = false := by
  rw [BitVec.testBit_toNat]
  decide +kernel +revert

theorem testBit_high_shifted (b : BitVec 8) {n : Nat} (hn : n < 8) :
    (0xFFFF#32 &&& (b.setWidth 32 <<< 8)).toNat.testBit (8 + n) = b.toNat.testBit n := by
  rw [BitVec.testBit_toNat, BitVec.testBit_toNat]
  decide +kernel +revert

/-! ### ARM -/

/-- Only the colour stage differs. -/
def OnlyClr (s t : Dev) : Prop := ∃ c, t = { s with clr := c }

theorem OnlyClr.refl (s : Dev) : OnlyClr s s := ⟨_, rfl⟩

theorem OnlyClr.trans {s t u : Dev} (h : OnlyClr s t) (k : OnlyClr t u) : OnlyClr s u := by
  obtain ⟨_, rfl⟩ := h
  obtain ⟨_, rfl⟩ := k
  exact ⟨_, rfl⟩

theorem OnlyClr.keepsBut {s : State} {d : Dev} (h : OnlyClr s.dev d) : KeepsBut [.clr] s { s with dev := d.settle } := by
  obtain ⟨_, rfl⟩ := h
  refine keepsBut_settle _ s _ List.suffix_rfl fun a ha => ?_
  have hs := a.same_refl s
  cases a
  case clr => simp at ha
  all_goals exact hs

/-- Class `k` after ARM: armed where its bit is 1 and its loop is lost or frozen (R228). -/
def armedCls (bits : BitVec 8) (k : Nat) (x : Cls) : Cls :=
  if bits.toNat.testBit k ∧ (x.state = loopLost ∨ x.state = loopFrozen) then { x with armed := true } else x

theorem clsOf_setCls (s : Dev) (k m : Nat) (x : Cls) : (s.setCls k x).clsOf m = if m = k then x else s.clsOf m :=
  tabGet_tabSet _ _ _ _ _

theorem onlyClr_clrArm (s : Dev) (bits : BitVec 8) : OnlyClr s (s.clrArm bits) := by
  refine foldl_of_step .refl .trans (fun s k => ?_) _ s
  split
  · exact ⟨_, rfl⟩
  · exact .refl s

theorem clsOf_clrArm (s : Dev) (bits : BitVec 8) {k : Nat} (hk : k < 8) : (s.clrArm bits).clsOf k = armedCls bits k (s.clsOf k) := by
  refine forEach_units (get := Dev.clsOf) (f := armedCls bits) (fun s n m => ?_) hk s
  by_cases hm : m = n <;> by_cases hb : bits.toNat.testBit n <;>
    by_cases hl : (s.clsOf n).state = loopLost ∨ (s.clsOf n).state = loopFrozen <;>
    simp [armedCls, clsOf_setCls, hm, hb, hl]

/-- The bits of CLR_CMD that ARM is. -/
theorem setWidth_arm (b : BitVec 8) : (fieldBits (regFields 0x3804) &&& b.setWidth 32).setWidth 8 = b ∧
    (fieldBits (regFields 0x3804) &&& b.setWidth 32).toNat.testBit 8 = false := by
  have hbits : fieldBits (regFields 0x3804) = 0x1FF#32 := by decide +kernel
  rw [hbits]
  decide +kernel +revert

theorem clrArm_zero (s : Dev) : s.clrArm 0 = s := by
  simp [Dev.clrArm, forEach, upTo, List.range_succ]

/-- A write of the ARM bits of CLR_CMD. -/
theorem writeReg_arm {s : Dev} (src : BitVec 16) (b : BitVec 8) (hc : s.coreOn = true) (hs : s.pwr.mode ≠ .shadow) :
    s.writeReg src 0x3804 (b.setWidth 32) = s.clrArm b := by
  obtain ⟨hlow, hcommit⟩ := setWidth_arm b
  rw [writeReg_strobe src _ (by decide) hc (shadowRefuses_of_mode _ hs), maskRefused_of_ne _ _ _ (by decide)]
  generalize fieldBits (regFields 0x3804) &&& b.setWidth 32 = w at hlow hcommit
  simp only [Dev.strobes, Bool.false_eq_true, if_false, show inRange 0x3200 0x3280 0x3804 = false from rfl,
    show inRange 0x3280 0x3300 0x3804 = false from rfl]
  split
  · next h0 =>
    have hb : b = 0 := by rw [← hlow, h0]; rfl
    rw [hb, clrArm_zero]
  · simp [strobe, hcommit, hlow]

/-! ### O5 -/

theorem does_flushTx {s : State} (src : BitVec 16) (b : BitVec 8) (hc : s.dev.coreOn = true) (hsh : s.dev.pwr.mode ≠ .shadow) :
    Does (.flushTx src b) s (fun t => KeepsBut [.harp] s t ∧ ∀ n < 8,
      t.dev.harpOf n = if b.toNat.testBit n then { s.dev.harpOf n with tx := [] } else s.dev.harpOf n) :=
  does_flush (f := fun n h => if b.toNat.testBit n then { h with tx := [] } else h) hc hsh rfl fun n hn h => by
    simp only [flushedHarp, testBit_low b hn, testBit_high b hn]
    cases b.toNat.testBit n <;> rfl

theorem does_flushRx {s : State} (src : BitVec 16) (b : BitVec 8) (hc : s.dev.coreOn = true) (hsh : s.dev.pwr.mode ≠ .shadow) :
    Does (.flushRx src b) s (fun t => KeepsBut [.harp] s t ∧ ∀ n < 8,
      t.dev.harpOf n = if b.toNat.testBit n then { s.dev.harpOf n with rx := [] } else s.dev.harpOf n) :=
  does_flush (f := fun n h => if b.toNat.testBit n then { h with rx := [] } else h) hc hsh rfl fun n hn h => by
    simp only [flushedHarp, testBit_low_shifted b hn, testBit_high_shifted b hn]
    cases b.toNat.testBit n <;> rfl

theorem does_clrArm {s : State} (src : BitVec 16) (b : BitVec 8) (hc : s.dev.coreOn = true) (hsh : s.dev.pwr.mode ≠ .shadow) :
    Does (.clrArm src b) s (fun t => KeepsBut [.clr] s t ∧ ∀ k < 8,
      t.dev.clsOf k = if b.toNat.testBit k ∧ ((s.dev.clsOf k).state = loopLost ∨ (s.dev.clsOf k).state = loopFrozen) then
        { s.dev.clsOf k with armed := true } else s.dev.clsOf k) := by
  rw [does_of_onDev (fun d => d.writeReg src 0x3804 (b.setWidth 32)) rfl, writeReg_arm src b hc hsh]
  refine ⟨(onlyClr_clrArm s.dev b).keepsBut, fun k hk => ?_⟩
  simp only [Dev.clsOf, settle_clr]
  exact clsOf_clrArm s.dev b hk

theorem does_rswGo {s : State} (src : BitVec 16) (hc : s.dev.coreOn = true) (hsh : s.dev.pwr.mode ≠ .shadow) :
    Does (.rswGo src) s (fun t => KeepsBut [.hoop] s t ∧ ∃ p o, t.dev.hoop = { s.dev.hoop with rswGo := true, ports := p, own := o }) := by
  have hw : s.dev.writeReg src 0x7004 4 = s.dev.modHoop (fun h => { h with rswGo := true }) := by
    rw [writeReg_strobe src _ (by decide) hc (shadowRefuses_of_mode _ hsh), maskRefused_of_ne _ _ _ (by decide)]
    rfl
  rw [does_of_onDev (fun d => d.writeReg src 0x7004 4) rfl, hw]
  refine ⟨keepsBut_settle _ s _ List.suffix_rfl fun a ha => ?_, ?_⟩
  · have hs := a.same_refl s
    cases a
    case hoop => simp at ha
    all_goals exact hs
  · obtain ⟨p, o, h⟩ := (quiet_settle (s.dev.modHoop (fun h => { h with rswGo := true }))).hoop
    exact ⟨p, o, h⟩

theorem does_statClr {s : State} (src : BitVec 16) (hc : s.dev.coreOn = true) (hsh : s.dev.pwr.mode ≠ .shadow) :
    Does (.statClr src) s (fun t => KeepsBut [.ozh] s t ∧ t.dev.ozh = { s.dev.ozh with
      crcErr := 0, micFail := 0, replay := 0, noAck := 0, ccaBusy := 0, hopDrop := 0, chAtt := [], chFail := [] }) := by
  have hw : s.dev.writeReg src 0x8004 16 = s.dev.statClr := by
    rw [writeReg_strobe src _ (by decide) hc (shadowRefuses_of_mode _ hsh),
      show s.dev.maskRefused 0x8004 16 (BitVec.allOnes 32) = false from rfl]
    rfl
  rw [does_of_onDev (fun d => d.writeReg src 0x8004 16) rfl, hw]
  refine ⟨keepsBut_settle _ s _ List.suffix_rfl fun a ha => ?_, by simp only [settle_ozh]; rfl⟩
  have hs := a.same_refl s
  cases a
  case ozh => simp at ha
  all_goals exact hs

/-- Settles O5: each strobe is one update of the unit it names. -/
theorem strobesActAtOnce : Obligations.StrobesActAtOnce := fun _ src b hc hsh =>
  ⟨does_flushTx src b hc hsh, does_flushRx src b hc hsh, does_clrArm src b hc hsh, does_rswGo src hc hsh, does_statClr src hc hsh⟩

end Sys2Proof.Machine
end

section
/-! SUPPORT. Bit fields of words, and how the fields of one register are stored, taken and kept apart. -/

namespace Sys2Proof.Machine

/-! ### Bit fields -/

theorem getLsbD_maskW (hi lo i : Nat) : (maskW hi lo).getLsbD i = (decide (i < 32) && decide (lo ≤ i) && decide (i < hi + 1)) := by
  rw [maskW, BitVec.getLsbD_ofNat, Nat.testBit_mul_two_pow, Nat.testBit_two_pow_sub_one, Bool.and_assoc]
  congr 1
  rw [← Bool.decide_and, ← Bool.decide_and]
  exact decide_eq_decide.2 (by omega)

theorem getLsbD_setField (w : Word) (hi lo v i : Nat) (hi32 : i < 32) :
    (setField w hi lo v).getLsbD i = if lo ≤ i ∧ i ≤ hi then v.testBit (i - lo) else w.getLsbD i := by
  simp only [setField, BitVec.getLsbD_or, BitVec.getLsbD_and, BitVec.getLsbD_not, getLsbD_maskW, BitVec.getLsbD_ofNat,
    Nat.testBit_mul_two_pow]
  by_cases hl : lo ≤ i <;> by_cases hh : i ≤ hi <;> simp [hi32, hl, hh]

theorem testBit_fieldOf (w : Word) (hi lo i : Nat) : (fieldOf w hi lo).testBit i = (decide (i < hi + 1 - lo) && w.getLsbD (lo + i)) := by
  rw [fieldOf, bits, Nat.testBit_mod_two_pow, Nat.testBit_div_two_pow, BitVec.testBit_toNat, Nat.add_comm i]

/-- A field reads what was written to it. -/
theorem fieldOf_setField_same (w x : Word) {hi lo : Nat} (h : hi < 32) : fieldOf (setField w hi lo (fieldOf x hi lo)) hi lo = fieldOf x hi lo := by
  apply Nat.eq_of_testBit_eq
  intro i
  rw [testBit_fieldOf, testBit_fieldOf]
  by_cases hi' : i < hi + 1 - lo
  · rw [getLsbD_setField _ _ _ _ _ (by omega), if_pos (by omega), testBit_fieldOf]
    simp [hi']
  · simp [hi']

/-- A write to one field leaves a field of other bits as it was. -/
theorem fieldOf_setField_other (w : Word) {hi lo hi' lo' : Nat} (v : Nat) (h : hi' < 32) (hd : hi < lo' ∨ hi' < lo) :
    fieldOf (setField w hi lo v) hi' lo' = fieldOf w hi' lo' := by
  apply Nat.eq_of_testBit_eq
  intro i
  rw [testBit_fieldOf, testBit_fieldOf]
  by_cases hi' : i < hi' + 1 - lo'
  · rw [getLsbD_setField _ _ _ _ _ (by omega), if_neg (by omega)]
  · simp [hi']

/-! ### The fields of a register -/

/-- Fields are well placed in a word: within its 32 bits and apart from one another. -/
def PlacedFields (fs : List Fld) : Prop := (∀ f ∈ fs, f.lo ≤ f.hi ∧ f.hi < 32) ∧ fs.Pairwise (fun f g => f.hi < g.lo ∨ g.hi < f.lo)

/-- The access classes that a register mixes: strobes and sticky bits stand alone, and so do owners. -/
def classesApart (fs : List Fld) : Bool :=
  (fs.all (fun f => f.acc ≠ .w1c && f.acc ≠ .wo) || fs.all (fun f => [.ro, .w1c, .wo, .seal].contains f.acc)) &&
    (fs.all (fun f => !f.liveOn (fun g => match g with
      | .owner _ => true
      | _ => false)) || fs.all (fun f => f.liveOn (fun g => match g with
      | .owner _ => true
      | _ => false)))

/-- What the table guarantees of every register's fields. -/
def goodRow (r : RegRow) : Bool :=
  r.fields.all (fun f => decide (f.lo ≤ f.hi) && decide (f.hi < 32))
    && decide (r.fields.Pairwise (fun f g => f.hi < g.lo ∨ g.hi < f.lo)) && classesApart r.fields

theorem all_ite {α : Type} {c : Prop} [Decidable c] {p : α → Bool} {a b : List α} (ha : a.all p = true) (hb : b.all p = true) :
    (if c then a else b).all p = true := by
  split
  · exact ha
  · exact hb

theorem rowsAt_good (off : Nat) : (rowsAt off).all goodRow = true := by
  unfold rowsAt
  repeat' apply all_ite
  all_goals decide +kernel

/-- A property of every row's fields, and of the empty list, holds of the fields at every offset. -/
theorem regFields_goodRow (off : Nat) : PlacedFields (regFields off) ∧ classesApart (regFields off) = true := by
  unfold regFields
  split
  · next r hr =>
    have h := List.all_eq_true.1 (rowsAt_good off) r (List.mem_of_find?_eq_some hr)
    simp only [goodRow, Bool.and_eq_true, List.all_eq_true, decide_eq_true_eq] at h
    obtain ⟨⟨hin, hap⟩, hcl⟩ := h
    exact ⟨⟨hin, hap⟩, hcl⟩
  · exact ⟨⟨by simp, by simp⟩, rfl⟩

end Sys2Proof.Machine
end

section
/-! SUPPORT. What a register write stores (R10): where each field's value goes, and that nothing after the store touches the register again. -/

namespace Sys2Proof.Machine

/-! ### One register unchanged -/

/-- The register at an offset, in force and as last written, and every note of waiting writes are the same. -/
structure SameReg (off : Nat) (s t : Dev) : Prop where
  force : t.force off = s.force off
  written : t.written off = s.written off
  live : t.regs.live = s.regs.live
  staged : t.regs.staged = s.regs.staged

theorem SameReg.refl (off : Nat) (s : Dev) : SameReg off s s := ⟨rfl, rfl, rfl, rfl⟩

theorem SameReg.trans {off : Nat} {s t u : Dev} (h : SameReg off s t) (k : SameReg off t u) : SameReg off s u :=
  ⟨k.force.trans h.force, k.written.trans h.written, k.live.trans h.live, k.staged.trans h.staged⟩

theorem SameReg.of_regs {off : Nat} {s t : Dev} (h : t.regs = s.regs) : SameReg off s t := by
  exact ⟨by simp [Dev.force, h], by simp [Dev.written, h], by rw [h], by rw [h]⟩

theorem SameReg.of_quiet {off : Nat} {s t : Dev} (hn : noteReg off = false) (h : Quiet s t) : SameReg off s t :=
  ⟨h.force off hn, h.written off hn, h.live, h.staged⟩

theorem sameReg_setFlag (s : Dev) {off o : Nat} (i : Nat) (h : off ≠ o) : SameReg off s (s.setFlag o i) :=
  ⟨tabGet_tabSet_ne' _ _ _ _ _ _ h, rfl, rfl, rfl⟩

/-! ### One field stored -/

/-- What storing a value in a field leaves of it, by its access class (R10). -/
def StoredField (off : Nat) (w : Word) (f : Fld) (s t : Dev) : Prop :=
  match f.acc with
  | .live _ => fieldOf (t.written off) f.hi f.lo = fieldOf w f.hi f.lo ∧ tabGet false t.regs.live off = true ∧
      fieldOf (t.force off) f.hi f.lo = fieldOf (s.force off) f.hi f.lo
  | .staged _ => fieldOf (t.written off) f.hi f.lo = fieldOf w f.hi f.lo ∧ tabGet false t.regs.staged off = true ∧
      fieldOf (t.force off) f.hi f.lo = fieldOf (s.force off) f.hi f.lo
  | .idle _ => fieldOf (t.force off) f.hi f.lo = fieldOf w f.hi f.lo
  | _ => True

/-- A store at an offset that leaves the field `g` as it was, and no waiting write forgotten. -/
structure KeepsField (off : Nat) (g : Fld) (s t : Dev) : Prop where
  force : fieldOf (t.force off) g.hi g.lo = fieldOf (s.force off) g.hi g.lo
  written : fieldOf (t.written off) g.hi g.lo = fieldOf (s.written off) g.hi g.lo
  live : tabGet false s.regs.live off = true → tabGet false t.regs.live off = true
  staged : tabGet false s.regs.staged off = true → tabGet false t.regs.staged off = true

theorem StoredField.keep {off : Nat} {w : Word} {f : Fld} {s t u : Dev} (h : StoredField off w f s t) (k : KeepsField off f t u) :
    StoredField off w f s u := by
  unfold StoredField at h ⊢
  split at h
  · exact ⟨k.written.trans h.1, k.live h.2.1, k.force.trans h.2.2⟩
  · exact ⟨k.written.trans h.1, k.staged h.2.1, k.force.trans h.2.2⟩
  · exact k.force.trans h
  · trivial

theorem StoredField.after {off : Nat} {w : Word} {f : Fld} {s t u : Dev} (k : KeepsField off f s t) (h : StoredField off w f t u) :
    StoredField off w f s u := by
  unfold StoredField at h ⊢
  split at h
  · exact ⟨h.1, h.2.1, h.2.2.trans k.force⟩
  · exact ⟨h.1, h.2.1, h.2.2.trans k.force⟩
  · exact h
  · trivial

theorem remember_eq (s : Dev) (off : Nat) : ∃ b k, s.remember off = { s.regs with before := b, stTick := k } := by
  unfold Dev.remember
  simp only
  split <;> split <;> exact ⟨_, _, rfl⟩

theorem force_setWrittenField (s : Dev) (o hi lo v off : Nat) : (s.setWrittenField o hi lo v).force off = s.force off := by
  obtain ⟨b, k, hr⟩ := remember_eq s o
  simp only [Dev.setWrittenField, hr]
  rfl

theorem written_setWrittenField (s : Dev) (o hi lo v : Nat) :
    (s.setWrittenField o hi lo v).written o = setField (s.written o) hi lo v := by
  obtain ⟨b, k, hr⟩ := remember_eq s o
  simp only [Dev.setWrittenField, hr, Dev.written, Dev.setRegs_regs, tabGet_tabSet_self]

theorem live_setWrittenField (s : Dev) (o hi lo v : Nat) : (s.setWrittenField o hi lo v).regs.live = s.regs.live := by
  obtain ⟨b, k, hr⟩ := remember_eq s o
  simp only [Dev.setWrittenField, hr, Dev.setRegs_regs]

theorem staged_setWrittenField (s : Dev) (o hi lo v : Nat) : (s.setWrittenField o hi lo v).regs.staged = s.regs.staged := by
  obtain ⟨b, k, hr⟩ := remember_eq s o
  simp only [Dev.setWrittenField, hr, Dev.setRegs_regs]

theorem live_markLive (s : Dev) (off : Nat) : tabGet false (s.markLive off).regs.live off = true := by
  simp [Dev.markLive]

theorem staged_markStaged (s : Dev) (off : Nat) : tabGet false (s.markStaged off).regs.staged off = true := by
  simp [Dev.markStaged]

theorem storedField_storeField (s : Dev) (off : Nat) (w : Word) (f : Fld) (hf : f.hi < 32) :
    StoredField off w f s (s.storeField off f (fieldOf w f.hi f.lo)) := by
  unfold StoredField Dev.storeField
  cases f.acc with
  | live g =>
    refine ⟨?_, live_markLive _ off, ?_⟩
    · exact (congrArg (fieldOf · f.hi f.lo) (written_setWrittenField s off f.hi f.lo (fieldOf w f.hi f.lo))).trans (fieldOf_setField_same _ _ hf)
    · exact congrArg (fieldOf · f.hi f.lo) (force_setWrittenField s off f.hi f.lo (fieldOf w f.hi f.lo) off)
  | staged b =>
    refine ⟨?_, staged_markStaged _ off, ?_⟩
    · exact (congrArg (fieldOf · f.hi f.lo) (written_setWrittenField s off f.hi f.lo (fieldOf w f.hi f.lo))).trans (fieldOf_setField_same _ _ hf)
    · exact congrArg (fieldOf · f.hi f.lo) (force_setWrittenField s off f.hi f.lo (fieldOf w f.hi f.lo) off)
  | idle p =>
    simp only [Dev.setBothField, Dev.force, Dev.setRegs_regs, tabGet_tabSet_self]
    exact fieldOf_setField_same _ _ hf
  | _ => trivial

theorem keepsField_storeField (s : Dev) (off v : Nat) {f g : Fld} (hg : g.hi < 32) (hd : f.hi < g.lo ∨ g.hi < f.lo) :
    KeepsField off g s (s.storeField off f v) := by
  unfold Dev.storeField
  cases f.acc with
  | live _ =>
    refine ⟨congrArg (fieldOf · g.hi g.lo) (force_setWrittenField s off f.hi f.lo v off), ?_, fun _ => live_markLive _ off, ?_⟩
    · exact (congrArg (fieldOf · g.hi g.lo) (written_setWrittenField s off f.hi f.lo v)).trans (fieldOf_setField_other _ v hg hd)
    · exact fun h => (congrArg (tabGet false · off) (staged_setWrittenField s off f.hi f.lo v)).trans h
  | staged _ =>
    refine ⟨congrArg (fieldOf · g.hi g.lo) (force_setWrittenField s off f.hi f.lo v off), ?_, ?_, fun _ => staged_markStaged _ off⟩
    · exact (congrArg (fieldOf · g.hi g.lo) (written_setWrittenField s off f.hi f.lo v)).trans (fieldOf_setField_other _ v hg hd)
    · exact fun h => (congrArg (tabGet false · off) (live_setWrittenField s off f.hi f.lo v)).trans h
  | idle _ =>
    refine ⟨?_, ?_, fun h => h, fun h => h⟩
    · simp only [Dev.setBothField, Dev.force, Dev.setRegs_regs, tabGet_tabSet_self]
      exact fieldOf_setField_other _ v hg hd
    · simp only [Dev.setBothField, Dev.written, Dev.setRegs_regs, tabGet_tabSet_self]
      exact fieldOf_setField_other _ v hg hd
  | _ => exact ⟨rfl, rfl, fun h => h, fun h => h⟩

/-! ### All fields of a write stored -/

/-- The values of a word stored in the listed fields of a register. -/
def Dev.storeFields (s : Dev) (off : Nat) (w : Word) (fs : List Fld) : Dev :=
  fs.foldl (fun t f => t.storeField off f (fieldOf w f.hi f.lo)) s

theorem keepsField_storeFields (off : Nat) (w : Word) {g : Fld} (hg : g.hi < 32) {fs : List Fld}
    (hd : ∀ f ∈ fs, f.hi < g.lo ∨ g.hi < f.lo) (s : Dev) : KeepsField off g s (s.storeFields off w fs) := by
  induction fs generalizing s with
  | nil => exact ⟨rfl, rfl, fun h => h, fun h => h⟩
  | cons f fs ih =>
    have hone := keepsField_storeField s off (fieldOf w f.hi f.lo) hg (hd f (by simp))
    have hrest := ih (fun f' hf' => hd f' (by simp [hf'])) (s.storeField off f (fieldOf w f.hi f.lo))
    exact ⟨hrest.force.trans hone.force, hrest.written.trans hone.written, fun h => hrest.live (hone.live h),
      fun h => hrest.staged (hone.staged h)⟩

/-- Every field of a well placed register holds its own value after the store. -/
theorem storedField_storeFields (off : Nat) (w : Word) {fs : List Fld} (hp : PlacedFields fs) (s : Dev) :
    ∀ f ∈ fs, StoredField off w f s (s.storeFields off w fs) := by
  induction fs generalizing s with
  | nil => simp
  | cons f fs ih =>
    obtain ⟨hin, hap⟩ := hp
    have hlt : ∀ g ∈ f :: fs, g.hi < 32 := fun g hg => (hin g hg).2
    obtain ⟨hf, htail⟩ := List.pairwise_cons.1 hap
    have hplaced : PlacedFields fs := ⟨fun g hg => hin g (by simp [hg]), htail⟩
    intro g hg
    obtain rfl | hg := List.mem_cons.1 hg
    · exact (storedField_storeField s off w g (hlt g (by simp))).keep
        (keepsField_storeFields off w (hlt g (by simp)) (fun g' hg' => (hf g' hg').symm) _)
    · exact .after (keepsField_storeField s off _ (hlt g (by simp [hg])) (hf g hg)) (ih hplaced _ g hg)

end Sys2Proof.Machine
end

section
/-! SUPPORT. A register write that nothing refuses (R10, R12): what it stores stays, whatever else it sets off. -/

namespace Sys2Proof.Machine

/-! ### Acceptance -/

theorem fieldRefused_cases {s : Dev} {off : Nat} {w : Word} {f : Fld} {v : Nat} {st : Status} (h : s.fieldRefused off w f v = some st) :
    st = .locked ∨ st = .version ∨ st = .param := by
  unfold Dev.fieldRefused at h
  simp only at h
  repeat' split at h
  all_goals cases h <;> simp

theorem touched_allOnes (f : Fld) (h : f.lo ≤ f.hi ∧ f.hi < 32) : f.touched (BitVec.allOnes 32) = true := by
  have hbit : (fieldOf (BitVec.allOnes 32) f.hi f.lo).testBit 0 = true := by
    rw [testBit_fieldOf, BitVec.getLsbD_allOnes, Bool.and_eq_true, decide_eq_true_eq, decide_eq_true_eq]
    omega
  have hne : fieldOf (BitVec.allOnes 32) f.hi f.lo ≠ 0 := fun h0 => by rw [h0, Nat.zero_testBit] at hbit; cases hbit
  exact decide_eq_true hne

/-- Where a write is not refused, no field that its mask selects is. -/
theorem fieldRefused_of_writeRefused {s : Dev} {off : Nat} {w mask : Word} (h : s.writeRefused off w mask = none) {f : Fld}
    (hf : f ∈ regFields off) (ht : f.touched mask = true) : s.fieldRefused off w f (fieldOf w f.hi f.lo) = none := by
  rw [Option.eq_none_iff_forall_ne_some]
  intro st hst
  have hmem : st ∈ (regFields off).filterMap (fun f => if f.touched mask then s.fieldRefused off w f (fieldOf w f.hi f.lo) else none) :=
    List.mem_filterMap.2 ⟨f, hf, by simp [ht, hst]⟩
  unfold Dev.writeRefused at h
  simp only [List.contains_iff_mem] at h
  rcases fieldRefused_cases hst with rfl | rfl | rfl <;> split_ifs at h

/-! ### The class of a register -/

/-- A field that is live (on no owner's grid), staged or idle. -/
def Fld.stores (f : Fld) : Bool :=
  match f.acc with
  | .live (.owner _) => false
  | .live _ => true
  | .staged _ => true
  | .idle _ => true
  | _ => false

/-- In a register with a field that stores, no field strobes, is sticky or is an owner. -/
theorem noStrobe_of_stores {off : Nat} {g : Fld} (hg : g ∈ regFields off) (hs : g.stores = true) :
    ∀ f ∈ regFields off, f.acc ≠ .w1c ∧ f.acc ≠ .wo ∧ ∀ j, f.acc ≠ .live (.owner j) := by
  have hgood := (regFields_goodRow off).2
  simp only [classesApart, Bool.and_eq_true, Bool.or_eq_true, List.all_eq_true] at hgood
  obtain ⟨hstrobe, howner⟩ := hgood
  have hstrobe : ∀ f ∈ regFields off, f.acc ≠ .w1c ∧ f.acc ≠ .wo := by
    refine hstrobe.elim (fun h f hf => by simpa using h f hf) fun h => ?_
    have hno := h g hg
    unfold Fld.stores at hs
    cases ha : g.acc <;> simp [ha] at hs hno
  have howner : ∀ f ∈ regFields off, ∀ j, f.acc ≠ .live (.owner j) := by
    refine howner.elim (fun h f hf j hj => by simpa [Fld.liveOn, hj] using h f hf) fun h => ?_
    have hall := h g hg
    unfold Fld.stores at hs
    unfold Fld.liveOn at hall
    split at hall
    · next grid ha => cases grid <;> simp [ha] at hs hall
    · simp at hall
  exact fun f hf => ⟨(hstrobe f hf).1, (hstrobe f hf).2, howner f hf⟩

theorem storeOne_eq_storeField (s : Dev) (off : Nat) {f : Fld} (v : Nat) (h : ∀ j, f.acc ≠ .live (.owner j)) :
    s.storeOne off f v = s.storeField off f v := by
  unfold Dev.storeOne
  split
  · next j hj => exact absurd hj (h j)
  · rfl

/-- Where nothing is refused, every field of a register that stores takes its value. -/
theorem storeAll_accepted {s : Dev} {off : Nat} {w : Word} (hr : s.writeRefused off w (BitVec.allOnes 32) = none) {g : Fld}
    (hg : g ∈ regFields off) (hs : g.stores = true) : s.storeAll off w (BitVec.allOnes 32) = s.storeFields off w (regFields off) := by
  refine List.foldl_ext _ _ _ fun t f hf => ?_
  have ht := touched_allOnes f ((regFields_goodRow off).1.1 f hf)
  simp only [ht, fieldRefused_of_writeRefused hr hf ht, Option.isNone_none, Bool.and_self, if_true]
  exact storeOne_eq_storeField t off _ (noStrobe_of_stores hg hs f hf).2.2

theorem oneBits_of_stores (s : Dev) {off : Nat} (w mask : Word) {g : Fld} (hg : g ∈ regFields off) (hs : g.stores = true) :
    s.oneBits off w mask = 0 := by
  unfold Dev.oneBits
  rw [List.foldl_ext _ (fun m _ => m) _ fun m f hf => ?_, List.foldl_fixed]
  obtain ⟨hc, ho, -⟩ := noStrobe_of_stores hg hs f hf
  split
  · next ha _ => exact absurd ha hc
  · next ha _ => exact absurd ha ho
  · rfl

/-! ### What else a write sets off -/

theorem sameReg_event {off : Nat} (hn : noteReg off = false) (s : Dev) (c d : Nat) : SameReg off s (s.eventOk c d) :=
  .of_quiet hn (quiet_eventOk s c d)

theorem sameReg_forEach {off : Nat} {f : Dev → Nat → Dev} (hf : ∀ s n, SameReg off s (f s n)) (xs : List Nat) (s : Dev) :
    SameReg off s (forEach xs f s) := foldl_of_step (SameReg.refl off) SameReg.trans hf xs s

theorem sameReg_tellDerate {off : Nat} (hn : noteReg off = false) (ho : off ≠ 0x3828) (s : Dev) (was now bit detail : Nat) :
    SameReg off s (s.tellDerate was now bit detail) := by
  unfold Dev.tellDerate
  split
  · exact (sameReg_setFlag s bit ho).trans (sameReg_event hn _ _ _)
  · exact .refl off s

theorem sameReg_srcChange {off : Nat} (hn : noteReg off = false) (ho : off ≠ 0x3828) (s : Dev) (k old new : Nat) :
    SameReg off s (s.srcChange k old new) := by
  unfold Dev.srcChange
  simp only
  split
  · refine sameReg_forEach (fun s n => ?_) _ s
    exact .of_regs (Dev.setStr_regs _ _ _)
  · split
    · refine SameReg.trans ?_ (sameReg_tellDerate hn ho _ _ _ _ _)
      exact .of_regs (Dev.setCls_regs _ _ _)
    · exact .refl off s

/-- The work that a write sets off beside its store leaves the register as stored. -/
theorem sameReg_afterStore {off : Nat} (hn : noteReg off = false) (old s : Dev) (w mask : Word) :
    SameReg off s (old.afterStore s off w mask) := by
  unfold Dev.afterStore
  simp only
  split_ifs with _ _ _ hsrc
  · exact .of_regs rfl
  · exact .of_regs rfl
  · exact .refl off s
  · exact sameReg_srcChange hn (by rintro rfl; simp [inRange] at hsrc) s _ _ _
  · unfold Dev.judgeAbi
    split_ifs <;> exact .of_regs rfl
  · exact .of_regs rfl
  · exact .refl off s

/-- An accepted write of a register that stores: its fields hold what was stored in them. -/
theorem storedField_writeReg {s : Dev} (src : BitVec 16) {off : Nat} {w : Word} (hc : s.coreOn = true) (hn : noteReg off = false)
    (hr : s.writeRefused off w (BitVec.allOnes 32) = none) (hm : s.maskRefused off w (BitVec.allOnes 32) = false) {f : Fld}
    (hf : f ∈ regFields off) (hs : f.stores = true) : StoredField off w f s (s.writeReg src off w).settle := by
  have hrow : (regRow off).isNone = false := by
    cases h : regRow off
    · simp [regFields, h] at hf
    · rfl
  have hw : s.writeReg src off w = s.afterStore (s.storeFields off w (regFields off)) off w (BitVec.allOnes 32) := by
    simp only [Dev.writeReg, hrow, hc, hr, hm, Dev.putWord, storeAll_accepted hr hf hs, oneBits_of_stores s _ _ hf hs, Bool.not_true,
      Bool.false_eq_true, if_false]
    simp [Dev.strobes]
  rw [hw]
  have hsame := (sameReg_afterStore hn s (s.storeFields off w (regFields off)) w (BitVec.allOnes 32)).trans (.of_quiet hn (quiet_settle _))
  exact (storedField_storeFields off w (regFields_goodRow off).1 s f hf).keep
    ⟨congrArg (fieldOf · f.hi f.lo) hsame.force, congrArg (fieldOf · f.hi f.lo) hsame.written, fun h => by rw [hsame.live]; exact h,
      fun h => by rw [hsame.staged]; exact h⟩

/-- Settles O13: an accepted write stores each field by its class, and neither what it sets off nor `settle` touches the register again. -/
theorem registerWriteFollowsAccessClass : Obligations.RegisterWriteFollowsAccessClass := by
  intro s src off v hc hoff hn hr _ hm
  rw [does_of_onDev (fun d => d.writeBar0 src off 4 (v.setWidth 64)) rfl]
  have hw : s.dev.writeBar0 src off 4 (v.setWidth 64) = s.dev.writeReg src off v := by
    rw [Dev.writeBar0, if_pos (by simp [hoff]), BitVec.setWidth_setWidth_of_le _ (by decide), BitVec.setWidth_eq]
  rw [hw]
  refine ⟨rfl, fun f hf => ?_⟩
  have hstored := fun hs => storedField_writeReg src hc hn hr hm hf hs
  unfold StoredField Fld.stores at hstored
  split
  · next g ha =>
    intro hown
    have hg : (match g with
      | .owner _ => false
      | _ => true) = true := by
      cases g <;> simp at hown ⊢
    cases g <;> simp_all
  · next b ha => simpa [ha] using hstored
  · next p ha => simpa [ha] using hstored
  · trivial

end Sys2Proof.Machine
end

section
/-! SUPPORT. Committed values that take effect at once: the slice fields of the Hoop, and the key and block mask of the radio (R341, R400). -/

namespace Sys2Proof.Machine

/-! ### Tables and folds -/

theorem mem_keys_of_tabGet_ne {α : Type} {d : α} {m : Tab α} {k : Nat} (h : tabGet d m k ≠ d) : k ∈ m.map Prod.fst := by
  induction m with
  | nil => exact absurd rfl h
  | cons e m ih =>
    obtain ⟨j, v⟩ := e
    by_cases hj : j = k
    · simp [hj]
    · simp only [tabGet, hj, if_false] at h
      simp [ih h]

/-- A fold whose step at `n` changes unit `n` only, to a value that a second step keeps, whether or not the list repeats a unit. -/
theorem foldl_units_idem {σ α : Type} {get : σ → Nat → α} {step : σ → Nat → σ} {f : Nat → α → α}
    (h : ∀ s n m, get (step s n) m = if m = n then f n (get s n) else get s m) (hf : ∀ n a, f n (f n a) = f n a) (xs : List Nat) (s : σ)
    (m : Nat) : get (xs.foldl step s) m = if m ∈ xs then f m (get s m) else get s m := by
  induction xs generalizing s with
  | nil => simp
  | cons n xs ih =>
    rw [List.foldl_cons, ih, h]
    by_cases hm : m = n
    · subst hm
      simp [hf]
    · simp [hm]

/-! ### Committed values in force -/

/-- What applying its commit leaves of a register: nothing waits, and its staged fields have the committed values in force. -/
def appliedCommit (off : Nat) : Option Word × Word → Option Word × Word
  | (none, x) => (none, x)
  | (some w, x) => (none, takeFields Fld.isStaged w x (regFields off))

/-- The commit that waits for a register, and the word in force. -/
def Dev.commitAndForce (s : Dev) (off : Nat) : Option Word × Word := (tabGet none s.regs.commit off, s.force off)

theorem commitAndForce_applyCommitReg (s : Dev) (n m : Nat) :
    (s.applyCommitReg n).commitAndForce m = if m = n then appliedCommit n (s.commitAndForce n) else s.commitAndForce m := by
  unfold Dev.applyCommitReg Dev.commitAndForce
  split
  · next h =>
    split
    · next hm => rw [hm, h]; rfl
    · rfl
  · next w h =>
    rw [h]
    by_cases hm : m = n
    · subst hm
      simp [appliedCommit, Dev.forceStaged, Dev.setForce, Dev.force]
    · simp [hm, Dev.forceStaged, Dev.setForce, Dev.force, tabGet_tabSet_ne _ _ _ _ _ hm, tabGet_tabSet_ne' _ _ _ _ _ _ hm]

theorem appliedCommit_idem (n : Nat) (a : Option Word × Word) : appliedCommit n (appliedCommit n a) = appliedCommit n a := by
  obtain ⟨_ | w, x⟩ := a <;> rfl

/-- A COMMIT that acts at once gives every register that `p` selects its committed value. -/
theorem commitAndForce_applyCommit (s : Dev) (p : Nat → Bool) (off : Nat) :
    (s.applyCommit p).commitAndForce off = if p off then appliedCommit off (s.commitAndForce off) else s.commitAndForce off := by
  rw [Dev.applyCommit, foldl_units_idem commitAndForce_applyCommitReg appliedCommit_idem]
  by_cases hp : p off
  · by_cases hk : off ∈ s.regs.commit.map Prod.fst
    · simp only [List.mem_filter, hk, hp, and_self, if_true]
    · have hn : tabGet none s.regs.commit off = none := not_imp_comm.1 (mem_keys_of_tabGet_ne (d := none)) hk
      simp only [List.mem_filter, hk, false_and, if_false, hp, if_true]
      simp [Dev.commitAndForce, hn, appliedCommit]
  · simp only [List.mem_filter, hp, and_false, Bool.false_eq_true, if_false]

/-- Only the words in force and what waits for a boundary differ, with no write remembered or forgotten. -/
def SameButForce (s t : Dev) : Prop := ∃ c f, t = s.setRegs { s.regs with commit := c, force := f }

theorem SameButForce.refl (s : Dev) : SameButForce s s := ⟨_, _, rfl⟩

theorem SameButForce.trans {s t u : Dev} (h : SameButForce s t) (k : SameButForce t u) : SameButForce s u := by
  obtain ⟨_, _, rfl⟩ := h
  obtain ⟨_, _, rfl⟩ := k
  exact ⟨_, _, rfl⟩

theorem sameButForce_applyCommitReg (s : Dev) (off : Nat) : SameButForce s (s.applyCommitReg off) := by
  unfold Dev.applyCommitReg
  split
  · exact .refl s
  · exact ⟨_, _, rfl⟩

theorem sameButForce_applyCommit (s : Dev) (p : Nat → Bool) : SameButForce s (s.applyCommit p) :=
  foldl_of_step .refl .trans sameButForce_applyCommitReg _ s

/-! ### A COMMIT that acts at once -/

/-- The registers that `own` selects committed, and their values in force. -/
def Dev.commitNow (s : Dev) (own : Nat → Bool) : Dev := (s.commitWhere own).applyCommit own

/-- Of a COMMIT that acts at once: nothing but the register file changes, and no word last written. -/
structure OnlyRegs (s t : Dev) : Prop where
  regs : ∃ r, t = s.setRegs r
  written : ∀ off, t.written off = s.written off

theorem onlyRegs_commitNow (s : Dev) (own : Nat → Bool) : OnlyRegs s (s.commitNow own) := by
  obtain ⟨_, _, _, _, hc⟩ := sameButCommits_commitWhere s own
  obtain ⟨_, _, ha⟩ := sameButForce_applyCommit (s.commitWhere own) own
  rw [hc] at ha
  rw [Dev.commitNow, hc, ha]
  exact ⟨⟨_, rfl⟩, fun _ => rfl⟩

theorem force_commitNow_other (s : Dev) {own : Nat → Bool} {off : Nat} (h : own off = false) :
    (s.commitNow own).force off = s.force off := by
  have hf := congrArg Prod.snd (commitAndForce_applyCommit (s.commitWhere own) own off)
  rw [h] at hf
  exact hf.trans ((sameButCommits_commitWhere s own).force off)

/-- A register with a staged write has its shadow copy, as it stood before this tick, in force. -/
theorem force_commitNow_staged (s : Dev) {own : Nat → Bool} {off : Nat} (h : own off = true)
    (hs : off ∈ s.regs.staged.map Prod.fst) :
    (s.commitNow own).force off = takeFields Fld.isStaged (s.writtenBefore off) (s.force off) (regFields off) := by
  have hf := congrArg Prod.snd (commitAndForce_applyCommit (s.commitWhere own) own off)
  have hw : (s.commitWhere own).commitAndForce off = (some (s.writtenBefore off), s.force off) := by
    rw [Dev.commitAndForce, commit_commitWhere, if_pos ⟨h, hs⟩, (sameButCommits_commitWhere s own).force off]
  rw [if_pos h, hw] at hf
  exact hf

/-! ### The slice fields -/

theorem writeReg_hoopCommit {s : Dev} (src : BitVec 16) (hc : s.coreOn = true) :
    s.writeReg src 0x7004 1 = s.commitNow (inRange 0x7000 0x7800) := by
  rw [writeReg_strobe src _ (by decide) hc (shadowRefuses_of_block s rfl), maskRefused_of_ne _ _ _ (by decide)]
  rfl

theorem does_hoopCommit {s : State} (src : BitVec 16) (hc : s.dev.coreOn = true) :
    Does (.hoopCommit src) s (fun t => KeepsBut [.regs] s t ∧ RegsBut (inRange 0x7000 0x7800) s t ∧
      (∀ off, t.dev.written off = s.dev.written off ∨ noteReg off = true) ∧
      ∀ off, 0x7000 ≤ off → off < 0x7800 → noteReg off = false → off ∈ s.dev.regs.staged.map Prod.fst →
        t.dev.force off = takeFields Fld.isStaged (s.dev.writtenBefore off) (s.dev.force off) (regFields off)) := by
  rw [does_of_onDev (fun d => d.writeReg src 0x7004 1) rfl, writeReg_hoopCommit src hc]
  have honly := onlyRegs_commitNow s.dev (inRange 0x7000 0x7800)
  have hforce := fun off => force_commitNow_other s.dev (own := inRange 0x7000 0x7800) (off := off)
  have hstaged := fun off => force_commitNow_staged s.dev (own := inRange 0x7000 0x7800) (off := off)
  have hkeeps : KeepsBut [.regs] s { s with dev := (s.dev.commitNow (inRange 0x7000 0x7800)).settle } := by
    obtain ⟨r, hr⟩ := honly.regs
    rw [hr]
    refine keepsBut_settle _ s _ List.suffix_rfl fun a ha => ?_
    have hsame := a.same_refl s
    cases a
    case regs => simp at ha
    all_goals exact hsame
  have hquiet := quiet_settle (s.dev.commitNow (inRange 0x7000 0x7800))
  generalize s.dev.commitNow (inRange 0x7000 0x7800) = c at *
  generalize c.settle = d at *
  refine ⟨hkeeps, fun off hn ho => ⟨?_, ?_⟩, fun off => ?_, fun off hlo hhi hn hs => ?_⟩
  · exact (hquiet.force off hn).trans (hforce off ho)
  · exact (hquiet.written off hn).trans (honly.written off)
  · cases hn : noteReg off
    · exact .inl ((hquiet.written off hn).trans (honly.written off))
    · exact .inr rfl
  · exact (hquiet.force off hn).trans (hstaged off (by simp [inRange, hlo, hhi]) hs)

end Sys2Proof.Machine
end

section
/-! SUPPORT. A COMMIT of the OZH_ block (R400): the staged key installed, and a staged block mask put in force. -/

namespace Sys2Proof.Machine

/-! ### The key -/

/-- The registers of the staged key. -/
def keyWord (off : Nat) : Bool := [0x8050, 0x8054, 0x8058, 0x805C].contains off

/-- One word of the staged key taken away. -/
def clearKeyWord (s : Dev) (j : Nat) : Dev :=
  let t := s.setBoth (0x8050 + 4 * j) 0
  t.setRegs { t.regs with staged := tabSet false t.regs.staged (0x8050 + 4 * j) false }

/-- The key that the staged words spell, as they stood before this tick. -/
def Dev.stagedKey (s : Dev) : BitVec 128 :=
  BitVec.ofNat 128 ((List.range 16).foldl (fun n i => 256 * n + (s.writtenBefore (0x8050 + 4 * (i / 4))).toNat / 256 ^ (i % 4) % 256) 0)

/-- The radio with a key installed where KEY_SEL points (R400). -/
def withKey (jk : Bool) (k : BitVec 128) (z : Ozh) : Ozh := if jk then { z with jk := some k } else { z with nk := some k }

theorem stagedKey_eq (s : Dev) :
    BitVec.ofNat 128 (((upTo 4).flatMap (fun j => leBytes (s.writtenBefore (0x8050 + 4 * j)).toNat 4)).foldl (fun n b => 256 * n + b.toNat) 0) =
      s.stagedKey := by
  simp [Dev.stagedKey, upTo, List.range_succ, leBytes, BitVec.toNat_ofNat, Nat.div_div_eq_div_mul]

theorem installKey_eq (s : Dev) :
    s.installKey = forEach (upTo 4) clearKeyWord (s.modOzh (withKey (s.rb 0x804C 0) s.stagedKey)) := by
  rw [← stagedKey_eq]
  rfl

/-- Of what a COMMIT does to the key: only the registers of the staged key change, in force, as written and in what is staged. -/
structure OffKey (s t : Dev) : Prop where
  only : ∃ r z, t = { s with regs := r, ozh := z }
  force : ∀ off, keyWord off = false → t.force off = s.force off
  written : ∀ off, keyWord off = false → t.written off = s.written off
  before : ∀ off, keyWord off = false → t.writtenBefore off = s.writtenBefore off
  staged : ∀ off, keyWord off = false → tabGet false t.regs.staged off = tabGet false s.regs.staged off

theorem OffKey.refl (s : Dev) : OffKey s s := ⟨⟨_, _, rfl⟩, fun _ _ => rfl, fun _ _ => rfl, fun _ _ => rfl, fun _ _ => rfl⟩

theorem OffKey.trans {s t u : Dev} (h : OffKey s t) (k : OffKey t u) : OffKey s u := by
  refine ⟨?_, fun off ho => (k.force off ho).trans (h.force off ho), fun off ho => (k.written off ho).trans (h.written off ho),
    fun off ho => (k.before off ho).trans (h.before off ho), fun off ho => (k.staged off ho).trans (h.staged off ho)⟩
  obtain ⟨_, _, rfl⟩ := h.only
  obtain ⟨_, _, hk⟩ := k.only
  exact ⟨_, _, hk⟩

theorem offKey_clearKeyWord (s : Dev) {j : Nat} (hj : j < 4) : OffKey s (clearKeyWord s j) := by
  have hne : ∀ off, keyWord off = false → off ≠ 0x8050 + 4 * j := by
    rintro off ho rfl
    simp [keyWord] at ho
    omega
  have hwritten : ∀ off, keyWord off = false → (clearKeyWord s j).written off = s.written off := fun off ho => by
    simp only [clearKeyWord, Dev.setBoth, Dev.written, Dev.setRegs_regs, tabGet_tabSet_ne' _ _ _ _ _ _ (hne off ho)]
  refine ⟨⟨_, _, rfl⟩, fun off ho => ?_, hwritten, fun off ho => ?_, fun off ho => ?_⟩
  · simp only [clearKeyWord, Dev.setBoth, Dev.force, Dev.setRegs_regs, tabGet_tabSet_ne' _ _ _ _ _ _ (hne off ho)]
  · unfold Dev.writtenBefore
    rw [hwritten off ho]
    rfl
  · simp only [clearKeyWord, Dev.setBoth, Dev.setRegs_regs, tabGet_tabSet_ne _ _ _ _ _ (hne off ho)]

theorem offKey_installKey (s : Dev) : OffKey s s.installKey := by
  have hkey : OffKey s (s.modOzh (withKey (s.rb 0x804C 0) s.stagedKey)) :=
    ⟨⟨_, _, rfl⟩, fun _ _ => rfl, fun _ _ => rfl, fun _ _ => rfl, fun _ _ => rfl⟩
  rw [installKey_eq]
  exact (((hkey.trans (offKey_clearKeyWord _ (j := 0) (by decide))).trans (offKey_clearKeyWord _ (j := 1) (by decide))).trans
    (offKey_clearKeyWord _ (j := 2) (by decide))).trans (offKey_clearKeyWord _ (j := 3) (by decide))

/-- A word of the staged key, in force and as written. -/
def Dev.keyWordOf (s : Dev) (j : Nat) : Word × Word := (s.force (0x8050 + 4 * j), s.written (0x8050 + 4 * j))

theorem keyWordOf_clearKeyWord (s : Dev) (n m : Nat) : (clearKeyWord s n).keyWordOf m = if m = n then (0, 0) else s.keyWordOf m := by
  by_cases hm : m = n
  · simp [clearKeyWord, Dev.keyWordOf, Dev.setBoth, Dev.force, Dev.written, hm]
  · have hne : 0x8050 + 4 * m ≠ 0x8050 + 4 * n := by omega
    simp [clearKeyWord, Dev.keyWordOf, Dev.setBoth, Dev.force, Dev.written, hm, tabGet_tabSet_ne' _ _ _ _ _ _ hne]

theorem keyWordOf_installKey (s : Dev) {j : Nat} (hj : j < 4) : s.installKey.keyWordOf j = (0, 0) := by
  rw [installKey_eq]
  exact forEach_units (get := Dev.keyWordOf) (f := fun _ _ => (0, 0)) keyWordOf_clearKeyWord hj _

theorem ozh_installKey (s : Dev) : s.installKey.ozh = withKey (s.rb 0x804C 0) s.stagedKey s.ozh := by
  rw [installKey_eq]
  rfl

/-! ### The block mask -/

/-- What a committed block mask changes of the radio: at once where no mesh runs, else announced by the coordinator, or kept until the switch
that is pending has ended (R396). -/
def withBlock (coord : Bool) (asn : Nat) (m : BitVec 40) (z : Ozh) : Ozh :=
  { z with
    block := if !z.busy then m else z.block
    switch := if z.busy && coord && z.switch.isNone then some ⟨asn + 32768, some m⟩ else z.switch
    blockWait := if z.busy && coord && z.switch.isSome then some m else z.blockWait }

theorem newBlock_only (s : Dev) (m : BitVec 40) : ∃ z, s.newBlock m = { s with ozh := z } := by
  unfold Dev.newBlock
  split_ifs <;> exact ⟨_, rfl⟩

theorem ozh_newBlock (s : Dev) (m : BitVec 40) : (s.newBlock m).ozh = withBlock s.isCoord s.asn m s.ozh := by
  simp only [Dev.newBlock, withBlock, apply_ite Dev.ozh, Dev.modOzh_ozh]
  generalize s.ozh = z
  cases hb : z.busy <;> cases hc : s.isCoord <;> cases hs : z.switch <;> cases z <;> simp_all

/-! ### The COMMIT of the block -/

/-- Whether a word of the key is staged. -/
def Dev.keyStaged (s : Dev) : Bool := (upTo 4).any (fun j => tabGet false s.regs.staged (0x8050 + 4 * j))

/-- Whether a block mask is staged. -/
def Dev.maskStaged (s : Dev) : Bool := tabGet false s.regs.staged 0x8014 || tabGet false s.regs.staged 0x8018

/-- The registers of the block mask. -/
def maskWord (off : Nat) : Bool := decide (off = 0x8014) || decide (off = 0x8018)

/-- The COMMIT's first half: a staged key installed. -/
def Dev.afterKey (s : Dev) : Dev := if s.keyStaged then s.installKey else s

theorem keyStaged_iff (s : Dev) : s.keyStaged = true ↔ ∃ j < 4, tabGet false s.regs.staged (0x8050 + 4 * j) = true := by
  simp [Dev.keyStaged, upTo]

theorem offKey_afterKey (s : Dev) : OffKey s s.afterKey := by
  unfold Dev.afterKey
  split
  · exact offKey_installKey s
  · exact .refl s

theorem ozh_afterKey (s : Dev) :
    s.afterKey.ozh = if s.keyStaged then withKey (s.rb 0x804C 0) s.stagedKey s.ozh else s.ozh := by
  rw [Dev.afterKey, apply_ite Dev.ozh, ozh_installKey]

theorem keyWordOf_afterKey (s : Dev) {j : Nat} (hj : j < 4) :
    s.afterKey.keyWordOf j = if s.keyStaged then (0, 0) else s.keyWordOf j := by
  rw [Dev.afterKey, apply_ite (Dev.keyWordOf · j), keyWordOf_installKey s hj]

theorem blockStaged_of_offKey {s t : Dev} (h : OffKey s t) : t.blockStaged = s.blockStaged := by
  rw [Dev.blockStaged, Dev.blockStaged, h.before _ rfl, h.before _ rfl]

theorem ozhCommit_eq (s : Dev) :
    s.ozhCommit = if s.maskStaged && !s.blockBad then (s.afterKey.commitNow maskWord).newBlock s.blockStaged else s.afterKey := by
  rw [← blockStaged_of_offKey (offKey_afterKey s)]
  rfl

/-- What a COMMIT of the block leaves. -/
structure OzhCommitted (s c : Dev) : Prop where
  only : ∃ r z, c = { s with regs := r, ozh := z }
  ozh : c.ozh =
    let z := if s.keyStaged then withKey (s.rb 0x804C 0) s.stagedKey s.ozh else s.ozh
    if s.maskStaged && !s.blockBad then withBlock s.isCoord s.asn s.blockStaged z else z
  key : ∀ j < 4, c.keyWordOf j = if s.keyStaged then (0, 0) else s.keyWordOf j
  written : ∀ off, keyWord off = false → c.written off = s.written off
  force : ∀ off, keyWord off = false → maskWord off = false → c.force off = s.force off
  mask : ∀ off, maskWord off = true → (s.maskStaged && !s.blockBad) = true → tabGet false s.regs.staged off = true →
    c.force off = takeFields Fld.isStaged (s.writtenBefore off) (s.force off) (regFields off)
  kept : ∀ off, maskWord off = true → (s.maskStaged && !s.blockBad) = false →
    c.force off = s.force off ∧ tabGet false c.regs.staged off = tabGet false s.regs.staged off

theorem keyWord_of_maskWord {off : Nat} (h : maskWord off = true) : keyWord off = false := by
  simp only [maskWord, Bool.or_eq_true, decide_eq_true_eq] at h
  rcases h with rfl | rfl <;> rfl

theorem maskWord_keyWord {j : Nat} (hj : j < 4) : maskWord (0x8050 + 4 * j) = false := by
  simp [maskWord]
  omega

theorem isCoord_congr {s t : Dev} (h : t.force 0x8000 = s.force 0x8000) : t.isCoord = s.isCoord := by
  unfold Dev.isCoord Dev.ozhRole Dev.rf
  rw [h]

theorem asn_congr {s t : Dev} (hc : t.clk = s.clk) (ho : t.ozh.asnOfs = s.ozh.asnOfs) : t.asn = s.asn := by
  unfold Dev.asn Dev.asnAt Dev.wheelN
  rw [hc, ho]

theorem asnOfs_withKey (jk : Bool) (k : BitVec 128) (z : Ozh) : (withKey jk k z).asnOfs = z.asnOfs := by
  unfold withKey
  split <;> rfl

theorem ozhCommitted_ozhCommit (s : Dev) : OzhCommitted s s.ozhCommit := by
  have hoff := offKey_afterKey s
  have hozh := ozh_afterKey s
  have hkey := fun j hj => keyWordOf_afterKey s (j := j) hj
  obtain ⟨r, z, hz⟩ := hoff.only
  rw [ozhCommit_eq]
  generalize s.afterKey = u at *
  cases hgo : (s.maskStaged && !s.blockBad)
  · simp only [Bool.false_eq_true, if_false]
    exact ⟨hoff.only, by rw [hgo]; exact hozh, hkey, hoff.written, fun off ho _ => hoff.force off ho,
      fun _ _ h => absurd (h.symm.trans hgo) (by decide),
      fun off ho _ => ⟨hoff.force off (keyWord_of_maskWord ho), hoff.staged off (keyWord_of_maskWord ho)⟩⟩
  · simp only [if_true]
    have hnow := onlyRegs_commitNow u maskWord
    have hother : ∀ {off}, maskWord off = false → (u.commitNow maskWord).force off = s.force off ∨ keyWord off = true := fun {off} h =>
      (Bool.eq_false_or_eq_true (keyWord off)).elim .inr fun hk => .inl ((force_commitNow_other u h).trans (hoff.force off hk))
    have hmask : ∀ {off}, maskWord off = true → tabGet false s.regs.staged off = true →
        (u.commitNow maskWord).force off = takeFields Fld.isStaged (s.writtenBefore off) (s.force off) (regFields off) := fun {off} h hs => by
      have hk := keyWord_of_maskWord h
      rw [force_commitNow_staged u h, hoff.before off hk, hoff.force off hk]
      exact mem_keys_of_tabGet_ne (d := false) (by rw [hoff.staged off hk, hs]; decide)
    have hword : ∀ j < 4, (u.commitNow maskWord).keyWordOf j = u.keyWordOf j := fun j hj =>
      Prod.ext (force_commitNow_other u (maskWord_keyWord hj)) (hnow.written _)
    obtain ⟨r', hr'⟩ := hnow.regs
    have hvozh : (u.commitNow maskWord).ozh = u.ozh := by rw [hr', Dev.setRegs_ozh]
    have hcoord : (u.commitNow maskWord).isCoord = s.isCoord :=
      isCoord_congr ((force_commitNow_other u rfl).trans (hoff.force _ rfl))
    have hasn : (u.commitNow maskWord).asn = s.asn := by
      refine asn_congr (by rw [hr', hz]; rfl) ?_
      rw [hvozh, hozh, apply_ite Ozh.asnOfs, asnOfs_withKey, ite_self]
    obtain ⟨z', hz'⟩ := newBlock_only (u.commitNow maskWord) s.blockStaged
    have hnew := ozh_newBlock (u.commitNow maskWord) s.blockStaged
    refine ⟨⟨r', z', ?_⟩, ?_, ?_, ?_, ?_, ?_, fun _ _ h => absurd (h.symm.trans hgo) (by decide)⟩
    · rw [hz', hr', hz]
      rfl
    · rw [hnew, hcoord, hasn, hvozh, hozh, hgo]
      rfl
    · intro j hj
      rw [← hkey j hj, ← hword j hj, hz']
      rfl
    · intro off ho
      rw [← hoff.written off ho, ← hnow.written off, hz']
      rfl
    · intro off hk hm
      refine Eq.trans ?_ ((hother hm).resolve_right (by simp [hk]))
      rw [hz']
      rfl
    · intro off hm _ hs
      refine Eq.trans ?_ (hmask hm hs)
      rw [hz']
      rfl

end Sys2Proof.Machine
end

section
/-! SUPPORT. The report of a block mask that stays staged (R12, Table OZH-8), and O11. -/

namespace Sys2Proof.Machine

/-! ### The report -/

theorem rb_setFlag (s : Dev) (off : Nat) {i : Nat} (hi : i < 32) : (s.setFlag off i).rb off i = true := by
  have hf : (s.setFlag off i).force off = s.force off ||| BitVec.ofNat 32 (2 ^ i) := by
    simp [Dev.setFlag, Dev.noteSet, Dev.setForce, Dev.force]
  rw [Dev.rb, hf, BitVec.testBit_toNat, BitVec.getLsbD_or, BitVec.getLsbD_ofNat]
  simp [hi, Nat.testBit_two_pow_self]

/-- The record of a refused COMMIT of the block: the CFG_REJECT bit of OZH_FLAGS, and the offset and source of the strobe. -/
def Dev.recordMask (s : Dev) (src : BitVec 16) : Dev :=
  (s.setFlag 0x800C 31).modFlt (fun f => { f with cfgOff := 0x8004, cfgSrc := src, cfgCnt := satInc f.cfgCnt })

theorem quiet_rejectMask (s : Dev) (src : BitVec 16) : Quiet (s.recordMask src) (s.rejectWrite src 0x8004 .param) :=
  quiet_event _ _ _ _

/-- The COMMIT's result, with its record where the staged mask is bad. -/
def Dev.recorded (s c : Dev) (src : BitVec 16) : Dev := if s.blockBad then c.recordMask src else c

/-- How a command's report and `settle` leave the result `c` of a COMMIT of the block on the device `s`. -/
structure CommitReported (src : BitVec 16) (s c d : Dev) : Prop where
  force : ∀ off, noteReg off = false → off ≠ 0x800C → d.force off = c.force off
  written : ∀ off, noteReg off = false → d.written off = c.written off
  staged : d.regs.staged = c.regs.staged
  ozh : d.ozh = c.ozh
  good : s.blockBad = false → sameFlt c d ∧ d.force 0x800C = c.force 0x800C
  bad : s.blockBad = true →
    d.flt.cfgOff = 0x8004 ∧ d.flt.cfgSrc = src ∧ d.flt.cfgCnt = satInc c.flt.cfgCnt ∧ d.rb 0x800C 31 = true

theorem commitReported_of_quiet {src : BitVec 16} {s c d : Dev} (h : Quiet (s.recorded c src) d) : CommitReported src s c d := by
  unfold Dev.recorded at h
  cases hb : s.blockBad <;> simp only [hb, Bool.false_eq_true, if_false, if_true] at h
  · exact ⟨fun off hn _ => h.force off hn, h.written, h.staged, h.ozh, fun _ => ⟨h.flt, h.force _ rfl⟩, fun hb' => by simp [hb] at hb'⟩
  · refine ⟨fun off hn ho => (h.force off hn).trans ?_, h.written, h.staged, h.ozh, fun hb' => by simp [hb] at hb', fun _ => ?_⟩
    · exact (sameReg_setFlag c 31 ho).force
    · obtain ⟨l, n, hf⟩ := h.flt
      have hrb : d.rb 0x800C 31 = (c.setFlag 0x800C 31).rb 0x800C 31 := by
        rw [Dev.rb, h.force _ rfl]
        rfl
      rw [hf, hrb, rb_setFlag c _ (by decide)]
      exact ⟨rfl, rfl, rfl, rfl⟩

/-- A quiet change of a device that differs only in the areas named keeps the others. -/
theorem keepsBut_of_quiet (areas : List Area) (s : State) {d e : Dev} (hq : Quiet d e) (ho : s.dev.out <:+ d.out)
    (h : ∀ a, a ∉ areas → a.same s { s with dev := d }) : KeepsBut areas s { s with dev := e } :=
  ⟨rfl, ho.trans hq.out, fun a ha => a.same_trans (h a ha) (a.same_of_quiet { s with dev := d } e hq)⟩

theorem recordMask_only (c : Dev) (src : BitVec 16) : ∃ r f, c.recordMask src = { c with regs := r, flt := f } :=
  ⟨(c.setFlag 0x800C 31).regs, (c.recordMask src).flt, rfl⟩

theorem recorded_only {s c : Dev} (src : BitVec 16) (h : ∃ r z, c = { s with regs := r, ozh := z }) :
    ∃ r z f, s.recorded c src = { s with regs := r, ozh := z, flt := f } := by
  obtain ⟨r, z, hc⟩ := h
  unfold Dev.recorded
  split
  · obtain ⟨r', f', hm⟩ := recordMask_only c src
    exact ⟨r', z, f', by rw [hm, hc]⟩
  · exact ⟨r, z, s.flt, hc⟩

theorem keepsBut_recorded {s : State} {c e : Dev} {src : BitVec 16} (hc : OzhCommitted s.dev c) (hq : Quiet (s.dev.recorded c src) e) :
    KeepsBut [.ozh, .regs, .flt] s { s with dev := e } := by
  obtain ⟨r, z, f, hd⟩ := recorded_only src hc.only
  rw [hd] at hq
  refine keepsBut_of_quiet _ s hq List.suffix_rfl fun a ha => ?_
  have hs := a.same_refl s
  cases a
  case ozh | regs | flt => simp at ha
  all_goals exact hs

theorem writeReg_ozhCommit {s : Dev} (src : BitVec 16) (hc : s.coreOn = true) :
    s.writeReg src 0x8004 1 = if s.blockBad then s.ozhCommit.rejectWrite src 0x8004 .param else s.ozhCommit := by
  have hm : s.maskRefused 0x8004 1 (BitVec.allOnes 32) = s.blockBad := by
    have hbit : ((1 : Word) &&& BitVec.allOnes 32).toNat.testBit 0 = true := by decide
    simp only [Dev.maskRefused, decide_true, Bool.true_and, hbit]
  have hst : s.strobes 0x8004 (fieldBits (regFields 0x8004) &&& 1) = s.ozhCommit := rfl
  rw [writeReg_strobe src _ (by decide) hc (shadowRefuses_of_block s rfl), hm, hst]

/-- The state that OZH_COMMIT leaves is the COMMIT of the block, its record and quiet work. -/
theorem quiet_ozhCommit {s : Dev} (src : BitVec 16) (hc : s.coreOn = true) :
    Quiet (s.recorded s.ozhCommit src) (s.writeReg src 0x8004 1).settle := by
  rw [writeReg_ozhCommit src hc]
  unfold Dev.recorded
  split
  · exact (quiet_rejectMask _ src).trans (quiet_settle _)
  · exact quiet_settle _

/-! ### O11 -/

section
variable {src : BitVec 16} {s c d : Dev} (hc : OzhCommitted s c) (hr : CommitReported src s c d)
include hc hr

/-- Registers that a COMMIT of the block does not touch. -/
theorem regs_ozhCommitted {off : Nat} (hn : noteReg off = false)
    (ho : [0x8014, 0x8018, 0x8050, 0x8054, 0x8058, 0x805C, 0x800C].contains off = false) :
    d.force off = s.force off ∧ d.written off = s.written off := by
  simp only [List.contains_cons, List.contains_nil, Bool.or_false, Bool.or_eq_false_iff, beq_eq_false_iff_ne] at ho
  obtain ⟨h1, h2, h3, h4, h5, h6, h7⟩ := ho
  have hk : keyWord off = false := by simp [keyWord, h3, h4, h5, h6]
  exact ⟨(hr.force off hn h7).trans (hc.force off hk (by simp [maskWord, h1, h2])), (hr.written off hn).trans (hc.written off hk)⟩

theorem keyWords_ozhCommitted {j : Nat} (hj : j < 4) : d.keyWordOf j = if s.keyStaged then (0, 0) else s.keyWordOf j := by
  have hn : noteReg (0x8050 + 4 * j) = false := by
    simp [noteReg]
    omega
  rw [← hc.key j hj]
  exact Prod.ext (hr.force _ hn (by omega)) (hr.written _ hn)

/-- The radio after the COMMIT: only the keys, the mask and its switch differ. -/
theorem ozh_ozhCommitted : d.ozh =
    let z := if s.keyStaged then withKey (s.rb 0x804C 0) s.stagedKey s.ozh else s.ozh
    if s.maskStaged && !s.blockBad then withBlock s.isCoord s.asn s.blockStaged z else z := hr.ozh.trans hc.ozh

theorem onlyKeysAndBlock_ozhCommitted : ∃ n j b w q, d.ozh = { s.ozh with nk := n, jk := j, block := b, switch := w, blockWait := q } := by
  rw [ozh_ozhCommitted hc hr]
  cases s.maskStaged && !s.blockBad <;> cases s.keyStaged <;> cases s.rb 0x804C 0 <;> exact ⟨_, _, _, _, _, rfl⟩

theorem keys_ozhCommitted (hk : s.keyStaged = true) :
    if s.rb 0x804C 0 then d.ozh.jk = some s.stagedKey ∧ d.ozh.nk = s.ozh.nk else d.ozh.nk = some s.stagedKey ∧ d.ozh.jk = s.ozh.jk := by
  rw [ozh_ozhCommitted hc hr, hk]
  cases s.maskStaged && !s.blockBad <;> cases s.rb 0x804C 0 <;> exact ⟨rfl, rfl⟩

theorem noKeys_ozhCommitted (hk : s.keyStaged = false) : d.ozh.nk = s.ozh.nk ∧ d.ozh.jk = s.ozh.jk := by
  rw [ozh_ozhCommitted hc hr, hk]
  cases s.maskStaged && !s.blockBad <;> exact ⟨rfl, rfl⟩

theorem block_ozhCommitted :
    d.ozh.block = (if (s.maskStaged && !s.blockBad) && !s.ozh.busy then s.blockStaged else s.ozh.block) ∧
      d.ozh.switch = (if (s.maskStaged && !s.blockBad) && s.ozh.busy && s.isCoord && s.ozh.switch.isNone then
        some ⟨s.asn + 32768, some s.blockStaged⟩ else s.ozh.switch) ∧
      d.ozh.blockWait = (if (s.maskStaged && !s.blockBad) && s.ozh.busy && s.isCoord && s.ozh.switch.isSome then some s.blockStaged
        else s.ozh.blockWait) := by
  rw [ozh_ozhCommitted hc hr]
  cases s.maskStaged && !s.blockBad <;> cases s.keyStaged <;> cases s.rb 0x804C 0 <;> exact ⟨rfl, rfl, rfl⟩

theorem mask_ozhCommitted {off : Nat} (ho : maskWord off = true) (hn : noteReg off = false) (hf : off ≠ 0x800C) :
    d.written off = s.written off ∧
      ((s.maskStaged && !s.blockBad) = true → tabGet false s.regs.staged off = true →
        d.force off = takeFields Fld.isStaged (s.writtenBefore off) (s.force off) (regFields off)) ∧
      ((s.maskStaged && !s.blockBad) = false →
        d.force off = s.force off ∧ tabGet false d.regs.staged off = tabGet false s.regs.staged off) := by
  refine ⟨(hr.written off hn).trans (hc.written off (keyWord_of_maskWord ho)), fun hgo hs => ?_, fun hgo => ?_⟩
  · exact (hr.force off hn hf).trans (hc.mask off ho hgo hs)
  · obtain ⟨hforce, hstaged⟩ := hc.kept off ho hgo
    exact ⟨(hr.force off hn hf).trans hforce, by rw [hr.staged, hstaged]⟩

theorem flt_ozhCommitted :
    (s.blockBad = false → sameFlt s d ∧ d.force 0x800C = s.force 0x800C) ∧
      (s.blockBad = true → d.flt.cfgOff = 0x8004 ∧ d.flt.cfgSrc = src ∧ d.flt.cfgCnt = satInc s.flt.cfgCnt ∧ d.rb 0x800C 31 = true) := by
  have hflt : c.flt = s.flt := by
    obtain ⟨_, _, h⟩ := hc.only
    rw [h]
  refine ⟨fun hb => ?_, fun hb => by rw [← hflt]; exact hr.bad hb⟩
  obtain ⟨⟨l, n, hl⟩, hforce⟩ := hr.good hb
  exact ⟨⟨l, n, by rw [hl, hflt]⟩, hforce.trans (hc.force _ rfl rfl)⟩

end

/-- Settles O11: the slice fields by the COMMIT of the Hoop's range, the key and the mask by the two halves of the COMMIT of the OZH_ block. -/
theorem fabricCommitsInstall : Obligations.FabricCommitsInstall := by
  intro s src hon
  refine ⟨does_hoopCommit src hon, ?_⟩
  intro keyed masked bad own
  have hkeyed : keyed ↔ s.dev.keyStaged = true := (keyStaged_iff s.dev).symm
  have hmasked : masked = s.dev.maskStaged := rfl
  have hbad : bad = s.dev.blockBad := rfl
  rw [does_of_onDev (fun d => d.writeReg src 0x8004 1) rfl]
  have hq := quiet_ozhCommit src hon
  have hc := ozhCommitted_ozhCommit s.dev
  generalize s.dev.ozhCommit = c at hq hc
  generalize (s.dev.writeReg src 0x8004 1).settle = d at hq
  have hr := commitReported_of_quiet hq
  refine ⟨keepsBut_recorded hc hq, fun off hn ho => regs_ozhCommitted hc hr hn ho, fun hk => ⟨?_, fun j hj => ?_⟩, fun hk => ?_,
    fun off ho => ?_, onlyKeysAndBlock_ozhCommitted hc hr, block_ozhCommitted hc hr, flt_ozhCommitted hc hr⟩
  · exact keys_ozhCommitted hc hr (hkeyed.1 hk)
  · have hword := keyWords_ozhCommitted hc hr hj
    rw [if_pos (hkeyed.1 hk)] at hword
    exact ⟨congrArg Prod.snd hword, congrArg Prod.fst hword⟩
  · have hno : s.dev.keyStaged = false := Bool.eq_false_iff.2 (mt hkeyed.2 hk)
    obtain ⟨hnk, hjk⟩ := noKeys_ozhCommitted hc hr hno
    refine ⟨hnk, hjk, fun j hj => ?_⟩
    have hword := keyWords_ozhCommitted hc hr hj
    rw [if_neg (by simp [hno])] at hword
    exact ⟨congrArg Prod.snd hword, congrArg Prod.fst hword⟩
  · have hmask : maskWord off = true ∧ noteReg off = false ∧ off ≠ 0x800C := by
      simp only [List.mem_cons, List.not_mem_nil, or_false] at ho
      rcases ho with rfl | rfl <;> decide
    obtain ⟨hm, hn, hne⟩ := hmask
    obtain ⟨hwritten, hgo, hkept⟩ := mask_ozhCommitted hc hr hm hn hne
    rw [← hmasked, ← hbad] at hgo hkept
    exact ⟨hwritten, fun h1 h2 => hgo (by simp [h1, h2]), fun h => hkept (by rcases h with h | h <;> simp [h])⟩

end Sys2Proof.Machine
end

section
/-! SUPPORT. What the work of a press keeps (R11): the power state, the clock's tick, the channels, the words in force of the press grid's live
fields below the Hoop's block, and that the flights only land. First the primitives: rings, packets, completions. -/

namespace Sys2Proof.Machine

/-! ### The frame -/

/-- A register below the Hoop's block with a live field of the press grid. -/
def pressReg (off : Nat) : Bool :=
  decide (off < 0x7000) && !noteReg off && (regFields off).any (Fld.liveOn (fun g => g = .press))

theorem noteReg_of_pressReg {off : Nat} (h : pressReg off = true) : noteReg off = false := by
  simp only [pressReg, Bool.and_eq_true, Bool.not_eq_true'] at h
  exact h.1.2

/-- No SETW waits among the packets that the unit has sent to itself. -/
def NoSetw (s : Dev) : Prop := ∀ p ∈ s.hoop.own, p.type ≠ 0x04

/-- What every part of a press's work keeps, from `s` to `t`. -/
structure PressFrame (s t : Dev) : Prop where
  pwr : t.pwr = s.pwr
  now : t.clk.now = s.clk.now
  served : t.clk.served = s.clk.served
  halt : t.flt.dbgHalt = s.flt.dbgHalt
  chan : t.chan = s.chan
  flights : ∀ f ∈ t.ring.flights, f ∈ s.ring.flights
  force : ∀ off, pressReg off = true → t.force off = s.force off
  rsw : s.hoop.rswGo = false → t.hoop.rswGo = false
  swap : s.twin.swapAt = none → t.twin.swapAt = none
  own : NoSetw s → NoSetw t

theorem PressFrame.refl (s : Dev) : PressFrame s s := ⟨rfl, rfl, rfl, rfl, rfl, fun _ h => h, fun _ _ => rfl, id, id, id⟩

theorem PressFrame.trans {s t u : Dev} (h : PressFrame s t) (k : PressFrame t u) : PressFrame s u where
  pwr := k.pwr.trans h.pwr
  now := k.now.trans h.now
  served := k.served.trans h.served
  halt := k.halt.trans h.halt
  chan := k.chan.trans h.chan
  flights := fun f hf => h.flights f (k.flights f hf)
  force := fun off ho => (k.force off ho).trans (h.force off ho)
  rsw := k.rsw ∘ h.rsw
  swap := k.swap ∘ h.swap
  own := k.own ∘ h.own

theorem PressFrame.foldl {α : Type} {f : Dev → α → Dev} (hf : ∀ s a, PressFrame s (f s a)) (xs : List α) (s : Dev) :
    PressFrame s (xs.foldl f s) := foldl_of_step .refl .trans hf xs s

theorem PressFrame.forEach {f : Dev → Nat → Dev} (hf : ∀ s n, PressFrame s (f s n)) (xs : List Nat) (s : Dev) :
    PressFrame s (forEach xs f s) := .foldl hf xs s

theorem PressFrame.ite {s t u : Dev} {c : Prop} [Decidable c] (ht : PressFrame s t) (hu : PressFrame s u) :
    PressFrame s (if c then t else u) := by
  split
  · exact ht
  · exact hu

/-- A quiet change is in the frame where it sends no SETW to the unit itself. -/
theorem PressFrame.of_quiet {s t : Dev} (h : Quiet s t) (ho : NoSetw s → NoSetw t) : PressFrame s t where
  pwr := h.pwr
  now := by rw [h.clk]
  served := by rw [h.clk]
  halt := by
    obtain ⟨_, _, hf⟩ := h.flt
    rw [hf]
  chan := h.chan
  flights := by
    obtain ⟨⟨_, _, _, _, _, _, _, _, hr⟩, -⟩ := h.ring
    rw [hr]
    exact fun _ h => h
  force := fun off hp => h.force off (noteReg_of_pressReg hp)
  rsw := fun hs => by
    obtain ⟨_, _, hh⟩ := h.hoop
    rw [hh]
    exact hs
  swap := fun hs => by
    obtain ⟨_, _, _, _, ht⟩ := h.twin
    rw [ht]
    exact hs
  own := ho

theorem PressFrame.of_quiet_own {s t : Dev} (h : Quiet s t) (ho : t.hoop.own = s.hoop.own) : PressFrame s t :=
  .of_quiet h (fun hs p hp => hs p (ho ▸ hp))

/-! ### Registers -/

theorem frame_setFlag (s : Dev) {o : Nat} (i : Nat) (h : pressReg o = false) : PressFrame s (s.setFlag o i) :=
  { PressFrame.refl s with
    force := fun off hp => (sameReg_setFlag s i (by rintro rfl; simp [h] at hp)).force }

theorem frame_setBoth (s : Dev) {o : Nat} (w : Word) (h : pressReg o = false) : PressFrame s (s.setBoth o w) :=
  { PressFrame.refl s with
    force := fun off hp => tabGet_tabSet_ne' _ _ _ _ _ _ (by rintro rfl; simp [h] at hp) }

theorem pressReg_of_le {o : Nat} (h : 0x7000 ≤ o) : pressReg o = false := by
  simp [pressReg, Nat.not_lt.2 h]

/-! ### Messages and entries -/

@[simp] theorem sendMsix_hoop (s : Dev) (v : Nat) : (s.sendMsix v).hoop = s.hoop := by
  unfold Dev.sendMsix
  simp only
  split <;> rfl

@[simp] theorem putWhey_hoop (s : Dev) (m : Nat) (e : Entry) : (s.putWhey m e).hoop = s.hoop := by
  unfold Dev.putWhey
  simp only
  split
  · exact sendMsix_hoop _ _
  · rfl

theorem frame_putWhey (s : Dev) (m : Nat) (e : Entry) : PressFrame s (s.putWhey m e) :=
  .of_quiet_own (quiet_putWhey s m e) (by rw [putWhey_hoop])

theorem frame_emit (s : Dev) (o : Out) : PressFrame s (s.emit o) := { PressFrame.refl s with }

/-! ### Packets -/

@[simp] theorem queuePacket_own (s : Dev) (k : Nat) (p : Packet) : (s.queuePacket k p).hoop.own = s.hoop.own := by
  unfold Dev.queuePacket
  split <;> rfl

theorem frame_queuePacket (s : Dev) (k : Nat) (p : Packet) : PressFrame s (s.queuePacket k p) :=
  .of_quiet_own (quiet_queuePacket s k p) (queuePacket_own s k p)

theorem noSetw_sendPacket {s : Dev} {type : Nat} (dest : BitVec 12) (tag : BitVec 16) (p : List Byte) (ht : BitVec.ofNat 8 type ≠ 0x04)
    (hs : NoSetw s) : NoSetw (s.sendPacket type dest tag p) := by
  unfold Dev.sendPacket
  simp only
  split
  · intro q hq
    obtain hq | hq := List.mem_append.1 hq
    · exact hs q hq
    · rw [List.mem_singleton.1 hq]
      exact ht
  · split
    · exact fun q hq => hs q (by rwa [queuePacket_own] at hq)
    · exact hs

theorem frame_sendPacket (s : Dev) {type : Nat} (dest : BitVec 12) (tag : BitVec 16) (p : List Byte) (ht : BitVec.ofNat 8 type ≠ 0x04) :
    PressFrame s (s.sendPacket type dest tag p) := .of_quiet (quiet_sendPacket s type dest tag p) (noSetw_sendPacket dest tag p ht)

theorem frame_bcastPacket (s : Dev) (k : Option Nat) (p : Packet) : PressFrame s (s.bcastPacket k p) :=
  .forEach (fun s j => .ite (frame_queuePacket s j p) (.refl s)) _ s

/-! ### Events -/

theorem frame_postEvent (s : Dev) (e : Entry) : PressFrame s (s.postEvent e) := by
  refine .of_quiet (quiet_postEvent s e) fun hs => ?_
  unfold Dev.postEvent
  split
  · split
    · exact noSetw_sendPacket 0 0 _ (by decide) hs
    · exact hs
  · simp only
    split
    · exact fun p hp => hs p (by rwa [putWhey_hoop] at hp)
    · split
      · split <;> exact hs
      · exact hs

theorem frame_eventOk (s : Dev) (c d : Nat) : PressFrame s (s.eventOk c d) := frame_postEvent s _

/-! ### Completions -/

theorem frame_freeCue (s : Dev) (i : Nat) : PressFrame s (s.freeCue i) := .of_quiet_own (quiet_freeCue s i) rfl

theorem frame_loseCompletion (s : Dev) : PressFrame s s.loseCompletion := .of_quiet_own (quiet_loseCompletion s) rfl

theorem frame_freeCue? (s : Dev) (cue : Option Nat) : PressFrame s (match cue with
    | some i => s.freeCue i
    | none => s) := by
  cases cue with
  | some i => exact frame_freeCue s i
  | none => exact .refl s

theorem frame_postCompletion (s : Dev) (m : Nat) (cue : Option Nat) (e : Entry) : PressFrame s (s.postCompletion m cue e) := by
  unfold Dev.postCompletion
  simp only
  split
  · exact (frame_loseCompletion s).trans (frame_freeCue? _ cue)
  · split
    · exact (frame_putWhey s m e).trans (frame_freeCue? _ cue)
    · split
      · exact frame_loseCompletion s
      · cases cue <;> exact { PressFrame.refl s with }

theorem frame_queueFrame {s t : Dev} {f : TxFrame} (h : s.queueFrame f = some t) : PressFrame s t := by
  unfold Dev.queueFrame at h
  split_ifs at h <;> cases h <;> exact { PressFrame.refl s with }

theorem frame_sendCmd (s : Dev) (final : BitVec 16) (p : List Byte) : PressFrame s (s.sendCmd final p) := by
  unfold Dev.sendCmd Dev.originate
  split
  · exact .refl s
  · split
    · split
      · next t ht => exact frame_queueFrame ht
      · exact frame_setFlag s 5 (pressReg_of_le (by decide))
    · exact .refl s

theorem frame_returnEntry (s : Dev) (og : Origin) (cue : Option Nat) (e : Entry) : PressFrame s (s.returnEntry og cue e) := by
  unfold Dev.returnEntry
  simp only
  split
  · exact frame_postCompletion s _ cue e
  · exact .ite (frame_postCompletion s _ cue e) ((frame_loseCompletion s).trans (frame_freeCue? _ cue))
  · exact (frame_sendPacket s _ _ _ (by decide)).trans (frame_freeCue? _ cue)
  · exact (frame_queuePacket s _ _).trans (frame_freeCue? _ cue)
  · exact (frame_sendCmd s _ _).trans (frame_freeCue? _ cue)
  · exact frame_freeCue? s cue

theorem frame_complete (s : Dev) (j : Job) (st : Status) (x : Short) (d : Nat) : PressFrame s (s.complete j st x d) :=
  .ite (frame_returnEntry s _ _ _) (frame_freeCue? s j.cue)

theorem frame_dropFlights (s : Dev) (p : Flight → Bool) : PressFrame s (s.dropFlights p) :=
  { PressFrame.refl s with flights := fun _ hf => List.mem_of_mem_filter hf }

theorem frame_landFlights (s : Dev) (p : Flight → Bool) (st : Status) (d : Nat) : PressFrame s (s.landFlights p st d) := by
  unfold Dev.landFlights
  refine .trans (frame_dropFlights s p) (.foldl (fun t f => ?_) _ _)
  exact frame_complete t _ _ _ _

theorem frame_landFlightsNow (s : Dev) (p : Flight → Bool) (st : Status) (d : Nat) : PressFrame s (s.landFlightsNow p st d) := by
  unfold Dev.landFlightsNow
  refine .trans (frame_dropFlights s p) (.foldl (fun t f => ?_) _ _)
  exact frame_complete t _ _ _ _

theorem frame_landRemote (s : Dev) (p : Flight → Bool) (e : Entry) : PressFrame s (s.landRemote p e) := by
  unfold Dev.landRemote
  refine .trans (frame_dropFlights s p) (.foldl (fun t f => ?_) _ _)
  exact frame_returnEntry t _ _ _

end Sys2Proof.Machine
end

section
/-! SUPPORT. The press-grid work of the clock, the Tempo unit, the rings and the engines keeps the frame of a press. -/

namespace Sys2Proof.Machine

/-! ### Clock and Tempo unit -/

theorem frame_slewPress (s : Dev) : PressFrame s s.slewPress := by
  unfold Dev.slewPress
  split_ifs <;> exact { PressFrame.refl s with }

theorem frame_wordPress (s : Dev) : PressFrame s s.wordPress := by
  unfold Dev.wordPress
  split_ifs <;> exact { PressFrame.refl s with }

theorem frame_setTempo (s : Dev) (t : Tempo) : PressFrame s { s with tempo := t } := { PressFrame.refl s with }

theorem frame_tempoStart (s : Dev) : PressFrame s s.tempoStart := by
  unfold Dev.tempoStart Dev.tempoAnchor
  simp only
  split <;> exact { PressFrame.refl s with }

theorem frame_tempoPress (s : Dev) (src bpm : Nat) : PressFrame s (s.tempoPress src bpm) := by
  unfold Dev.tempoPress
  split
  · exact .refl s
  · exact frame_tempoStart s
  · exact frame_setTempo s _
  · simp only
    split_ifs <;> exact { PressFrame.refl s with }

theorem frame_setRole (s : Dev) (r : WRole) : PressFrame s (s.setRole r) := by
  unfold Dev.setRole
  simp only
  split_ifs <;> exact { PressFrame.refl s with }

theorem frame_refGone (s : Dev) (r : WRole) : PressFrame s (s.refGone r) := .ite (frame_setRole s _) (.refl s)

/-! ### The rings -/

theorem frame_setCurd (s : Dev) (n : Nat) (c : Curd) : PressFrame s (s.setCurd n c) := { PressFrame.refl s with }

theorem frame_setWhey (s : Dev) (m : Nat) (w : Whey) : PressFrame s (s.setWhey m w) := { PressFrame.refl s with }

/-- An update of the rings that leaves the flights alone. -/
theorem frame_modRing (s : Dev) (f : Ring → Ring) (h : (f s.ring).flights = s.ring.flights) : PressFrame s (s.modRing f) :=
  { PressFrame.refl s with flights := fun x hx => by rw [← h]; exact hx }

theorem frame_writeShadow (s : Dev) (n : Fin 8) : PressFrame s (s.writeShadow n) := by
  refine .of_quiet_own (quiet_writeShadow s n) ?_
  unfold Dev.writeShadow
  simp only
  split_ifs <;> rfl

theorem frame_pollDoorbell (s : Dev) (n : Nat) : PressFrame s (s.pollDoorbell n) :=
  .ite ((frame_setCurd s n _).trans (frame_emit _ _)) (.refl s)

theorem frame_pollHead (s : Dev) (m : Nat) : PressFrame s (s.pollHead m) :=
  .ite ((frame_setWhey s m _).trans (frame_emit _ _)) (.refl s)

theorem frame_startFetch (s : Dev) : PressFrame s s.startFetch := by
  unfold Dev.startFetch
  split
  · exact .refl s
  · split
    · exact .refl s
    · exact ((frame_setCurd s _ _).trans (frame_modRing _ _ rfl)).trans (frame_emit _ _)

theorem frame_stopRings (s : Dev) : PressFrame s s.stopRings := by
  refine .foldl (fun s n => .ite ?_ (.refl s)) _ s
  exact frame_setCurd s _ _

theorem frame_curdPress (s : Dev) (n : Fin 8) : PressFrame s (s.curdPress n) := by
  unfold Dev.curdPress
  simp only
  split
  · exact ((frame_setCurd s n _).trans (frame_writeShadow _ n)).trans (frame_pollDoorbell _ n)
  · split
    · exact frame_setCurd s n _
    · exact .ite (frame_pollDoorbell s n) (.refl s)

theorem frame_restartedEntry (s : Dev) : PressFrame s s.restartedEntry := .ite (frame_modRing s _ rfl) (.refl s)

theorem frame_wheyPress (s : Dev) (m : Nat) : PressFrame s (s.wheyPress m) := by
  unfold Dev.wheyPress
  simp only
  split
  · exact ((frame_setWhey s m _).trans (frame_modRing _ _ rfl)).trans (frame_pollHead _ m)
  · split
    · exact frame_setWhey s m _
    · exact (frame_setWhey s m _).trans (.ite (frame_pollHead _ m) (.refl _))

theorem frame_ringPress (s : Dev) : PressFrame s s.ringPress := by
  unfold Dev.ringPress
  simp only
  have hwheys := (frame_stopRings s).trans (.forEach (fun s m => frame_wheyPress s m) (upTo 4) _)
  refine .trans ?_ (frame_startFetch _)
  refine .trans ?_ (.foldl (fun s n => frame_curdPress s n) _ _)
  exact .ite (hwheys.trans (frame_restartedEntry _)) hwheys

/-! ### Ripeners and Harps -/

theorem frame_setRip (s : Dev) (n : Nat) (r : Rip) : PressFrame s (s.setRip n r) := { PressFrame.refl s with }

theorem frame_setHarp (s : Dev) (n : Nat) (h : Harp) : PressFrame s (s.setHarp n h) := { PressFrame.refl s with }

theorem frame_ripPress (s : Dev) (n : Nat) : PressFrame s (s.ripPress n) :=
  .ite ((frame_setRip s n _).trans (frame_eventOk _ _ _)) (.refl s)

theorem frame_harpStart (s : Dev) (n : Nat) : PressFrame s (s.harpStart n) := { PressFrame.refl s with }

theorem frame_harpPress (s : Dev) (n : Nat) : PressFrame s (s.harpPress n) := by
  unfold Dev.harpPress
  simp only
  refine PressFrame.trans (t := if s.rb (hrpOff n) 0 then if (s.harpOf n).st = 0 && s.harpsRun then s.harpStart n else s
    else if (s.harpOf n).st = 0 then s else s.setHarp n { s.harpOf n with st := 0 }) ?_ ?_
  · exact .ite (.ite (frame_harpStart s n) (.refl s)) (.ite (.refl s) (frame_setHarp s n _))
  · exact .ite ((frame_setHarp _ n _).trans (frame_eventOk _ _ _)) (.refl _)

/-! ### Carriers and converters -/

theorem frame_setCar (s : Dev) (n : Nat) (c : Car) : PressFrame s (s.setCar n c) := { PressFrame.refl s with }

theorem frame_setSeq (s : Dev) (q : Nat) (x : Seq) : PressFrame s (s.setSeq q x) := { PressFrame.refl s with }

theorem frame_setTrips (s : Dev) (t : Trips) : PressFrame s { s with trips := t } := { PressFrame.refl s with }

theorem frame_carPress (s : Dev) (n : Nat) : PressFrame s (s.carPress n) :=
  .ite (frame_setCar s n _) (.ite (frame_setCar s n _) (.refl s))

theorem frame_seqTrigger (s : Dev) (trig q : Nat) : PressFrame s (s.seqTrigger trig q) := by
  have hflag : pressReg 0x6808 = false := by decide +kernel
  exact .ite (.ite ((frame_setSeq s q _).trans (frame_setFlag _ q hflag)) (frame_setSeq s q _)) (.refl s)

theorem frame_syncLevel (s : Dev) : PressFrame s s.syncLevel :=
  .ite (.refl s) ((frame_setTrips s _).trans (frame_emit _ _))

theorem frame_tripPress (s : Dev) : PressFrame s s.tripPress :=
  .ite ((frame_setTrips s _).trans (frame_eventOk _ _ _)) (.refl s)

theorem frame_carPresses (s : Dev) : PressFrame s s.carPresses := by
  refine .trans ?_ (frame_tripPress _)
  refine .trans ?_ (frame_syncLevel _)
  exact (PressFrame.forEach (fun s n => frame_carPress s n) _ s).trans (.forEach (fun s q => frame_seqTrigger s 3 q) _ _)

end Sys2Proof.Machine
end

section
/-! SUPPORT. The press-grid work of the Hoop and of the twin keeps the frame of a press, where no SETW is asked for and no swap is fixed. -/

namespace Sys2Proof.Machine

theorem PressFrame.foldl_mem {α : Type} {f : Dev → α → Dev} {xs : List α} (hf : ∀ a ∈ xs, ∀ s, PressFrame s (f s a)) (s : Dev) :
    PressFrame s (xs.foldl f s) := by
  induction xs generalizing s with
  | nil => exact .refl s
  | cons a xs ih => exact (hf a (by simp) s).trans (ih (fun b hb => hf b (by simp [hb])) _)

/-! ### Updates of the Hoop -/

theorem frame_setPort (s : Dev) (k : Nat) (q : HPort) : PressFrame s (s.setPort k q) := { PressFrame.refl s with }

/-- An update of the Hoop that leaves RSW_GO and the unit's own packets alone. -/
theorem frame_modHoop (s : Dev) (f : Hoop → Hoop) (hr : (f s.hoop).rswGo = s.hoop.rswGo) (ho : (f s.hoop).own = s.hoop.own) :
    PressFrame s (s.modHoop f) :=
  { PressFrame.refl s with rsw := fun h => hr.trans h, own := fun h p hp => h p (ho ▸ hp) }

theorem frame_hoopFlag (s : Dev) (i : Nat) : PressFrame s (s.hoopFlag i) := frame_setFlag s i (pressReg_of_le (by decide))

/-! ### The routing table -/

theorem frame_setRoute (s : Dev) (i : Nat) (w : Word) : PressFrame s (s.setBoth (0x7400 + 4 * i) w) :=
  frame_setBoth s w (pressReg_of_le (by omega))

theorem frame_clearAuto (s : Dev) : PressFrame s s.clearAuto := .forEach (fun s i => .ite (frame_setRoute s i 0) (.refl s)) _ s

theorem frame_addAuto (s : Dev) (lo hi port : Nat) : PressFrame s (s.addAuto lo hi port) := by
  unfold Dev.addAuto
  simp only
  split
  · exact .refl s
  · split
    · exact frame_setRoute s _ _
    · exact frame_hoopFlag s 6

theorem frame_removeId (s : Dev) (id : Nat) : PressFrame s (s.removeId id) := by
  refine .forEach (fun s i => ?_) _ s
  refine .ite (.ite (frame_setRoute s i _) (.ite (frame_setRoute s i _) ?_)) (.refl s)
  exact .ite (frame_setRoute s i _) ((frame_setRoute s i _).trans (frame_addAuto _ _ _ _))

/-! ### Enumeration -/

theorem frame_portPacket (s : Dev) (k type : Nat) (p : List Byte) : PressFrame s (s.portPacket k type p) := frame_queuePacket s k _

theorem frame_assignBelow (s : Dev) (base : Nat) : PressFrame s (s.assignBelow base) := by
  unfold Dev.assignBelow
  simp only
  refine .trans ?_ (frame_addAuto _ _ _ _)
  refine .trans ?_ (frame_addAuto _ _ _ _)
  exact PressFrame.trans (.ite (frame_portPacket s _ _ _) (.refl s)) (.ite (frame_portPacket _ _ _ _) (.refl _))

theorem frame_landEither (s : Dev) (tmo : Bool) (p : Flight → Bool) (st st' : Status) (d : Nat) :
    PressFrame s (if tmo then s.landFlightsNow p st d else s.landFlights p st' d) :=
  .ite (frame_landFlightsNow s p st d) (frame_landFlights s p st' d)

theorem frame_enumFinish (s : Dev) (tmo : Bool) : PressFrame s (s.enumFinish tmo) := by
  unfold Dev.enumFinish
  simp only
  refine .trans ?_ (frame_landEither _ tmo _ _ _ _)
  refine .trans ?_ (frame_modHoop _ _ rfl rfl)
  refine .trans ?_ (.foldl (fun s _ => frame_removeId s _) _ _)
  refine .trans ?_ (.foldl (fun s _ => frame_bcastPacket s none _) _ _)
  refine .trans ?_ (.foldl (fun s _ => (frame_hoopFlag s 2).trans (frame_eventOk _ _ _)) _ _)
  exact .ite (frame_hoopFlag s 10) (.refl s)

theorem frame_enumCounted (s : Dev) : PressFrame s s.enumCounted := by
  unfold Dev.enumCounted
  split
  · exact .refl s
  · simp only
    have hcount := frame_modHoop s (fun h => { h with enumN := some (1 + s.subCount 1 + s.subCount 2) }) rfl rfl
    have hbelow := hcount.trans (frame_assignBelow _ 0)
    exact .ite (.ite (hbelow.trans (frame_enumFinish _ false)) hbelow) (hcount.trans (frame_portPacket _ _ _ _))

theorem frame_enumBegin (s : Dev) (epoch : BitVec 16) : PressFrame s (s.enumBegin epoch) := by
  unfold Dev.enumBegin
  simp only
  refine .trans ?_ (frame_enumCounted _)
  refine .trans ?_ (.forEach (fun s k => frame_portPacket s k _ _) _ _)
  refine .trans ?_ (frame_modHoop _ _ rfl rfl)
  exact (frame_clearAuto s).trans (.forEach (fun s k => frame_setPort s k _) _ _)

theorem frame_enumRequest (s : Dev) : PressFrame s s.enumRequest :=
  .ite (frame_modHoop s _ rfl rfl) ((frame_modHoop s _ rfl rfl).trans (frame_enumBegin _ _))

theorem frame_enumNext (s : Dev) : PressFrame s s.enumNext := .ite ((frame_modHoop s _ rfl rfl).trans (frame_enumRequest _)) (.refl s)

/-! ### The Hoop at a press -/

theorem frame_shiftPress (s : Dev) : PressFrame s s.shiftPress := .ite ((frame_modHoop s _ rfl rfl).trans (frame_emit _ _)) (.refl s)

theorem frame_upSend (s : Dev) : PressFrame s s.upSend := by
  unfold Dev.upSend
  split
  · exact .refl s
  · exact (frame_emit s _).trans (frame_setPort _ 0 _)

theorem frame_hoopStop (s : Dev) : PressFrame s s.hoopStop := by
  unfold Dev.hoopStop
  simp only
  refine .trans ?_ (frame_refGone _ _)
  refine .trans ?_ (frame_modHoop _ _ rfl rfl)
  exact (frame_landFlightsNow s _ _ _).trans (.forEach (fun s k => frame_setPort s k _) _ _)

theorem frame_hoopEn (s : Dev) : PressFrame s s.hoopEn :=
  .ite (frame_modHoop s _ rfl rfl) (.ite (frame_hoopStop s) (.refl s))

/-- Without RSW_GO no SETW leaves. -/
theorem rswSend_eq {s : Dev} (h : s.hoop.rswGo = false) : s.rswSend = s := by
  simp [Dev.rswSend, h]

theorem frame_rswSend {s t : Dev} (h : s.hoop.rswGo = false) (hf : PressFrame s t) : PressFrame s t.rswSend := by
  rw [rswSend_eq (hf.rsw h)]
  exact hf

theorem frame_hoopPress {s : Dev} (h : s.hoop.rswGo = false) : PressFrame s s.hoopPress := by
  unfold Dev.hoopPress
  simp only
  split
  · exact frame_rswSend h (frame_hoopEn s)
  · refine .trans ?_ (frame_upSend _)
    refine .trans ?_ (frame_shiftPress _)
    refine frame_rswSend h (.trans ?_ (frame_enumNext _))
    have hcut := PressFrame.ite (c := s.hoopEn.cutOff = true)
      ((frame_hoopEn s).trans (frame_modHoop _ (fun h => { h with holdCnt := h.holdCnt + 1 }) rfl rfl)) (frame_hoopEn s)
    have hauto := hcut.trans (frame_modHoop _ (fun h => { h with enumAuto := false }) rfl rfl)
    exact .ite (.ite (hauto.trans (frame_enumRequest _)) hauto) hcut

/-! ### The unit's own packets -/

theorem frame_consumeCpl (s : Dev) (p : Packet) : PressFrame s (s.consumeCpl p) := frame_landRemote s _ _

theorem frame_consumeEvt (s : Dev) (p : Packet) : PressFrame s (s.consumeEvt p) := .ite (frame_postEvent s _) (.refl s)

theorem frame_ownPackets {s : Dev} (h : NoSetw s) : PressFrame s s.ownPackets := by
  have hnone : PressFrame s (s.modHoop (fun h => { h with own := [] })) :=
    { PressFrame.refl s with own := fun _ _ hp => absurd hp List.not_mem_nil }
  refine hnone.trans (.foldl_mem (fun p hp s => ?_) _)
  split
  · exact frame_consumeCpl s p
  · exact frame_consumeEvt s p
  · next ht => exact absurd (BitVec.eq_of_toNat_eq ht) (h p hp)
  · exact .refl s

/-! ### The twin -/

theorem frame_modTwin (s : Dev) (f : Twin → Twin) (h : (f s.twin).swapAt = s.twin.swapAt) : PressFrame s (s.modTwin f) :=
  { PressFrame.refl s with swap := fun hs => h.trans hs }

theorem frame_partnerSend (fuel : Nat) : ∀ (s : Dev) (cap : Nat), PressFrame s (s.partnerSend fuel cap).2 := by
  induction fuel with
  | zero => exact fun s _ => .refl s
  | succ fuel ih =>
    intro s cap
    unfold Dev.partnerSend
    simp only
    split
    · split
      · exact ((frame_setPort s 2 _).trans (frame_emit _ _)).trans (ih _ _)
      · exact .refl s
    · exact .refl s

theorem frame_rolling (s : Dev) (cap : Nat) : PressFrame s (s.rolling cap).2 := by
  unfold Dev.rolling
  simp only
  refine frame_modTwin s _ ?_
  rfl

theorem frame_rollingUnless (s : Dev) (b : Bool) (cap : Nat) : PressFrame s (if b then (([], s) : List MirRec × Dev) else s.rolling cap).2 := by
  split
  · exact .refl s
  · exact frame_rolling s cap

theorem frame_mirrorSend (s : Dev) : PressFrame s s.mirrorSend := by
  unfold Dev.mirrorSend
  simp only
  refine .trans ?_ (frame_emit _ _)
  refine .trans ?_ (frame_modTwin _ _ rfl)
  refine .trans ?_ (frame_rollingUnless _ _ _)
  refine .trans ?_ (frame_partnerSend 64 _ _)
  refine frame_modTwin s _ ?_
  split <;> rfl

/-- What a unit with a partner sends at a press: the mirror section of an active unit, the packets of another. -/
theorem frame_twinSend (s : Dev) : PressFrame s (if s.twin.role = .active then s.mirrorSend else (s.partnerSend 64 10192).2) :=
  .ite (frame_mirrorSend s) (frame_partnerSend 64 s 10192)

/-- Where no swap is fixed none takes place. -/
theorem swapPress_eq {s : Dev} (h : s.twin.swapAt = none) : s.swapPress = s := by
  simp [Dev.swapPress, h]

theorem frame_twinPress {s : Dev} (h : s.twin.swapAt = none) : PressFrame s s.twinPress := by
  unfold Dev.twinPress
  split
  · exact .refl s
  · rw [swapPress_eq h]
    simp only
    refine .trans ?_ (frame_twinSend _)
    exact ((frame_modTwin s _ rfl).trans (frame_emit _ _)).trans (frame_modTwin _ _ rfl)

end Sys2Proof.Machine
end

section
/-! SUPPORT. The live fields and the latches of a press (R11, R154, R323). -/

namespace Sys2Proof.Machine

/-! ### Live fields in force -/

/-- Which bits of a word are taken from another: those of the fields that `p` selects. -/
def takesBit (p : Fld → Bool) (fs : List Fld) (i : Nat) : Bool := fs.any (fun f => p f && (decide (f.lo ≤ i) && decide (i ≤ f.hi)))

theorem getLsbD_takeFields (p : Fld → Bool) (src dst : Word) (fs : List Fld) {i : Nat} (hi : i < 32) :
    (takeFields p src dst fs).getLsbD i = if takesBit p fs i then src.getLsbD i else dst.getLsbD i := by
  induction fs with
  | nil => rfl
  | cons f fs ih =>
    by_cases hp : p f
    · rw [takeFields, if_pos hp, getLsbD_setField _ _ _ _ _ hi]
      by_cases hin : f.lo ≤ i ∧ i ≤ f.hi
      · rw [if_pos hin, testBit_fieldOf, Nat.add_sub_cancel' hin.1, decide_eq_true (by omega)]
        simp [takesBit, hp, hin]
      · have hout : (decide (f.lo ≤ i) && decide (i ≤ f.hi)) = false := by simpa using hin
        rw [if_neg hin, ih]
        simp [takesBit, hout]
    · rw [takeFields, if_neg hp, ih]
      simp [takesBit, hp]

/-- Taking the same fields twice is taking them once. -/
theorem takeFields_idem (p : Fld → Bool) (src dst : Word) (fs : List Fld) :
    takeFields p src (takeFields p src dst fs) fs = takeFields p src dst fs := by
  apply BitVec.eq_of_getLsbD_eq
  intro i hi
  rw [getLsbD_takeFields _ _ _ _ hi, getLsbD_takeFields _ _ _ _ hi]
  split <;> rfl

/-- The value written before this tick, and the word in force. -/
def Dev.beforeAndForce (s : Dev) (off : Nat) : Word × Word := (s.writtenBefore off, s.force off)

/-- What a press makes of them: the press grid's live fields have the value written in force. -/
def pressed (off : Nat) (a : Word × Word) : Word × Word :=
  (a.1, takeFields (Fld.liveOn (fun g => g = .press)) a.1 a.2 (regFields off))

/-- Only words in force and the notes of live writes differ. -/
def OnlyLive (s t : Dev) : Prop := ∃ f l, t = s.setRegs { s.regs with force := f, live := l }

theorem OnlyLive.refl (s : Dev) : OnlyLive s s := ⟨_, _, rfl⟩

theorem OnlyLive.trans {s t u : Dev} (h : OnlyLive s t) (k : OnlyLive t u) : OnlyLive s u := by
  obtain ⟨_, _, rfl⟩ := h
  obtain ⟨_, _, rfl⟩ := k
  exact ⟨_, _, rfl⟩

theorem onlyLive_applyReg (p : LiveGrid → Bool) (s : Dev) (off : Nat) : OnlyLive s (s.applyReg p off) := by
  unfold Dev.applyReg
  simp only
  split <;> exact ⟨_, _, rfl⟩

theorem force_applyReg (p : LiveGrid → Bool) (s : Dev) (n m : Nat) : (s.applyReg p n).force m =
    if m = n then takeFields (Fld.liveOn p) (s.writtenBefore n) (s.force n) (regFields n) else s.force m := by
  have hset : ∀ w, (s.setForce n w).force m = if m = n then w else s.force m := fun w => by
    by_cases hm : m = n
    · simp [hm, Dev.setForce, Dev.force]
    · simp [hm, Dev.setForce, Dev.force, tabGet_tabSet_ne' _ _ _ _ _ _ hm]
  rw [← hset]
  unfold Dev.applyReg
  simp only
  split <;> rfl

theorem beforeAndForce_applyReg (s : Dev) (n m : Nat) : (s.applyReg (fun g => g = .press) n).beforeAndForce m =
    if m = n then pressed n (s.beforeAndForce n) else s.beforeAndForce m := by
  have hbefore : (s.applyReg (fun g => g = .press) n).writtenBefore m = s.writtenBefore m := by
    obtain ⟨_, _, h⟩ := onlyLive_applyReg (fun g => g = .press) s n
    rw [h]
    rfl
  unfold Dev.beforeAndForce
  rw [hbefore, force_applyReg]
  split
  · next hm => rw [hm]; rfl
  · rfl

/-- The live writes of the press grid in force. -/
def Dev.pressLive (s : Dev) : Dev := s.applyLive (fun _ g => g = .press)

theorem force_pressLive (s : Dev) {off : Nat} (h : off ∈ s.regs.live.map Prod.fst) : s.pressLive.force off =
    takeFields (Fld.liveOn (fun g => g = .press)) (s.writtenBefore off) (s.force off) (regFields off) := by
  have hfold := foldl_units_idem beforeAndForce_applyReg (fun n a => Prod.ext rfl (takeFields_idem _ _ _ _))
    (s.regs.live.map Prod.fst) s off
  rw [if_pos h] at hfold
  exact congrArg Prod.snd hfold

theorem onlyLive_pressLive (s : Dev) : OnlyLive s s.pressLive :=
  foldl_of_step .refl .trans (fun s off => onlyLive_applyReg _ s off) _ s

theorem pressLive_of_nil {s : Dev} (h : s.regs.live = []) : s.pressLive = s := by
  simp [Dev.pressLive, Dev.applyLive, h]

/-! ### The shift values -/

/-- Only the channels differ. -/
def OnlyChan (s t : Dev) : Prop := ∃ c, t = { s with chan := c }

theorem OnlyChan.refl (s : Dev) : OnlyChan s s := ⟨_, rfl⟩

theorem OnlyChan.trans {s t u : Dev} (h : OnlyChan s t) (k : OnlyChan t u) : OnlyChan s u := by
  obtain ⟨_, rfl⟩ := h
  obtain ⟨_, rfl⟩ := k
  exact ⟨_, rfl⟩

theorem OnlyChan.rf {s t : Dev} (h : OnlyChan s t) (off hi lo : Nat) : t.rf off hi lo = s.rf off hi lo := by
  obtain ⟨_, rfl⟩ := h
  rfl

theorem OnlyChan.hold {s t : Dev} (h : OnlyChan s t) : t.hoop.hold = s.hoop.hold := by
  obtain ⟨_, rfl⟩ := h
  rfl

/-- The hold buffer's value for slice channel `i` taken as its shift value. -/
def latchStep (s : Dev) (i : Nat) : Dev :=
  let c := s.rf 0x7244 10 0 + i
  if c ≤ 1039 then s.modChan c (fun x => { x with shift := tabGet 0 s.hoop.hold c }) else s

/-- The device whose latch is noted, with the shift values before it kept once a tick. -/
def Dev.latchNoted (s : Dev) : Dev :=
  let again := decide (s.hoop.latchAt = some s.clk.now)
  let s := s.modHoop (fun h => { h with latchAt := some s.clk.now })
  if again then s else forEach (s.chan.map Prod.fst) (fun s c => s.modChan c (fun x => { x with shiftWas := x.shift })) s

theorem latchShift_eq (s : Dev) : s.latchShift = forEach (upTo (s.latchNoted.rf 0x7244 26 16)) latchStep s.latchNoted := rfl

theorem onlyChan_latchNoted (s : Dev) : OnlyChan (s.modHoop (fun h => { h with latchAt := some s.clk.now })) s.latchNoted := by
  unfold Dev.latchNoted
  simp only
  split
  · exact .refl _
  · exact foldl_of_step .refl .trans (fun s c => ⟨_, rfl⟩) _ _

theorem onlyChan_latchStep (s : Dev) (i : Nat) : OnlyChan s (latchStep s i) := by
  unfold latchStep
  simp only
  split
  · exact ⟨_, rfl⟩
  · exact .refl s

theorem onlyChan_latchShift (s : Dev) : OnlyChan (s.modHoop (fun h => { h with latchAt := some s.clk.now })) s.latchShift := by
  rw [latchShift_eq]
  exact (onlyChan_latchNoted s).trans (foldl_of_step .refl .trans onlyChan_latchStep _ _)

/-- The hold buffer, the first slice channel, and the shift value of slice channel `i`. -/
def Dev.sliceShift (s : Dev) (i : Nat) : Tab (BitVec 16) × Nat × BitVec 16 :=
  (s.hoop.hold, s.rf 0x7244 10 0, (s.chanOf (s.rf 0x7244 10 0 + i)).shift)

/-- What the latch makes of them. -/
def latchedShift (i : Nat) (a : Tab (BitVec 16) × Nat × BitVec 16) : Tab (BitVec 16) × Nat × BitVec 16 :=
  (a.1, a.2.1, if a.2.1 + i ≤ 1039 then tabGet 0 a.1 (a.2.1 + i) else a.2.2)

theorem sliceShift_latchStep (s : Dev) (n m : Nat) :
    (latchStep s n).sliceShift m = if m = n then latchedShift n (s.sliceShift n) else s.sliceShift m := by
  have hchan : ((latchStep s n).chanOf (s.rf 0x7244 10 0 + m)).shift =
      if m = n ∧ s.rf 0x7244 10 0 + n ≤ 1039 then tabGet 0 s.hoop.hold (s.rf 0x7244 10 0 + n)
      else (s.chanOf (s.rf 0x7244 10 0 + m)).shift := by
    unfold latchStep
    by_cases hc : s.rf 0x7244 10 0 + n ≤ 1039 <;> by_cases hm : m = n <;>
      simp [hc, hm, Dev.chanOf, tabGet_tabSet]
  have hrest : (latchStep s n).hoop.hold = s.hoop.hold ∧ (latchStep s n).rf 0x7244 10 0 = s.rf 0x7244 10 0 := by
    obtain ⟨_, h⟩ := onlyChan_latchStep s n
    rw [h]
    exact ⟨rfl, rfl⟩
  unfold Dev.sliceShift
  rw [hrest.1, hrest.2, hchan]
  by_cases hm : m = n
  · subst hm
    simp [latchedShift]
  · simp [hm]

/-- A latch gives every slice channel the hold buffer's value. -/
theorem shift_latchShift (s : Dev) {i : Nat} (hi : i < s.rf 0x7244 26 16) (hc : s.rf 0x7244 10 0 + i ≤ 1039) :
    (s.latchShift.chanOf (s.rf 0x7244 10 0 + i)).shift = tabGet 0 s.hoop.hold (s.rf 0x7244 10 0 + i) := by
  have hnoted := onlyChan_latchNoted s
  have hbase : s.latchShift.rf 0x7244 10 0 = s.rf 0x7244 10 0 := (onlyChan_latchShift s).rf _ _ _
  have hhold : (s.latchNoted.sliceShift i).1 = s.hoop.hold := hnoted.hold
  have hfirst : (s.latchNoted.sliceShift i).2.1 = s.rf 0x7244 10 0 := hnoted.rf _ _ _
  have hwidth : s.latchNoted.rf 0x7244 26 16 = s.rf 0x7244 26 16 := hnoted.rf _ _ _
  have hunits := forEach_units (get := Dev.sliceShift) sliceShift_latchStep (hwidth ▸ hi) s.latchNoted
  rw [← latchShift_eq, latchedShift, hhold, hfirst, if_pos hc, Dev.sliceShift, hbase] at hunits
  exact congrArg (fun a => a.2.2) hunits

/-! ### The latches of a press -/

theorem frame_latchShift (s : Dev) : PressFrame { s with chan := s.latchShift.chan } s.latchShift := by
  obtain ⟨c, h⟩ := onlyChan_latchShift s
  rw [h]
  exact { PressFrame.refl _ with }

theorem frame_commitWhere (s : Dev) (p : Nat → Bool) : PressFrame s (s.commitWhere p) := by
  obtain ⟨_, _, _, _, h⟩ := sameButCommits_commitWhere s p
  rw [h]
  exact { PressFrame.refl s with }

/-- A change of registers only that leaves the words in force of the press grid alone. -/
theorem frame_setRegs (s : Dev) (r : Regs) (h : ∀ off, pressReg off = true → (s.setRegs r).force off = s.force off) :
    PressFrame s (s.setRegs r) := { PressFrame.refl s with force := h }

theorem lt_of_pressReg {off : Nat} (h : pressReg off = true) : off < 0x7000 := by
  simp only [pressReg, Bool.and_eq_true, decide_eq_true_eq] at h
  exact h.1.1

theorem frame_applyCommit_hoop (s : Dev) : PressFrame s (s.applyCommit (inRange 0x7000 0x7800)) := by
  have hforce : ∀ off, pressReg off = true → (s.applyCommit (inRange 0x7000 0x7800)).force off = s.force off := fun off hp => by
    have hout : inRange 0x7000 0x7800 off = false := by
      have hlt := lt_of_pressReg hp
      simp [inRange]
      omega
    have h := commitAndForce_applyCommit s (inRange 0x7000 0x7800) off
    rw [hout] at h
    exact congrArg Prod.snd h
  obtain ⟨_, _, h⟩ := sameButForce_applyCommit s (inRange 0x7000 0x7800)
  rw [h] at hforce ⊢
  exact frame_setRegs s _ hforce

theorem frame_ozhCommit (s : Dev) : PressFrame s s.ozhCommit := by
  have hc := ozhCommitted_ozhCommit s
  have hforce : ∀ off, pressReg off = true → s.ozhCommit.force off = s.force off := fun off hp => by
    have hlt := lt_of_pressReg hp
    exact hc.force off (by simp [keyWord]; omega) (by simp [maskWord]; omega)
  obtain ⟨_, _, h⟩ := hc.only
  rw [h] at hforce ⊢
  exact { PressFrame.refl s with force := hforce }

theorem frame_rejectMask (s : Dev) (src : BitVec 16) : PressFrame s (s.rejectWrite src 0x8014 .param) := by
  refine .trans ?_ (frame_postEvent _ _)
  refine .trans (frame_setFlag s 31 (o := 0x800C) (pressReg_of_le (by decide))) ?_
  exact { PressFrame.refl _ with }

theorem frame_pressLatch (s : Dev) : PressFrame { s with chan := s.latchShift.chan } s.pressLatch := by
  unfold Dev.pressLatch
  simp only
  have hcommit := (((frame_latchShift s).trans (frame_commitWhere _ (fun off => decide (off < 0x8000)))).trans
    (frame_applyCommit_hoop _)).trans (frame_ozhCommit _)
  exact .ite (hcommit.trans (frame_rejectMask _ _)) hcommit

theorem frame_closePress (s : Dev) : PressFrame s s.closePress := by
  unfold Dev.closePress
  simp only
  refine .trans ?_ (frame_modHoop _ _ rfl rfl)
  exact .ite (frame_hoopFlag s 4) (.refl s)

/-- Whether a press latches on this unit. -/
def Dev.latches (s : Dev) : Bool := s.ring.flights.any (Flight.pressHere s.pressIndex) || s.fabricLatch

/-- The channels after the latch of a press. -/
def Dev.latchedChan (s : Dev) : Tab Chan := if s.latches then s.latchShift.chan else s.chan

/-- The device after the latch of a press, if there is one. -/
def Dev.latched (s : Dev) : Dev := if s.latches then s.pressLatch else s

theorem frame_latched (s : Dev) : PressFrame { s with chan := s.latchedChan } s.latched := by
  unfold Dev.latched Dev.latchedChan
  split
  · exact frame_pressLatch s
  · exact .refl s

/-- After the latch, what waited for this press is taken off the flights and completes. -/
theorem frame_landPress (s : Dev) : PressFrame (s.latched.dropFlights (Flight.pressHere s.pressIndex)) s.pressLatches := by
  unfold Dev.pressLatches
  refine .trans ?_ (frame_closePress _)
  refine .foldl (fun s f => ?_) _ _
  exact frame_complete s _ _ _ _

theorem frame_pressLatches (s : Dev) : PressFrame { s with chan := s.latchedChan } s.pressLatches :=
  ((frame_latched s).trans (frame_dropFlights _ _)).trans (frame_landPress s)

/-- What waited for the press has landed. -/
theorem flights_pressLatches (s : Dev) : ∀ f ∈ s.pressLatches.ring.flights, Flight.pressHere s.pressIndex f = false := by
  intro f hf
  have hdrop := (frame_landPress s).flights f hf
  simpa using (List.mem_filter.1 hdrop).2

/-! ### The press-grid work -/

/-- The press-grid work up to the request, where no SETW and no swap waits. -/
theorem frame_pressWork {s : Dev} (src bpm : Nat) (hr : s.hoop.rswGo = false) (ho : NoSetw s) (ht : s.twin.swapAt = none) :
    ∃ u, PressFrame s u ∧ s.pressWork src bpm = u.requestPress := by
  refine ⟨_, ?_, rfl⟩
  have hclock := (frame_slewPress s).trans (frame_wordPress _)
  have htempo := PressFrame.ite (c := s.slewPress.wordPress.pwr.mode = .shadow) hclock (hclock.trans (frame_tempoPress _ src bpm))
  have hrips := (htempo.trans (frame_ringPress _)).trans (.forEach (fun s n => frame_ripPress s n) (upTo 12) _)
  have hcars := (hrips.trans (.forEach (fun s n => frame_harpPress s n) (upTo 8) _)).trans (frame_carPresses _)
  have hhoop := hcars.trans (frame_hoopPress (hcars.rsw hr))
  have hown := hhoop.trans (frame_ownPackets (hhoop.own ho))
  exact hown.trans (frame_twinPress (hown.swap ht))

end Sys2Proof.Machine
end

section
/-! SUPPORT. The request that a press passes on (R80, R81), and O60. -/

namespace Sys2Proof.Machine

/-! ### The request -/

theorem requestPress_only (s : Dev) : ∃ r a, s.requestPress = s.modPwr (fun p => { p with request := r, asked := a }) := by
  unfold Dev.requestPress
  split
  · split <;> exact ⟨_, _, rfl⟩
  · exact ⟨_, _, rfl⟩

theorem requestPress_of_some {s : Dev} {m : Mode} {at_ : Nat} (h : s.pwr.request = some (m, at_)) :
    if at_ < s.clk.now ∧ s.transBusy = false ∧ s.flt.dbgHalt = false then
      s.requestPress.pwr.request = none ∧ s.requestPress.pwr.asked = some m
    else s.requestPress.pwr.request = some (m, at_) ∧ s.requestPress.pwr.asked = s.pwr.asked := by
  have hgo : (decide (at_ < s.clk.now) && !s.transBusy && !s.flt.dbgHalt) = true ↔
      at_ < s.clk.now ∧ s.transBusy = false ∧ s.flt.dbgHalt = false := by simp [and_assoc]
  simp only [Dev.requestPress, h, hgo]
  split
  · exact ⟨rfl, rfl⟩
  · exact ⟨h, rfl⟩

/-! ### What the work of a press leaves -/

/-- The device as a press of the CORE begins its work: the grid served, and the Wheel copied to the always-on domain. -/
def Dev.pressBegun (s : Dev) : Dev := (s.serve .press).modPwr (fun p => { p with wheelCopy := s.clk.wheel })

/-- What a press of the CORE leaves in the device `d`, before `settle`, from the device `b` on which its work begins. -/
structure Pressed (b d : Dev) : Prop where
  served : d.clk.served = b.clk.served
  wheel : d.pwr.wheelCopy = b.pwr.wheelCopy
  mode : d.pwr.mode = b.pwr.mode
  request : ∀ m at_, b.pwr.request = some (m, at_) →
    if at_ < b.clk.now ∧ b.transBusy = false ∧ b.flt.dbgHalt = false then d.pwr.request = none ∧ d.pwr.asked = some m
    else d.pwr.request = some (m, at_) ∧ d.pwr.asked = b.pwr.asked
  flights : ∀ f ∈ d.ring.flights, f.await ≠ .press
  force : ∀ off, pressReg off = true → d.force off = b.pressLive.force off
  chan : d.chan = b.pressLive.latchedChan

theorem press_off {s : Dev} (hd : s.pressDue = true) (hc : s.coreOn = false) : s.press = s.pressBegun := by
  have hc' : s.pressBegun.coreOn = false := hc
  unfold Dev.press
  simp only [hd, Bool.not_true, Bool.false_eq_true, if_false]
  exact if_pos (congrArg (!·) hc')

theorem press_on {s : Dev} (hd : s.pressDue = true) (hc : s.coreOn = true) :
    s.press = s.pressBegun.pressLive.pressLatches.pressWork s.pressBegun.tempoSrc (s.pressBegun.rf 0x444 15 0) := by
  have hc' : (!s.pressBegun.coreOn) ≠ true := by
    rw [show s.pressBegun.coreOn = true from hc]
    decide
  unfold Dev.press
  simp only [hd, Bool.not_true, Bool.false_eq_true, if_false]
  exact if_neg hc'

theorem ne_press_of_pressHere {n : Nat} {f : Flight} (h : Flight.pressHere n f = false) : f.await ≠ .press := fun hf => by
  simp [Flight.pressHere, hf] at h

theorem OnlyLive.fields {s t : Dev} (h : OnlyLive s t) :
    t.pwr = s.pwr ∧ t.clk = s.clk ∧ t.flt = s.flt ∧ t.hoop = s.hoop ∧ t.twin = s.twin := by
  obtain ⟨_, _, rfl⟩ := h
  exact ⟨rfl, rfl, rfl, rfl, rfl⟩

theorem transBusy_congr {s t : Dev} (h : t.pwr = s.pwr) : t.transBusy = s.transBusy := by
  unfold Dev.transBusy
  rw [h]

/-- The request passed on after work that keeps the frame of the live fields and the latch. -/
theorem pressed_requestPress {b u : Dev} (hu : PressFrame { b.pressLive with chan := b.pressLive.latchedChan } u)
    (hf : ∀ f ∈ u.ring.flights, f.await ≠ .press) : Pressed b u.requestPress := by
  obtain ⟨hpwr, hclk, hflt, -, -⟩ := (onlyLive_pressLive b).fields
  have hp : u.pwr = b.pwr := hu.pwr.trans hpwr
  have hnow : u.clk.now = b.clk.now := hu.now.trans (congrArg _ hclk)
  have hhalt : u.flt.dbgHalt = b.flt.dbgHalt := hu.halt.trans (congrArg _ hflt)
  have hserved : u.clk.served = b.clk.served := hu.served.trans (congrArg _ hclk)
  have hrequest := fun m at_ => requestPress_of_some (s := u) (m := m) (at_ := at_)
  simp only [hnow, transBusy_congr hp, hhalt, hp] at hrequest
  obtain ⟨_, _, h⟩ := requestPress_only u
  rw [h] at hrequest ⊢
  exact ⟨hserved, congrArg (·.wheelCopy) hp, congrArg (·.mode) hp, hrequest, hf, hu.force, hu.chan⟩

/-- A press of the CORE, with no SETW and no swap to take: live fields, latches, the work on the grid, the request. -/
theorem pressed_pressWork {b : Dev} (src bpm : Nat) (hr : b.hoop.rswGo = false) (ho : NoSetw b) (ht : b.twin.swapAt = none) :
    Pressed b (b.pressLive.pressLatches.pressWork src bpm) := by
  obtain ⟨-, -, -, hhoop, htwin⟩ := (onlyLive_pressLive b).fields
  have hframe := frame_pressLatches b.pressLive
  have hown : NoSetw b.pressLive := by
    unfold NoSetw
    rwa [hhoop]
  obtain ⟨u, hu, heq⟩ := frame_pressWork src bpm (hframe.rsw (hhoop ▸ hr)) (hframe.own hown) (hframe.swap (htwin ▸ ht))
  rw [heq]
  exact pressed_requestPress (hframe.trans hu) fun f hf => ne_press_of_pressHere (flights_pressLatches _ f (hu.flights f hf))

theorem Pressed.of_quiet {b d e : Dev} (h : Pressed b d) (hq : Quiet d e) : Pressed b e := by
  have hring : e.ring.flights = d.ring.flights := by
    obtain ⟨⟨_, _, _, _, _, _, _, _, hr⟩, -⟩ := hq.ring
    rw [hr]
  exact ⟨hq.clk ▸ h.served, hq.pwr ▸ h.wheel, hq.pwr ▸ h.mode, hq.pwr ▸ h.request, hring ▸ h.flights,
    fun off ho => (hq.force off (noteReg_of_pressReg ho)).trans (h.force off ho), hq.chan ▸ h.chan⟩

/-! ### O60 -/

/-- A press that finds the CORE off makes the always-on domain's copy of the Wheel. -/
theorem does_press_off {s : State} (hd : s.dev.pressDue = true) (hc : s.dev.coreOn = false) :
    Does .pressBoundary s (fun t => KeepsBut [.clk, .pwr] s t ∧
      t.dev.pwr = { s.dev.pwr with wheelCopy := s.dev.clk.wheel } ∧ t.dev.clk.wheel = s.dev.clk.wheel) := by
  rw [does_of_onDev (fun d => d.press) rfl, press_off hd hc]
  have hq := quiet_settle s.dev.pressBegun
  generalize s.dev.pressBegun.settle = e at hq
  refine ⟨keepsBut_of_quiet _ s hq List.suffix_rfl fun a ha => ?_, hq.pwr, congrArg (·.wheel) hq.clk⟩
  have hs := a.same_refl s
  cases a
  case clk | pwr => simp at ha
  all_goals exact hs

/-- The shift value of a slice channel after a press on which a descriptor latches. -/
theorem shift_latchedChan {b : Dev} (hf : ∃ f ∈ b.ring.flights, f.await = .press) {i : Nat} (hi : i < b.rf 0x7244 26 16)
    (hc : b.rf 0x7244 10 0 + i ≤ 1039) : (tabGet {} b.latchedChan (b.rf 0x7244 10 0 + i)).shift = tabGet 0 b.hoop.hold (b.rf 0x7244 10 0 + i) := by
  have hlatches : b.latches = true := by
    obtain ⟨f, hmem, hpress⟩ := hf
    have hany : b.ring.flights.any (Flight.pressHere b.pressIndex) = true :=
      List.any_eq_true.2 ⟨f, hmem, by simp [Flight.pressHere, hpress]⟩
    rw [Dev.latches, hany, Bool.true_or]
  rw [Dev.latchedChan, if_pos hlatches]
  exact shift_latchShift b hi hc

/-- Settles O60: the live fields, the latch and the work on the grid keep what `PressFrame` lists, and the request comes last. -/
theorem pressTakesLiveFieldsAndLatches : Obligations.PressTakesLiveFieldsAndLatches := by
  refine fun s => ⟨fun hd => ?_, does_press_off, fun hd hc ht ho hr => ?_⟩
  · rw [does_of_onDev (fun d => d.press) rfl, show s.dev.press = s.dev by simp [Dev.press, hd]]
    exact keepsBut_settle [] s _ List.suffix_rfl fun a _ => a.same_refl s
  · rw [does_of_onDev (fun d => d.press) rfl, press_on hd hc]
    have hp : Pressed s.dev.pressBegun _ := (pressed_pressWork (b := s.dev.pressBegun) s.dev.pressBegun.tempoSrc
      (s.dev.pressBegun.rf 0x444 15 0) hr ho ht).of_quiet (quiet_settle _)
    generalize Dev.settle _ = e at hp
    refine ⟨rfl, ?_, hp.wheel, hp.mode, hp.request, hp.flights, fun off hl hlt hn hlive _ => ?_, fun hf hnil i hi hle => ?_⟩
    · simp [Dev.isServed, hp.served, Dev.pressBegun, Dev.serve]
    · have hreg : pressReg off = true := by
        simpa [pressReg, hlt, hn] using hlive
      exact (hp.force off hreg).trans (force_pressLive s.dev.pressBegun hl)
    · have hchan : e.chan = s.dev.pressBegun.latchedChan := by
        rw [hp.chan, pressLive_of_nil (s := s.dev.pressBegun) hnil]
      show (tabGet {} e.chan _).shift = _
      rw [hchan]
      exact shift_latchedChan (b := s.dev.pressBegun) hf hi hle

end Sys2Proof.Machine
end

section
/-! SUPPORT. What an event leaves to be told: the ring engine sees the rings, its own registers, the mode and the Wheel alone. -/

namespace Sys2Proof.Machine

/-! ### What the whey rings depend on -/

/-- Two devices whose whey rings the ring engine serves alike: the same entries waiting, settings, enables, power state and Wheel. -/
structure SameEngine (s b : Dev) : Prop where
  whey : b.ring.whey = s.ring.whey
  wait : b.ring.wait = s.ring.wait
  owed : b.ring.owed = s.ring.owed
  shut : b.ring.shut = s.ring.shut
  link : b.ring.bme = s.ring.bme ∧ b.ring.d3 = s.ring.d3 ∧ b.ring.link = s.ring.link
  core : b.coreOn = s.coreOn
  short : b.short = s.short
  ctl : b.force 0x1008 = s.force 0x1008
  regs : ∀ off, 0x1200 ≤ off → off < 0x1280 → b.force off = s.force off

theorem SameEngine.refl (s : Dev) : SameEngine s s := ⟨rfl, rfl, rfl, rfl, ⟨rfl, rfl, rfl⟩, rfl, rfl, rfl, fun _ _ _ => rfl⟩

theorem SameEngine.trans {s t u : Dev} (h : SameEngine s t) (k : SameEngine t u) : SameEngine s u where
  whey := k.whey.trans h.whey
  wait := k.wait.trans h.wait
  owed := k.owed.trans h.owed
  shut := k.shut.trans h.shut
  link := ⟨k.link.1.trans h.link.1, k.link.2.1.trans h.link.2.1, k.link.2.2.trans h.link.2.2⟩
  core := k.core.trans h.core
  short := k.short.trans h.short
  ctl := k.ctl.trans h.ctl
  regs off h1 h2 := (k.regs off h1 h2).trans (h.regs off h1 h2)

/-- A change of registers other than those of the whey rings and RING_CTL. -/
theorem SameEngine.of_regs {s b : Dev} (hring : b.ring = s.ring) (hcore : b.coreOn = s.coreOn) (hshort : b.short = s.short)
    (hctl : b.force 0x1008 = s.force 0x1008) (hregs : ∀ off, 0x1200 ≤ off → off < 0x1280 → b.force off = s.force off) : SameEngine s b :=
  ⟨by rw [hring], by rw [hring], by rw [hring], by rw [hring], by simp only [hring, and_self], hcore, hshort, hctl, hregs⟩

/-- A flag of another register is none of their business. -/
theorem sameEngine_setFlag (s : Dev) {o : Nat} (i : Nat) (h : o ≠ 0x1008) (h' : o < 0x1200 ∨ 0x1280 ≤ o) : SameEngine s (s.setFlag o i) :=
  .of_regs rfl rfl rfl (tabGet_tabSet_ne' _ _ _ _ _ _ h.symm) fun _ _ _ => tabGet_tabSet_ne' _ _ _ _ _ _ (by omega)

/-- An update of what the ring engine does not look at. -/
theorem SameEngine.of_eq {s b : Dev} (hring : b.ring = s.ring) (hregs : b.regs = s.regs) (hcore : b.coreOn = s.coreOn)
    (hwheel : b.clk.wheel = s.clk.wheel) : SameEngine s b :=
  .of_regs hring hcore (by rw [Dev.short, Dev.short, hwheel]) (by rw [Dev.force, Dev.force, hregs]) fun _ _ _ => by rw [Dev.force, Dev.force, hregs]

theorem wheyOff_le (m : Nat) : 0x1200 ≤ wheyOff m ∧ wheyOff m + 0x20 ≤ 0x1280 := by
  unfold wheyOff
  omega

section
variable {s b : Dev} (h : SameEngine s b)
include h

theorem SameEngine.reg (m : Nat) {k : Nat} (hk : k < 0x20) : b.force (wheyOff m + k) = s.force (wheyOff m + k) := by
  have := wheyOff_le m
  exact h.regs _ (by omega) (by omega)

theorem SameEngine.mayIssue : b.mayIssue = s.mayIssue := by
  obtain ⟨hbme, hd3, hlink⟩ := h.link
  simp only [Dev.mayIssue, Dev.rb, h.core, h.ctl, hbme, hd3, hlink]

theorem SameEngine.wheyTail (m : Nat) : b.wheyTail m = s.wheyTail m := h.reg m (by decide)

theorem SameEngine.wheyCan (m : Nat) : b.wheyCan m = s.wheyCan m := by
  simp only [Dev.wheyCan, Dev.wheyEn, Dev.wheyFree, Dev.rb, Dev.rf, Dev.wheyOf, h.mayIssue, h.wheyTail, h.whey, h.reg m (k := 0x18) (by decide)]
  rfl

theorem SameEngine.evtRing : b.evtRing = s.evtRing := by
  simp only [Dev.evtRing, Dev.rf, h.ctl]

theorem SameEngine.wheyAddr (m : Nat) : b.wheyAddr m = s.wheyAddr m := by
  have h0 : b.force (wheyOff m) = s.force (wheyOff m) := h.reg m (k := 0) (by decide)
  simp only [Dev.wheyAddr, Dev.addr64, Dev.rf, h.wheyTail, h0, h.reg m (k := 4) (by decide), h.reg m (k := 0x18) (by decide)]

end

/-! ### Events that are told at once -/

theorem evtRing_lt (s : Dev) : s.evtRing < 4 := by
  simp only [Dev.evtRing, Dev.rf, fieldOf, bits]
  omega

/-- A whey ring that can take an entry is enabled. -/
theorem anyWhey_of_wheyCan {s : Dev} {m : Nat} (hm : m < 4) (h : s.wheyCan m = true) : s.anyWhey = true := by
  simp only [Dev.wheyCan, Bool.and_eq_true, decide_eq_true_eq] at h
  obtain ⟨⟨⟨-, hen⟩, hst⟩, -⟩ := h
  exact List.any_eq_true.2 ⟨m, List.mem_range.2 hm, by simp [hen, hst]⟩

/-- An entry written to a whey ring has been put out. -/
theorem whey_mem_putWhey (s : Dev) (m : Nat) (e : Entry) : .whey m (s.wheyTail m) (s.wheyAddr m) e ∈ (s.putWhey m e).out := by
  unfold Dev.putWhey Dev.sendMsix
  simp only
  split
  · split <;> simp
  · simp

/-- Where the event ring can take an entry and none waits, an event is written at its tail. -/
theorem whey_mem_postEvent {s : Dev} (e : Entry) (hcan : s.wheyCan s.evtRing = true) (howed : s.ring.owed = false) (hwait : s.ring.wait = []) :
    .whey s.evtRing (s.wheyTail s.evtRing) (s.wheyAddr s.evtRing) e ∈ (s.postEvent e).out := by
  have hput : s.postEvent e = s.putWhey s.evtRing e := by
    simp [Dev.postEvent, anyWhey_of_wheyCan (evtRing_lt s) hcan, hcan, howed, hwait]
  rw [hput]
  exact whey_mem_putWhey s _ e

/-- An event that a command raises on a device which the ring engine cannot tell from the one before is told to the host, whatever follows. -/
theorem tells_of_postEvent {s : State} {b d : Dev} {code detail : Nat} (hb : SameEngine s.dev b)
    (hd : (b.postEvent ⟨1, 0, BitVec.ofNat 16 code, s.dev.short, BitVec.ofNat 48 detail⟩).out <:+ d.out) :
    Tells code detail s { s with dev := d } := by
  intro hcan howed hwait
  have hmem := whey_mem_postEvent (s := b) ⟨1, 0, BitVec.ofNat 16 code, s.dev.short, BitVec.ofNat 48 detail⟩
    (by rw [hb.evtRing, hb.wheyCan, hcan]) (hb.owed.trans howed) (hb.wait.trans hwait)
  rw [hb.evtRing, hb.wheyTail, hb.wheyAddr] at hmem
  exact hd.subset hmem

/-- The same for an event with status OK and the present time. -/
theorem tells_of_eventOk {s : State} {b d : Dev} {code detail : Nat} (hb : SameEngine s.dev b)
    (hd : (b.eventOk code detail).out <:+ d.out) : Tells code detail s { s with dev := d } :=
  tells_of_postEvent hb (by rw [← hb.short]; exact hd)

end Sys2Proof.Machine
end

section
/-! SUPPORT. The rows of the clock and of the Tempo unit (R24, R36, R39, R42, R382), and O38. -/

namespace Sys2Proof.Machine

/-! ### Claims about a command of the powered core -/

/-- A command that acts while CORE is on, with CORE on. -/
theorem does_of_onCore {c : Instr} {s : State} {P : State → Prop} (f : Dev → Dev) (hc : exec c s = onCore f s) (hon : s.dev.coreOn = true) :
    Does c s P ↔ P { s with dev := (f s.dev).settle } := by
  rw [does_of_onDev (fun d => if d.coreOn then f d else d) hc, if_pos hon]

/-- A command that acts on the device does what every quiet change of its effect shows. -/
theorem does_of_quiet {c : Instr} {s : State} {P : State → Prop} {d : Dev} (f : Dev → Dev) (hc : exec c s = onDev f s) (hd : f s.dev = d)
    (h : ∀ e, Quiet d e → P { s with dev := e }) : Does c s P :=
  (does_of_onDev f hc).2 (h _ (hd ▸ quiet_settle _))

/-- The same for a command of the powered core. -/
theorem does_core_of_quiet {c : Instr} {s : State} {P : State → Prop} {d : Dev} (f : Dev → Dev) (hc : exec c s = onCore f s)
    (hon : s.dev.coreOn = true) (hd : f s.dev = d) (h : ∀ e, Quiet d e → P { s with dev := e }) : Does c s P :=
  does_of_quiet (fun d => if d.coreOn then f d else d) hc ((if_pos hon).trans hd) h

/-- A command whose effect leaves the device as it was has none. -/
theorem keepsBut_idle (s : State) : KeepsBut [] s { s with dev := s.dev.settle } :=
  keepsBut_settle [] s s.dev List.suffix_rfl fun a _ => a.same_refl s

/-- A command that changes the clock alone. -/
theorem keepsBut_clk (s : State) (c : Clk) {d : Dev} (hq : Quiet { s.dev with clk := c } d) : KeepsBut [.clk] s { s with dev := d } := by
  refine keepsBut_of_quiet _ s hq List.suffix_rfl fun a ha => ?_
  have hs := a.same_refl s
  cases a
  case clk => simp at ha
  all_goals exact hs

/-- A command that changes the clock and the radio alone. -/
theorem keepsBut_clk_ozh (s : State) (c : Clk) (z : Ozh) {d : Dev} (hq : Quiet { s.dev with clk := c, ozh := z } d) :
    KeepsBut [.clk, .ozh] s { s with dev := d } := by
  refine keepsBut_of_quiet _ s hq List.suffix_rfl fun a ha => ?_
  have hs := a.same_refl s
  cases a
  case clk | ozh => simp at ha
  all_goals exact hs

/-- A flag set is a bit more in force. -/
theorem flagged_force (s : Dev) (o i : Nat) : (s.setFlag o i).force o = s.force o ||| BitVec.ofNat 32 (2 ^ i) := by
  simp [Dev.setFlag, Dev.noteSet, Dev.setForce, Dev.setRegs, Dev.force]

/-! ### The word clock -/

theorem natAbs_clampI_le {n : Nat} (x : Int) : (clampI (-n) n x).natAbs ≤ n := by
  unfold clampI
  omega

/-- What one edge leaves of the clock on a follower that steers. -/
structure Steered (s t : Dev) : Prop where
  only : t = { s with clk := t.clk }
  steer : t.clk.wordSteer.natAbs ≤ 5000
  edge : t.clk.wordEdge = s.clk.now
  wheel : t.clk.wheel = s.clk.wheel
  good : t.clk.wordGood = if (phaseError s.wordPeriod s.wheelN).natAbs ≤ 2 then s.clk.wordGood + 1 else 0
  acquire : s.clk.wordState = .acquire → t.clk.wordState = if 256 ≤ t.clk.wordGood then .locked else .acquire
  locked : s.clk.wordState = .locked → t.clk.wordState = .locked

theorem steered_wordEdge {s : Dev} {f : Bool} (ppm : Int) (hrun : s.clk.running = true) (hrole : s.clk.role = .master)
    (hf : f = s.rb 0x410 3) (hst : s.clk.wordState = .acquire ∨ s.clk.wordState = .locked) : Steered s (s.wordEdge f ppm) := by
  have hgo : (!s.clk.running || decide (f ≠ s.rb 0x410 3) || decide (s.clk.role ≠ .master)) = false := by simp [hrun, hrole, hf]
  have hle := natAbs_clampI_le (n := 5000) (Config.wordLaw s.clk.wordSteer (phaseError s.wordPeriod s.wheelN))
  obtain hst | hst := hst <;> simp only [Dev.wordEdge, hgo, hst, Bool.false_eq_true, if_false]
  · split
    · next hlock => exact ⟨rfl, hle, rfl, rfl, rfl, fun _ => (if_pos hlock).symm, fun h => by simp [hst] at h⟩
    · next hlock => exact ⟨rfl, hle, rfl, rfl, rfl, fun _ => hst.trans (if_neg hlock).symm, fun h => by simp [hst] at h⟩
  · exact ⟨rfl, hle, rfl, rfl, rfl, fun h => by simp [hst] at h, fun _ => hst⟩

/-- An edge in HOLDOVER: 16 good periods in a row lead back to ACQUIRE. -/
theorem wordEdge_holdover {s : Dev} {f : Bool} (ppm : Int) (hrun : s.clk.running = true) (hrole : s.clk.role = .master)
    (hf : f = s.rb 0x410 3) (hst : s.clk.wordState = .holdover) :
    let good := if ppm.natAbs ≤ 50 then s.clk.wordGood + 1 else 0
    s.wordEdge f ppm = { s with clk := if 16 ≤ good then
        { s.clk with wordState := .acquire, wordGood := 0, wordFull := none, wordEdge := s.clk.now }
      else { s.clk with wordGood := good, wordEdge := s.clk.now } } := by
  have hgo : (!s.clk.running || decide (f ≠ s.rb 0x410 3) || decide (s.clk.role ≠ .master)) = false := by simp [hrun, hrole, hf]
  intro good
  conv_lhs => simp only [Dev.wordEdge, hgo, hst, Bool.false_eq_true, if_false]
  change Dev.modClk (if 16 ≤ good then _ else _) _ = _
  split <;> rfl

/-- No edge is followed with the PLL off, on a unit that is no master, on the other edge, or with the follower off. -/
theorem wordEdge_unfollowed {s : Dev} {f : Bool} (ppm : Int)
    (h : s.clk.running = false ∨ s.clk.role ≠ .master ∨ f ≠ s.rb 0x410 3 ∨ s.clk.wordState = .off) : s.wordEdge f ppm = s := by
  unfold Dev.wordEdge
  obtain h | h | h | h := h
  · simp [h]
  · simp [h]
  · simp [h]
  · split
    · rfl
    · simp [h]

/-- What a report of the clock leaves: bit `i` of WHL_FLAGS and an event, beside the clock `c` and the Tempo unit `u`. -/
def Dev.reports (s : Dev) (c : Clk) (u : Tempo) (i code : Nat) : Dev := (({ s with clk := c, tempo := u }).setFlag 0x42C i).eventOk code 0

/-- A report of the clock keeps all but the clock, the Tempo unit and WHL_FLAGS, and is told. -/
theorem reported {s : State} {c : Clk} {u : Tempo} {i code : Nat} {areas : List Area} (hw : c.wheel = s.dev.clk.wheel)
    (hregs : .regs ∈ areas) (hclk : .clk ∈ areas ∨ c = s.dev.clk) (htempo : .tempo ∈ areas ∨ u = s.dev.tempo) :
    let t : State := { s with dev := (s.dev.reports c u i code).settle }
    KeepsBut areas s t ∧ RegsBut (· = 0x42C) s t ∧ t.dev.clk = c ∧ t.dev.tempo = u ∧
      t.dev.force 0x42C = s.dev.force 0x42C ||| BitVec.ofNat 32 (2 ^ i) ∧ Tells code 0 s t := by
  have hq : Quiet (({ s.dev with clk := c, tempo := u }).setFlag 0x42C i) (s.dev.reports c u i code).settle :=
    (quiet_eventOk _ code 0).trans (quiet_settle _)
  have hengine : SameEngine s.dev (({ s.dev with clk := c, tempo := u }).setFlag 0x42C i) :=
    SameEngine.trans (t := { s.dev with clk := c, tempo := u }) (.of_eq rfl rfl rfl hw) (sameEngine_setFlag _ i (by decide) (.inl (by decide)))
  have htells : Tells code 0 s { s with dev := (s.dev.reports c u i code).settle } := tells_of_eventOk hengine (quiet_settle _).out
  generalize (s.dev.reports c u i code).settle = e at hq htells
  refine ⟨keepsBut_of_quiet _ s hq List.suffix_rfl fun a ha => ?_, fun off hn ho => ?_, hq.clk, hq.tempo, ?_, htells⟩
  · have hs := a.same_refl s
    cases a
    case regs => exact absurd hregs ha
    case clk => exact hclk.resolve_left ha
    case tempo => exact htempo.resolve_left ha
    all_goals exact hs
  · have hflag := sameReg_setFlag { s.dev with clk := c, tempo := u } i (o := 0x42C) (by simpa using ho)
    exact ⟨(hq.force off hn).trans hflag.force, (hq.written off hn).trans hflag.written⟩
  · exact (hq.force _ rfl).trans (flagged_force _ _ _)

theorem wordRange_due {s : Dev} {q : Nat} (hst : s.clk.wordState = .acquire) (hfull : s.clk.wordFull = some q) (hdue : q + 196608000 ≤ s.clk.now) :
    s.wordRange = s.reports { s.clk with wordFull := some s.clk.now } s.tempo 4 0x0104 := by
  conv_lhs => simp only [Dev.wordRange, hst, hfull, hdue, if_true]
  rfl

theorem wordLost_due {s : Dev} (hst : s.clk.wordState = .acquire ∨ s.clk.wordState = .locked)
    (hdue : s.clk.wordEdge + 8 * s.wordPeriod ≤ s.clk.now) :
    s.wordLost = s.reports { s.clk with wordState := .holdover, wordGood := 0, wordFull := none } s.tempo 3 0x0105 := by
  have hgo : ((decide (s.clk.wordState = .acquire) || decide (s.clk.wordState = .locked)) &&
      decide (s.clk.wordEdge + 8 * s.wordPeriod ≤ s.clk.now)) = true := by simp [hst, hdue]
  rw [Dev.wordLost, if_pos hgo]
  rfl

theorem tempoLost_due {s : Dev} {q : Nat} (hlast : s.tempo.lastClk = some q) (hruns : s.tempo.runs = true) (hsrc : s.tempoSrc = 2)
    (hdue : q * (24 * 65536) + 3 * s.tempo.pq ≤ s.clk.now * (24 * 65536)) :
    s.tempoLost = s.reports s.clk { s.tempo with st := .hold, lastClk := none } 5 0x0113 := by
  conv_lhs => simp only [Dev.tempoLost, hlast, hruns, hsrc, hdue, decide_true, Bool.and_self, if_true]
  rfl

/-! ### Tempo events -/

/-- What the Ripeners' trigger inputs change: the Ripeners, and TRIG_OVF of RIP_FLAGS. -/
structure Triggered (s t : Dev) : Prop where
  only : ∃ r f, t = { s with rip := r, regs := { s.regs with force := f, setNow := t.regs.setNow, setTick := t.regs.setTick } }
  force : ∀ off, off ≠ 0x4008 → t.force off = s.force off

theorem Triggered.refl (s : Dev) : Triggered s s := ⟨⟨_, _, rfl⟩, fun _ _ => rfl⟩

theorem Triggered.trans {s t u : Dev} (h : Triggered s t) (k : Triggered t u) : Triggered s u := by
  refine ⟨?_, fun off ho => (k.force off ho).trans (h.force off ho)⟩
  obtain ⟨_, _, ht⟩ := h.only
  obtain ⟨_, _, hu⟩ := k.only
  exact ⟨_, _, by rw [hu, ht]⟩

theorem Triggered.forEach {f : Dev → Nat → Dev} (hf : ∀ s n, Triggered s (f s n)) (xs : List Nat) (s : Dev) :
    Triggered s (forEach xs f s) := foldl_of_step .refl .trans hf xs s

theorem Triggered.ite {s t u : Dev} {c : Prop} [Decidable c] (ht : Triggered s t) (hu : Triggered s u) : Triggered s (if c then t else u) := by
  split
  · exact ht
  · exact hu

theorem triggered_setRip (s : Dev) (n : Nat) (r : Rip) : Triggered s (s.setRip n r) := ⟨⟨_, _, rfl⟩, fun _ _ => rfl⟩

theorem triggered_latchTrigger (s : Dev) (n h : Nat) (w : Word) : Triggered s (s.latchTrigger n h w) := by
  unfold Dev.latchTrigger
  simp only
  split
  · exact (triggered_setRip s n _).trans ⟨⟨_, _, rfl⟩, fun off ho => (sameReg_setFlag _ 28 ho).force⟩
  · exact triggered_setRip s n _

theorem triggered_hwTrigger (s : Dev) (n : Nat) (hit : Nat → Bool) (w : Word) : Triggered s (s.hwTrigger n hit w) := by
  unfold Dev.hwTrigger
  simp only
  split
  · exact .refl s
  · split
    · exact triggered_latchTrigger s n _ w
    · exact .refl s

theorem triggered_tempoTrigger (s : Dev) (n : Nat) (tevt : Nat → Bool) (k : Nat) : Triggered s (s.tempoTrigger n tevt k) :=
  triggered_hwTrigger s n _ _

theorem triggered_tempoTriggers (s : Dev) (k : Nat) (beat bar : Bool) (t : Int) : Triggered s (s.tempoTriggers k beat bar t) := by
  refine .forEach (fun s n => ?_) _ s
  have hwait : Triggered s (s.waitEvent n (if bar then 3 else if beat then 1 else 2) t) := triggered_setRip s n _
  have hbeat := fun hit => hwait.trans (triggered_tempoTrigger _ n hit k)
  exact .ite ((hbeat _).trans (triggered_tempoTrigger _ n _ k)) (hbeat _)

/-- What the fields of a press on this tick are taken from is the same (R11). -/
structure SameBefore (s t : Dev) : Prop where
  before : t.regs.before = s.regs.before
  tick : t.regs.stTick = s.regs.stTick

theorem SameBefore.trans {s t u : Dev} (h : SameBefore s t) (k : SameBefore t u) : SameBefore s u :=
  ⟨k.before.trans h.before, k.tick.trans h.tick⟩

theorem sameBefore_sendMsix (s : Dev) (v : Nat) : SameBefore s (s.sendMsix v) := by
  unfold Dev.sendMsix
  simp only
  split <;> exact ⟨rfl, rfl⟩

theorem sameBefore_putWhey (s : Dev) (m : Nat) (e : Entry) : SameBefore s (s.putWhey m e) := by
  unfold Dev.putWhey
  simp only
  split
  · refine .trans ?_ (sameBefore_sendMsix _ _)
    exact ⟨rfl, rfl⟩
  · exact ⟨rfl, rfl⟩

theorem sameBefore_sendPacket (s : Dev) (type : Nat) (dest : BitVec 12) (tag : BitVec 16) (p : List Byte) :
    SameBefore s (s.sendPacket type dest tag p) := by
  unfold Dev.sendPacket Dev.queuePacket
  simp only
  split
  · exact ⟨rfl, rfl⟩
  · split
    · split <;> exact ⟨rfl, rfl⟩
    · exact ⟨rfl, rfl⟩

theorem sameBefore_postEvent (s : Dev) (e : Entry) : SameBefore s (s.postEvent e) := by
  unfold Dev.postEvent
  split
  · split
    · exact sameBefore_sendPacket s _ _ _ _
    · exact ⟨rfl, rfl⟩
  · simp only
    split
    · exact sameBefore_putWhey s _ e
    · split
      · split <;> exact ⟨rfl, rfl⟩
      · exact ⟨rfl, rfl⟩

/-- A device whose clock, register file at WHL_TMP_CTL and writes of this tick are the same takes S from the same place. -/
theorem tempoS_congr {s t : Dev} (hclk : t.clk = s.clk) (hforce : t.force 0x440 = s.force 0x440) (hwritten : t.written 0x440 = s.written 0x440)
    (hbefore : SameBefore s t) : t.tempoS = s.tempoS := by
  simp only [Dev.tempoS, Dev.tempoField, Dev.pressDue, Dev.gridNow, Dev.wheelN, Dev.isServed, Dev.writtenBefore, Dev.rf, hclk, hforce, hwritten,
    hbefore.before, hbefore.tick]
  rfl

/-- The events of the position that is due, and the one that the obligation's row names first (R39). -/
def Dev.tempoTells (s : Dev) : Dev :=
  let u := s.tempo
  if s.rb 0x440 7 then
    let b := if u.j = 0 then s.eventAt 0x0110 s.wheelN (u.k % 2 ^ 32) else s.eventAt 0x0111 s.wheelN (u.k % 2 ^ 32 + 2 ^ 32 * u.j)
    if decide (u.j = 0) && decide (s.tempoL ≠ 0) && decide (u.k % s.tempoL = 0) then b.eventAt 0x0112 s.wheelN (u.k % 2 ^ 32) else b
  else s

/-- A beat takes S, and the BPM where a new one waits (R40, R41). -/
def Dev.tempoBeat (s b : Dev) : Dev :=
  if s.tempo.j = 0 then
    let b := b.modTempo (fun t => { t with beat := BitVec.ofNat 32 t.k, sNow := b.tempoS })
    if s.tempo.bpmNew then
      b.modTempo (fun t => { t with a := t.timeOf t.k 0 1, k0 := t.k, pq := tempoPq (b.rf 0x444 15 0), bpmNew := false })
    else b
  else b

/-- The position after the present one (R39). -/
def Tempo.advance (t : Tempo) : Tempo := if t.j + 1 < t.sNow then { t with j := t.j + 1 } else { t with k := t.k + 1, j := 0 }

theorem tempoEvent_due {s : Dev} (hdue : s.tempoDue = true) :
    s.tempoEvent = (s.tempoBeat (s.tempoTells.tempoTriggers s.tempo.k (decide (s.tempo.j = 0))
      (decide (s.tempo.j = 0) && decide (s.tempoL ≠ 0) && decide (s.tempo.k % s.tempoL = 0)) s.wheelN)).modTempo Tempo.advance := by
  rw [Dev.tempoEvent, hdue]
  rfl

/-- The position after a due one: the next subdivision, or the next beat. -/
structure TempoMoved (s : Dev) (x : Tempo) : Prop where
  beat : x.beat = if s.tempo.j = 0 then BitVec.ofNat 32 s.tempo.k else s.tempo.beat
  sNow : x.sNow = if s.tempo.j = 0 then s.tempoS else s.tempo.sNow
  next : if s.tempo.j + 1 < x.sNow then x.k = s.tempo.k ∧ x.j = s.tempo.j + 1 else x.k = s.tempo.k + 1 ∧ x.j = 0

theorem tempoBeat_eq {s b : Dev} (ht : b.tempo = s.tempo) (hS : b.tempoS = s.tempoS) :
    ∃ x, s.tempoBeat b = { b with tempo := x } ∧ x.k = s.tempo.k ∧ x.j = s.tempo.j ∧
      x.beat = (if s.tempo.j = 0 then BitVec.ofNat 32 s.tempo.k else s.tempo.beat) ∧
      x.sNow = if s.tempo.j = 0 then s.tempoS else s.tempo.sNow := by
  unfold Dev.tempoBeat
  by_cases hj : s.tempo.j = 0
  · simp only [hj, if_true]
    split
    · exact ⟨_, rfl, by simp [Dev.modTempo, ht], by simp [Dev.modTempo, ht, hj], by simp [Dev.modTempo, ht], by simp [Dev.modTempo, hS]⟩
    · exact ⟨_, rfl, by simp [ht], by simp [ht, hj], by simp [ht], by simp [hS]⟩
  · simp only [hj, if_false]
    exact ⟨_, rfl, by rw [ht], by rw [ht], by rw [ht], by rw [ht]⟩

theorem tempoMoved_advance {s : Dev} {x : Tempo} (hk : x.k = s.tempo.k) (hj : x.j = s.tempo.j)
    (hbeat : x.beat = if s.tempo.j = 0 then BitVec.ofNat 32 s.tempo.k else s.tempo.beat)
    (hsNow : x.sNow = if s.tempo.j = 0 then s.tempoS else s.tempo.sNow) : TempoMoved s x.advance := by
  unfold Tempo.advance
  split
  · next hlt => exact ⟨hbeat, hsNow, by rw [if_pos (hj ▸ hlt)]; exact ⟨hk, congrArg (· + 1) hj⟩⟩
  · next hlt => exact ⟨hbeat, hsNow, by rw [if_neg (hj ▸ hlt)]; exact ⟨congrArg (· + 1) hk, rfl⟩⟩

/-- The events of a due position are quiet; the first of them is told, and S is still taken from the same place. -/
structure TempoTold (s t : Dev) : Prop where
  quiet : Quiet s t
  before : SameBefore s t
  told : s.rb 0x440 7 = true →
    (s.eventAt (if s.tempo.j = 0 then 0x0110 else 0x0111) s.wheelN (s.tempo.k % 2 ^ 32 + 2 ^ 32 * s.tempo.j)).out <:+ t.out

theorem TempoTold.told_short {s t : Dev} (h : TempoTold s t) (hevt : s.rb 0x440 7 = true) :
    (s.postEvent ⟨1, 0, BitVec.ofNat 16 (if s.tempo.j = 0 then 0x0110 else 0x0111), s.short,
      BitVec.ofNat 48 (s.tempo.k % 2 ^ 32 + 2 ^ 32 * s.tempo.j)⟩).out <:+ t.out := by
  have hwheel : BitVec.ofInt 48 (s.wheelN : Int) = s.short := by
    rw [BitVec.ofInt_natCast, Dev.wheelN, Dev.short, BitVec.ofNat_toNat]
  rw [← hwheel]
  exact h.told hevt

theorem tempoTold_tempoTells (s : Dev) : TempoTold s s.tempoTells := by
  have hfirst : (if s.tempo.j = 0 then s.eventAt 0x0110 s.wheelN (s.tempo.k % 2 ^ 32)
      else s.eventAt 0x0111 s.wheelN (s.tempo.k % 2 ^ 32 + 2 ^ 32 * s.tempo.j)) =
      s.eventAt (if s.tempo.j = 0 then 0x0110 else 0x0111) s.wheelN (s.tempo.k % 2 ^ 32 + 2 ^ 32 * s.tempo.j) := by
    split
    · next hj => rw [hj, Nat.mul_zero, Nat.add_zero]
    · rfl
  unfold Dev.tempoTells
  simp only [hfirst]
  split
  · split
    · exact ⟨(quiet_postEvent s _).trans (quiet_postEvent _ _), (sameBefore_postEvent s _).trans (sameBefore_postEvent _ _),
        fun _ => (quiet_postEvent _ _).out⟩
    · exact ⟨quiet_postEvent s _, sameBefore_postEvent s _, fun _ => List.suffix_rfl⟩
  · next hevt => exact ⟨.refl s, ⟨rfl, rfl⟩, fun h => absurd h hevt⟩

section
variable {s : State} {d b : Dev} (htold : TempoTold s.dev d) (htrig : Triggered d b)
include htold htrig

theorem tempo_of_triggered : b.tempo = s.dev.tempo := by
  obtain ⟨⟨r, f, hb⟩, -⟩ := htrig
  rw [hb]
  exact htold.quiet.tempo

theorem tempoS_of_triggered : b.tempoS = s.dev.tempoS := by
  have hforce := htrig.force
  obtain ⟨⟨r, f, hb⟩, -⟩ := htrig
  refine tempoS_congr ?_ ((hforce _ (by decide)).trans (htold.quiet.force _ rfl)) ?_ ?_
  · rw [hb]
    exact htold.quiet.clk
  · rw [hb]
    exact htold.quiet.written _ rfl
  · rw [hb]
    exact ⟨htold.before.before, htold.before.tick⟩

omit htold in
theorem out_of_triggered : b.out = d.out := by
  obtain ⟨⟨r, f, hb⟩, -⟩ := htrig
  rw [hb]

theorem keepsBut_tempo {x : Tempo} {e : Dev} (hq : Quiet { b with tempo := x } e) : KeepsBut [.tempo, .rip, .regs] s { s with dev := e } := by
  obtain ⟨⟨r, f, hb⟩, -⟩ := htrig
  rw [hb] at hq
  refine keepsBut_of_quiet _ s hq htold.quiet.out fun a ha => ?_
  have hs := a.same_of_quiet s d htold.quiet
  cases a
  case tempo | rip | regs => simp at ha
  all_goals exact hs

end

theorem does_tempoEvent {s : State} (hon : s.dev.coreOn = true) (hdue : s.dev.tempoDue = true) : Does .tempoEvent s (fun t =>
    KeepsBut [.tempo, .rip, .regs] s t ∧ TempoMoved s.dev t.dev.tempo ∧
      (s.dev.rb 0x440 7 = true →
        Tells (if s.dev.tempo.j = 0 then 0x0110 else 0x0111) (s.dev.tempo.k % 2 ^ 32 + 2 ^ 32 * s.dev.tempo.j) s t)) := by
  rw [does_of_onCore Dev.tempoEvent rfl hon, tempoEvent_due hdue]
  have htold := tempoTold_tempoTells s.dev
  generalize s.dev.tempoTells = d at htold
  have htrig := triggered_tempoTriggers d s.dev.tempo.k (decide (s.dev.tempo.j = 0))
    (decide (s.dev.tempo.j = 0) && decide (s.dev.tempoL ≠ 0) && decide (s.dev.tempo.k % s.dev.tempoL = 0)) s.dev.wheelN
  generalize d.tempoTriggers _ _ _ _ = b at htrig
  obtain ⟨x, hx, hk, hj, hbeat, hsNow⟩ := tempoBeat_eq (tempo_of_triggered htold htrig) (tempoS_of_triggered htold htrig)
  have hmove : (s.dev.tempoBeat b).modTempo Tempo.advance = { b with tempo := x.advance } := by
    rw [hx]
    rfl
  rw [hmove]
  have hq := quiet_settle { b with tempo := x.advance }
  generalize Dev.settle { b with tempo := x.advance } = e at hq
  have htempo : e.tempo = x.advance := hq.tempo
  have hout : d.out <:+ e.out := (out_of_triggered htrig).symm ▸ hq.out
  refine ⟨keepsBut_tempo htold htrig hq, ?_, fun hevt => tells_of_postEvent (.refl s.dev) ((htold.told_short hevt).trans hout)⟩
  rw [htempo]
  exact tempoMoved_advance hk hj hbeat hsNow

/-! ### O38 -/

theorem does_wordClockEdge_steers {s : State} {f : Bool} (ppm : Int) (hon : s.dev.coreOn = true) (hrun : s.dev.clk.running = true)
    (hrole : s.dev.clk.role = .master) (hf : f = s.dev.rb 0x410 3) (hst : s.dev.clk.wordState = .acquire ∨ s.dev.clk.wordState = .locked) :
    Does (.wordClockEdge f ppm) s (fun t => KeepsBut [.clk] s t ∧ Steered s.dev { s.dev with clk := t.dev.clk }) := by
  rw [does_of_onCore (fun d => d.wordEdge f ppm) rfl hon]
  have hsteered := steered_wordEdge ppm hrun hrole hf hst
  have hq := quiet_settle (s.dev.wordEdge f ppm)
  have honly := hsteered.only
  generalize s.dev.wordEdge f ppm = d at hsteered hq honly
  generalize d.settle = e at hq
  have hclk : e.clk = d.clk := hq.clk
  rw [honly] at hq
  refine ⟨keepsBut_clk s _ hq, ?_⟩
  rw [hclk, ← honly]
  exact hsteered

theorem does_wordClockEdge_holdover {s : State} {f : Bool} {ppm : Int} (hon : s.dev.coreOn = true) (hrun : s.dev.clk.running = true)
    (hrole : s.dev.clk.role = .master) (hf : f = s.dev.rb 0x410 3) (hst : s.dev.clk.wordState = .holdover) :
    Does (.wordClockEdge f ppm) s (fun t => KeepsBut [.clk] s t ∧ t.dev.clk.wordSteer = s.dev.clk.wordSteer ∧
      (ppm.natAbs ≤ 50 → t.dev.clk.wordState = if 15 ≤ s.dev.clk.wordGood then .acquire else .holdover) ∧
      (50 < ppm.natAbs → t.dev.clk.wordState = .holdover ∧ t.dev.clk.wordGood = 0)) := by
  refine does_core_of_quiet (fun d => d.wordEdge f ppm) rfl hon (wordEdge_holdover ppm hrun hrole hf hst) fun e hq => ?_
  have hclk := hq.clk
  refine ⟨keepsBut_clk s _ hq, ?_, fun hgood => ?_, fun hbad => ?_⟩ <;> rw [hclk]
  · dsimp only
    split_ifs <;> rfl
  · simp only [if_pos hgood, Nat.reduceLeDiff]
    by_cases h15 : 15 ≤ s.dev.clk.wordGood
    · simp [h15]
    · simp [h15, hst]
  · simp [Nat.not_le.2 hbad, hst]

theorem modClk_modOzh (s : Dev) (f : Ozh → Ozh) (g : Clk → Clk) : (s.modOzh f).modClk g = { s with clk := g s.clk, ozh := f s.ozh } := rfl

theorem does_driftCompensation {s : State} (hdue : s.dev.driftDue = true) : Does .driftCompensation s (fun t => KeepsBut [.clk, .ozh] s t ∧
    t.dev.ozh = { s.dev.ozh with driftAcc := s.dev.ozh.driftAcc - 1000000000 } ∧
      t.dev.clk = { s.dev.clk with
        skip := if 0 < (s.dev.nbrOf s.dev.ozh.parent).delta then s.dev.clk.skip + 1 else s.dev.clk.skip - 1 }) := by
  refine does_of_quiet (fun d => if d.driftDue then
      (d.modOzh (fun z => { z with driftAcc := z.driftAcc - 1000000000 })).modClk (fun c => { c with
        skip := if 0 < (d.nbrOf d.ozh.parent).delta then c.skip + 1 else c.skip - 1 })
    else d) rfl ((if_pos hdue).trans (modClk_modOzh s.dev _ _)) fun e hq => ?_
  exact ⟨keepsBut_clk_ozh s _ _ hq, hq.ozh, hq.clk⟩

/-- Settles O38: the word-clock follower by its states, the reports of the clock by `reported`, and a Tempo event by its three stages. -/
theorem clockRowsAct : Obligations.ClockRowsAct := by
  intro s hon
  refine ⟨fun f ppm hrun hrole hf hst => ?_, fun f ppm hrun hrole hf hst => does_wordClockEdge_holdover hon hrun hrole hf hst,
    fun f ppm h => ?_, fun q hst hfull hdue => ?_, fun hst hdue => ?_, fun n hrun => ?_, does_driftCompensation,
    fun hdue => ?_, fun hdue => ?_, fun q hlast hruns hsrc hdue => ?_⟩
  · obtain ⟨t, ht, hkeeps, hsteered⟩ := does_wordClockEdge_steers ppm hon hrun hrole hf hst
    exact ⟨t, ht, hkeeps, hsteered.steer, hsteered.edge, hsteered.wheel, hsteered.good, hsteered.acquire, hsteered.locked⟩
  · rw [does_of_onCore (fun d => d.wordEdge f ppm) rfl hon, wordEdge_unfollowed ppm h]
    exact keepsBut_idle s
  · rw [does_of_onCore Dev.wordRange rfl hon, wordRange_due hst hfull hdue]
    obtain ⟨hkeeps, hregs, hclk, -, hforce, htells⟩ := reported (s := s) (c := { s.dev.clk with wordFull := some s.dev.clk.now })
      (u := s.dev.tempo) (i := 4) (code := 0x0104) (areas := [.clk, .regs]) rfl (by decide) (.inl (by decide)) (.inr rfl)
    exact ⟨hkeeps, hregs, hclk, hforce, htells⟩
  · rw [does_of_onCore Dev.wordLost rfl hon, wordLost_due hst hdue]
    obtain ⟨hkeeps, hregs, hclk, -, hforce, htells⟩ := reported (s := s)
      (c := { s.dev.clk with wordState := .holdover, wordGood := 0, wordFull := none })
      (u := s.dev.tempo) (i := 3) (code := 0x0105) (areas := [.clk, .regs]) rfl (by decide) (.inl (by decide)) (.inr rfl)
    exact ⟨hkeeps, hregs, hclk, hforce, htells⟩
  · exact does_of_quiet (fun d => if d.clk.running then d.modClk (fun c => { c with woscCal := n }) else d) rfl (if_pos hrun)
      fun e hq => ⟨keepsBut_clk s _ hq, hq.clk⟩
  · obtain ⟨t, ht, hkeeps, hmoved, htells⟩ := does_tempoEvent hon hdue
    exact ⟨t, ht, hkeeps, hmoved.beat, hmoved.sNow, hmoved.next, htells⟩
  · have hidle : s.dev.tempoEvent = s.dev := by simp [Dev.tempoEvent, hdue]
    rw [does_of_onCore Dev.tempoEvent rfl hon, hidle]
    exact keepsBut_idle s
  · rw [does_of_onCore Dev.tempoLost rfl hon, tempoLost_due hlast hruns hsrc (by omega)]
    obtain ⟨hkeeps, hregs, -, htempo, hforce, htells⟩ := reported (s := s) (c := s.dev.clk)
      (u := { s.dev.tempo with st := .hold, lastClk := none }) (i := 5) (code := 0x0113) (areas := [.tempo, .regs])
      rfl (by decide) (.inr rfl) (.inl (by decide))
    exact ⟨hkeeps, hregs, htempo, hforce, htells⟩

end Sys2Proof.Machine
end

section
/-! SUPPORT. Reads of BAR0 (R9, R45): which registers show a latched word, what a run of words reads and latches, and O3. -/

namespace Sys2Proof.Machine

/-! ### Words latched -/

/-- The device with other HI words latched. -/
def Dev.withHi (s : Dev) (now : Word) (asn : BitVec 8) (eIn rtime : Word) : Dev :=
  { s with clk := { s.clk with nowHi := now }, ozh := { s.ozh with asnHi := asn }, br := { s.br with eInHi := eIn, rtimeHi := rtime } }

section
variable (s : Dev) (a : Word) (b : BitVec 8) (c d : Word)

theorem rf_withHi : (s.withHi a b c d).rf = s.rf := (rfl)
theorem rb_withHi : (s.withHi a b c d).rb = s.rb := (rfl)
theorem strOf_withHi : (s.withHi a b c d).strOf = s.strOf := (rfl)
theorem clsOf_withHi : (s.withHi a b c d).clsOf = s.clsOf := (rfl)
theorem ripOf_withHi : (s.withHi a b c d).ripOf = s.ripOf := (rfl)
theorem harpOf_withHi : (s.withHi a b c d).harpOf = s.harpOf := (rfl)
theorem carOf_withHi : (s.withHi a b c d).carOf = s.carOf := (rfl)
theorem portOf_withHi : (s.withHi a b c d).portOf = s.portOf := (rfl)
theorem xchkOff_withHi : (s.withHi a b c d).xchkOff = s.xchkOff := (rfl)
theorem pinLevel_withHi : (s.withHi a b c d).pinLevel = s.pinLevel := (rfl)
theorem harpUnowned_withHi : (s.withHi a b c d).harpUnowned = s.harpUnowned := (rfl)
theorem refreshNow_withHi : (s.withHi a b c d).refreshNow = s.refreshNow := (rfl)

theorem refCh_withHi : (s.withHi a b c d).refCh = s.refCh := (rfl)
theorem tj16_withHi : (s.withHi a b c d).tj16 = s.tj16 := (rfl)

theorem leadOf_withHi : (s.withHi a b c d).leadOf = s.leadOf := by
  funext n
  induction n with
  | zero => rfl
  | succ n ih => simp only [Dev.leadOf, rb_withHi, ih]

theorem classOf_withHi : (s.withHi a b c d).classOf = s.classOf := by
  funext n
  simp only [Dev.classOf, leadOf_withHi, rf_withHi]

theorem isVf_withHi : (s.withHi a b c d).isVf = s.isVf := by
  funext n
  simp only [Dev.isVf, classOf_withHi, rf_withHi]

theorem isMember_withHi : (s.withHi a b c d).isMember = s.isMember := by
  funext n
  simp only [Dev.isMember, leadOf_withHi]

theorem activePhases_withHi : (s.withHi a b c d).activePhases = s.activePhases := by
  funext l
  have hgroup : (s.withHi a b c d).groupOf l = s.groupOf l := by simp only [Dev.groupOf, leadOf_withHi]
  rw [Dev.activePhases, hgroup]
  rfl

theorem strWord_withHi (off : Nat) : (s.withHi a b c d).strWord off = s.strWord off := by
  simp only [Dev.strWord, strOf_withHi, leadOf_withHi, xchkOff_withHi, isMember_withHi, activePhases_withHi]

theorem clrWord_withHi (off : Nat) : (s.withHi a b c d).clrWord off = s.clrWord off := by
  have hclr : (s.withHi a b c d).clr = s.clr := rfl
  have htemp : (s.withHi a b c d).shownTemp = s.shownTemp := by
    funext k
    simp only [Dev.shownTemp, leadOf_withHi, rf_withHi, isVf_withHi, refCh_withHi, clsOf_withHi, tj16_withHi]
  have htt : (s.withHi a b c d).shownTt = s.shownTt := by
    funext k
    simp only [Dev.shownTt, Dev.ttOf, leadOf_withHi, rf_withHi, isVf_withHi, refCh_withHi, clsOf_withHi, strOf_withHi, classOf_withHi]
  have hlamp : (s.withHi a b c d).shownLamp = s.shownLamp := by
    funext k
    simp only [Dev.shownLamp, Dev.lampOf, leadOf_withHi, rf_withHi, isVf_withHi, refCh_withHi, clsOf_withHi, strOf_withHi, classOf_withHi]
  have htj : (s.withHi a b c d).tj16 = s.tj16 := rfl
  simp only [Dev.clrWord, hclr, htemp, htt, hlamp, htj, clsOf_withHi, strOf_withHi]

theorem ripWordAt_withHi (off : Nat) : (s.withHi a b c d).ripWordAt off = s.ripWordAt off := by
  simp only [Dev.ripWordAt, ripOf_withHi]

theorem hrpWord_withHi (off : Nat) : (s.withHi a b c d).hrpWord off = s.hrpWord off := by
  simp only [Dev.hrpWord, harpOf_withHi, pinLevel_withHi, harpUnowned_withHi]

theorem carWord_withHi (off : Nat) : (s.withHi a b c d).carWord off = s.carWord off := by
  simp only [Dev.carWord, carOf_withHi, refreshNow_withHi]

theorem hoopWord_withHi (off : Nat) : (s.withHi a b c d).hoopWord off = s.hoopWord off := by
  have hhoop : (s.withHi a b c d).hoop = s.hoop := rfl
  have hup : (s.withHi a b c d).upSent = s.upSent := rfl
  have hon : (s.withHi a b c d).fabricOn = s.fabricOn := rfl
  have hcut : (s.withHi a b c d).cutOff = s.cutOff := rfl
  have hid : (s.withHi a b c d).unaddressed = s.unaddressed := rfl
  have hdepth : (s.withHi a b c d).depthField = s.depthField := rfl
  have hcum : (s.withHi a b c d).cumField = s.cumField := rfl
  have hbusy : (s.withHi a b c d).shiftBusy = s.shiftBusy := rfl
  simp only [Dev.hoopWord, hhoop, hup, hon, hcut, hid, hdepth, hcum, hbusy, portOf_withHi]

theorem whlWord_withHi {off : Nat} (h : off ≠ 0x404) : (s.withHi a b c d).whlWord off = s.whlWord off := by
  unfold Dev.whlWord
  split
  case h_2 => exact absurd rfl h
  all_goals rfl

theorem ozhWord_withHi {off : Nat} (h : off ≠ 0x8038) : (s.withHi a b c d).ozhWord off = s.ozhWord off := by
  unfold Dev.ozhWord
  split
  case h_3 => exact absurd rfl h
  all_goals rfl

theorem rndWord_withHi {off : Nat} (h1 : off ≠ 0x9018) (h2 : off ≠ 0x9028) : (s.withHi a b c d).rndWord off = s.rndWord off := by
  unfold Dev.rndWord
  iterate 8 refine ite_congr rfl (fun _ => rfl) fun _ => ?_
  split
  case h_7 => exact absurd rfl h1
  case h_11 => exact absurd rfl h2
  all_goals rfl

/-- The HI registers, which alone show the words latched. -/
def hiRegs : List Nat := [0x404, 0x8038, 0x9018, 0x9028]

theorem roWord_withHi {off : Nat} (h : off ∉ hiRegs) : (s.withHi a b c d).roWord off = s.roWord off := by
  simp only [hiRegs, List.mem_cons, List.not_mem_nil, or_false, not_or] at h
  obtain ⟨h1, h2, h3, h4⟩ := h
  have hflt : (s.withHi a b c d).fltWord off = s.fltWord off := (rfl)
  have hpwr : (s.withHi a b c d).pwrWord off = s.pwrWord off := (rfl)
  have hring : (s.withHi a b c d).ringWord off = s.ringWord off := (rfl)
  have hmtx : (s.withHi a b c d).mtxWord off = s.mtxWord off := (rfl)
  have hadc : (s.withHi a b c d).adcWord off = s.adcWord off := (rfl)
  have htwn : (s.withHi a b c d).twnWord off = s.twnWord off := (rfl)
  simp only [Dev.roWord, hflt, hpwr, hring, hmtx, hadc, htwn, whlWord_withHi s a b c d h1, ozhWord_withHi s a b c d h2,
    rndWord_withHi s a b c d h3 h4, strWord_withHi, clrWord_withHi, ripWordAt_withHi, hrpWord_withHi, carWord_withHi, hoopWord_withHi]

/-- No other register shows a word latched. -/
theorem readReg_withHi {off : Nat} (h : off ∉ hiRegs) : (s.withHi a b c d).readReg off = s.readReg off := by
  have hon : (s.withHi a b c d).coreOn = s.coreOn := (rfl)
  have hfield : (s.withHi a b c d).readField off = s.readField off := (rfl)
  simp only [Dev.readReg, hon, hfield, roWord_withHi s a b c d h]

end

/-! ### What the LO and HI registers read -/

theorem setField_all (x : Word) : setField 0 31 0 (fieldOf x 31 0) = x := by
  refine BitVec.eq_of_getLsbD_eq fun i hi => ?_
  rw [getLsbD_setField _ _ _ _ _ hi, testBit_fieldOf]
  simpa [Nat.le_of_lt_succ hi] using fun _ => hi

/-- A register of one RO field of 32 bits reads the word composed for it. -/
theorem readReg_ro {s : Dev} (hon : s.coreOn = true) {off : Nat} (h : regFields off = [⟨31, 0, .ro, 0, .any⟩]) : s.readReg off = s.roWord off := by
  simp only [Dev.readReg, hon, if_true, h, List.foldl_cons, List.foldl_nil, Dev.readField]
  exact setField_all _

theorem readReg_coreOff {s : Dev} (hon : s.coreOn = false) (off : Nat) : s.readReg off = 0 := by
  simp [Dev.readReg, hon]

theorem at_zero (n : Nat) : at_ (n % 2 ^ 32) 0 = BitVec.ofNat 32 n := by
  rw [at_, Nat.pow_zero, Nat.mul_one]
  exact BitVec.eq_of_toNat_eq (by simp)

theorem readReg_asnHi {s : Dev} (hon : s.coreOn = true) : s.readReg 0x8038 = s.ozh.asnHi.setWidth 32 := by
  have hfields : regFields 0x8038 = [⟨7, 0, .ro, 0, .any⟩] := by decide +kernel
  have hro : s.roWord 0x8038 = at_ s.ozh.asnHi.toNat 0 := rfl
  simp only [Dev.readReg, hon, if_true, hfields, List.foldl_cons, List.foldl_nil, Dev.readField, hro]
  refine BitVec.eq_of_getLsbD_eq fun i hi => ?_
  rw [getLsbD_setField _ _ _ _ _ hi, testBit_fieldOf]
  by_cases h7 : i ≤ 7
  · simpa [h7, at_, hi] using fun _ => Nat.lt_succ_of_le h7
  · simp [h7, BitVec.getLsbD_of_ge s.ozh.asnHi i (by omega)]

/-- The LO and HI registers of the clock and the radio, with CORE on. -/
theorem readReg_wheel {s : Dev} (hon : s.coreOn = true) : s.readReg 0x400 = s.clk.wheel.setWidth 32 :=
  readReg_ro hon (by decide +kernel)

theorem readReg_nowHi {s : Dev} (hon : s.coreOn = true) : s.readReg 0x404 = s.clk.nowHi := readReg_ro hon (by decide +kernel)

theorem readReg_asn {s : Dev} (hon : s.coreOn = true) : s.readReg 0x8034 = BitVec.ofNat 32 s.asn :=
  (readReg_ro hon (by decide +kernel)).trans (at_zero s.asn)

/-- Those of the Rind's window. -/
theorem readReg_rind {s : Dev} (hon : s.coreOn = true) :
    s.readReg 0x9014 = (if s.br.on then BitVec.ofNat 32 s.br.copy.eIn else 0) ∧ s.readReg 0x9018 = (if s.br.on then s.br.eInHi else 0) ∧
      s.readReg 0x9024 = (if s.br.on then BitVec.ofNat 32 s.br.copy.rtime else 0) ∧ s.readReg 0x9028 = (if s.br.on then s.br.rtimeHi else 0) := by
  have h14 : s.roWord 0x9014 = if !s.br.on then 0 else at_ (s.br.copy.eIn % 2 ^ 32) 0 := rfl
  have h18 : s.roWord 0x9018 = if !s.br.on then 0 else s.br.eInHi := rfl
  have h24 : s.roWord 0x9024 = if !s.br.on then 0 else at_ (s.br.copy.rtime % 2 ^ 32) 0 := rfl
  have h28 : s.roWord 0x9028 = if !s.br.on then 0 else s.br.rtimeHi := rfl
  rw [readReg_ro hon (by decide +kernel), readReg_ro hon (by decide +kernel), readReg_ro hon (by decide +kernel),
    readReg_ro hon (by decide +kernel), h14, h18, h24, h28, at_zero, at_zero]
  cases s.br.on <;> exact ⟨rfl, rfl, rfl, rfl⟩

/-- A HI register reads the same where what it latched, and the powers it needs, are the same. -/
theorem readReg_hi_congr {s t : Dev} {r : Nat} (hr : r ∈ hiRegs) (hon : t.coreOn = s.coreOn) (hrind : t.br.on = s.br.on)
    (hnow : r = 0x404 → t.clk.nowHi = s.clk.nowHi) (hasn : r = 0x8038 → t.ozh.asnHi = s.ozh.asnHi)
    (heIn : r = 0x9018 → t.br.eInHi = s.br.eInHi) (hrtime : r = 0x9028 → t.br.rtimeHi = s.br.rtimeHi) : t.readReg r = s.readReg r := by
  cases hs : s.coreOn with
  | false => rw [readReg_coreOff hs, readReg_coreOff (hon.trans hs)]
  | true =>
    have ht := hon.trans hs
    obtain ⟨-, hs18, -, hs28⟩ := readReg_rind hs
    obtain ⟨-, ht18, -, ht28⟩ := readReg_rind ht
    simp only [hiRegs, List.mem_cons, List.not_mem_nil, or_false] at hr
    obtain rfl | rfl | rfl | rfl := hr
    · rw [readReg_nowHi hs, readReg_nowHi ht, hnow rfl]
    · rw [readReg_asnHi hs, readReg_asnHi ht, hasn rfl]
    · rw [hs18, ht18, hrind, heIn rfl]
    · rw [hs28, ht28, hrind, hrtime rfl]

/-! ### What a run of words latches -/

/-- The device with the HI words latched of the LO registers that `hit` names. -/
def Dev.latchedHi (s : Dev) (hit : Nat → Bool) : Dev :=
  s.withHi (if hit 0x400 then (s.clk.wheel >>> 32).setWidth 32 else s.clk.nowHi)
    (if hit 0x8034 then BitVec.ofNat 8 (s.asn / 2 ^ 32) else s.ozh.asnHi)
    (if hit 0x9014 then BitVec.ofNat 32 (s.br.copy.eIn / 2 ^ 32) else s.br.eInHi)
    (if hit 0x9024 then BitVec.ofNat 32 (s.br.copy.rtime / 2 ^ 32) else s.br.rtimeHi)

theorem latchedHi_congr (s : Dev) {p q : Nat → Bool} (h : ∀ lo ∈ [0x400, 0x8034, 0x9014, 0x9024], p lo = q lo) :
    s.latchedHi p = s.latchedHi q := by
  simp only [List.forall_mem_cons] at h
  obtain ⟨h1, h2, h3, h4, -⟩ := h
  simp only [Dev.latchedHi, h1, h2, h3, h4]

theorem latchedHi_none (s : Dev) : s.latchedHi (fun _ => false) = s := rfl

theorem latchedHi_latchedHi (s : Dev) (p q : Nat → Bool) : (s.latchedHi p).latchedHi q = s.latchedHi (fun lo => p lo || q lo) := by
  have hor : ∀ {α : Type} (a b : Bool) (x y : α), (if b then x else if a then x else y) = if (a || b) then x else y := by
    intro _ a b x y
    cases a <;> cases b <;> rfl
  simp only [Dev.latchedHi, ← hor]
  rfl

theorem latchHi_eq (s : Dev) (off : Nat) : s.latchHi off = s.latchedHi (fun lo => s.coreOn && decide (lo = off)) := by
  unfold Dev.latchHi
  cases s.coreOn
  · rfl
  · simp only [Bool.not_true, Bool.false_eq_true, if_false, Bool.true_and]
    split
    · rfl
    · rfl
    · rfl
    · rfl
    · next h1 h2 h3 h4 =>
      simp [Dev.latchedHi, Dev.withHi, Ne.symm h1, Ne.symm h2, Ne.symm h3, Ne.symm h4]

theorem clk_latchedHi (s : Dev) (hit : Nat → Bool) :
    (s.latchedHi hit).clk = if hit 0x400 then { s.clk with nowHi := (s.clk.wheel >>> 32).setWidth 32 } else s.clk := by
  cases h : hit 0x400 <;> simp [Dev.latchedHi, Dev.withHi, h]

theorem ozh_latchedHi (s : Dev) (hit : Nat → Bool) :
    (s.latchedHi hit).ozh = if hit 0x8034 then { s.ozh with asnHi := BitVec.ofNat 8 (s.asn / 2 ^ 32) } else s.ozh := by
  cases h : hit 0x8034 <;> simp [Dev.latchedHi, Dev.withHi, h]

/-- A register reads the same after a latch, but for the HI registers latched. -/
theorem readReg_latchedHi (s : Dev) {hit : Nat → Bool} {r : Nat} (h : r ∈ hiRegs → hit (r - 4) = false) :
    (s.latchedHi hit).readReg r = s.readReg r := by
  by_cases hr : r ∈ hiRegs
  · have hmiss := h hr
    refine readReg_hi_congr hr rfl rfl ?_ ?_ ?_ ?_ <;> rintro rfl <;> exact if_neg (by simpa using hmiss)
  · exact readReg_withHi s _ _ _ _ hr

/-- Whether `lo` is one of the `n` words from `off` on. -/
def inWords (off n lo : Nat) : Bool := decide (off ≤ lo ∧ lo < off + 4 * n ∧ (lo - off) % 4 = 0)

theorem inWords_succ (off n lo : Nat) : inWords off (n + 1) lo = (decide (lo = off) || inWords (off + 4) n lo) := by
  simp only [inWords, ← Bool.decide_or]
  refine decide_eq_decide.2 ?_
  omega

theorem readWords_latches (s : Dev) (off n : Nat) : (s.readWords off n).2 = s.latchedHi (fun lo => s.coreOn && inWords off n lo) := by
  induction n generalizing s off with
  | zero => exact (latchedHi_none s).symm.trans (latchedHi_congr s fun lo _ => by simp [inWords]; omega)
  | succ n ih =>
    have hrest : (s.readWords off (n + 1)).2 = ((s.latchHi off).readWords (off + 4) n).2 := rfl
    rw [hrest, ih, latchHi_eq, latchedHi_latchedHi]
    refine latchedHi_congr s fun lo _ => ?_
    have hon : (s.latchedHi (fun lo => s.coreOn && decide (lo = off))).coreOn = s.coreOn := rfl
    rw [hon, inWords_succ, Bool.and_or_distrib_left]

/-! ### What a run of words reads -/

theorem getD_leBytes (v : Nat) {n k : Nat} (h : k < n) : (leBytes v n).getD k 0 = BitVec.ofNat 8 (v / 256 ^ k) := by
  induction n generalizing v k with
  | zero => omega
  | succ n ih =>
    cases k with
    | zero => simp [leBytes]
    | succ k =>
      rw [leBytes, List.getD_cons_succ, ih (v / 256) (by omega), Nat.div_div_eq_div_mul, Nat.pow_succ, Nat.mul_comm 256]

theorem length_readWords (s : Dev) (off n : Nat) : (s.readWords off n).1.length = 4 * n := by
  induction n generalizing s off with
  | zero => rfl
  | succ n ih =>
    have hcons : (s.readWords off (n + 1)).1 = leBytes (s.readReg off).toNat 4 ++ ((s.latchHi off).readWords (off + 4) n).1 := rfl
    rw [hcons, List.length_append, length_leBytes, ih]
    omega

/-- A register as a read of `s` that ends in `t` finds it: HI registers after the latch. -/
def Dev.readsIn (s t : Dev) (r : Nat) : Word := if r ∈ hiRegs then t.readReg r else s.readReg r

/-- Quiet changes after the latch leave the HI registers as they read. -/
theorem readsIn_quiet {s d t : Dev} (hq : Quiet d t) (r : Nat) : s.readsIn d r = s.readsIn t r := by
  unfold Dev.readsIn
  split
  · next hr =>
    obtain ⟨_, _, _, hbr⟩ := hq.br
    have hon : t.coreOn = d.coreOn := by rw [Dev.coreOn, Dev.coreOn, hq.pwr]
    refine (readReg_hi_congr hr hon ?_ (fun _ => ?_) (fun _ => ?_) (fun _ => ?_) fun _ => ?_).symm
    · rw [hbr]
    · rw [hq.clk]
    · rw [hq.ozh]
    · rw [hbr]
    · rw [hbr]
  · rfl

theorem getD_readWords (s : Dev) {off n i : Nat} (ha : off % 4 = 0) (hi : i < 4 * n) :
    (s.readWords off n).1.getD i 0 = BitVec.ofNat 8 ((s.readsIn (s.readWords off n).2 (off + i / 4 * 4)).toNat / 256 ^ (i % 4)) := by
  induction n generalizing s off i with
  | zero => omega
  | succ n ih =>
    have hcons : (s.readWords off (n + 1)).1 = leBytes (s.readReg off).toNat 4 ++ ((s.latchHi off).readWords (off + 4) n).1 := rfl
    have hlast : (s.readWords off (n + 1)).2 = ((s.latchHi off).readWords (off + 4) n).2 := rfl
    rw [hcons]
    by_cases h4 : i < 4
    · have hfirst : s.readsIn (s.readWords off (n + 1)).2 off = s.readReg off := by
        rw [Dev.readsIn, readWords_latches]
        refine ite_eq_right_iff.2 fun hr => readReg_latchedHi s fun _ => ?_
        have hpos : 0 < off := by
          refine Nat.pos_of_ne_zero ?_
          rintro rfl
          exact absurd hr (by decide)
        have hout : inWords off (n + 1) (off - 4) = false := decide_eq_false (by omega)
        rw [hout, Bool.and_false]
      rw [List.getD_append _ _ _ _ (by rw [length_leBytes]; exact h4), getD_leBytes _ h4, Nat.div_eq_of_lt h4, Nat.mod_eq_of_lt h4,
        Nat.zero_mul]
      exact congrArg (fun w : Word => BitVec.ofNat 8 (w.toNat / 256 ^ i)) hfirst.symm
    · have hreads : ∀ t r, (s.latchHi off).readsIn t r = s.readsIn t r := by
        intro t r
        unfold Dev.readsIn
        split
        · rfl
        · next hr => rw [latchHi_eq, readReg_latchedHi s fun h => absurd h hr]
      obtain ⟨k, rfl⟩ : ∃ k, i = 4 + k := ⟨i - 4, by omega⟩
      rw [List.getD_append_right _ _ _ _ (by rw [length_leBytes]; omega), length_leBytes, Nat.add_sub_cancel_left,
        ih (s.latchHi off) (off := off + 4) (i := k) (by omega) (by omega), hlast, hreads, Nat.add_mod_left]
      congr 4
      omega

/-! ### O3 -/

/-- A host read that touches a LO register: the words latched, and the bytes of the reply. -/
theorem hostRead_touched {s : Dev} {lo off size : Nat} (h : touches lo off size = true) :
    s.hostRead lo off size = (s.readWords (off / 4 * 4) ((off % 4 + size + 3) / 4)).2.emit
      (.reply (((s.readWords (off / 4 * 4) ((off % 4 + size + 3) / 4)).1.drop (off % 4)).take size)) := by
  rw [Dev.hostRead, if_pos h]
  rfl

/-- The words that a read covers are those that it touches. -/
theorem inWords_eq_touches (off size : Nat) {lo : Nat} (hlo : lo % 4 = 0) :
    inWords (off / 4 * 4) ((off % 4 + size + 3) / 4) lo = touches lo off size := by
  rw [inWords, touches, ← Bool.decide_and]
  refine decide_eq_decide.2 ?_
  omega

theorem latched_by_read (s : Dev) (off size : Nat) : (s.readWords (off / 4 * 4) ((off % 4 + size + 3) / 4)).2 =
    s.latchedHi (fun lo => s.coreOn && touches lo off size) := by
  rw [readWords_latches]
  refine latchedHi_congr s fun lo hlo => ?_
  rw [inWords_eq_touches off size]
  revert hlo
  revert lo
  decide

theorem getD_read (s : Dev) {off size i : Nat} (hi : i < size) :
    (((s.readWords (off / 4 * 4) ((off % 4 + size + 3) / 4)).1.drop (off % 4)).take size).getD i 0 =
      BitVec.ofNat 8 ((s.readsIn (s.readWords (off / 4 * 4) ((off % 4 + size + 3) / 4)).2 ((off + i) / 4 * 4)).toNat / 256 ^ ((off + i) % 4)) := by
  have hreg : off / 4 * 4 + (off % 4 + i) / 4 * 4 = (off + i) / 4 * 4 := by omega
  have hbyte : (off % 4 + i) % 4 = (off + i) % 4 := by omega
  rw [List.getD_eq_getElem?_getD, List.getElem?_take, if_pos hi, List.getElem?_drop, ← List.getD_eq_getElem?_getD,
    getD_readWords s (by omega) (by omega), hreg, hbyte]

theorem length_read (s : Dev) (off size : Nat) :
    (((s.readWords (off / 4 * 4) ((off % 4 + size + 3) / 4)).1.drop (off % 4)).take size).length = size := by
  rw [List.length_take, List.length_drop, length_readWords]
  omega

/-- What the row of a LO register does with a read that touches it. -/
theorem does_loRead {c : Instr} {s : State} {lo off size : Nat} (hc : exec c s = onDev (fun d => d.hostRead lo off size) s)
    (h : touches lo off size = true) : Does c s (fun t => KeepsBut [.clk, .ozh, .br] s t ∧
      ∃ d, d = s.dev.latchedHi (fun lo => s.dev.coreOn && touches lo off size) ∧ Quiet d t.dev ∧
        ∃ bytes, .reply bytes ∈ t.dev.out ∧ bytes.length = size ∧ ∀ i < size,
          bytes.getD i 0 = BitVec.ofNat 8 ((s.dev.readsIn d ((off + i) / 4 * 4)).toNat / 256 ^ ((off + i) % 4))) := by
  have hread := hostRead_touched (s := s.dev) h
  have hlatched := latched_by_read s.dev off size
  have hbytes := fun i (hi : i < size) => getD_read s.dev (off := off) hi
  rw [hlatched] at hread
  refine does_of_quiet (fun d => d.hostRead lo off size) hc hread fun e hq => ?_
  have hquiet := (quiet_emit _ _).trans hq
  refine ⟨keepsBut_of_quiet _ s hquiet List.suffix_rfl fun a ha => ?_, _, rfl, hquiet, _,
    hq.out.subset (List.mem_cons_self ..), length_read s.dev off size, fun i hi => ?_⟩
  · have hs := a.same_refl s
    cases a
    case clk | ozh | br => simp at ha
    all_goals exact hs
  · rw [hbytes i hi, hlatched]

/-- Settles O3: a run of words by induction, HI registers by what they alone show. -/
theorem lowReadLatchesHigh : Obligations.LowReadLatchesHigh := by
  refine ⟨fun s off size p hp => ?_, fun s hon => ⟨readReg_wheel hon, readReg_nowHi hon, readReg_asn hon, readReg_asnHi hon, fun hrind => ?_⟩⟩
  · have hc : exec p.1 s = onDev (fun d => d.hostRead p.2 off size) s := by
      simp only [List.mem_cons, List.not_mem_nil, or_false] at hp
      obtain rfl | rfl | rfl | rfl := hp <;> rfl
    refine ⟨fun h => ?_, fun h => ?_⟩
    · have hidle : s.dev.hostRead p.2 off size = s.dev := by simp [Dev.hostRead, h]
      rw [does_of_onDev _ hc, hidle]
      exact keepsBut_idle s
    · obtain ⟨t, ht, hkeeps, d, rfl, hq, bytes, hreply, hlen, hbytes⟩ := does_loRead hc h
      refine ⟨t, ht, hkeeps, hq.clk.trans (clk_latchedHi _ _), hq.ozh.trans (ozh_latchedHi _ _), ?_, bytes, hreply, hlen, fun i hi => ?_⟩
      · obtain ⟨b, l, c, hbr⟩ := hq.br
        exact ⟨b, l, c, hbr⟩
      · rw [hbytes i hi, readsIn_quiet hq]
        rfl
  · obtain ⟨h14, h18, h24, h28⟩ := readReg_rind hon
    rw [h14, h18, h24, h28, if_pos hrind, if_pos hrind, if_pos hrind, if_pos hrind]
    exact ⟨rfl, rfl, rfl, rfl⟩

end Sys2Proof.Machine
end

section
/-! SUPPORT. Changes by the areas and registers that they leave: how they compose, and what completions leave. -/

namespace Sys2Proof.Machine

/-! ### What a change leaves -/

/-- From `s` to `t` every area but those named is the same, and every register but those of `p`; what was put out stays put out. -/
structure Leaves (areas : List Area) (p : Nat → Bool) (s t : Dev) : Prop where
  out : s.out <:+ t.out
  same : ∀ a ∉ areas, ∀ x : State, a.same { x with dev := s } { x with dev := t }
  regs : ∀ off, noteReg off = false → p off = false → t.force off = s.force off ∧ t.written off = s.written off

section
variable {areas : List Area} {p : Nat → Bool}

theorem Leaves.refl (s : Dev) : Leaves areas p s s := ⟨List.suffix_rfl, fun a _ x => a.same_refl { x with dev := s }, fun _ _ _ => ⟨rfl, rfl⟩⟩

theorem Leaves.trans {s t u : Dev} (h : Leaves areas p s t) (k : Leaves areas p t u) : Leaves areas p s u where
  out := h.out.trans k.out
  same a ha x := a.same_trans (h.same a ha x) (k.same a ha x)
  regs off hn hp := ⟨(k.regs off hn hp).1.trans (h.regs off hn hp).1, (k.regs off hn hp).2.trans (h.regs off hn hp).2⟩

/-- A change leaves fewer areas and registers as well. -/
theorem Leaves.mono {more : List Area} {q : Nat → Bool} {s t : Dev} (h : Leaves areas p s t) (ha : areas ⊆ more)
    (hq : ∀ off, q off = false → p off = false) : Leaves more q s t :=
  ⟨h.out, fun a hn => h.same a fun hm => hn (ha hm), fun off hn ho => h.regs off hn (hq off ho)⟩

theorem Leaves.of_quiet {s t : Dev} (h : Quiet s t) : Leaves areas p s t :=
  ⟨h.out, fun a _ x => a.same_of_quiet { x with dev := s } t h, fun off hn _ => ⟨h.force off hn, h.written off hn⟩⟩

theorem Leaves.foldl {α : Type} {f : Dev → α → Dev} (hf : ∀ s a, Leaves areas p s (f s a)) (xs : List α) (s : Dev) :
    Leaves areas p s (xs.foldl f s) := foldl_of_step .refl .trans hf xs s

theorem Leaves.forEach {f : Dev → Nat → Dev} (hf : ∀ s n, Leaves areas p s (f s n)) (xs : List Nat) (s : Dev) :
    Leaves areas p s (forEach xs f s) := .foldl hf xs s

theorem Leaves.ite {s t u : Dev} {c : Prop} [Decidable c] (ht : Leaves areas p s t) (hu : Leaves areas p s u) :
    Leaves areas p s (if c then t else u) := by
  split
  · exact ht
  · exact hu

theorem Leaves.keepsBut {s : State} {t : Dev} (h : Leaves areas p s.dev t) : KeepsBut areas s { s with dev := t } :=
  ⟨rfl, h.out, fun a ha => h.same a ha s⟩

theorem Leaves.regsBut {s : State} {t : Dev} (h : Leaves areas p s.dev t) : RegsBut p s { s with dev := t } := h.regs

/-- The areas named taken from `t`, all else from `s`. -/
def Dev.over (areas : List Area) (s t : Dev) : Dev :=
  { s with
    clk := if .clk ∈ areas then t.clk else s.clk
    pwr := if .pwr ∈ areas then t.pwr else s.pwr
    tempo := if .tempo ∈ areas then t.tempo else s.tempo
    chan := if .chan ∈ areas then t.chan else s.chan
    str := if .str ∈ areas then t.str else s.str
    mtx := if .mtx ∈ areas then t.mtx else s.mtx
    clr := if .clr ∈ areas then t.clr else s.clr
    rip := if .rip ∈ areas then t.rip else s.rip
    cult := if .cult ∈ areas then t.cult else s.cult
    harp := if .harp ∈ areas then t.harp else s.harp
    pins := if .pins ∈ areas then t.pins else s.pins
    car := if .car ∈ areas then t.car else s.car
    trips := if .trips ∈ areas then t.trips else s.trips
    seq := if .seq ∈ areas then t.seq else s.seq
    ntcConv := if .ntc ∈ areas then t.ntcConv else s.ntcConv
    ozh := if .ozh ∈ areas then t.ozh else s.ozh
    ozhKept := if .kept ∈ areas then t.ozhKept else s.ozhKept
    free := if .free ∈ areas then t.free else s.free
    ring := if .ring ∈ areas then t.ring else s.ring
    hoop := if .hoop ∈ areas then t.hoop else s.hoop
    twin := if .twin ∈ areas then t.twin else s.twin
    flt := if .flt ∈ areas then t.flt else s.flt
    br := if .br ∈ areas then t.br else s.br }

theorem sameRing_of_eq {s t : Dev} (h : t.ring = s.ring) : sameRing s t := by
  simp only [sameRing, Dev.curdOf, Dev.msixOf, h]
  exact sameRing.refl s

/-- A change of the areas named alone. -/
theorem Leaves.over {s t : Dev} (h : t = s.over areas t) : Leaves areas p s t where
  out := by
    rw [h]
    exact List.suffix_rfl
  same a ha x := by
    rw [h]
    cases a
    case regs => exact fun _ _ => ⟨rfl, rfl⟩
    case rind => rfl
    case ring => exact sameRing_of_eq (if_neg ha)
    case flt => exact ⟨_, _, if_neg ha⟩
    case hoop => exact ⟨_, _, if_neg ha⟩
    case twin => exact ⟨_, _, _, _, if_neg ha⟩
    case br => exact ⟨_, _, _, if_neg ha⟩
    all_goals exact if_neg ha
  regs _ _ _ := by
    rw [h]
    exact ⟨rfl, rfl⟩

/-- A flag of one of the registers named. -/
theorem leaves_setFlag (h : .regs ∈ areas) (s : Dev) {o : Nat} (i : Nat) (hp : p o = true) : Leaves areas p s (s.setFlag o i) where
  out := List.suffix_rfl
  same a ha x := by
    have hs := a.same_refl { x with dev := s }
    cases a
    case regs => exact absurd h ha
    all_goals exact hs
  regs off _ ho := by
    have hflag := sameReg_setFlag s i (off := off) (o := o) (by rintro rfl; simp [hp] at ho)
    exact ⟨hflag.force, hflag.written⟩

/-- A change of one area named. -/
theorem Leaves.one {a : Area} (ha : a ∈ areas) {s t : Dev} (h : t = s.over [a] t) : Leaves areas p s t :=
  (Leaves.over (p := fun _ => false) h).mono (by simpa using ha) fun _ _ => rfl

theorem leaves_modClk (h : .clk ∈ areas) (s : Dev) (f : Clk → Clk) : Leaves areas p s (s.modClk f) := .one h rfl
theorem leaves_modPwr (h : .pwr ∈ areas) (s : Dev) (f : Pwr → Pwr) : Leaves areas p s (s.modPwr f) := .one h rfl
theorem leaves_modRing (h : .ring ∈ areas) (s : Dev) (f : Ring → Ring) : Leaves areas p s (s.modRing f) := .one h rfl
theorem leaves_modHoop (h : .hoop ∈ areas) (s : Dev) (f : Hoop → Hoop) : Leaves areas p s (s.modHoop f) := .one h rfl
theorem leaves_modOzh (h : .ozh ∈ areas) (s : Dev) (f : Ozh → Ozh) : Leaves areas p s (s.modOzh f) := .one h rfl
theorem leaves_modFlt (h : .flt ∈ areas) (s : Dev) (f : Flt → Flt) : Leaves areas p s (s.modFlt f) := .one h rfl
theorem leaves_modMtx (h : .mtx ∈ areas) (s : Dev) (f : Mtx → Mtx) : Leaves areas p s (s.modMtx f) := .one h rfl
theorem leaves_modTempo (h : .tempo ∈ areas) (s : Dev) (f : Tempo → Tempo) : Leaves areas p s (s.modTempo f) := .one h rfl
theorem leaves_modStr (h : .str ∈ areas) (s : Dev) (n : Nat) (f : Str → Str) : Leaves areas p s (s.modStr n f) := .one h rfl
theorem leaves_modPos (h : .mtx ∈ areas) (s : Dev) (n : Nat) (f : Pos → Pos) : Leaves areas p s (s.modPos n f) := .one h rfl
theorem leaves_modRip (h : .rip ∈ areas) (s : Dev) (n : Nat) (f : Rip → Rip) : Leaves areas p s (s.modRip n f) := .one h rfl
theorem leaves_modHarp (h : .harp ∈ areas) (s : Dev) (n : Nat) (f : Harp → Harp) : Leaves areas p s (s.modHarp n f) := .one h rfl
theorem leaves_modCar (h : .car ∈ areas) (s : Dev) (n : Nat) (f : Car → Car) : Leaves areas p s (s.modCar n f) := .one h rfl
theorem leaves_modPort (h : .hoop ∈ areas) (s : Dev) (n : Nat) (f : HPort → HPort) : Leaves areas p s (s.modPort n f) := .one h rfl
theorem leaves_setChan (h : .chan ∈ areas) (s : Dev) (c : Nat) (x : Chan) : Leaves areas p s (s.setChan c x) := .one h rfl
theorem leaves_setPins (h : .pins ∈ areas) (s : Dev) (x : Pins) : Leaves areas p s { s with pins := x } := .one h rfl
theorem leaves_floatPins (h : .pins ∈ areas) (s : Dev) (m : BitVec 32) : Leaves areas p s (s.floatPins m) := .one h rfl

/-! ### Completions -/

theorem quiet_freeCue? (s : Dev) (cue : Option Nat) : Quiet s (match cue with
    | some i => s.freeCue i
    | none => s) := by
  cases cue with
  | some i => exact quiet_freeCue s i
  | none => exact .refl s

/-- An update of the rings' waiting entries and cues alone. -/
theorem quiet_waitCues (s : Dev) (w : List Waiting) (c : List Cue) : Quiet s (s.modRing (fun r => { r with wait := w, cues := c })) :=
  quiet_ring _ _ ⟨⟨_, _, _, _, _, _, _, _, rfl⟩, fun _ => ⟨_, _, rfl⟩, fun _ => ⟨_, rfl⟩⟩

theorem quiet_postCompletion (s : Dev) (m : Nat) (cue : Option Nat) (e : Entry) : Quiet s (s.postCompletion m cue e) := by
  unfold Dev.postCompletion
  simp only
  split
  · exact (quiet_loseCompletion s).trans (quiet_freeCue? _ cue)
  · split
    · exact (quiet_putWhey s m e).trans (quiet_freeCue? _ cue)
    · split
      · exact quiet_loseCompletion s
      · cases cue with
        | none => exact quiet_waitCues s _ s.ring.cues
        | some i => exact quiet_waitCues s _ _

end

/-- What the radio takes from a completion beside a frame in its queue: the flag that the queue is full. -/
def radioReg (off : Nat) : Bool := decide (off = 0x800C)

theorem leaves_queueFrame {s t : Dev} {f : TxFrame} (h : s.queueFrame f = some t) : Leaves [.ozh, .regs] radioReg s t := by
  unfold Dev.queueFrame at h
  split_ifs at h <;> cases h <;> exact .over rfl

theorem leaves_sendCmd (s : Dev) (final : BitVec 16) (b : List Byte) : Leaves [.ozh, .regs] radioReg s (s.sendCmd final b) := by
  unfold Dev.sendCmd Dev.originate
  split
  · exact .refl s
  · split
    · split
      · next t ht => exact leaves_queueFrame ht
      · exact leaves_setFlag (by decide) s 5 rfl
    · exact .refl s

theorem leaves_returnEntry (s : Dev) (og : Origin) (cue : Option Nat) (e : Entry) :
    Leaves [.ozh, .regs] radioReg s (s.returnEntry og cue e) := by
  unfold Dev.returnEntry
  simp only
  split
  · exact .of_quiet (quiet_postCompletion s _ cue e)
  · exact .ite (.of_quiet (quiet_postCompletion s _ cue e)) (.of_quiet ((quiet_loseCompletion s).trans (quiet_freeCue? _ cue)))
  · exact .of_quiet ((quiet_sendPacket s _ _ _ _).trans (quiet_freeCue? _ cue))
  · exact .of_quiet ((quiet_queuePacket s _ _).trans (quiet_freeCue? _ cue))
  · exact (leaves_sendCmd s _ _).trans (.of_quiet (quiet_freeCue? _ cue))
  · exact .of_quiet (quiet_freeCue? s cue)

theorem leaves_complete (s : Dev) (j : Job) (st : Status) (x : Short) (d : Nat) : Leaves [.ozh, .regs] radioReg s (s.complete j st x d) :=
  .ite (leaves_returnEntry s _ _ _) (.of_quiet (quiet_freeCue? s j.cue))

theorem leaves_completeNow (s : Dev) (j : Job) (st : Status) (d : Nat) : Leaves [.ozh, .regs] radioReg s (s.completeNow j st d) :=
  leaves_complete s j st s.short d

/-- Completions of flights or cues taken from the rings. -/
theorem leaves_landFlightsNow (s : Dev) (q : Flight → Bool) (st : Status) (d : Nat) :
    Leaves [.ring, .ozh, .regs] radioReg s (s.landFlightsNow q st d) := by
  unfold Dev.landFlightsNow
  refine .trans (t := s.dropFlights q) (.one (a := .ring) (by decide) rfl) (.foldl (fun t f => ?_) _ _)
  exact (leaves_complete t _ _ _ _).mono (by decide) fun _ h => h

theorem leaves_discardCues (s : Dev) : Leaves [.ring, .ozh, .regs] radioReg s s.discardCues := by
  unfold Dev.discardCues
  refine .foldl (fun t c => ?_) _ s
  refine Leaves.trans ?_ ((leaves_completeNow _ c.job .state 0).mono (by decide) fun _ h => h)
  exact leaves_modRing (by decide) t _

end Sys2Proof.Machine
end

section
/-! SUPPORT. What entry to HOLD leaves, and which mode a wake enters (R79, R89, R92, R93). -/

namespace Sys2Proof.Machine

/-! ### The work of HOLD -/

/-- What entry to HOLD, or a cause that acts in HOLD, can change beside the power state (R92, R93, Table MOD-5). -/
def holdAreas : List Area := [.clk, .regs, .tempo, .chan, .str, .mtx, .rip, .harp, .pins, .car, .ozh, .ring, .hoop]

/-- A change of some of these areas. -/
theorem Leaves.hold {areas : List Area} {p : Nat → Bool} {s t : Dev} (h : Leaves areas p s t) (ha : areas ⊆ holdAreas)
    (hp : ∀ off, radioReg off = false → p off = false) : Leaves holdAreas radioReg s t := h.mono ha hp

theorem leaves_setRole (s : Dev) (r : WRole) : Leaves holdAreas radioReg s (s.setRole r) := by
  unfold Dev.setRole
  simp only
  split
  · split
    · exact (leaves_modClk (by decide) s _).trans (leaves_modTempo (by decide) _ _)
    · exact leaves_modClk (by decide) s _
  · exact (leaves_modClk (by decide) s _).trans (leaves_modClk (by decide) _ _)

theorem leaves_hoopStop (s : Dev) : Leaves holdAreas radioReg s s.hoopStop := by
  unfold Dev.hoopStop
  simp only
  refine Leaves.trans ?_ (.ite (leaves_setRole _ _) (.refl _))
  refine Leaves.trans ?_ (leaves_modHoop (by decide) _ _)
  refine Leaves.trans ?_ (.forEach (fun s k => leaves_modPort (by decide) s k _) _ _)
  exact (leaves_landFlightsNow s _ _ _).hold (by decide) fun _ h => h

theorem leaves_stringHalt (s : Dev) (n : Nat) : Leaves holdAreas radioReg s (s.stringHalt n) :=
  Leaves.trans (leaves_modStr (by decide) s n _) (.forEach (fun s k => leaves_modStr (by decide) s k _) _ _)

theorem leaves_cutSlot (s : Dev) : Leaves holdAreas radioReg s s.cutSlot :=
  Leaves.trans (leaves_modMtx (by decide) s _) (.forEach (fun s _ => .ite (leaves_modPos (by decide) s _ _) (.refl s)) _ _)

theorem leaves_haltStrings (s : Dev) : Leaves holdAreas radioReg s s.haltStrings :=
  .forEach (fun s n => .ite (leaves_stringHalt s n) (.refl s)) _ s

theorem leaves_haltMatrix (s : Dev) : Leaves holdAreas radioReg s s.haltMatrix :=
  .ite (((leaves_cutSlot s).trans (leaves_modMtx (by decide) _ _)).trans (leaves_modMtx (by decide) _ _)) (.refl s)

theorem leaves_stopHarps (s : Dev) : Leaves holdAreas radioReg s s.stopHarps :=
  .forEach (fun s n => leaves_modHarp (by decide) s n _) _ s

theorem leaves_limpOff (s : Dev) : Leaves holdAreas radioReg s s.limpOff := by
  refine Leaves.trans ?_ (leaves_floatPins (by decide) _ _)
  refine Leaves.trans ?_ (leaves_stopHarps _)
  exact (leaves_hoopStop s).trans (leaves_modOzh (by decide) _ _)

theorem leaves_causeActs (s : Dev) : Leaves holdAreas radioReg s s.causeActs :=
  Leaves.trans (.ite ((leaves_haltStrings s).trans (leaves_haltMatrix _)) (.refl s)) (.ite (leaves_limpOff _) (.refl _))

theorem leaves_safeStep (s : Dev) (c : Nat) : Leaves holdAreas radioReg s (s.safeStep c) := .ite (.refl s) (leaves_setChan (by decide) s c _)

theorem leaves_carriersOff (s : Dev) : Leaves holdAreas radioReg s s.carriersOff :=
  .forEach (fun s n => leaves_modCar (by decide) s n _) _ s

/-- An entry to sleep under way, abandoned by HOLD (R82). -/
def Dev.abandonSleep (s : Dev) : Dev :=
  match s.pwr.sleepTo with
  | some m => (s.modPwr (fun p => { p with sleepTo := none, latched := none })).eventOk 0x0202 m.code
  | none => s

/-- What entry to HOLD does once the mode is HOLD. -/
def Dev.holdWork (s : Dev) : Dev :=
  let s := s.discardCues
  let s := forEach (upTo 12) (fun s n => s.modRip n Rip.stopped) s
  let s := forEach (upTo 1040) (fun s c => s.safeStep c) s
  let s := s.carriersOff.modMtx (fun m => { m with waitFrame := false, holdRows := BitVec.allOnes 16 })
  (s.eventOk 0x0204 s.pwr.cause.toNat).causeActs

theorem leaves_holdWork (s : Dev) : Leaves holdAreas radioReg s s.holdWork := by
  unfold Dev.holdWork
  simp only
  refine Leaves.trans ?_ (leaves_causeActs _)
  refine Leaves.trans ?_ (.of_quiet (quiet_eventOk _ _ _))
  refine Leaves.trans ?_ (leaves_modMtx (by decide) _ _)
  refine Leaves.trans ?_ (leaves_carriersOff _)
  refine Leaves.trans ?_ (.forEach leaves_safeStep _ _)
  refine Leaves.trans ?_ (.forEach (fun s n => leaves_modRip (by decide) s n _) _ _)
  exact (leaves_discardCues s).hold (by decide) fun _ h => h

theorem enterHold_eq (s : Dev) :
    s.enterHold = (s.abandonSleep.modPwr (fun p => { p with mode := .hold, transAt := some s.abandonSleep.clk.now })).holdWork := by
  unfold Dev.enterHold Dev.holdWork Dev.abandonSleep
  cases s.pwr.sleepTo <;> dsimp only

/-- What entry to HOLD leaves of the power state. -/
structure Held (p q : Pwr) : Prop where
  mode : q.mode = .hold
  sleepTo : q.sleepTo = none
  other : ∃ l t, q = { p with mode := .hold, sleepTo := none, latched := l, transAt := t }

theorem abandonSleep_pwr (s : Dev) : ∃ l, s.abandonSleep.pwr = { s.pwr with sleepTo := none, latched := l } := by
  unfold Dev.abandonSleep
  split
  · exact ⟨none, (quiet_eventOk _ _ _).pwr⟩
  · next h => exact ⟨s.pwr.latched, by rw [← h]⟩

theorem leaves_abandonSleep (s : Dev) : Leaves (.pwr :: holdAreas) radioReg s s.abandonSleep := by
  unfold Dev.abandonSleep
  split
  · exact (leaves_modPwr (by decide) s _).trans (.of_quiet (quiet_eventOk _ _ _))
  · exact .refl s

theorem leaves_enterHold (s : Dev) : Leaves (.pwr :: holdAreas) radioReg s s.enterHold := by
  rw [enterHold_eq]
  refine Leaves.trans (leaves_abandonSleep s) ?_
  refine Leaves.trans ?_ ((leaves_holdWork _).mono (by decide) fun _ h => h)
  exact leaves_modPwr (by decide) _ _

theorem held_enterHold (s : Dev) : Held s.pwr s.enterHold.pwr := by
  have hwork := (leaves_holdWork (s.abandonSleep.modPwr (fun p => { p with mode := .hold, transAt := some s.abandonSleep.clk.now }))).same
    .pwr (by decide) ⟨[], s, {}⟩
  obtain ⟨l, hl⟩ := abandonSleep_pwr s
  have hpwr : s.enterHold.pwr = { s.pwr with mode := .hold, sleepTo := none, latched := l, transAt := some s.abandonSleep.clk.now } := by
    rw [enterHold_eq]
    refine hwork.trans ?_
    change ({ s.abandonSleep.pwr with mode := .hold, transAt := some s.abandonSleep.clk.now } : Pwr) = _
    rw [hl]
  rw [hpwr]
  exact ⟨rfl, rfl, _, _, rfl⟩

end Sys2Proof.Machine
end

section
/-! SUPPORT. The mode that a wake or a DOZE event ends in: its target, or HOLD while a cause is present (R85, R89, R92, R440). -/

namespace Sys2Proof.Machine

/-! ### HOLD in place of a target -/

/-- No cause of HOLD is present: none set, no limp clock, no refused boot. -/
def Dev.calm (s : Dev) : Prop := s.pwr.cause = 0 ∧ s.clk.limp = false ∧ s.flt.refuse = false

/-- The causes of HOLD that `holdInstead` finds. -/
def Dev.holdCauses (s : Dev) : BitVec 5 :=
  s.pwr.cause ||| (if s.clk.limp then BitVec.ofNat 5 (2 ^ causeLimp) else 0) ||| (if s.flt.refuse then BitVec.ofNat 5 (2 ^ causeRefuse) else 0)

theorem holdCauses_eq_zero (s : Dev) : s.holdCauses = 0 ↔ s.calm := by
  unfold Dev.holdCauses Dev.calm
  cases s.clk.limp <;> cases s.flt.refuse <;> simp [BitVec.or_eq_zero_iff, causeLimp, causeRefuse]

theorem holdInstead_calm {s : Dev} (h : s.calm) : s.holdInstead = s := by
  have hc := (holdCauses_eq_zero s).2 h
  unfold Dev.holdCauses at hc
  unfold Dev.holdInstead
  simp only [hc, if_true]
  conv_rhs => rw [show s = s.modPwr (fun p => { p with cause := s.pwr.cause }) from rfl, h.1]

theorem holdInstead_hold {s : Dev} (h : ¬s.calm) :
    s.holdInstead = (s.modPwr (fun p => { p with cause := s.holdCauses })).enterHold := if_neg fun hc => h ((holdCauses_eq_zero s).1 hc)

theorem leaves_holdInstead (s : Dev) : Leaves (.pwr :: holdAreas) radioReg s s.holdInstead := by
  by_cases h : s.calm
  · rw [holdInstead_calm h]
    exact .refl s
  · rw [holdInstead_hold h]
    exact (leaves_modPwr (by decide) s _).trans (leaves_enterHold _)

theorem held_holdInstead {s : Dev} (h : ¬s.calm) : Held { s.pwr with cause := s.holdCauses } s.holdInstead.pwr := by
  rw [holdInstead_hold h]
  exact held_enterHold (s.modPwr (fun p => { p with cause := s.holdCauses }))

/-- What `calm` looks at is the same. -/
theorem calm_congr {s t : Dev} (hp : t.pwr.cause = s.pwr.cause) (hc : t.clk = s.clk) (hf : t.flt.refuse = s.flt.refuse) : t.calm ↔ s.calm := by
  rw [Dev.calm, Dev.calm, hp, hc, hf]

theorem Quiet.refuse {s t : Dev} (h : Quiet s t) : t.flt.refuse = s.flt.refuse := by
  obtain ⟨_, _, hf⟩ := h.flt
  rw [hf]

/-! ### The end of a wake -/

/-- The power state as a wake leaves it before its target mode is judged. -/
def Pwr.woken (p : Pwr) (now : Nat) : Pwr :=
  { p with
    wake := .idle, dozeEvent := false, dozeWake := false, mode := .ready, pgoodFails := 0, wakeTime := BitVec.ofNat 32 (now - p.wakeStart) }

/-- The detail of event WAKE (Table DSC-8). -/
def Dev.wakeDetail (s : Dev) : Nat := s.pwr.wakeCause + 256 * b2n s.pwr.fromDoze + 65536 * ((s.clk.now - s.pwr.wakeStart) % 2 ^ 32)

/-- The device awake, the host told, its pins given back. -/
def Dev.awake (s : Dev) : Dev :=
  let d := s.modPwr (fun p => p.woken s.clk.now)
  (if d.anyWhey then d.eventOk 0x0201 s.wakeDetail else d).releasePins

/-- Whether a wake ends in RUN (R79). -/
def Dev.autoRun (s : Dev) : Bool := s.rb 0x81C 1 && !(s.pwr.wakeCause = 0 || s.pwr.wakeCause = 1 || s.pwr.wakeCause = 8)

theorem enterTarget_eq (s : Dev) :
    s.enterTarget = if s.awake.holdInstead.inHold then s.awake.holdInstead
      else if s.autoRun then (s.awake.holdInstead.modPwr (fun p => { p with mode := .run })).startOutputs else s.awake.holdInstead := by
  have hdetail : s.wakeDetail = s.pwr.wakeCause + 256 * b2n s.pwr.fromDoze + 65536 * (BitVec.ofNat 32 (s.clk.now - s.pwr.wakeStart)).toNat := by
    rw [BitVec.toNat_ofNat, Dev.wakeDetail]
  unfold Dev.enterTarget Dev.awake
  rw [hdetail]
  rfl

theorem leaves_releasePins (s : Dev) : Leaves [.pwr, .pins] (fun _ => false) s s.releasePins := .ite (leaves_setPins (by decide) s _) (.refl s)

theorem leaves_awake (s : Dev) : Leaves [.pwr, .pins] (fun _ => false) s s.awake := by
  unfold Dev.awake
  simp only
  refine Leaves.trans ?_ (leaves_releasePins _)
  exact (leaves_modPwr (by decide) s _).trans (.ite (.of_quiet (quiet_eventOk _ _ _)) (.refl _))

theorem releasePins_pwr (s : Dev) : s.releasePins.pwr = s.pwr := by
  unfold Dev.releasePins
  split <;> rfl

theorem awake_pwr (s : Dev) : s.awake.pwr = s.pwr.woken s.clk.now := by
  unfold Dev.awake
  simp only
  rw [releasePins_pwr]
  split
  · exact (quiet_eventOk _ _ _).pwr
  · rfl

theorem awake_calm (s : Dev) : s.awake.calm ↔ s.calm := by
  have h := leaves_awake s
  obtain ⟨_, _, hf⟩ := h.same .flt (by decide) ⟨[], s, {}⟩
  refine calm_congr ?_ (h.same .clk (by decide) ⟨[], s, {}⟩) ?_
  · rw [awake_pwr]
    rfl
  · exact (congrArg Flt.refuse hf).trans rfl

/-- A wake over: what it leaves, what it tells, and its mode. -/
structure Entered (s t : Dev) : Prop where
  leaves : Leaves (.pwr :: holdAreas) radioReg s t
  told : s.awake.out <:+ t.out
  pwr : ∃ m c l k a, t.pwr = { s.pwr.woken s.clk.now with mode := m, cause := c, sleepTo := l, latched := k, transAt := a }
  calm : s.calm → Leaves [.pwr, .mtx, .pins] (fun _ => false) s t ∧ t.pwr.mode = if s.autoRun then .run else .ready
  hold : ¬s.calm → t.pwr.mode = .hold

theorem entered_calm {s : Dev} (h : s.calm) : Entered s s.enterTarget := by
  have hinstead : s.awake.holdInstead = s.awake := holdInstead_calm ((awake_calm s).2 h)
  have hnot : s.awake.inHold = false := by simp [Dev.inHold, awake_pwr, Pwr.woken]
  have heq : s.enterTarget = if s.autoRun then (s.awake.modPwr (fun p => { p with mode := .run })).startOutputs else s.awake := by
    rw [enterTarget_eq, hinstead, hnot]
    rfl
  have hawake : Leaves [.pwr, .mtx, .pins] (fun _ => false) s s.awake := (leaves_awake s).mono (by decide) fun _ h => h
  have hrun : Leaves [.pwr, .mtx, .pins] (fun _ => false) s.awake (s.awake.modPwr (fun p => { p with mode := .run })).startOutputs :=
    (leaves_modPwr (by decide) _ _).trans (leaves_modMtx (by decide) _ _)
  rw [heq]
  split
  · next hauto =>
    refine ⟨(hawake.trans hrun).mono (by decide) fun _ _ => rfl, hrun.out, ⟨.run, s.pwr.cause, s.pwr.sleepTo, s.pwr.latched, s.pwr.transAt, ?_⟩,
      fun _ => ⟨hawake.trans hrun, by rw [if_pos hauto]; rfl⟩, fun hn => absurd h hn⟩
    change ({ s.awake.pwr with mode := .run } : Pwr) = _
    rw [awake_pwr]
    rfl
  · next hauto =>
    refine ⟨hawake.mono (by decide) fun _ _ => rfl, List.suffix_rfl, ⟨.ready, s.pwr.cause, s.pwr.sleepTo, s.pwr.latched, s.pwr.transAt, ?_⟩,
      fun _ => ⟨hawake, ?_⟩, fun hn => absurd h hn⟩
    · rw [awake_pwr]
      rfl
    · rw [awake_pwr, if_neg hauto]
      rfl

theorem entered_hold {s : Dev} (h : ¬s.calm) : Entered s s.enterTarget := by
  have hheld := held_holdInstead (s := s.awake) fun hc => h ((awake_calm s).1 hc)
  obtain ⟨l, a, hpwr⟩ := hheld.other
  have heq : s.enterTarget = s.awake.holdInstead := by
    have hin : s.awake.holdInstead.inHold = true := decide_eq_true hheld.mode
    rw [enterTarget_eq, if_pos hin]
  rw [heq]
  refine ⟨((leaves_awake s).mono (by decide) fun _ _ => rfl).trans (leaves_holdInstead _), (leaves_holdInstead _).out, ?_, fun hc => absurd hc h,
    fun _ => hheld.mode⟩
  rw [hpwr, awake_pwr]
  exact ⟨_, _, _, _, _, rfl⟩

/-- A wake into its target mode. -/
theorem entered_enterTarget (s : Dev) : Entered s s.enterTarget := by
  by_cases h : s.calm
  · exact entered_calm h
  · exact entered_hold h

end Sys2Proof.Machine
end

section
/-! SUPPORT. Sleep and DOZE events (R35, R59, R82, R91), and O43. -/

namespace Sys2Proof.Machine

/-! ### What sleep keeps -/

theorem tabGet_tabKeep {α : Type} (d : α) (p : Nat → Bool) (m : Tab α) (k : Nat) :
    tabGet d (tabKeep p m) k = if p k then tabGet d m k else d := by
  induction m with
  | nil => simp [tabKeep, tabGet]
  | cons e m ih =>
    obtain ⟨j, v⟩ := e
    unfold tabKeep at ih ⊢
    by_cases hj : j = k
    · subst hj
      by_cases hp : p j = true <;> simp_all [tabGet]
    · by_cases hp : p j = true <;> simp_all [tabGet]

theorem setBitTo_getLsbD (w : BitVec 32) {i n : Nat} (v : Bool) (hn : n < 32) :
    (setBitTo w i v).getLsbD n = if n = i then v else w.getLsbD n := by
  have hbit : (BitVec.ofNat 32 (2 ^ i)).getLsbD n = decide (n = i) := by
    rw [BitVec.getLsbD_ofNat, Nat.testBit_two_pow, decide_eq_true hn, Bool.true_and]
    exact decide_eq_decide.2 eq_comm
  unfold setBitTo
  split
  · next hv =>
    rw [BitVec.getLsbD_or, hbit, hv]
    by_cases hi : n = i <;> simp [hi]
  · next hv =>
    rw [BitVec.getLsbD_and, BitVec.getLsbD_not, hbit, eq_false_of_ne_true hv]
    by_cases hi : n = i <;> simp [hi, hn]

theorem foldl_setBitTo_getLsbD (p : Nat → Bool) {n : Nat} (hn : n < 32) (xs : List Nat) (w : BitVec 32) :
    (xs.foldl (fun w i => setBitTo w i (p i)) w).getLsbD n = if n ∈ xs then p n else w.getLsbD n := by
  induction xs generalizing w with
  | nil => simp
  | cons i xs ih =>
    rw [List.foldl_cons, ih, setBitTo_getLsbD _ _ hn]
    by_cases hx : n ∈ xs <;> by_cases hi : n = i <;> simp [hx, hi]

theorem testBit_pinMask (p : Nat → Bool) {n : Nat} (hn : n < 32) : (pinMask p).toNat.testBit n = p n := by
  rw [← BitVec.getLsbD, pinMask, foldl_setBitTo_getLsbD p hn]
  exact if_pos (List.mem_range.2 hn)

/-- The device asleep before a wake source latched on the way begins its sequence. -/
def Dev.slept (s : Dev) (m : Mode) : Dev :=
  let keep := decide (m = Mode.doze) || s.rb 0x81C 0
  let d := (s.modPwr (fun p => { p with storedWheel := s.clk.wheel, woscCount := 0 })).coreReset
  let d := { d with
    pins := { ext := d.pins.ext, held := if m = Mode.doze then some s.heldPins else none }, ozhKept := if keep then some s.keepOzh else none }
  d.modPwr (fun p => { p with mode := m, retained := keep, sleepStart := d.clk.now, dozeStart := d.clk.now })

theorem sleepNow_eq (s : Dev) (m : Mode) : s.sleepNow m = match s.pwr.latched with
    | some l => (s.slept m).beginWake l.1 l.2
    | none => s.slept m := by
  unfold Dev.sleepNow Dev.slept
  cases s.pwr.latched <;> rfl

/-- The device asleep in mode `m`, from `s`. -/
structure Asleep (m : Mode) (s t : Dev) : Prop where
  core : t.coreOn = false
  running : t.clk.running = false
  mode : t.pwr.mode = m
  sleepTo : t.pwr.sleepTo = none
  dozeEvent : t.pwr.dozeEvent = false
  stored : t.pwr.storedWheel = s.clk.wheel
  count : t.pwr.woscCount = 0
  retained : t.pwr.retained = (decide (m = .doze) || s.rb 0x81C 0)
  kept : t.ozhKept = if t.pwr.retained then some s.keepOzh else none
  force : ∀ off, noteReg off = false → t.force off = if aonReg off then s.force off else regReset off
  pins : ∀ n < 32, if m = .doze then t.pinDriven n = s.pinDriven n ∧ t.pinOut n = s.pinOut n else t.pinDriven n = false

theorem coreOn_asleep {s : Dev} {m : Mode} (hm : m = .vault ∨ m = .doze) (hmode : s.pwr.mode = m) (hevent : s.pwr.dozeEvent = false) :
    s.coreOn = false := by
  obtain rfl | rfl := hm <;> simp [Dev.coreOn, hmode, hevent]

/-- HIO goes on through DOZE as it was. -/
theorem slept_pins_doze (s : Dev) {n : Nat} (hn : n < 32) :
    (s.slept .doze).pinDriven n = s.pinDriven n ∧ (s.slept .doze).pinOut n = s.pinOut n := by
  have hheld : (s.slept .doze).pins.held = some s.heldPins := rfl
  have hvio : (s.slept .doze).pwr.vioLow = s.pwr.vioLow := rfl
  unfold Dev.pinDriven Dev.pinOut
  rw [hheld, hvio]
  unfold Dev.heldPins
  cases h : s.pins.held with
  | some x => exact ⟨rfl, rfl⟩
  | none =>
    simp only [testBit_pinMask _ hn, Dev.pinDriven, Dev.pinOut, h]
    exact ⟨by simp, trivial⟩

theorem slept_pins_vault (s : Dev) (n : Nat) : (s.slept .vault).pinDriven n = false := by
  have hheld : (s.slept .vault).pins.held = none := rfl
  have hdrive : (s.slept .vault).pins.drive = 0 := rfl
  unfold Dev.pinDriven
  rw [hheld, hdrive]
  simp

theorem slept_force (s : Dev) (m : Mode) (off : Nat) : (s.slept m).force off = if aonReg off then s.force off else regReset off :=
  tabGet_tabKeep (regReset off) aonReg s.regs.force off

theorem asleep_slept {m : Mode} (hm : m = .vault ∨ m = .doze) (s : Dev) : Asleep m s (s.slept m) where
  core := coreOn_asleep hm rfl rfl
  running := rfl
  mode := rfl
  sleepTo := rfl
  dozeEvent := rfl
  stored := rfl
  count := rfl
  retained := rfl
  kept := rfl
  force off _ := slept_force s m off
  pins n hn := by
    obtain rfl | rfl := hm
    · exact slept_pins_vault s n
    · exact slept_pins_doze s hn

/-- What sleep claims of the power state. -/
def Pwr.sameSleep (p q : Pwr) : Prop :=
  q.mode = p.mode ∧ q.sleepTo = p.sleepTo ∧ q.dozeEvent = p.dozeEvent ∧ q.storedWheel = p.storedWheel ∧ q.woscCount = p.woscCount ∧
    q.retained = p.retained ∧ q.vioLow = p.vioLow

theorem noteReg_pins {off : Nat} (h : 0x5000 ≤ off) (h' : off < 0x6000) : noteReg off = false := by
  simp only [noteReg, List.contains_eq_mem, decide_eq_false_iff_not, List.mem_cons, List.not_mem_nil, or_false]
  omega

/-- What drives a pin is the same in two devices with the same pins, rail and registers. -/
theorem pins_congr {s t : Dev} (hpins : t.pins = s.pins) (hvio : t.pwr.vioLow = s.pwr.vioLow)
    (hforce : ∀ off, noteReg off = false → t.force off = s.force off) {n : Nat} (hn : n < 32) :
    t.pinDriven n = s.pinDriven n ∧ t.pinOut n = s.pinOut n := by
  have howner := hforce (0x5010 + 4 * (n / 8)) (noteReg_pins (by omega) (by omega))
  have hpin := hforce (0x5040 + 4 * n) (noteReg_pins (by omega) (by omega))
  simp only [Dev.pinDriven, Dev.pinOut, Dev.pinOwner, Dev.pinInv, Dev.rf, Dev.rb, hpins, hvio, howner, hpin]
  exact ⟨rfl, trivial⟩

/-- A sleeping device goes on sleeping through what changes neither this nor its registers, its clock or its pins. -/
theorem Asleep.congr {m : Mode} (hm : m = .vault ∨ m = .doze) {s t u : Dev} (h : Asleep m s t) (hclk : u.clk = t.clk)
    (hp : t.pwr.sameSleep u.pwr) (hkept : u.ozhKept = t.ozhKept) (hpins : u.pins = t.pins)
    (hforce : ∀ off, noteReg off = false → u.force off = t.force off) : Asleep m s u := by
  obtain ⟨hmode, hto, hevent, hstored, hcount, hret, hvio⟩ := hp
  refine ⟨coreOn_asleep hm (hmode.trans h.mode) (hevent.trans h.dozeEvent), hclk ▸ h.running, hmode.trans h.mode, hto.trans h.sleepTo,
    hevent.trans h.dozeEvent, hstored.trans h.stored, hcount.trans h.count, hret.trans h.retained, ?_,
    fun off ho => (hforce off ho).trans (h.force off ho), fun n hn => ?_⟩
  · rw [hkept, hret, h.kept]
  · obtain ⟨hd, ho⟩ := pins_congr hpins hvio hforce hn
    rw [hd, ho]
    exact h.pins n hn

theorem Asleep.of_quiet {m : Mode} (hm : m = .vault ∨ m = .doze) {s t u : Dev} (h : Asleep m s t) (hq : Quiet t u) : Asleep m s u :=
  h.congr hm hq.clk (by rw [hq.pwr]; exact ⟨rfl, rfl, rfl, rfl, rfl, rfl, rfl⟩) hq.ozhKept hq.pins hq.force

theorem asleep_sleepNow {m : Mode} (hm : m = .vault ∨ m = .doze) (s : Dev) : Asleep m s (s.sleepNow m) := by
  rw [sleepNow_eq]
  split
  · exact (asleep_slept hm s).congr hm rfl ⟨rfl, rfl, rfl, rfl, rfl, rfl, rfl⟩ rfl rfl fun _ _ => rfl
  · exact asleep_slept hm s

/-! ### Events of the device as it wakes -/

theorem coreOn_of_wheyCan {s : Dev} {m : Nat} (h : s.wheyCan m = true) : s.coreOn = true := by
  simp only [Dev.wheyCan, Dev.mayIssue, Bool.and_eq_true] at h
  obtain ⟨⟨⟨⟨⟨⟨⟨hcore, -⟩, -⟩, -⟩, -⟩, -⟩, -⟩, -⟩ := h
  exact hcore

/-- An event on a device that the ring engine cannot tell from the one before, where the core was on. -/
theorem tells_of_woken {s : State} {b d : Dev} {code detail : Nat} (hb : s.dev.coreOn = true → SameEngine s.dev b)
    (hd : b.anyWhey = true → (b.eventOk code detail).out <:+ d.out) : Tells code detail s { s with dev := d } := by
  intro hcan
  have hsame := hb (coreOn_of_wheyCan hcan)
  exact tells_of_eventOk hsame (hd (anyWhey_of_wheyCan (evtRing_lt s.dev) (by rw [hsame.wheyCan]; exact hcan))) hcan

/-- A change of the power state that leaves the core on. -/
theorem sameEngine_modPwr {s : Dev} {f : Pwr → Pwr} (hon : s.coreOn = true) (h : (s.modPwr f).coreOn = true) : SameEngine s (s.modPwr f) :=
  .of_eq rfl rfl (by rw [h, hon]) rfl

/-! ### Claims about commands of the power sequencer -/

section
variable {c : Instr} {s : State} (f : Dev → Dev) (hc : exec c s = onDev f s)
include hc

/-- A command that has nothing to do. -/
theorem does_nothing (hd : f s.dev = s.dev) : Does c s (KeepsBut [] s) :=
  does_of_quiet f hc hd fun _ hq => (Leaves.of_quiet (p := fun _ => false) hq).keepsBut

/-- A command that changes the power state alone. -/
theorem does_pwr {q : Pwr} (hd : f s.dev = { s.dev with pwr := q }) : Does c s (fun t => KeepsBut [.pwr] s t ∧ t.dev.pwr = q) :=
  does_of_quiet f hc hd fun _ hq =>
    ⟨((leaves_modPwr (p := fun _ => false) (by decide) s.dev fun _ => q).trans (.of_quiet hq)).keepsBut, hq.pwr⟩

end

/-! ### O43 -/

/-- The claims of `SleepAndDozeAct` about a device asleep. -/
theorem Asleep.claims {m : Mode} {s : State} {d : Dev} (h : Asleep m s.dev d) : let t : State := { s with dev := d }
    t.rind = s.rind ∧ t.pending = s.pending ∧ t.dev.coreOn = false ∧
      t.dev.clk.running = false ∧ t.dev.pwr.mode = m ∧ t.dev.pwr.sleepTo = none ∧ t.dev.pwr.dozeEvent = false ∧
      t.dev.pwr.storedWheel = s.dev.clk.wheel ∧ t.dev.pwr.woscCount = 0 ∧
      t.dev.pwr.retained = (decide (m = .doze) || s.dev.rb 0x81C 0) ∧
      t.dev.ozhKept = (if t.dev.pwr.retained then some s.dev.keepOzh else none) ∧
      (∀ off, noteReg off = false → t.dev.force off = if aonReg off then s.dev.force off else regReset off) ∧
      ∀ n < 32, if m = .doze then t.dev.pinDriven n = s.dev.pinDriven n ∧ t.dev.pinOut n = s.dev.pinOut n else t.dev.pinDriven n = false :=
  ⟨rfl, rfl, h.core, h.running, h.mode, h.sleepTo, h.dozeEvent, h.stored, h.count, h.retained, h.kept, h.force, h.pins⟩

theorem sleepNow_wake {s : Dev} {m : Mode} (h : s.pwr.latched = none) : (s.sleepNow m).pwr.wake = s.pwr.wake := by
  rw [sleepNow_eq, h]
  rfl

theorem sleepNow_latched {s : Dev} {m : Mode} {l : Nat × Nat} (h : s.pwr.latched = some l) :
    s.sleepNow m = (s.slept m).beginWake l.1 l.2 := by
  rw [sleepNow_eq, h]

/-- An entry to sleep given up, the host told (R82). -/
def Dev.sleepAborted (s : Dev) (m : Mode) : Dev := (s.modPwr (fun p => { p with sleepTo := none, latched := none })).eventOk 0x0202 m.code

theorem quiet_sleepAborted (s : Dev) (m : Mode) : Quiet (s.modPwr (fun p => { p with sleepTo := none, latched := none })) (s.sleepAborted m) :=
  quiet_eventOk _ _ _

theorem does_sleepAbort {s : State} {m : Mode} (hto : s.dev.pwr.sleepTo = some m)
    (hlate : s.dev.pwr.sleepStart + 393216000 < s.dev.clk.now) : Does .sleepAbort s (fun t =>
      KeepsBut [.pwr, .mtx] s t ∧ t.dev.pwr = { s.dev.pwr with sleepTo := none, latched := none } ∧ Tells 0x0202 m.code s t ∧
      t.dev.mtx = if s.dev.pwr.mode = .run then { s.dev.mtx with waitFrame := true, blank := s.dev.clk.now + 262144 } else s.dev.mtx) := by
  have hq := quiet_sleepAborted s.dev m
  have hleaves : Leaves [.pwr, .mtx] (fun _ => false) s.dev (s.dev.sleepAborted m) := (leaves_modPwr (by decide) _ _).trans (.of_quiet hq)
  have htells : ∀ e : Dev, (s.dev.sleepAborted m).out <:+ e.out → Tells 0x0202 m.code s { s with dev := e } := fun e he =>
    tells_of_woken (b := s.dev.modPwr (fun p => { p with sleepTo := none, latched := none })) (fun h => sameEngine_modPwr h h) fun _ => he
  have hmode : (s.dev.sleepAborted m).pwr.mode = s.dev.pwr.mode := by rw [hq.pwr]; rfl
  by_cases hrun : s.dev.pwr.mode = .run
  · refine does_of_quiet _ (.refl (execSleepAbort s)) (d := (s.dev.sleepAborted m).startOutputs) ?_ fun e he => ?_
    · simp only [hto, hlate, if_true]
      exact if_pos (hmode.trans hrun)
    · refine ⟨(hleaves.trans ((leaves_modMtx (by decide) _ _).trans (.of_quiet he))).keepsBut, ?_, htells e he.out, ?_⟩
      · exact he.pwr.trans hq.pwr
      · rw [if_pos hrun]
        refine he.mtx.trans ?_
        simp only [Dev.startOutputs, Dev.modMtx, hq.mtx, hq.clk]
        rfl
  · refine does_of_quiet _ (.refl (execSleepAbort s)) (d := s.dev.sleepAborted m) ?_ fun e he => ?_
    · simp only [hto, hlate, if_true]
      exact if_neg fun h => hrun (hmode.symm.trans h)
    · refine ⟨(hleaves.trans (.of_quiet he)).keepsBut, he.pwr.trans hq.pwr, htells e he.out, ?_⟩
      rw [if_neg hrun]
      exact he.mtx.trans hq.mtx

/-- A DOZE event that outlasts DOZE_MAX, before the mode is judged (R91). -/
def Dev.overrun (s : Dev) : Dev :=
  (((s.modPwr (fun p => { p with mode := .ready, dozeEvent := false })).setFlag 0x82C 4).eventOk 0x0203 0).releasePins

theorem leaves_overrun (s : Dev) : Leaves [.pwr, .regs, .pins] (fun off => decide (off = 0x82C)) s s.overrun := by
  unfold Dev.overrun
  refine Leaves.trans ?_ ((leaves_releasePins _).mono (by decide) fun _ _ => rfl)
  exact ((leaves_modPwr (by decide) s _).trans (leaves_setFlag (by decide) _ 4 (decide_eq_true rfl))).trans (.of_quiet (quiet_eventOk _ _ _))

theorem overrun_pwr (s : Dev) : s.overrun.pwr = { s.pwr with mode := .ready, dozeEvent := false } := by
  unfold Dev.overrun
  rw [releasePins_pwr]
  exact (quiet_eventOk _ _ _).pwr

theorem overrun_flag (s : Dev) : s.overrun.force 0x82C = s.force 0x82C ||| 0x10 := by
  have hpins : ∀ d : Dev, d.releasePins.force 0x82C = d.force 0x82C := fun d => ((leaves_releasePins d).regs _ rfl rfl).1
  unfold Dev.overrun
  rw [hpins, (quiet_eventOk _ _ _).force _ rfl, flagged_force]
  rfl

theorem overrun_calm (s : Dev) : s.overrun.calm ↔ s.calm := by
  have h := leaves_overrun s
  obtain ⟨_, _, hf⟩ := h.same .flt (by decide) ⟨[], s, {}⟩
  refine calm_congr ?_ (h.same .clk (by decide) ⟨[], s, {}⟩) ((congrArg Flt.refuse hf).trans rfl)
  rw [overrun_pwr]

theorem coreOn_overrun {s : Dev} (h : s.coreOn = true) : (s.modPwr (fun p => { p with mode := .ready, dozeEvent := false })).coreOn = true := by
  simp only [Dev.coreOn, Bool.and_eq_true, decide_eq_true_eq] at h
  simp [Dev.coreOn, Dev.modPwr, h.1.1]

theorem tells_overrun {s : State} {e : Dev} (h : s.dev.overrun.out <:+ e.out) : Tells 0x0203 0 s { s with dev := e } :=
  tells_of_woken (b := (s.dev.modPwr (fun p => { p with mode := .ready, dozeEvent := false })).setFlag 0x82C 4)
    (fun hon => (sameEngine_modPwr hon (coreOn_overrun hon)).trans (sameEngine_setFlag _ 4 (by decide) (.inl (by decide))))
    fun _ => (leaves_releasePins _).out.trans h

theorem does_dozeOverrun {s : State} (hevent : s.dev.pwr.dozeEvent = true)
    (hlate : s.dev.pwr.dozeStart + 196608 * s.dev.rf 0x81C 15 8 < s.dev.clk.now) : Does .dozeOverrun s (fun t => t.rind = s.rind ∧
      t.dev.force 0x82C = s.dev.force 0x82C ||| 0x10 ∧ Tells 0x0203 0 s t ∧ t.dev.pwr.dozeEvent = false ∧
      t.dev.pwr.wakeCause = s.dev.pwr.wakeCause ∧
      (s.dev.calm → KeepsBut [.pwr, .regs, .pins] s t ∧ RegsBut (· = 0x82C) s t ∧
        t.dev.pwr = { s.dev.pwr with mode := .ready, dozeEvent := false }) ∧
      (¬s.dev.calm → t.dev.pwr.mode = .hold)) := by
  refine does_of_quiet _ (.refl (execDozeOverrun s)) (d := s.dev.overrun.holdInstead) (if_pos (by simp [hevent, hlate])) fun e he => ?_
  have hover := leaves_overrun s.dev
  have hout := (leaves_holdInstead s.dev.overrun).out.trans he.out
  have hflag : e.force 0x82C = s.dev.force 0x82C ||| 0x10 := by
    rw [he.force _ rfl, ((leaves_holdInstead s.dev.overrun).regs _ rfl rfl).1, overrun_flag]
  by_cases hcalm : s.dev.calm
  · rw [holdInstead_calm ((overrun_calm s.dev).2 hcalm)] at he
    have hpwr := he.pwr.trans (overrun_pwr s.dev)
    have hkeeps := hover.trans (.of_quiet he)
    exact ⟨rfl, hflag, tells_overrun hout, by rw [hpwr], by rw [hpwr], fun _ => ⟨hkeeps.keepsBut, hkeeps.regsBut, hpwr⟩, fun h => absurd hcalm h⟩
  · have hheld := held_holdInstead (s := s.dev.overrun) fun h => hcalm ((overrun_calm s.dev).1 h)
    rw [← he.pwr] at hheld
    obtain ⟨l, a, hpwr⟩ := hheld.other
    rw [overrun_pwr] at hpwr
    exact ⟨rfl, hflag, tells_overrun hout, by rw [hpwr], by rw [hpwr], fun h => absurd h hcalm, fun _ => hheld.mode⟩

theorem does_dozeEventStayAwake {s : State} (hevent : s.dev.pwr.dozeEvent = true) (hrun : s.dev.flt.dbgHalt = false) :
    Does .dozeEventStayAwake s (fun t => t.rind = s.rind ∧
      t.dev.pwr.wakeCause = 10 ∧ t.dev.pwr.fromDoze = true ∧ t.dev.pwr.dozeEvent = false ∧ t.dev.pwr.wake = .idle ∧
      Tells 0x0201 (10 + 256 + 65536 * ((s.dev.clk.now - s.dev.pwr.wakeStart) % 2 ^ 32)) s t ∧
      (s.dev.calm → KeepsBut [.pwr, .mtx, .pins] s t ∧ t.dev.pwr.mode = if s.dev.rb 0x81C 1 then .run else .ready) ∧
      (¬s.dev.calm → t.dev.pwr.mode = .hold)) := by
  let b := s.dev.modPwr (fun p => { p with wakeCause := 10, wakePin := 0, fromDoze := true })
  have hb : Leaves [.pwr, .mtx, .pins] (fun _ => false) s.dev b := leaves_modPwr (by decide) _ _
  have hauto : b.autoRun = s.dev.rb 0x81C 1 := by simp [Dev.autoRun, b, Dev.modPwr, Dev.rb, Dev.force]
  refine does_of_quiet _ (.refl (execDozeEventStayAwake s)) (d := b.enterTarget) (if_pos (by simp [hevent, hrun])) fun e he => ?_
  have hentered := entered_enterTarget b
  have hend := hentered.pwr
  rw [← he.pwr] at hend
  obtain ⟨m, c, l, k, a, hpwr⟩ := hend
  refine ⟨rfl, by rw [hpwr]; rfl, by rw [hpwr]; rfl, by rw [hpwr]; rfl, by rw [hpwr]; rfl, ?_, fun hcalm => ?_, fun hcalm => ?_⟩
  · refine tells_of_woken (b := b.modPwr (fun p => p.woken b.clk.now)) (fun hon => ?_) fun hany => ?_
    · exact .of_eq rfl rfl (by rw [hon]; rfl) rfl
    · refine .trans ?_ (hentered.told.trans he.out)
      unfold Dev.awake
      simp only [hany, if_true]
      exact (leaves_releasePins _).out
  · obtain ⟨hleaves, hmode⟩ := hentered.calm hcalm
    exact ⟨(hb.trans (hleaves.trans (.of_quiet he))).keepsBut, by rw [he.pwr, hmode, hauto]⟩
  · rw [he.pwr]
    exact hentered.hold hcalm

theorem does_dozeEventSleep {s : State} (hevent : s.dev.pwr.dozeEvent = true) (hrun : s.dev.flt.dbgHalt = false) :
    Does .dozeEventSleep s (fun t => Asleep .doze s.dev t.dev ∧ t.rind = s.rind ∧ t.pending = s.pending ∧
      t.dev.pwr.dozeStart = s.dev.pwr.dozeStart ∧ (s.dev.pwr.latched = none → t.dev.pwr.wake = s.dev.pwr.wake)) := by
  refine does_of_quiet _ (.refl (execDozeEventSleep s))
    (d := (s.dev.sleepNow .doze).modPwr (fun p => { p with dozeStart := s.dev.pwr.dozeStart })) (if_pos (by simp [hevent, hrun])) fun e he => ?_
  have hsleep := (asleep_sleepNow (.inr rfl) s.dev).congr (.inr rfl)
    (u := (s.dev.sleepNow .doze).modPwr (fun p => { p with dozeStart := s.dev.pwr.dozeStart })) rfl ⟨rfl, rfl, rfl, rfl, rfl, rfl, rfl⟩ rfl rfl
    fun _ _ => rfl
  exact ⟨hsleep.of_quiet (.inr rfl) he, rfl, rfl, (congrArg Pwr.dozeStart he.pwr).trans rfl,
    fun hl => (congrArg Pwr.wake he.pwr).trans (sleepNow_wake hl)⟩

theorem does_sleepLinkReady {s : State} {m : Mode} (hto : s.dev.pwr.sleepTo = some m) (hm : m = .vault ∨ m = .doze) :
    Does .sleepLinkReady s (fun t => Asleep m s.dev t.dev ∧ t.rind = s.rind ∧ t.pending = s.pending ∧
      t.dev.pwr = (s.dev.sleepNow m).pwr) := by
  refine does_of_quiet _ (.refl (execSleepLinkReady s)) (d := s.dev.sleepNow m) (by rw [hto]) fun e he => ?_
  exact ⟨(asleep_sleepNow hm s.dev).of_quiet hm he, rfl, rfl, he.pwr⟩

/-- Settles O43: the sleeps by what `sleepNow` keeps, the abort by its event, the ends of a DOZE event by the mode they enter. -/
theorem sleepAndDozeAct : Obligations.SleepAndDozeAct := by
  intro s
  refine ⟨fun m hto hm => ?_, fun hto => ?_, fun m hto hlate => does_sleepAbort hto hlate, fun h => ?_, fun hm hw he ht => ?_, fun h => ?_,
    fun he hrun hl hw => ?_, fun h => ?_, fun he hrun => does_dozeEventStayAwake he hrun, fun h => ?_, fun he hlate => does_dozeOverrun he hlate,
    fun h => ?_⟩
  · obtain ⟨t, ht, hsleep, hrind, hpend, hpwr⟩ := does_sleepLinkReady hto hm
    have hclaims := hsleep.claims (s := s)
    refine ⟨t, ht, ⟨hrind, hpend, hclaims.2.2⟩, fun hl => ?_, fun l hl => ?_⟩
    · rw [hpwr, sleepNow_wake hl]
    · rw [hpwr, sleepNow_latched hl]
      exact ⟨rfl, rfl, rfl, rfl, rfl⟩
  · exact does_nothing _ (.refl (execSleepLinkReady s)) (by rw [hto])
  · refine does_nothing _ (.refl (execSleepAbort s)) ?_
    cases hto : s.dev.pwr.sleepTo with
    | none => rfl
    | some m =>
      have hearly : ¬s.dev.pwr.sleepStart + 393216000 < s.dev.clk.now := by simpa [hto] using h
      exact if_neg hearly
  · exact does_pwr (c := .dozeTimer) (s := s) _ (.refl (execDozeTimer s)) (if_pos (by simp [hm, hw, he, ht]))
  · refine does_nothing _ (.refl (execDozeTimer s)) (if_neg fun hgo => ?_)
    simp only [Bool.and_eq_true, decide_eq_true_eq, Bool.not_eq_true'] at hgo
    obtain ⟨⟨⟨hm, hw⟩, he⟩, ht⟩ := hgo
    simp [hm, hw, he, ht] at h
  · obtain ⟨t, ht, hsleep, hrind, hpend, hstart, hwake⟩ := does_dozeEventSleep he hrun
    exact ⟨t, ht, ⟨hrind, hpend, (hsleep.claims (s := s)).2.2⟩, hstart, (hwake hl).trans hw⟩
  · refine does_nothing _ (.refl (execDozeEventSleep s)) (if_neg fun hgo => ?_)
    obtain ⟨he, hrun⟩ : s.dev.pwr.dozeEvent = true ∧ s.dev.flt.dbgHalt = false := by simpa using hgo
    simp [he, hrun] at h
  · refine does_nothing _ (.refl (execDozeEventStayAwake s)) (if_neg fun hgo => ?_)
    obtain ⟨he, hrun⟩ : s.dev.pwr.dozeEvent = true ∧ s.dev.flt.dbgHalt = false := by simpa using hgo
    simp [he, hrun] at h
  · refine does_nothing _ (.refl (execDozeOverrun s)) (if_neg fun hgo => ?_)
    simp only [Bool.and_eq_true, decide_eq_true_eq] at hgo
    obtain ⟨he, hlate⟩ := hgo
    simp only [he, Bool.true_eq_false, false_or] at h
    omega

end Sys2Proof.Machine
end

section
/-! SUPPORT. The steps of the wake sequence up to the Wheel (R85 to R90). -/

namespace Sys2Proof.Machine

/-! ### A failed buck -/

theorem toVault_eq (s : Dev) : s.toVault = { s with
    pwr := { s.pwr with mode := .vault, wake := .idle, dozeWake := false, dozeEvent := false, retained := s.pwr.retained && s.rb 0x81C 0 }
    ozhKept := if s.rb 0x81C 0 then s.ozhKept else none
    pins := { ext := s.pins.ext } } := by
  have hrb : (s.modPwr (fun p => { p with mode := .vault, wake := .idle, dozeWake := false, dozeEvent := false })).rb 0x81C 0 = s.rb 0x81C 0 := rfl
  unfold Dev.toVault Dev.dropRetention
  rw [hrb]
  cases s.rb 0x81C 0
  · simp [Dev.modPwr]
  · simp [Dev.modPwr]

/-- What a failure of the buck leaves (R87, R88). -/
structure BuckFailed (s t : Dev) : Prop where
  leaves : Leaves [.pwr, .regs, .pins, .kept] (fun off => decide (off = 0x82C)) s t
  force : t.force 0x82C = if 2 ≤ s.pwr.pgoodFails then s.force 0x82C ||| 4 else s.force 0x82C
  pins : t.pins = { ext := s.pins.ext }
  kept : t.ozhKept = if s.rb 0x81C 0 then s.ozhKept else none
  pwr : t.pwr = { s.pwr with
    mode := .vault, wake := .idle, dozeWake := false, dozeEvent := false, lastFail := 1, pgoodFails := min 3 (s.pwr.pgoodFails + 1),
    vaultLock := s.pwr.vaultLock || decide (2 ≤ s.pwr.pgoodFails), retained := s.pwr.retained && s.rb 0x81C 0 }

theorem leaves_toVault (s : Dev) : Leaves [.pwr, .regs, .pins, .kept] (fun off => decide (off = 0x82C)) s s.toVault := by
  rw [toVault_eq]
  exact .over rfl

theorem buckFailed_pgoodFail (s : Dev) : BuckFailed s s.pgoodFail := by
  unfold Dev.pgoodFail
  by_cases h : 2 ≤ s.pwr.pgoodFails
  · have h3 : 3 ≤ s.pwr.pgoodFails + 1 := by omega
    have hmin : min 3 (s.pwr.pgoodFails + 1) = 3 := by omega
    simp only [h3, if_true]
    refine ⟨((leaves_toVault s).trans (leaves_modPwr (by decide) _ _)).trans (leaves_setFlag (by decide) _ 2 (decide_eq_true rfl)), ?_, ?_, ?_, ?_⟩
    · rw [if_pos h, flagged_force, toVault_eq]
      rfl
    · simp only [toVault_eq]
      rfl
    · simp only [toVault_eq]
      rfl
    · simp only [toVault_eq, hmin, h, decide_true, Bool.or_true]
      rfl
  · have h3 : ¬3 ≤ s.pwr.pgoodFails + 1 := by omega
    have hmin : min 3 (s.pwr.pgoodFails + 1) = s.pwr.pgoodFails + 1 := by omega
    simp only [h3, if_false]
    refine ⟨(leaves_toVault s).trans (leaves_modPwr (by decide) _ _), ?_, ?_, ?_, ?_⟩
    · rw [if_neg h, toVault_eq]
      rfl
    · simp only [toVault_eq]
      rfl
    · simp only [toVault_eq]
      rfl
    · simp only [toVault_eq, hmin, h, decide_false, Bool.or_false]
      rfl

theorem does_pgoodTimeout {s : State} (hw : s.dev.pwr.wake = .buck) (hlate : s.dev.pwr.stepAt + 393216 ≤ s.dev.clk.now) :
    Does .pgoodTimeout s (fun t => KeepsBut [.pwr, .regs, .pins, .kept] s t ∧ RegsBut (· = 0x82C) s t ∧ BuckFailed s.dev t.dev) := by
  refine does_of_quiet _ (.refl (execPgoodTimeout s)) (d := s.dev.pgoodFail) (if_pos (by simp [hw, hlate])) fun e he => ?_
  have h := buckFailed_pgoodFail s.dev
  have hleaves := h.leaves.trans (.of_quiet he)
  exact ⟨hleaves.keepsBut, hleaves.regsBut, hleaves, (he.force _ rfl).trans h.force, he.pins.trans h.pins, he.ozhKept.trans h.kept,
    he.pwr.trans h.pwr⟩

/-! ### The clock -/

section
variable {c : Instr} {s : State} (f : Dev → Dev) (hc : exec c s = onDev f s)
include hc

/-- A command that changes the power state and the clock alone. -/
theorem does_pwrClk {q : Pwr} {k : Clk} (hd : f s.dev = { s.dev with pwr := q, clk := k }) :
    Does c s (fun t => KeepsBut [.pwr, .clk] s t ∧ t.dev.clk = k ∧ t.dev.pwr = q) :=
  does_of_quiet f hc hd fun _ hq =>
    ⟨(((leaves_modPwr (p := fun _ => false) (by decide) s.dev fun _ => q).trans (leaves_modClk (by decide) _ fun _ => k)).trans
      (.of_quiet hq)).keepsBut, hq.clk, hq.pwr⟩

end

/-- REFIN measured: its frequency and whether it serves, and the next step (R22, R85, R89). -/
theorem does_referenceMeasured {s : State} (hz : Nat) (hw : s.dev.pwr.wake = .refMeas) (hdue : s.dev.pwr.stepAt + 2048 ≤ s.dev.clk.now) :
    Does (.referenceMeasured hz) s (fun t => KeepsBut [.pwr, .clk] s t ∧
      t.dev.clk = { s.dev.clk with refHz := hz, src := if refGood hz then .refclk else .xtal } ∧
      t.dev.pwr = if s.dev.clk.limp then { s.dev.pwr with wake := .limpPll, stepAt := s.dev.clk.now }
        else { s.dev.pwr with wake := if refGood hz then .pll else .crystal, stepAt := s.dev.clk.now, clkAttempts := s.dev.pwr.clkAttempts + 1 }) := by
  refine does_pwrClk (c := .referenceMeasured hz) _ (.refl (execReferenceMeasured hz s)) ?_
  refine (if_pos (by simp [hw, hdue])).trans ?_
  cases hl : s.dev.clk.limp <;> cases hg : refGood hz <;> simp [hl, Dev.modClk, Dev.modPwr, Dev.wakeStep, Dev.clockStep]

theorem refGood_iff (hz : Nat) : refGood hz = true ↔ 24330240 ≤ hz ∧ hz ≤ 24821760 := by
  simp [refGood]

/-- The limp clock locks (R89, R90). -/
theorem does_limpClockLock {s : State} (hw : s.dev.pwr.wake = .limpPll) : Does .limpClockLock s (fun t =>
    KeepsBut [.pwr, .clk, .regs] s t ∧ RegsBut (· = 0x82C) s t ∧
      t.dev.clk = { s.dev.clk with pllLock := true, limp := true, src := .limp } ∧
      t.dev.pwr = { s.dev.pwr with wake := .wheelWait, stepAt := s.dev.clk.now } ∧ t.dev.force 0x82C = s.dev.force 0x82C ||| 2) := by
  refine does_of_quiet _ (.refl (execLimpClockLock s))
    (d := ((s.dev.modClk (fun c => { c with pllLock := true, limp := true, src := .limp })).setFlag 0x82C 1).wakeStep .wheelWait)
    (if_pos hw) fun e he => ?_
  have hleaves : Leaves [.pwr, .clk, .regs] (fun off => decide (off = 0x82C)) s.dev e :=
    (((leaves_modClk (by decide) _ _).trans (leaves_setFlag (by decide) _ 1 (decide_eq_true rfl))).trans (leaves_modPwr (by decide) _ _)).trans
      (.of_quiet he)
  exact ⟨hleaves.keepsBut, hleaves.regsBut, he.clk, he.pwr, (he.force _ rfl).trans (flagged_force _ _ _)⟩

/-! ### The Wheel -/

theorem tabGet_tabOver_ne {α : Type} [DecidableEq α] (d : Nat → α) (p : Nat → Bool) (a b : Tab α) {k : Nat} (h : p k = false) (x : α) :
    tabGet x (tabOver d p a b) k = tabGet x b k := by
  unfold tabOver
  have hkey : ∀ e ∈ a.filter (fun e => p e.1), k ≠ e.1 := by
    rintro e he rfl
    simp [h] at he
  generalize a.filter (fun e => p e.1) = es at hkey
  induction es generalizing b with
  | nil => rfl
  | cons e es ih =>
    rw [List.foldl_cons, ih _ fun e he => hkey e (List.mem_cons_of_mem _ he)]
    exact tabGet_tabSet_ne' _ _ _ _ _ _ (hkey e List.mem_cons_self)

/-- The radio's context comes back into the radio and its block alone. -/
theorem leaves_restoreOzh (s : Dev) : Leaves [.regs, .ozh] ozhReg s s.restoreOzh := by
  unfold Dev.restoreOzh
  split
  · next k _ =>
    refine ⟨List.suffix_rfl, fun a ha x => ?_, fun off _ ho => ⟨tabGet_tabOver_ne _ _ _ _ ho _, tabGet_tabOver_ne _ _ _ _ ho _⟩⟩
    have hs := a.same_refl { x with dev := s }
    cases a
    case regs | ozh => simp at ha
    all_goals exact hs
  · exact .refl s

/-- The Wheel that step 6 sets: 0 after a power-on reset, else what was stored and the time asleep (R25, R35). -/
def Dev.wheelAfter (s : Dev) (n : BitVec 48) : Wheel :=
  let slept := (s.pwr.woscCount + n).toNat * s.clk.woscCal.toNat / 1024
  if s.pwr.cold then 0 else s.pwr.storedWheel + BitVec.ofNat 64 slept + BitVec.ofInt 64 (s.sleepDrift slept)

/-- Whether the unit goes on as a follower. -/
def Dev.goesOn (s : Dev) : Bool := !s.pwr.cold && s.clk.role ≠ .master

/-- The clock as step 6 starts it. -/
def Dev.clkStarted (s : Dev) (n : BitVec 48) : Clk :=
  { s.clk with
    wheel := s.wheelAfter n, prev := s.wheelAfter n, running := true, served := [],
    role := if s.goesOn then s.clk.role else .master, fstate := if s.goesOn then .holdover else .synced }

/-- The device with its count brought up to date and its clock started. -/
def Dev.startClk (s : Dev) (n : BitVec 48) : Dev :=
  (s.modPwr (fun p => { p with woscCount := p.woscCount + n })).modClk (fun _ => s.clkStarted n)

/-- The Wheel set and told of, before the sequence goes on. -/
def Dev.wheelStarted (s : Dev) (n : BitVec 48) : Dev :=
  let d := if s.pwr.cold then s.startClk n else (s.startClk n).setFlag 0x42C 6
  let d := if s.goesOn then (d.setFlag 0x42C 0).eventOk 0x0102 d.clk.role.code else d
  d.modPwr (fun p => { p with cold := false, wheelCopy := s.wheelAfter n })

/-- What step 6 leaves of the clock, the power state and WHL_FLAGS. -/
structure WheelRuns (n : BitVec 48) (s t : Dev) : Prop where
  leaves : Leaves [.pwr, .clk, .regs] (fun off => decide (off = 0x42C)) s t
  clk : t.clk = s.clkStarted n
  pwr : t.pwr = { s.pwr with woscCount := s.pwr.woscCount + n, cold := false, wheelCopy := s.wheelAfter n }
  cold : s.pwr.cold = true → Leaves [.pwr, .clk] (fun _ => false) s t
  force : s.pwr.cold = false → t.force 0x42C = s.force 0x42C ||| if s.clk.role ≠ .master then 0x41 else 0x40

theorem leaves_startClk (s : Dev) (n : BitVec 48) : Leaves [.pwr, .clk] (fun _ => false) s (s.startClk n) :=
  (leaves_modPwr (by decide) s _).trans (leaves_modClk (by decide) _ _)

theorem wheelRuns_wheelStarted (s : Dev) (n : BitVec 48) : WheelRuns n s (s.wheelStarted n) := by
  have hclk := leaves_startClk s n
  have hflag : Leaves [.pwr, .clk, .regs] (fun off => decide (off = 0x42C)) s ((s.startClk n).setFlag 0x42C 6) :=
    (hclk.mono (by decide) fun _ _ => rfl).trans (leaves_setFlag (by decide) _ 6 (decide_eq_true rfl))
  unfold Dev.wheelStarted
  by_cases hcold : s.pwr.cold = true
  · have hgo : s.goesOn = false := by simp [Dev.goesOn, hcold]
    simp only [hcold, hgo, if_true, Bool.false_eq_true, if_false]
    have hleaves := hclk.trans (leaves_modPwr List.mem_cons_self _ fun p => { p with cold := false, wheelCopy := s.wheelAfter n })
    exact ⟨hleaves.mono (by decide) fun _ _ => rfl, rfl, rfl, fun _ => hleaves, fun h => absurd (hcold.symm.trans h) (by decide)⟩
  · by_cases hrole : s.clk.role = .master
    · have hgo : s.goesOn = false := by simp [Dev.goesOn, hrole]
      simp only [hcold, hgo, Bool.false_eq_true, if_false]
      refine ⟨?_, rfl, rfl, fun h => absurd h hcold, fun _ => ?_⟩
      · exact hflag.trans (leaves_modPwr (by decide) _ _)
      · rw [if_neg (not_not.2 hrole)]
        exact flagged_force _ _ _
    · have hgo : s.goesOn = true := by simp [Dev.goesOn, hrole, hcold]
      simp only [hcold, hgo, if_true, Bool.false_eq_true, if_false]
      refine ⟨?_, ?_, ?_, fun h => absurd h hcold, fun _ => ?_⟩
      · refine Leaves.trans ?_ (leaves_modPwr (by decide) _ _)
        refine Leaves.trans ?_ (.of_quiet (quiet_eventOk _ _ _))
        exact hflag.trans (leaves_setFlag (by decide) _ 0 (decide_eq_true rfl))
      · exact (quiet_eventOk _ _ _).clk
      · change ({ (Dev.eventOk _ _ _).pwr with cold := false, wheelCopy := s.wheelAfter n } : Pwr) = _
        rw [(quiet_eventOk _ _ _).pwr]
        rfl
      · rw [if_pos hrole]
        refine ((quiet_eventOk _ _ _).force _ rfl).trans ?_
        rw [flagged_force, flagged_force, BitVec.or_assoc]
        rfl

/-- The sequence goes on with the Steward's boot (R86). -/
def Dev.toSteward (s : Dev) : Dev := (s.modPwr (fun p => { p with dozeWake := false })).wakeStep .steward

/-- A DOZE event goes on with the Steward's task (R91). -/
def Dev.toDozeEvent (s : Dev) : Dev :=
  s.restoreOzh.modPwr (fun p => { p with wake := .idle, dozeWake := false, dozeEvent := true, retValid := p.retained })

theorem leaves_wakeStep {areas : List Area} {p : Nat → Bool} (h : .pwr ∈ areas) (s : Dev) (w : Wake) : Leaves areas p s (s.wakeStep w) :=
  .one h rfl

theorem leaves_toSteward (s : Dev) : Leaves [.pwr, .clk] (fun _ => false) s s.toSteward :=
  (leaves_modPwr (by decide) s _).trans (leaves_wakeStep (by decide) _ _)

theorem leaves_toDozeEvent (s : Dev) : Leaves [.pwr, .clk, .regs, .ozh] ozhReg s s.toDozeEvent :=
  ((leaves_restoreOzh s).mono (by decide) fun _ h => h).trans (leaves_modPwr (by decide) _ _)

theorem restoreOzh_only (s : Dev) : ∃ r z, s.restoreOzh = { s with regs := r, ozh := z } := by
  unfold Dev.restoreOzh
  split
  · exact ⟨_, _, rfl⟩
  · exact ⟨_, _, rfl⟩

theorem toDozeEvent_pwr (s : Dev) : s.toDozeEvent.pwr = { s.pwr with
    wake := .idle, dozeWake := false, dozeEvent := true, retValid := s.pwr.retained } := by
  obtain ⟨r, z, h⟩ := restoreOzh_only s
  unfold Dev.toDozeEvent
  rw [h]
  rfl

/-- After the Wheel a DOZE event goes on with the Steward's task; any other sequence, and one on the limp clock, with the Steward's boot (R89,
R91). -/
theorem does_wheelSet {s : State} (n : BitVec 48) {P : State → Prop} (hw : s.dev.pwr.wake = .wheelWait)
    (h : ∀ d e, WheelRuns n s.dev d → Quiet (if s.dev.pwr.dozeWake && !s.dev.clk.limp then d.toDozeEvent else d.toSteward) e →
      P { s with dev := e }) : Does (.wheelSet n) s P := by
  have hruns := wheelRuns_wheelStarted s.dev n
  refine does_of_quiet _ (.refl (execWheelSet n s)) ?_ fun e he => h _ e hruns he
  have hdoze : (s.dev.wheelStarted n).pwr.dozeWake = s.dev.pwr.dozeWake := by rw [hruns.pwr]
  have hlimp : (s.dev.wheelStarted n).clk.limp = s.dev.clk.limp := by rw [hruns.clk]; rfl
  rw [← hdoze, ← hlimp]
  exact (if_pos hw).trans rfl

end Sys2Proof.Machine
end

section
/-! SUPPORT. The Steward's boot and the end of the wake sequence (R86, R440, R441, R444), and O42. -/

namespace Sys2Proof.Machine

/-! ### The boot's choice of a slot -/

/-- What the choice among the active slot and the other one leaves (R440, steps 2 to 4). -/
structure BootChoice (s t : Dev) : Prop where
  only : ∃ f, t = { s with flt := f }
  trial : t.flt.trial = false
  reverted : t.flt.reverted = s.flt.reverted
  slots : t.flt.slots = s.flt.slots
  reason : s.flt.reason ≠ 0 → t.flt.reason = s.flt.reason
  active : s.imgReason s.flt.active = 0 → t.flt.running = s.flt.active ∧ t.flt.refuse = false
  other : s.imgReason s.flt.active ≠ 0 → s.imgReason (1 - s.flt.active) = 0 →
    t.flt.running = 1 - s.flt.active ∧ t.flt.fellBack = true ∧ t.flt.refuse = false
  neither : s.imgReason s.flt.active ≠ 0 → s.imgReason (1 - s.flt.active) ≠ 0 → t.flt.refuse = true

/-- The reason of the active slot's failure noted where none is. -/
def Dev.noteReason (s : Dev) (r : Nat) : Dev := if s.flt.reason = 0 then s.modFlt (fun f => { f with reason := r }) else s

theorem noteReason_only (s : Dev) (r : Nat) : ∃ x, s.noteReason r = { s with flt := { s.flt with reason := x } } ∧ (s.flt.reason ≠ 0 → x = s.flt.reason) := by
  unfold Dev.noteReason
  split
  · next h => exact ⟨r, rfl, fun hn => absurd h hn⟩
  · exact ⟨s.flt.reason, rfl, fun _ => rfl⟩

theorem bootActive_eq (s : Dev) : s.bootActive =
    if s.imgReason s.flt.active = 0 then s.modFlt (fun f => { f with running := s.flt.active, fellBack := false, refuse := false, trial := false })
    else if s.imgReason (1 - s.flt.active) = 0 then
      (s.noteReason (s.imgReason s.flt.active)).modFlt (fun f => { f with running := 1 - s.flt.active, fellBack := true, refuse := false, trial := false })
    else (s.noteReason (s.imgReason s.flt.active)).modFlt (fun f => { f with refuse := true, fellBack := false, trial := false }) := rfl

theorem bootChoice_bootActive (s : Dev) : BootChoice s s.bootActive := by
  obtain ⟨x, hx, hreason⟩ := noteReason_only s (s.imgReason s.flt.active)
  rw [bootActive_eq]
  by_cases ha : s.imgReason s.flt.active = 0
  · rw [if_pos ha]
    exact ⟨⟨_, rfl⟩, rfl, rfl, rfl, fun _ => rfl, fun _ => ⟨rfl, rfl⟩, fun h => absurd ha h, fun h => absurd ha h⟩
  · rw [if_neg ha]
    by_cases ho : s.imgReason (1 - s.flt.active) = 0
    · rw [if_pos ho, hx]
      exact ⟨⟨_, rfl⟩, rfl, rfl, rfl, hreason, fun h => absurd h ha, fun _ _ => ⟨rfl, rfl, rfl⟩, fun _ h => absurd ho h⟩
    · rw [if_neg ho, hx]
      exact ⟨⟨_, rfl⟩, rfl, rfl, rfl, hreason, fun h => absurd h ha, fun _ h => absurd h ho, fun _ _ => rfl⟩

/-- The pending slot that a boot tries first. -/
def Dev.pendingSlot (s : Dev) : Option Nat := [0, 1].find? (fun k => (s.slotOf k).st = 3)

/-- What a cold boot leaves of the fault summary (R440). -/
structure Booted (s t : Dev) : Prop where
  only : ∃ f, t = { s with flt := f }
  tried : ∀ k, s.pendingSlot = some k → s.imgReason k = 0 →
    t.flt.running = k ∧ t.flt.trial = true ∧ t.flt.trialAt = s.clk.now ∧ t.flt.refuse = false
  bad : ∀ k, s.pendingSlot = some k → s.imgReason k ≠ 0 →
    (t.slotOf k).st = 2 ∧ t.flt.reverted = true ∧ t.flt.reason = s.imgReason k ∧ t.flt.trial = false
  active : s.pendingSlot = none → s.imgReason s.flt.active = 0 → t.flt.running = s.flt.active ∧ t.flt.refuse = false
  other : s.pendingSlot = none → s.imgReason s.flt.active ≠ 0 → s.imgReason (1 - s.flt.active) = 0 →
    t.flt.running = 1 - s.flt.active ∧ t.flt.fellBack = true ∧ t.flt.refuse = false
  neither : s.pendingSlot = none → s.imgReason s.flt.active ≠ 0 → s.imgReason (1 - s.flt.active) ≠ 0 → t.flt.refuse = true

/-- The device at the start of a cold boot. -/
def Dev.bootBegun (s : Dev) : Dev := s.modFlt (fun f => { f with reason := 0, reverted := false, mismatch := false })

/-- A pending slot that fails its check, BAD (R440). -/
def Dev.pendingBad (s : Dev) (k : Nat) : Dev :=
  (s.bootBegun.setSlotSt k 2).modFlt (fun f => { f with reverted := true, reason := s.imgReason k })

theorem pendingBad_only (s : Dev) (k : Nat) : ∃ f, s.pendingBad k = { s with flt := f } := ⟨_, rfl⟩

theorem boot_tried {s : Dev} {k : Nat} (hk : s.pendingSlot = some k) (hr : s.imgReason k = 0) :
    s.boot = s.bootBegun.modFlt (fun f => { f with running := k, trial := true, trialAt := s.clk.now, refuse := false, fellBack := false }) := by
  have hfind : [0, 1].find? (fun k => (s.bootBegun.slotOf k).st = 3) = some k := hk
  have hreason : s.bootBegun.imgReason k = 0 := hr
  unfold Dev.bootBegun at *
  simp only [Dev.boot, hfind, hreason, if_true]
  rfl

theorem boot_bad {s : Dev} {k : Nat} (hk : s.pendingSlot = some k) (hr : s.imgReason k ≠ 0) : s.boot = (s.pendingBad k).bootActive := by
  have hfind : [0, 1].find? (fun k => (s.bootBegun.slotOf k).st = 3) = some k := hk
  have hreason : s.bootBegun.imgReason k ≠ 0 := hr
  unfold Dev.bootBegun at *
  simp only [Dev.boot, hfind, hreason, if_false]
  rfl

theorem boot_none {s : Dev} (hk : s.pendingSlot = none) : s.boot = s.bootBegun.bootActive := by
  have hfind : [0, 1].find? (fun k => (s.bootBegun.slotOf k).st = 3) = none := hk
  unfold Dev.bootBegun at *
  simp only [Dev.boot, hfind]

theorem booted_boot (s : Dev) : Booted s s.boot := by
  cases hk : s.pendingSlot with
  | none =>
    have h := bootChoice_bootActive s.bootBegun
    rw [← boot_none hk] at h
    obtain ⟨f, hf⟩ := h.only
    exact ⟨⟨f, hf⟩, by simp [hk], by simp [hk], fun _ => h.active, fun _ => h.other, fun _ => h.neither⟩
  | some k =>
    by_cases hr : s.imgReason k = 0
    · rw [boot_tried hk hr]
      refine ⟨⟨_, rfl⟩, fun j hj _ => ?_, fun j hj hn => ?_, by simp [hk], by simp [hk], by simp [hk]⟩
      · obtain rfl : k = j := by simpa [hk] using hj
        exact ⟨rfl, rfl, rfl, rfl⟩
      · obtain rfl : k = j := by simpa [hk] using hj
        exact absurd hr hn
    · have h := bootChoice_bootActive (s.pendingBad k)
      rw [← boot_bad hk hr] at h
      obtain ⟨f, hf⟩ := h.only
      obtain ⟨g, hg⟩ := pendingBad_only s k
      rw [hg] at hf
      refine ⟨⟨f, hf⟩, fun j hj hn => ?_, fun j hj _ => ?_, by simp [hk], by simp [hk], by simp [hk]⟩
      · obtain rfl : k = j := by simpa [hk] using hj
        exact absurd hn hr
      · obtain rfl : k = j := by simpa [hk] using hj
        refine ⟨?_, h.reverted, h.reason hr, h.trial⟩
        have hslots : (s.pendingBad k).flt.slots = tabSet {} s.flt.slots k { s.slotOf k with st := 2 } := rfl
        rw [Dev.slotOf, h.slots, hslots, tabGet_tabSet_self]

/-! ### The version judged -/

/-- The fault summary but for the judgement of the versions, and for FLT_LOCAL and FLT_LAST. -/
def Flt.sameBoot (f g : Flt) : Prop := ∃ m v l c, g = { f with mismatch := m, verState := v, local_ := l, last := c }

theorem Flt.sameBoot.trans {f g h : Flt} (h1 : f.sameBoot g) (h2 : g.sameBoot h) : f.sameBoot h := by
  obtain ⟨_, _, _, _, rfl⟩ := h1
  obtain ⟨_, _, _, _, rfl⟩ := h2
  exact ⟨_, _, _, _, rfl⟩

theorem sameBoot_of_quiet {s t : Dev} (h : Quiet s t) : s.flt.sameBoot t.flt := by
  obtain ⟨l, c, hf⟩ := h.flt
  exact ⟨s.flt.mismatch, s.flt.verState, l, c, hf⟩

/-- What the judgement of the versions leaves. -/
structure Judged (s t : Dev) : Prop where
  leaves : Leaves [.flt] (fun _ => false) s t
  flt : s.flt.sameBoot t.flt

theorem Judged.trans {s t u : Dev} (h : Judged s t) (k : Judged t u) : Judged s u := ⟨h.leaves.trans k.leaves, h.flt.trans k.flt⟩

theorem Judged.of_quiet {s t : Dev} (h : Quiet s t) : Judged s t := ⟨.of_quiet h, sameBoot_of_quiet h⟩

theorem Judged.ite {s t u : Dev} {c : Prop} [Decidable c] (ht : Judged s t) (hu : Judged s u) : Judged s (if c then t else u) := by
  split
  · exact ht
  · exact hu

theorem judged_mismatch (s : Dev) (m : Bool) : Judged s (s.modFlt (fun f => { f with mismatch := m })) :=
  ⟨leaves_modFlt (by decide) s _, m, s.flt.verState, s.flt.local_, s.flt.last, rfl⟩

theorem judged_verState (s : Dev) (v : Nat) : Judged s (s.modFlt (fun f => { f with verState := v })) :=
  ⟨leaves_modFlt (by decide) s _, s.flt.mismatch, v, s.flt.local_, s.flt.last, rfl⟩

theorem judged_judgeVersion (s : Dev) (boot : Bool) : Judged s (s.judgeVersion boot) := by
  unfold Dev.judgeVersion
  simp only
  refine .ite (.trans ?_ (.of_quiet (quiet_eventOk _ _ _))) ?_
  all_goals exact .trans (.ite (judged_mismatch s _) (.of_quiet (.refl s))) (judged_verState _ _)

/-! ### The end of the sequence -/

/-- The device as the Steward takes it over: resumed with its retention, or booted (R86, R440). -/
def Dev.taken (s : Dev) (resume : Bool) : Dev :=
  (if resume then s.restoreOzh.trialResumes else s.boot).modPwr (fun p => { p with retValid := resume, retained := resume })

/-- What the end of the wake sequence leaves beside its boot. -/
structure WakeOver (b t : Dev) : Prop where
  pwr : ∃ m c l k a, t.pwr = { b.pwr.woken b.clk.now with mode := m, cause := c, sleepTo := l, latched := k, transAt := a }
  flt : b.flt.sameBoot t.flt
  calm : b.calm → Leaves [.pwr, .mtx, .pins, .flt] (fun _ => false) b t ∧ t.pwr.mode = if b.autoRun then .run else .ready
  hold : ¬b.calm → t.pwr.mode = .hold

theorem wakeOver_of_quiet {b e : Dev} {boot : Bool} (hq : Quiet (b.enterTarget.judgeVersion boot) e) : WakeOver b e := by
  have h := entered_enterTarget b
  obtain ⟨hjudge, hflt⟩ := judged_judgeVersion b.enterTarget boot
  have hpwr : e.pwr = b.enterTarget.pwr := hq.pwr.trans (hjudge.same .pwr (by decide) ⟨[], b, {}⟩)
  have hend := hflt.trans (sameBoot_of_quiet hq)
  obtain ⟨l, c, hf⟩ := h.leaves.same .flt (by decide) ⟨[], b, {}⟩
  refine ⟨hpwr ▸ h.pwr, Flt.sameBoot.trans ⟨b.flt.mismatch, b.flt.verState, l, c, hf⟩ hend, fun hc => ?_, fun hc => hpwr ▸ h.hold hc⟩
  obtain ⟨hleaves, hmode⟩ := h.calm hc
  exact ⟨((hleaves.mono (by decide) fun _ h => h).trans (hjudge.mono (by decide) fun _ h => h)).trans (.of_quiet hq), hpwr ▸ hmode⟩

theorem does_stewardBootDone {s : State} (intact : Bool) {P : State → Prop} (hw : s.dev.pwr.wake = .steward)
    (h : ∀ e, WakeOver (s.dev.taken (s.dev.pwr.retained && intact)) e → P { s with dev := e }) : Does (.stewardBootDone intact) s P :=
  does_of_quiet _ (.refl (execStewardBootDone intact s))
    (d := (s.dev.taken (s.dev.pwr.retained && intact)).enterTarget.judgeVersion (!(s.dev.pwr.retained && intact)))
    ((if_pos hw).trans rfl) fun _ he => h _ (wakeOver_of_quiet he)

end Sys2Proof.Machine
end

section
/-! SUPPORT. The clauses of the Steward's boot, and O42. -/

namespace Sys2Proof.Machine

/-! ### The Steward resumed -/

theorem restoreOzh_ozh {s : Dev} {k : OzhKept} (h : s.ozhKept = some k) : s.restoreOzh.ozh = { k.z with fc := max k.z.fc s.ozh.fc } := by
  unfold Dev.restoreOzh
  rw [h]
  rfl

/-- What the Steward finds when it resumes (R86, R437). -/
structure Resumed (s b : Dev) : Prop where
  leaves : Leaves [.pwr, .mtx, .pins, .flt, .regs, .ozh] ozhReg s b
  pwr : b.pwr = { s.pwr with retValid := true, retained := true }
  clk : b.clk = s.clk
  flt : b.flt = { s.flt with trialAt := if s.flt.trial then s.flt.trialAt + (s.clk.now - s.flt.haltAt) else s.flt.trialAt }
  ozh : ∀ k, s.ozhKept = some k → b.ozh = { k.z with fc := max k.z.fc s.ozh.fc }

theorem resumed_taken (s : Dev) : Resumed s (s.taken true) := by
  have htaken : s.taken true = s.restoreOzh.trialResumes.modPwr (fun p => { p with retValid := true, retained := true }) := rfl
  have hozh := fun k (h : s.ozhKept = some k) => restoreOzh_ozh h
  have hleaves : Leaves [.pwr, .mtx, .pins, .flt, .regs, .ozh] ozhReg s s.restoreOzh := (leaves_restoreOzh s).mono (by decide) fun _ h => h
  rw [htaken]
  refine ⟨(hleaves.trans (leaves_modFlt (by decide) _ _)).trans (leaves_modPwr (by decide) _ _), ?_, ?_, ?_, hozh⟩
  all_goals
    obtain ⟨r, z, hr⟩ := restoreOzh_only s
    rw [hr]
    rfl

theorem Resumed.autoRun {s b : Dev} (h : Resumed s b) : b.autoRun = s.autoRun := by
  have hforce := (h.leaves.regs 0x81C rfl rfl).1
  simp only [Dev.autoRun, Dev.rb, hforce, h.pwr]

theorem Resumed.calm {s b : Dev} (h : Resumed s b) : b.calm ↔ s.calm := calm_congr (by rw [h.pwr]) h.clk (by rw [h.flt])

/-- RUN is the target of a wake with AUTO_RUN from sleep. -/
theorem autoRun_iff (s : Dev) : s.autoRun = true ↔ s.rb 0x81C 1 = true ∧ s.pwr.wakeCause ∉ [0, 1, 8] := by
  simp [Dev.autoRun, not_or, and_assoc]

theorem does_stewardResume {s : State} (hw : s.dev.pwr.wake = .steward) (hret : s.dev.pwr.retained = true) :
    Does (.stewardBootDone true) s (fun t => t.rind = s.rind ∧ t.dev.pwr.wake = .idle ∧ t.dev.pwr.retValid = true ∧
      t.dev.pwr.wakeTime = BitVec.ofNat 32 (s.dev.clk.now - s.dev.pwr.wakeStart) ∧
      t.dev.flt.running = s.dev.flt.running ∧ t.dev.flt.trial = s.dev.flt.trial ∧
      (s.dev.flt.trial = true → t.dev.flt.trialAt = s.dev.flt.trialAt + (s.dev.clk.now - s.dev.flt.haltAt)) ∧
      (s.dev.clk.limp = false → s.dev.flt.refuse = false → s.dev.pwr.cause = 0 → (∀ k, s.dev.ozhKept = some k →
          t.dev.ozh = { k.z with fc := max k.z.fc s.dev.ozh.fc }) ∧
        KeepsBut [.pwr, .mtx, .pins, .flt, .regs, .ozh] s t ∧ RegsBut ozhReg s t ∧
        t.dev.pwr.mode = if s.dev.rb 0x81C 1 ∧ s.dev.pwr.wakeCause ∉ [0, 1, 8] then .run else .ready)) := by
  refine does_stewardBootDone true hw fun e hover => ?_
  have hresumed := resumed_taken s.dev
  rw [hret, Bool.and_self] at hover
  generalize s.dev.taken true = b at hover hresumed
  obtain ⟨m, c, l, k, a, hpwr⟩ := hover.pwr
  obtain ⟨_, _, _, _, hflt⟩ := hover.flt
  rw [hresumed.flt] at hflt
  rw [hresumed.pwr, hresumed.clk] at hpwr
  refine ⟨rfl, by rw [hpwr]; rfl, by rw [hpwr]; rfl, by rw [hpwr]; rfl, by rw [hflt], by rw [hflt], fun htr => ?_, fun hl hr hc => ?_⟩
  · rw [hflt]
    exact if_pos htr
  · obtain ⟨hleaves, hmode⟩ := hover.calm (hresumed.calm.2 ⟨hc, hl, hr⟩)
    have hall := hresumed.leaves.trans (hleaves.mono (by decide) fun _ _ => rfl)
    refine ⟨fun k hk => (hleaves.same .ozh (by decide) s).trans (hresumed.ozh k hk), hall.keepsBut, hall.regsBut, ?_⟩
    rw [hmode, hresumed.autoRun]
    simp only [autoRun_iff]

/-! ### The Steward booted -/

/-- What the Steward's cold boot leaves (R440). -/
structure ColdBoot (s b : Dev) : Prop where
  leaves : Leaves [.pwr, .flt] (fun _ => false) s b
  pwr : b.pwr = { s.pwr with retValid := false, retained := false }
  clk : b.clk = s.clk
  booted : Booted s { s with flt := b.flt }

theorem coldBoot_taken (s : Dev) : ColdBoot s (s.taken false) := by
  have htaken : s.taken false = s.boot.modPwr (fun p => { p with retValid := false, retained := false }) := rfl
  have hbooted := booted_boot s
  obtain ⟨f, hf⟩ := hbooted.only
  rw [hf] at htaken hbooted
  rw [htaken]
  exact ⟨(leaves_modFlt (by decide) s fun _ => f).trans (leaves_modPwr (by decide) _ _), rfl, rfl, hbooted⟩

theorem ColdBoot.autoRun {s b : Dev} (h : ColdBoot s b) : b.autoRun = s.autoRun := by
  have hforce := (h.leaves.regs 0x81C rfl rfl).1
  simp only [Dev.autoRun, Dev.rb, hforce, h.pwr]

theorem Booted.judged {s b : Dev} {m : Bool} {v : Nat} {l : BitVec 5} {c : Byte} (h : Booted s b) :
    Booted s { b with flt := { b.flt with mismatch := m, verState := v, local_ := l, last := c } } := by
  obtain ⟨f, hf⟩ := h.only
  exact ⟨⟨_, by rw [hf]⟩, h.tried, h.bad, h.active, h.other, h.neither⟩

theorem pendingSlot_none {s : Dev} (h : ∀ k < 2, (s.slotOf k).st ≠ 3) : s.pendingSlot = none := by
  simp [Dev.pendingSlot, h 0 (by decide), h 1 (by decide)]

theorem does_stewardBoot {s : State} {intact : Bool} (hw : s.dev.pwr.wake = .steward) (hret : s.dev.pwr.retained = false ∨ intact = false) :
    Does (.stewardBootDone intact) s (fun t => t.rind = s.rind ∧ t.dev.pwr.wake = .idle ∧ t.dev.pwr.retValid = false ∧
      t.dev.pwr.retained = false ∧ t.dev.pwr.wakeTime = BitVec.ofNat 32 (s.dev.clk.now - s.dev.pwr.wakeStart) ∧
      Booted s.dev { s.dev with flt := t.dev.flt } ∧
      (s.dev.clk.limp = true ∨ t.dev.flt.refuse = true ∨ s.dev.pwr.cause ≠ 0 → t.dev.pwr.mode = .hold) ∧
      (s.dev.clk.limp = false → t.dev.flt.refuse = false → s.dev.pwr.cause = 0 → KeepsBut [.pwr, .mtx, .pins, .flt] s t ∧
        t.dev.pwr.mode = if s.dev.rb 0x81C 1 ∧ s.dev.pwr.wakeCause ∉ [0, 1, 8] then .run else .ready)) := by
  refine does_stewardBootDone intact hw fun e hover => ?_
  have hcold : (s.dev.pwr.retained && intact) = false := by
    obtain h | h := hret <;> simp [h]
  have hbooted := coldBoot_taken s.dev
  rw [hcold] at hover
  generalize s.dev.taken false = b at hover hbooted
  obtain ⟨m, c, l, k, a, hpwr⟩ := hover.pwr
  obtain ⟨_, _, _, _, hflt⟩ := hover.flt
  have hrefuse : e.flt.refuse = b.flt.refuse := by rw [hflt]
  have hcause : b.pwr.cause = s.dev.pwr.cause := by rw [hbooted.pwr]
  rw [hbooted.pwr, hbooted.clk] at hpwr
  refine ⟨rfl, by rw [hpwr]; rfl, by rw [hpwr]; rfl, by rw [hpwr]; rfl, by rw [hpwr]; rfl, ?_, fun h => ?_, fun hl hr hc => ?_⟩
  · rw [hflt]
    exact hbooted.booted.judged
  · refine hover.hold fun hcalm => ?_
    obtain ⟨hc, hl, hr⟩ := hcalm
    rw [hcause] at hc
    rw [hbooted.clk] at hl
    rw [← hrefuse] at hr
    simp_all
  · obtain ⟨hleaves, hmode⟩ := hover.calm ⟨hcause.trans hc, hbooted.clk ▸ hl, hrefuse ▸ hr⟩
    have hall := (hbooted.leaves.mono (by decide) fun _ h => h).trans hleaves
    refine ⟨hall.keepsBut, ?_⟩
    rw [hmode, hbooted.autoRun]
    simp only [autoRun_iff]

/-! ### O42 -/

theorem does_wheelSet_cold {s : State} (n : BitVec 48) (hw : s.dev.pwr.wake = .wheelWait) (hcold : s.dev.pwr.cold = true)
    (hdoze : s.dev.pwr.dozeWake = false) : Does (.wheelSet n) s (fun t => KeepsBut [.pwr, .clk] s t ∧
      t.dev.clk.wheel = 0 ∧ t.dev.clk.running = true ∧ t.dev.clk.role = .master ∧ t.dev.clk.fstate = .synced ∧
      t.dev.pwr = { s.dev.pwr with
        woscCount := s.dev.pwr.woscCount + n, cold := false, wheelCopy := 0, wake := .steward, stepAt := s.dev.clk.now }) := by
  refine does_wheelSet n hw fun d e hruns he => ?_
  have hgo : s.dev.goesOn = false := by simp [Dev.goesOn, hcold]
  have hwheel : s.dev.wheelAfter n = 0 := by simp [Dev.wheelAfter, hcold]
  simp only [hdoze, Bool.false_and, Bool.false_eq_true, if_false] at he
  have hclk : e.clk = s.dev.clkStarted n := he.clk.trans hruns.clk
  have hpwr : e.pwr = { d.pwr with dozeWake := s.dev.pwr.dozeWake, wake := .steward, stepAt := d.clk.now } := by
    rw [he.pwr, hdoze]
    rfl
  rw [hruns.pwr, hruns.clk, hwheel] at hpwr
  refine ⟨(((hruns.cold hcold).trans (leaves_toSteward d)).trans (.of_quiet he)).keepsBut, ?_, ?_, ?_, ?_, hpwr⟩
  all_goals
    rw [hclk]
    simp [Dev.clkStarted, hgo, hwheel]

/-- What step 6 leaves after a sleep, whatever follows it (R25, R35). -/
theorem WheelRuns.warm {n : BitVec 48} {s d : Dev} (h : WheelRuns n s d) (hcold : s.pwr.cold = false) :
    let slept := (s.pwr.woscCount + n).toNat * s.clk.woscCal.toNat / 1024
    d.clk.running = true ∧ d.clk.role = s.clk.role ∧
      d.clk.wheel = s.pwr.storedWheel + BitVec.ofNat 64 slept + BitVec.ofInt 64 (s.sleepDrift slept) ∧
      d.pwr.woscCount = s.pwr.woscCount + n ∧ d.pwr.wheelCopy = d.clk.wheel ∧
      (s.clk.role ≠ .master → d.clk.fstate = .holdover ∧ d.force 0x42C = s.force 0x42C ||| 0x41) ∧
      (¬s.clk.role ≠ .master → d.clk.fstate = .synced ∧ d.force 0x42C = s.force 0x42C ||| 0x40) := by
  have hforce := h.force hcold
  have hwheel : s.wheelAfter n = _ := if_neg (by simp [hcold])
  rw [h.clk, h.pwr]
  by_cases hrole : s.clk.role = .master
  · have hgo : s.goesOn = false := by simp [Dev.goesOn, hrole]
    rw [if_neg (not_not.2 hrole)] at hforce
    exact ⟨rfl, by simp [Dev.clkStarted, hgo, hrole], hwheel, rfl, rfl, fun h => absurd hrole h,
      fun _ => ⟨by simp [Dev.clkStarted, hgo], hforce⟩⟩
  · have hgo : s.goesOn = true := by simp [Dev.goesOn, hrole, hcold]
    rw [if_pos hrole] at hforce
    exact ⟨rfl, by simp [Dev.clkStarted, hgo], hwheel, rfl, rfl, fun _ => ⟨by simp [Dev.clkStarted, hgo], hforce⟩, fun h => absurd hrole h⟩

theorem does_wheelSet_goesOn {s : State} (n : BitVec 48) (hw : s.dev.pwr.wake = .wheelWait) :
    Does (.wheelSet n) s (fun t => t.rind = s.rind ∧ (∃ d, WheelRuns n s.dev d ∧ t.dev.clk = d.clk ∧ t.dev.force 0x42C = d.force 0x42C ∧
        t.dev.pwr.woscCount = d.pwr.woscCount ∧ t.dev.pwr.wheelCopy = d.pwr.wheelCopy) ∧
      (s.dev.pwr.dozeWake = false ∨ s.dev.clk.limp = true → KeepsBut [.pwr, .clk, .regs] s t ∧ RegsBut (· = 0x42C) s t ∧
        t.dev.pwr.wake = .steward ∧ t.dev.pwr.dozeWake = false) ∧
      (s.dev.pwr.dozeWake = true → s.dev.clk.limp = false → KeepsBut [.pwr, .clk, .regs, .ozh] s t ∧
        RegsBut (fun off => off = 0x42C || ozhReg off) s t ∧ t.dev.pwr.wake = .idle ∧ t.dev.pwr.dozeWake = false ∧
        t.dev.pwr.dozeEvent = true ∧ t.dev.pwr.retValid = s.dev.pwr.retained)) := by
  refine does_wheelSet n hw fun d e hruns he => ?_
  by_cases hgo : s.dev.pwr.dozeWake = true ∧ s.dev.clk.limp = false
  · obtain ⟨hdoze, hlimp⟩ := hgo
    rw [if_pos (by simp [hdoze, hlimp])] at he
    have hto := (leaves_toDozeEvent d).trans (.of_quiet he)
    have hpwr := he.pwr.trans (toDozeEvent_pwr d)
    have hclk : e.clk = d.clk := he.clk.trans (by obtain ⟨r, z, h⟩ := restoreOzh_only d; rw [Dev.toDozeEvent, h]; rfl)
    have hall : Leaves [.pwr, .clk, .regs, .ozh] (fun off => decide (off = 0x42C) || ozhReg off) s.dev e :=
      (hruns.leaves.mono (by decide) fun off h => by simp_all).trans (hto.mono (by decide) fun off h => by simp_all)
    have hdone : e.pwr.wake = .idle ∧ e.pwr.dozeWake = false ∧ e.pwr.dozeEvent = true ∧ e.pwr.retValid = s.dev.pwr.retained := by
      rw [hpwr]
      exact ⟨rfl, rfl, rfl, by rw [hruns.pwr]⟩
    exact ⟨rfl, ⟨d, hruns, hclk, (hto.regs _ rfl rfl).1, by rw [hpwr], by rw [hpwr]⟩, fun h => by simp [hdoze, hlimp] at h,
      fun _ _ => ⟨hall.keepsBut, hall.regsBut, hdone⟩⟩
  · rw [if_neg (by simpa using hgo)] at he
    have hto := (leaves_toSteward d).trans (.of_quiet he)
    have hpwr : e.pwr = { d.pwr with dozeWake := false, wake := .steward, stepAt := d.clk.now } := he.pwr
    have hall := hruns.leaves.trans (hto.mono (by decide) fun _ _ => rfl)
    refine ⟨rfl, ⟨d, hruns, he.clk, (hto.regs _ rfl rfl).1, by rw [hpwr], by rw [hpwr]⟩,
      fun _ => ⟨hall.keepsBut, hall.regsBut, by rw [hpwr], by rw [hpwr]⟩, fun h1 h2 => absurd ⟨h1, h2⟩ hgo⟩

theorem does_clockStepTimeout {s : State} {w : Wake} {lim code : Nat} (hlim : clockLimit w = some (lim, code)) (hw : s.dev.pwr.wake = w)
    (hlate : s.dev.pwr.stepAt + lim ≤ s.dev.clk.now) : Does .clockStepTimeout s (fun t => KeepsBut [.pwr] s t ∧
      t.dev.pwr = { s.dev.pwr with
        lastFail := code, wake := if 4 ≤ s.dev.pwr.clkAttempts then .limpPll else .pause, stepAt := s.dev.clk.now }) := by
  refine does_pwr (c := .clockStepTimeout) _ (.refl (execClockStepTimeout s)) ?_
  simp only [hw, hlim, hlate, if_true]
  rfl

/-- Settles O42: each step by its one effect, step 6 and the Steward's boot by what they leave whatever follows. -/
theorem wakeStepsInOrder : Obligations.WakeStepsInOrder := by
  intro s
  refine ⟨fun hw => ?_, fun hw => ?_, fun hw hlate => ?_, fun h => ?_, fun hl => ?_, fun hl => ?_, fun hz => ⟨fun hw hdue => ?_, fun h => ?_⟩,
    fun hw => ?_, fun hw => ?_, fun x hx hw => ⟨fun hlate => ?_, fun h => ?_⟩, fun h1 h2 => ?_, fun hw hdue => ?_, fun h => ?_, fun hw => ?_,
    fun hw => ?_, fun hw => does_limpClockLock hw, fun hw => ?_, fun n => ⟨fun hw hcold hdoze => does_wheelSet_cold n hw hcold hdoze,
      fun hw hcold => ?_, fun hw => ?_⟩, fun b hw => ?_, fun b hw hret hb => ?_, fun b hw hret => ?_⟩
  · exact does_pwr (c := .vcorePgood) _ (.refl (execVcorePgood s)) (if_pos hw)
  · exact does_nothing _ (.refl (execVcorePgood s)) (if_neg hw)
  · obtain ⟨t, ht, hkeeps, hregs, hfail⟩ := does_pgoodTimeout hw hlate
    exact ⟨t, ht, hkeeps, hregs, hfail.force, hfail.pins, hfail.kept, hfail.pwr⟩
  · refine does_nothing _ (.refl (execPgoodTimeout s)) (if_neg fun hgo => ?_)
    simp only [Bool.and_eq_true, decide_eq_true_eq] at hgo
    exact h.elim (fun h => h hgo.1) (by omega)
  · exact does_pwr (c := .vaultLockRelease) _ (.refl (execVaultLockRelease s)) (if_pos hl)
  · exact does_nothing _ (.refl (execVaultLockRelease s)) (if_neg (by simp [hl]))
  · obtain ⟨t, ht, hkeeps, hclk, hpwr⟩ := does_referenceMeasured hz hw hdue
    refine ⟨t, ht, hkeeps, fun hg => ?_, fun hg => ?_, fun hl => ?_, fun hl hg => ?_, fun hl hg => ?_⟩
    · rw [hclk, (refGood_iff hz).2 hg]
      rfl
    · rw [hclk, if_neg fun h => hg ((refGood_iff hz).1 h)]
    · rw [hpwr, if_pos hl]
    · rw [hpwr, if_neg (by simp [hl]), (refGood_iff hz).2 hg]
      rfl
    · rw [hpwr, if_neg (by simp [hl]), if_neg fun h => hg ((refGood_iff hz).1 h)]
  · refine does_nothing _ (.refl (execReferenceMeasured hz s)) (if_neg fun hgo => ?_)
    simp only [Bool.and_eq_true, decide_eq_true_eq] at hgo
    exact h.elim (fun h => h hgo.1) (by omega)
  · exact does_pwr (c := .crystalAmplitudeGood) _ (.refl (execCrystalAmplitudeGood s)) (if_pos hw)
  · exact does_nothing _ (.refl (execCrystalAmplitudeGood s)) (if_neg hw)
  · simp only [List.mem_cons, List.not_mem_nil, or_false] at hx
    obtain rfl | rfl := hx
    · exact does_clockStepTimeout rfl hw hlate
    · exact does_clockStepTimeout rfl hw hlate
  · refine does_nothing _ (.refl (execClockStepTimeout s)) ?_
    simp only [List.mem_cons, List.not_mem_nil, or_false] at hx
    obtain rfl | rfl := hx
    · simp [hw, clockLimit, Nat.not_le.2 h]
    · simp [hw, clockLimit, Nat.not_le.2 h]
  · refine does_nothing _ (.refl (execClockStepTimeout s)) ?_
    have hnone : clockLimit s.dev.pwr.wake = none := by
      unfold clockLimit
      split <;> simp_all
    rw [hnone]
  · refine does_pwr (c := .clockRetryPauseEnd) _ (.refl (execClockRetryPauseEnd s)) ((if_pos (by simp [hw, hdue])).trans rfl)
  · refine does_nothing _ (.refl (execClockRetryPauseEnd s)) (if_neg fun hgo => ?_)
    simp only [Bool.and_eq_true, decide_eq_true_eq] at hgo
    exact h.elim (fun h => h hgo.1) (by omega)
  · exact does_pwrClk (c := .pllLock) _ (.refl (execPllLock s)) (if_pos hw)
  · exact does_nothing _ (.refl (execPllLock s)) (if_neg hw)
  · exact does_nothing _ (.refl (execLimpClockLock s)) (if_neg hw)
  · obtain ⟨t, ht, hrind, ⟨d, hruns, hclk, hforce, hcount, hcopy⟩, hsteward, hdoze⟩ := does_wheelSet_goesOn n hw
    obtain ⟨hrunning, hrole, hwheel, hd, hdc, hfollow, hmaster⟩ := hruns.warm hcold
    rw [← hclk] at hrunning hrole hwheel hfollow hmaster hdc
    rw [← hforce] at hfollow hmaster
    exact ⟨t, ht, hrind, hrunning, hrole, hwheel, hcount.trans hd, hcopy.trans hdc, hfollow, hmaster, hsteward, hdoze⟩
  · exact does_nothing _ (.refl (execWheelSet n s)) (if_neg hw)
  · exact does_nothing _ (.refl (execStewardBootDone b s)) (if_neg hw)
  · subst hb
    exact does_stewardResume hw hret
  · obtain ⟨t, ht, hrind, hwake, hvalid, hretained, htime, hboot, hhold, hcalm⟩ := does_stewardBoot hw hret
    exact ⟨t, ht, hrind, hwake, hvalid, hretained, htime, hboot.tried, hboot.bad,
      fun h => ⟨hboot.active (pendingSlot_none h), hboot.other (pendingSlot_none h), hboot.neither (pendingSlot_none h)⟩, hhold, hcalm⟩

end Sys2Proof.Machine
end

section
/-! SUPPORT. What entries, packets and messages leave of the rings: the flags set, the cue store, what waits, and the unit's own packets. -/

namespace Sys2Proof.Machine

/-! ### What is noted -/

/-- Flags of the rings stay set, no cue arises or changes but for what it holds, and no SETW is sent to the unit itself. -/
structure Noted (s t : Dev) : Prop where
  flags : ∀ i, s.rb 0x1010 i = true → t.rb 0x1010 i = true
  cues : ∀ e ∈ t.ring.cues, ∃ c ∈ s.ring.cues, e.idx = c.idx ∧ e.out = c.out
  own : NoSetw s → NoSetw t

/-- No completion of a cue waits for its whey ring. -/
def Dev.noCueWaits (s : Dev) : Prop := ∀ w ∈ s.ring.wait, w.cue = none

/-- The same, and where no completion of a cue waits the cue store stays as it was. -/
structure Messaged (s t : Dev) : Prop where
  noted : Noted s t
  still : s.noCueWaits → t.noCueWaits ∧ t.ring.cues = s.ring.cues

theorem Noted.refl (s : Dev) : Noted s s := ⟨fun _ h => h, fun e he => ⟨e, he, rfl, rfl⟩, id⟩

theorem Noted.trans {s t u : Dev} (h : Noted s t) (k : Noted t u) : Noted s u where
  flags i hi := k.flags i (h.flags i hi)
  cues e he := by
    obtain ⟨c, hc, hi, ho⟩ := k.cues e he
    obtain ⟨b, hb, hi', ho'⟩ := h.cues c hc
    exact ⟨b, hb, hi.trans hi', ho.trans ho'⟩
  own := k.own ∘ h.own

theorem Messaged.refl (s : Dev) : Messaged s s := ⟨.refl s, fun h => ⟨h, rfl⟩⟩

theorem Messaged.trans {s t u : Dev} (h : Messaged s t) (k : Messaged t u) : Messaged s u where
  noted := h.noted.trans k.noted
  still hs := by
    obtain ⟨ht, hc⟩ := h.still hs
    obtain ⟨hu, hd⟩ := k.still ht
    exact ⟨hu, hd.trans hc⟩

theorem Messaged.foldl {α : Type} {f : Dev → α → Dev} (hf : ∀ s a, Messaged s (f s a)) (xs : List α) (s : Dev) : Messaged s (xs.foldl f s) :=
  foldl_of_step .refl .trans hf xs s

theorem Messaged.ite {s t u : Dev} {c : Prop} [Decidable c] (ht : Messaged s t) (hu : Messaged s u) : Messaged s (if c then t else u) := by
  split
  · exact ht
  · exact hu

/-- A change that keeps the cue store and the unit's own packets, and lets only entries without a cue wait. -/
theorem Messaged.of_ring {s t : Dev} (hc : t.ring.cues = s.ring.cues) (hw : ∀ w ∈ t.ring.wait, w ∈ s.ring.wait ∨ w.cue = none)
    (ho : t.hoop.own = s.hoop.own) (hf : ∀ i, s.rb 0x1010 i = true → t.rb 0x1010 i = true) : Messaged s t where
  noted := ⟨hf, fun e he => ⟨e, hc ▸ he, rfl, rfl⟩, fun hs p hp => hs p (ho ▸ hp)⟩
  still hs := ⟨fun w hm => (hw w hm).elim (hs w) id, hc⟩

/-- A change of neither the rings nor the Hoop. -/
theorem Messaged.of_same {s t : Dev} (hr : t.ring = s.ring) (ho : t.hoop = s.hoop) (hf : t.force 0x1010 = s.force 0x1010) : Messaged s t :=
  .of_ring (by rw [hr]) (fun w hw => .inl (hr ▸ hw)) (by rw [ho]) fun i hi => by rwa [Dev.rb, hf]

theorem testBit_toNat_or {a b : Word} {i : Nat} (h : a.toNat.testBit i = true) : (a ||| b).toNat.testBit i = true := by
  rw [BitVec.toNat_or, Nat.testBit_or, h, Bool.true_or]

theorem messaged_setFlag (s : Dev) (o i : Nat) : Messaged s (s.setFlag o i) := by
  refine .of_ring rfl (fun _ h => .inl h) rfl fun j hj => ?_
  by_cases ho : o = 0x1010
  · subst ho
    rw [Dev.rb, flagged_force]
    exact testBit_toNat_or hj
  · exact (congrArg (fun w : Word => w.toNat.testBit j) (tabGet_tabSet_ne' _ _ _ _ _ _ (Ne.symm ho))).trans hj

theorem messaged_emit (s : Dev) (o : Out) : Messaged s (s.emit o) := .of_same rfl rfl rfl

/-! ### Entries -/

theorem messaged_sendMsix (s : Dev) (v : Nat) : Messaged s (s.sendMsix v) := by
  unfold Dev.sendMsix
  simp only
  split
  · exact .of_ring rfl (fun _ h => .inl h) rfl fun _ h => h
  · exact messaged_emit s _

theorem messaged_setWhey (s : Dev) (m : Nat) (w : Whey) : Messaged s (s.setWhey m w) := .of_ring rfl (fun _ h => .inl h) rfl fun _ h => h

theorem messaged_setTail (s : Dev) (m : Nat) (w : Word) : Messaged s (s.setBoth (wheyOff m + 0x1C) w) :=
  .of_same rfl rfl (tabGet_tabSet_ne' _ _ _ _ _ _ (by have := wheyOff_le m; omega))

theorem messaged_putWhey (s : Dev) (m : Nat) (e : Entry) : Messaged s (s.putWhey m e) := by
  unfold Dev.putWhey
  simp only
  have hput := (messaged_emit s (.whey m (s.wheyTail m) (s.wheyAddr m) e)).trans (messaged_setTail _ m (s.wheyTail m + 1))
  split
  · exact ((hput.trans (messaged_emit _ _)).trans (messaged_setWhey _ m _)).trans (messaged_sendMsix _ _)
  · exact (hput.trans (messaged_emit _ _)).trans (messaged_setWhey _ m _)

theorem messaged_dropPacket (s : Dev) (k : Nat) : Messaged s (s.dropPacket k) :=
  Messaged.trans (t := s.modPort k (fun q => { q with drop := satInc q.drop })) (.of_ring rfl (fun _ h => .inl h) rfl fun _ h => h) (messaged_setFlag _ _ _)

theorem messaged_queuePacket (s : Dev) (k : Nat) (p : Packet) : Messaged s (s.queuePacket k p) :=
  .ite (.of_ring rfl (fun _ h => .inl h) rfl fun _ h => h) (messaged_dropPacket s k)

/-- A packet other than a SETW. -/
theorem messaged_sendPacket (s : Dev) {type : Nat} (dest : BitVec 12) (tag : BitVec 16) (p : List Byte) (ht : BitVec.ofNat 8 type ≠ 0x04) :
    Messaged s (s.sendPacket type dest tag p) := by
  have hown := noSetw_sendPacket (s := s) dest tag p ht
  unfold Dev.sendPacket at hown ⊢
  simp only at hown ⊢
  split
  · next h =>
    rw [if_pos h] at hown
    exact ⟨⟨fun _ h => h, fun e he => ⟨e, he, rfl, rfl⟩, hown⟩, fun h => ⟨h, rfl⟩⟩
  · split
    · exact messaged_queuePacket s _ _
    · exact messaged_dropPacket s _

theorem messaged_loseEvent (s : Dev) (b : Bool) : Messaged s (s.loseEvent b) :=
  Messaged.trans (t := s.modRing (fun r => { r with lostEvt := satN 16 (r.lostEvt + 1), owed := r.owed || b }))
    (.of_ring rfl (fun _ h => .inl h) rfl fun _ h => h) (messaged_setFlag _ _ _)

/-- An event waits for its ring. -/
theorem messaged_waitEvent (s : Dev) (e : Entry) : Messaged s (s.modRing (fun r => { r with wait := r.wait ++ [⟨true, 0, none, e⟩] })) := by
  refine .of_ring rfl (fun w hw => ?_) rfl fun _ h => h
  obtain h | h := List.mem_append.1 hw
  · exact .inl h
  · rw [List.mem_singleton.1 h]
    exact .inr rfl

theorem messaged_postEvent (s : Dev) (e : Entry) : Messaged s (s.postEvent e) := by
  unfold Dev.postEvent
  split
  · exact .ite (messaged_sendPacket s 0 0 _ (by decide)) (messaged_loseEvent s _)
  · simp only
    split
    · exact messaged_putWhey s _ e
    · split
      · split
        · exact (messaged_waitEvent s e).trans (messaged_emit _ _)
        · exact messaged_waitEvent s e
      · exact messaged_loseEvent s _

theorem messaged_eventOk (s : Dev) (c d : Nat) : Messaged s (s.eventOk c d) := messaged_postEvent s _

theorem messaged_loseCompletion (s : Dev) : Messaged s s.loseCompletion :=
  Messaged.trans (t := s.modRing (fun r => { r with lostCpl := satN 16 (r.lostCpl + 1) })) (.of_ring rfl (fun _ h => .inl h) rfl fun _ h => h)
    (messaged_setFlag _ _ _)

/-! ### What waits is tried -/

theorem noted_freeCue (s : Dev) (i : Nat) : Noted s (s.freeCue i) :=
  ⟨fun _ h => h, fun e he => ⟨e, List.mem_of_mem_filter he, rfl, rfl⟩, id⟩

theorem noted_freeCue? (s : Dev) (cue : Option Nat) : Noted s (match cue with
    | some i => s.freeCue i
    | none => s) := by
  cases cue with
  | some i => exact noted_freeCue s i
  | none => exact .refl s

theorem noted_flushList (ws : List Waiting) : ∀ s : Dev, Noted s (Dev.flushList ws s) := by
  induction ws with
  | nil => exact .refl
  | cons w ws ih =>
    intro s
    unfold Dev.flushList
    refine Noted.trans ?_ (ih _)
    simp only
    split
    · exact (messaged_putWhey s _ w.e).noted.trans (noted_freeCue? _ w.cue)
    · exact ⟨fun _ h => h, fun e he => ⟨e, he, rfl, rfl⟩, id⟩

theorem still_flushList (ws : List Waiting) (hws : ∀ w ∈ ws, w.cue = none) : ∀ s : Dev, s.noCueWaits →
    (Dev.flushList ws s).noCueWaits ∧ (Dev.flushList ws s).ring.cues = s.ring.cues := by
  induction ws with
  | nil => exact fun s hs => ⟨hs, rfl⟩
  | cons w ws ih =>
    intro s hs
    have hw : w.cue = none := hws w List.mem_cons_self
    have hrest := ih fun v hv => hws v (List.mem_cons_of_mem _ hv)
    unfold Dev.flushList
    simp only [hw]
    split
    · obtain ⟨hput, hcues⟩ := (messaged_putWhey s (s.waitRing w) w.e).still hs
      obtain ⟨hflush, hsame⟩ := hrest _ hput
      exact ⟨hflush, hsame.trans hcues⟩
    · refine hrest (s.modRing (fun r => { r with wait := r.wait ++ [w] })) fun v hv => ?_
      obtain h | h := List.mem_append.1 hv
      · exact hs v h
      · rw [List.mem_singleton.1 h]
        exact hw

theorem messaged_writeOwed (s : Dev) : Messaged s s.writeOwed := by
  refine .ite (.trans ?_ (messaged_putWhey _ _ _)) (.refl s)
  exact .of_ring rfl (fun _ h => .inl h) rfl fun _ h => h

theorem messaged_flushWhey (s : Dev) : Messaged s s.flushWhey := by
  refine Messaged.trans ⟨Noted.trans ?_ (noted_flushList s.ring.wait _), fun hs => ?_⟩ (messaged_writeOwed _)
  · exact ⟨fun _ h => h, fun e he => ⟨e, he, rfl, rfl⟩, id⟩
  · exact still_flushList s.ring.wait hs _ fun w hw => absurd hw List.not_mem_nil

/-! ### What follows every command -/

theorem messaged_mailboxTold (s : Dev) : Messaged s s.mailboxTold := by
  have htold (b : Bool) : Messaged s (s.modBr (fun x => { x with told := b })) := .of_same rfl rfl rfl
  unfold Dev.mailboxTold
  simp only
  split
  · exact .refl s
  · split
    · split
      · exact (htold _).trans (messaged_eventOk _ _ _)
      · exact htold _
    · split
      · exact (htold _).trans (messaged_eventOk _ _ _)
      · exact htold _

theorem messaged_reportFault (s : Dev) (c : Nat) : Messaged s (s.reportFault c) :=
  Messaged.trans (t := s.modFlt (fun f => { f with last := BitVec.ofNat 8 c })) (.of_same rfl rfl rfl) (messaged_eventOk _ _ _)

theorem messaged_scanFaults (s : Dev) : Messaged s s.scanFaults :=
  Messaged.trans (t := s.modFlt (fun f => { f with local_ := s.localNow })) (.of_same rfl rfl rfl)
    (.foldl (fun s _ => .ite (messaged_reportFault s _) (.refl s)) _ _)

theorem messaged_writeShadow (s : Dev) (n : Fin 8) : Messaged s (s.writeShadow n) := by
  have hcurd (c : Curd) : Messaged s (s.setCurd n c) := .of_ring rfl (fun _ h => .inl h) rfl fun _ h => h
  unfold Dev.writeShadow
  simp only
  split
  · exact hcurd _
  · split
    · exact hcurd _
    · exact (hcurd _).trans (messaged_emit _ _)

theorem messaged_syncShadows (s : Dev) : Messaged s s.syncShadows :=
  .foldl (fun s n => .ite (messaged_writeShadow s n) (.refl s)) _ s

theorem messaged_mirror (s : Dev) : Messaged s s.mirror := by
  unfold Dev.mirror
  split
  · exact .refl s
  · simp only
    split
    · exact .refl s
    · split
      · exact (messaged_setFlag s _ _).trans (.of_same rfl rfl rfl)
      · exact .of_same rfl rfl rfl

theorem messaged_settle (s : Dev) : Messaged s s.settle := by
  refine .trans ?_ (messaged_mirror _)
  refine .trans ?_ (messaged_syncShadows _)
  refine .trans ?_ (messaged_scanFaults _)
  refine .trans ?_ (messaged_flushWhey _)
  exact Messaged.trans (t := s.watchClock) (.of_same rfl rfl rfl) (messaged_mailboxTold _)

end Sys2Proof.Machine
end

section
/-! SUPPORT. Acceptance: what taking a descriptor off its ring leaves, and where its completion lands (R114 to R118, R122). -/

namespace Sys2Proof.Machine

/-! ### Completions -/

theorem noted_modCues (s : Dev) (w : List Waiting) (f : Cue → Cue) (h : ∀ c, (f c).idx = c.idx ∧ (f c).out = c.out) :
    Noted s (s.modRing (fun r => { r with wait := w, cues := r.cues.map f })) where
  flags _ h := h
  cues e he := by
    obtain ⟨c, hc, rfl⟩ := List.mem_map.1 he
    exact ⟨c, hc, h c⟩
  own := id

theorem noted_postCompletion (s : Dev) (m : Nat) (cue : Option Nat) (e : Entry) : Noted s (s.postCompletion m cue e) := by
  unfold Dev.postCompletion
  simp only
  split
  · exact (messaged_loseCompletion s).noted.trans (noted_freeCue? _ cue)
  · split
    · exact (messaged_putWhey s m e).noted.trans (noted_freeCue? _ cue)
    · split
      · exact (messaged_loseCompletion s).noted
      · cases cue with
        | none => exact ⟨fun _ h => h, fun e he => ⟨e, he, rfl, rfl⟩, id⟩
        | some i => exact noted_modCues s _ (fun c => if c.idx = i then { c with held := true } else c) fun c => by split <;> exact ⟨rfl, rfl⟩

theorem noted_sendCmd (s : Dev) (final : BitVec 16) (b : List Byte) : Noted s (s.sendCmd final b) := by
  unfold Dev.sendCmd Dev.originate
  split
  · exact .refl s
  · split
    · split
      · next t ht =>
        unfold Dev.queueFrame at ht
        split_ifs at ht <;> cases ht <;> exact ⟨fun _ h => h, fun e he => ⟨e, he, rfl, rfl⟩, id⟩
      · exact (messaged_setFlag s _ _).noted
    · exact .refl s

theorem noted_returnEntry (s : Dev) (og : Origin) (cue : Option Nat) (e : Entry) : Noted s (s.returnEntry og cue e) := by
  unfold Dev.returnEntry
  simp only
  split
  · exact noted_postCompletion s _ cue e
  · split
    · exact noted_postCompletion s _ cue e
    · exact (messaged_loseCompletion s).noted.trans (noted_freeCue? _ cue)
  · exact (messaged_sendPacket s _ _ _ (by decide)).noted.trans (noted_freeCue? _ cue)
  · exact (messaged_queuePacket s _ _).noted.trans (noted_freeCue? _ cue)
  · exact (noted_sendCmd s _ _).trans (noted_freeCue? _ cue)
  · exact noted_freeCue? s cue

theorem noted_complete (s : Dev) (j : Job) (st : Status) (x : Short) (d : Nat) : Noted s (s.complete j st x d) := by
  unfold Dev.complete
  split
  · exact noted_returnEntry s _ _ _
  · exact noted_freeCue? s j.cue

/-- A completion of a host ring's descriptor is quiet. -/
theorem quiet_complete {j : Job} {n : Nat} (h : j.origin = .curd n) (s : Dev) (st : Status) (x : Short) (d : Nat) :
    Quiet s (s.complete j st x d) := by
  unfold Dev.complete Dev.returnEntry
  simp only [h]
  split
  · exact quiet_postCompletion s _ _ _
  · exact quiet_freeCue? s j.cue

/-- A completion that its whey ring can take is written at the ring's tail. -/
theorem whey_mem_postCompletion {s : Dev} {m : Nat} (cue : Option Nat) (e : Entry) (hm : m < 4) (hcan : s.wheyCan m = true)
    (hshut : s.ring.shut.toNat.testBit m = false) (hwait : s.ring.wait = []) :
    .whey m (s.wheyTail m) (s.wheyAddr m) e ∈ (s.postCompletion m cue e).out := by
  unfold Dev.postCompletion
  simp only [Nat.mod_eq_of_lt hm, hshut, hcan, hwait, List.any_nil, Bool.not_false, Bool.and_self, Bool.false_eq_true, if_true, if_false]
  cases cue <;> exact whey_mem_putWhey s m e

/-- The completion of a host ring's job, on a device whose whey rings are those of `s`. -/
theorem whey_mem_complete {s b : Dev} {j : Job} {n : Nat} {st : Status} {x : Short} {detail : Nat} (hb : SameEngine s b)
    (hreg : b.force (curdOff n + 0x18) = s.force (curdOff n + 0x18)) (ho : j.origin = .curd n)
    (hdue : completionDue j.d (j.status st) = true) (hcan : s.wheyCan (s.rf (curdOff n + 0x18) 9 8) = true)
    (hshut : s.ring.shut.toNat.testBit (s.rf (curdOff n + 0x18) 9 8) = false) (hwait : s.ring.wait = []) :
    .whey (s.rf (curdOff n + 0x18) 9 8) (s.wheyTail (s.rf (curdOff n + 0x18) 9 8)) (s.wheyAddr (s.rf (curdOff n + 0x18) 9 8))
      (mkCompletion j.d (j.status st) x detail) ∈ (b.complete j st x detail).out := by
  have hm : b.rf (curdOff n + 0x18) 9 8 = s.rf (curdOff n + 0x18) 9 8 := by rw [Dev.rf, Dev.rf, hreg]
  have hlt : s.rf (curdOff n + 0x18) 9 8 < 4 := by
    simp only [Dev.rf, fieldOf, bits]
    omega
  unfold Dev.complete Dev.returnEntry
  simp only [ho, hdue, if_true, hm]
  have hmem := whey_mem_postCompletion (s := b) j.cue (mkCompletion j.d (j.status st) x detail) hlt (by rw [hb.wheyCan, hcan])
    (by rw [hb.shut, hshut]) (hb.wait.trans hwait)
  rwa [hb.wheyTail, hb.wheyAddr] at hmem

/-! ### The end of a burst -/

/-- The lists of the rings that nothing but acceptance and completion changes. -/
structure SameQueues (r q : Ring) : Prop where
  flights : q.flights = r.flights
  fences : q.fences = r.fences
  steward : q.steward = r.steward
  serial : q.serial = r.serial
  lastAccept : q.lastAccept = r.lastAccept
  lh : q.lh = r.lh
  lr : q.lr = r.lr

theorem SameQueues.refl (r : Ring) : SameQueues r r := ⟨rfl, rfl, rfl, rfl, rfl, rfl, rfl⟩

theorem SameQueues.trans {r q u : Ring} (h : SameQueues r q) (k : SameQueues q u) : SameQueues r u :=
  ⟨k.flights.trans h.flights, k.fences.trans h.fences, k.steward.trans h.steward, k.serial.trans h.serial, k.lastAccept.trans h.lastAccept,
    k.lh.trans h.lh, k.lr.trans h.lr⟩

theorem Quiet.queues {s t : Dev} (h : Quiet s t) : SameQueues s.ring t.ring := by
  obtain ⟨⟨_, _, _, _, _, _, _, _, hr⟩, -, -⟩ := h.ring
  rw [hr]
  exact ⟨rfl, rfl, rfl, rfl, rfl, rfl, rfl⟩

theorem Quiet.ready {s t : Dev} (h : Quiet s t) (n : Nat) : (t.curdOf n).ready = (s.curdOf n).ready := by
  obtain ⟨-, hc, -⟩ := h.ring
  obtain ⟨_, _, hn⟩ := hc n
  rw [hn]

/-- What the end of a burst of curd ring `n`, whose descriptors are all taken, leaves. -/
structure Fetched (n : Nat) (s t : Dev) : Prop where
  leaves : Leaves [.ring] (fun _ => false) s t
  messaged : Messaged s t
  queues : SameQueues s.ring t.ring
  ready : (s.curdOf n).ready = [] → (t.curdOf n).ready = []

theorem Fetched.trans {n : Nat} {s t u : Dev} (h : Fetched n s t) (k : Fetched n t u) : Fetched n s u :=
  ⟨h.leaves.trans k.leaves, h.messaged.trans k.messaged, h.queues.trans k.queues, k.ready ∘ h.ready⟩

theorem Fetched.of_quiet {n : Nat} {s t : Dev} (h : Quiet s t) (hm : Messaged s t) : Fetched n s t :=
  ⟨.of_quiet h, hm, h.queues, fun hr => (h.ready n).trans hr⟩

theorem fetched_modCurd (s : Dev) (n k : Nat) (f : Curd → Curd) (hf : ∀ c, c.ready = [] → (f c).ready = []) : Fetched n s (s.modCurd k f) where
  leaves := .over rfl
  messaged := .of_ring rfl (fun _ h => .inl h) rfl fun _ h => h
  queues := ⟨rfl, rfl, rfl, rfl, rfl, rfl, rfl⟩
  ready h := by
    have hcurd : (s.modCurd k f).curdOf n = if n = k then f (s.curdOf k) else s.curdOf n := tabGet_tabSet _ _ _ _ _
    rw [hcurd]
    split
    · next hk => exact hf _ (hk ▸ h)
    · exact h

/-- A change of the rings beside their entries and queues. -/
theorem Fetched.of_ring {n : Nat} {s t : Dev} (hl : Leaves [.ring] (fun _ => false) s t) (hc : t.ring.curd = s.ring.curd)
    (hm : Messaged s t) (hq : SameQueues s.ring t.ring) : Fetched n s t :=
  ⟨hl, hm, hq, fun h => by rwa [Dev.curdOf, hc]⟩

theorem fetched_errAddr (s : Dev) (n : Nat) (a : BitVec 64) : Fetched n s (s.modRing (fun r => { r with errAddr := a })) :=
  .of_ring (.over rfl) rfl (.of_ring rfl (fun _ h => .inl h) rfl fun _ h => h) ⟨rfl, rfl, rfl, rfl, rfl, rfl, rfl⟩

theorem fetched_fetchTurn (s : Dev) (n k : Nat) : Fetched n s (s.modRing (fun r => { r with fetchTurn := k })) :=
  .of_ring (.over rfl) rfl (.of_ring rfl (fun _ h => .inl h) rfl fun _ h => h) ⟨rfl, rfl, rfl, rfl, rfl, rfl, rfl⟩

theorem fetched_emit (s : Dev) (n : Nat) (o : Out) : Fetched n s (s.emit o) := .of_quiet (quiet_emit s o) (messaged_emit s o)

theorem fetched_abortCurd (s : Dev) (n e : Nat) (a : BitVec 64) : Fetched n s (s.abortCurd n e a) := by
  refine Fetched.trans (fetched_modCurd s n n (fun c => { c with
    st := .halted, err := e, ready := [], haltAt := none, told := false, remWait := false }) fun _ _ => rfl) ?_
  refine Fetched.trans (fetched_errAddr _ n a) ?_
  refine Fetched.trans (.of_quiet (quiet_setFlag _ 0x1010 2 rfl) (messaged_setFlag _ _ _)) ?_
  exact (fetched_emit _ n _).trans (.of_quiet (quiet_eventOk _ _ _) (messaged_eventOk _ _ _))

theorem fetched_startFetch (s : Dev) (n : Nat) : Fetched n s s.startFetch := by
  unfold Dev.startFetch
  split
  · exact .of_quiet (.refl s) (.refl s)
  · split
    · exact .of_quiet (.refl s) (.refl s)
    · next k _ =>
      exact ((fetched_modCurd s n k (fun c => { c with fetching := s.burstLen k }) fun _ h => h).trans (fetched_fetchTurn _ n k)).trans
        (fetched_emit _ n _)

theorem fetched_burstEnd (s : Dev) (n : Fin 8) : Fetched n s (s.burstEnd n) := by
  have hshadow (d : Dev) : Fetched n d (d.writeShadow n) := .of_quiet (quiet_writeShadow d n) (messaged_writeShadow d n)
  unfold Dev.burstEnd
  split
  · exact (fetched_abortCurd s n _ _).trans (hshadow _)
  · exact (hshadow s).trans (fetched_startFetch _ n)

/-! ### The whey rings meanwhile -/

theorem sameEngine_emit (s : Dev) (o : Out) : SameEngine s (s.emit o) := .of_eq rfl rfl rfl rfl

theorem sameEngine_setCurd (s : Dev) (n : Nat) (c : Curd) : SameEngine s (s.setCurd n c) :=
  ⟨rfl, rfl, rfl, rfl, ⟨rfl, rfl, rfl⟩, rfl, rfl, rfl, fun _ _ _ => rfl⟩

theorem sameEngine_writeShadow (s : Dev) (n : Fin 8) : SameEngine s (s.writeShadow n) := by
  unfold Dev.writeShadow
  simp only
  split
  · exact sameEngine_setCurd s n _
  · split
    · exact sameEngine_setCurd s n _
    · exact (sameEngine_setCurd s n _).trans (sameEngine_emit _ _)

theorem sameEngine_startFetch (s : Dev) : SameEngine s s.startFetch := by
  unfold Dev.startFetch
  split
  · exact .refl s
  · split
    · exact .refl s
    · next k _ =>
      refine ((sameEngine_setCurd s k { s.curdOf k with fetching := s.burstLen k }).trans ?_).trans (sameEngine_emit _ _)
      exact ⟨rfl, rfl, rfl, rfl, ⟨rfl, rfl, rfl⟩, rfl, rfl, rfl, fun _ _ _ => rfl⟩

theorem sameEngine_burstEnd {s : Dev} {n : Fin 8} (h : (s.curdOf n).haltAt = none) : SameEngine s (s.burstEnd n) := by
  unfold Dev.burstEnd
  rw [h]
  exact (sameEngine_writeShadow s n).trans (sameEngine_startFetch _)

/-! ### A descriptor taken off its ring -/

/-- What taking the head of a source leaves (R116). -/
structure HeadTaken (o : Src) (s t : Dev) : Prop where
  leaves : Leaves [.ring, .regs] ciReg s t
  messaged : Messaged s t
  ready : t.readyOf o = (s.readyOf o).tail
  serial : t.ring.serial = s.ring.serial + 1
  lastAccept : t.ring.lastAccept = some s.clk.now
  flights : t.ring.flights = s.ring.flights
  fences : t.ring.fences = s.ring.fences
  steward : t.ring.steward = s.ring.steward
  engine : ∀ n : Fin 8, o = .ring n → (s.curdOf n).haltAt = none → SameEngine s t

/-- The accepted descriptor counted, with its source's turn. -/
def Dev.counted (s : Dev) (o : Src) : Dev :=
  s.modRing (fun r => { r with serial := r.serial + 1, lastAccept := some s.clk.now, turn := srcNum o })

/-- The head of curd ring `n` gone, and its CI advanced. -/
def Dev.advanced (s : Dev) (n : Fin 8) : Dev :=
  let c := s.curdOf n
  let d := (s.counted (.ring n)).setCurd n { c with ready := c.ready.tail, pend := c.pend - 1, told := false, remWait := false }
  d.setBoth (curdOff n + 0x1C) (d.curdCi n + 1)

theorem takeHead_ring (s : Dev) (n : Fin 8) (d : Desc) : s.takeHead (.ring n) d =
    (⟨.ring n, .curd n, d, s.ring.serial, none, false⟩, if (s.curdOf n).ready.tail.isEmpty then (s.advanced n).burstEnd n else s.advanced n) := rfl

theorem curdOff_range (n : Fin 8) : 0x1100 ≤ curdOff n ∧ curdOff n + 0x20 ≤ 0x1200 := by
  unfold curdOff
  omega

theorem advanced_force (s : Dev) (n : Fin 8) {off : Nat} (h : off ≠ curdOff n + 0x1C) :
    (s.advanced n).force off = s.force off ∧ (s.advanced n).written off = s.written off :=
  ⟨tabGet_tabSet_ne' _ _ _ _ _ _ h, tabGet_tabSet_ne' _ _ _ _ _ _ h⟩

theorem ciReg_curd (n : Fin 8) : ciReg (curdOff n + 0x1C) = true := by
  unfold ciReg curdOff
  simp
  omega

theorem leaves_advanced (s : Dev) (n : Fin 8) : Leaves [.ring, .regs] ciReg s (s.advanced n) where
  out := List.suffix_rfl
  same a ha x := by
    have hs := a.same_refl { x with dev := s }
    cases a
    case ring | regs => simp at ha
    all_goals exact hs
  regs off _ hp := advanced_force s n fun h => by simp [h, ciReg_curd] at hp

theorem sameEngine_advanced (s : Dev) (n : Fin 8) : SameEngine s (s.advanced n) := by
  have hrange := curdOff_range n
  exact ⟨rfl, rfl, rfl, rfl, ⟨rfl, rfl, rfl⟩, rfl, rfl, (advanced_force s n (by omega)).1, fun off h1 h2 => (advanced_force s n (by omega)).1⟩

theorem advanced_curd (s : Dev) (n : Fin 8) : (s.advanced n).curdOf n = { s.curdOf n with
    ready := (s.curdOf n).ready.tail, pend := (s.curdOf n).pend - 1, told := false, remWait := false } := tabGet_tabSet_self _ _ _ _

theorem headTaken_advanced (s : Dev) (n : Fin 8) : HeadTaken (.ring n) s (s.advanced n) where
  leaves := leaves_advanced s n
  messaged := .of_ring rfl (fun _ h => .inl h) rfl fun i hi => by
    have hrange := curdOff_range n
    rwa [Dev.rb, (advanced_force s n (by omega)).1]
  ready := congrArg Curd.ready (advanced_curd s n)
  serial := rfl
  lastAccept := rfl
  flights := rfl
  fences := rfl
  steward := rfl
  engine _ _ _ := sameEngine_advanced s n

theorem HeadTaken.fetched {s t u : Dev} {n : Fin 8} (h : HeadTaken (.ring n) s t) (hempty : (t.curdOf n).ready = []) (k : Fetched n t u)
    (he : (s.curdOf n).haltAt = none → SameEngine t u) : HeadTaken (.ring n) s u where
  leaves := h.leaves.trans (k.leaves.mono (by decide) fun _ _ => rfl)
  messaged := h.messaged.trans k.messaged
  ready := (k.ready hempty).trans (hempty.symm.trans h.ready)
  serial := k.queues.serial.trans h.serial
  lastAccept := k.queues.lastAccept.trans h.lastAccept
  flights := k.queues.flights.trans h.flights
  fences := k.queues.fences.trans h.fences
  steward := k.queues.steward.trans h.steward
  engine m hm hn := by
    obtain rfl : n = m := by simpa using hm
    exact (h.engine n rfl hn).trans (he hn)

/-- A local ring's head gone. -/
theorem headTaken_local {o : Src} {s : Dev} {f : Ring → Ring} (ho : ∀ n, o ≠ .ring n)
    (hready : ((s.counted o).modRing f).readyOf o = (s.readyOf o).tail)
    (hf : ∃ a b c e, f (s.counted o).ring = { (s.counted o).ring with lh := a, lr := b, lhTold := c, lrTold := e }) :
    HeadTaken o s ((s.counted o).modRing f) := by
  obtain ⟨a, b, c, e, hr⟩ := hf
  have hring : ((s.counted o).modRing f).ring = { (s.counted o).ring with lh := a, lr := b, lhTold := c, lrTold := e } := hr
  refine ⟨(leaves_modRing (by decide) s _).trans (leaves_modRing (by decide) _ _), .of_ring ?_ ?_ rfl fun _ h => h, hready, ?_, ?_, ?_, ?_, ?_,
    fun n hn => absurd hn (ho n)⟩
  · rw [hring]
    rfl
  · rw [hring]
    exact fun w hw => .inl hw
  all_goals
    rw [hring]
    rfl

/-- The job that a descriptor at the head of a source becomes. -/
structure Accepted (s : Dev) (o : Src) (d : Desc) (j : Job) : Prop where
  desc : j.d = d
  src : j.src = o
  cue : j.cue = none
  late : j.late = false
  serial : j.serial = s.ring.serial
  origin : ∀ n, o = .ring n → j.origin = .curd n

theorem accepted_takeHead (s : Dev) (o : Src) (d : Desc) : Accepted s o d (s.takeHead o d).1 := by
  cases o with
  | ring n => exact ⟨rfl, rfl, rfl, rfl, rfl, fun m hm => by cases hm; rfl⟩
  | lh => exact ⟨rfl, rfl, rfl, rfl, rfl, fun m hm => by cases hm⟩
  | lr => exact ⟨rfl, rfl, rfl, rfl, rfl, fun m hm => by cases hm⟩

theorem headTaken_takeHead (s : Dev) (o : Src) (d : Desc) : HeadTaken o s (s.takeHead o d).2 := by
  cases o with
  | ring n =>
    rw [takeHead_ring]
    split
    · next hempty =>
      have hcurd := advanced_curd s n
      have hready : ((s.advanced n).curdOf n).ready = [] := by rw [hcurd]; exact List.isEmpty_iff.1 hempty
      refine (headTaken_advanced s n).fetched hready (fetched_burstEnd _ n) fun hn => sameEngine_burstEnd ?_
      rw [hcurd]
      exact hn
    · exact headTaken_advanced s n
  | lh =>
    exact headTaken_local (o := .lh) (f := fun r => { r with lh := r.lh.tail, lhTold := false }) (by simp) List.map_tail ⟨_, _, _, _, rfl⟩
  | lr =>
    exact headTaken_local (o := .lr) (f := fun r => { r with lr := r.lr.tail, lrTold := false }) (by simp) List.map_tail ⟨_, _, _, _, rfl⟩

end Sys2Proof.Machine
end

section
/-! SUPPORT. A descriptor with an AT (R26, R37, R92, R120), and O33. -/

namespace Sys2Proof.Machine

/-! ### The row of a descriptor -/

/-- The row that accepts `d` is one of the catalogue's, of the descriptor's kind. -/
def RowOf (o : Src) (d : Desc) (s : State) : Prop :=
  ∃ kind body, kind d = true ∧ exec (descRow o d) s = onDev (fun u => u.acceptRow kind body o d) s

theorem row_of_exec {c : Instr} {o : Src} {d : Desc} {s : State} {kind : Desc → Bool} {body : Dev → Job → Dev}
    (hc : exec c s = onDev (fun u => u.acceptRow kind body o d) s) (hk : kind d = true) :
    ∃ kind body, kind d = true ∧ exec c s = onDev (fun u => u.acceptRow kind body o d) s := ⟨kind, body, hk, hc⟩

theorem isAct_of {op byte val top : Nat} {d : Desc} (ho : d.op.toNat = op) (hv : d.b byte = val) : isAct op byte val top d = true := by
  simp [isAct, isOp, ho, hv]

theorem isAct_zero {op byte top : Nat} {d : Desc} (ho : d.op.toNat = op) (hv : d.b byte = 0 ∨ top < d.b byte) : isAct op byte 0 top d = true := by
  simp [isAct, isOp, ho, hv]

theorem rowOf_descRow {o : Src} {d : Desc} (s : State) (h : d.op.toNat ≠ 0x12) : RowOf o d s := by
  have hop {k : Nat} (hk : d.op.toNat = k) : isOp k d = true := decide_eq_true hk
  unfold RowOf descRow
  split
  · next hk => exact row_of_exec (.refl (execNop o d s)) (hop hk)
  · next hk => exact row_of_exec (.refl (execLevel o d s)) (hop hk)
  · next hk => exact row_of_exec (.refl (execLevelBlock o d s)) (hop hk)
  · next hk => exact row_of_exec (.refl (execOwner o d s)) (hop hk)
  · next hk => exact row_of_exec (.refl (execPress o d s)) (hop hk)
  · next hk =>
    split
    · next hv => exact row_of_exec (.refl (execRipenStop o d s)) (isAct_of hk hv)
    · next hv => exact row_of_exec (.refl (execRipenPause o d s)) (isAct_of hk hv)
    · next hv => exact row_of_exec (.refl (execRipenResume o d s)) (isAct_of hk hv)
    · next hv => exact row_of_exec (.refl (execRipenTrigger o d s)) (isAct_of hk hv)
    · exact row_of_exec (.refl (execRipenStart o d s)) (isAct_zero hk (by grind))
  · next hk => exact row_of_exec (.refl (execCultureLoad o d s)) (hop hk)
  · next hk => exact row_of_exec (.refl (execHarpLoad o d s)) (hop hk)
  · next hk => exact row_of_exec (.refl (execHarpQueue o d s)) (hop hk)
  · next hk => exact row_of_exec (.refl (execCarrierSet o d s)) (hop hk)
  · next hk =>
    split
    · next hv => exact row_of_exec (.refl (execReadChannel o d s)) (isAct_of hk hv)
    · next hv => exact row_of_exec (.refl (execReadCulture o d s)) (isAct_of hk hv)
    · next hv => exact row_of_exec (.refl (execReadHarpRx o d s)) (isAct_of hk hv)
    · exact row_of_exec (.refl (execReadSetup o d s)) (isAct_zero hk (by grind))
  · next hk =>
    split
    · next hv => exact row_of_exec (.refl (execRouteOzhild o d s)) (isAct_of hk hv)
    · exact row_of_exec (.refl (execRouteHoop o d s)) (isAct_zero hk (by omega))
  · next hk => exact row_of_exec (.refl (execRadioSend o d s)) (hop hk)
  · next hk => exact row_of_exec (.refl (execRindRequest o d s)) (hop hk)
  · next hk => exact row_of_exec (.refl (execTempo o d s)) (hop hk)
  · next hk => exact row_of_exec (.refl (execFence o d s)) (hop hk)
  · next hk => exact row_of_exec (.refl (execMode o d s)) (hop hk)
  · next hk => exact row_of_exec (.refl (execSetupWrite o d s)) (hop hk)
  · next hk => exact absurd hk h
  · next hk =>
    split
    · next hv => exact row_of_exec (.refl (execDiscoverEntry o d s)) (isAct_of hk hv)
    · exact row_of_exec (.refl (execDiscoverEnumerate o d s)) (isAct_zero hk (by omega))
  · next hk =>
    split
    · next hv => exact row_of_exec (.refl (execTwinPairShadow o d s)) (isAct_of hk hv)
    · next hv => exact row_of_exec (.refl (execTwinUnpair o d s)) (isAct_of hk hv)
    · next hv => exact row_of_exec (.refl (execTwinSwap o d s)) (isAct_of hk hv)
    · next hv => exact row_of_exec (.refl (execTwinStatus o d s)) (isAct_of hk hv)
    · exact row_of_exec (.refl (execTwinPairActive o d s)) (isAct_zero hk (by grind))
  · exact row_of_exec (.refl (execUnknownOpcode o d s)) (decide_eq_true (by grind))

/-- A command that acts on the device does what every change that follows commands shows of its effect. -/
theorem does_of_messaged {c : Instr} {s : State} {P : State → Prop} {d : Dev} (f : Dev → Dev) (hc : exec c s = onDev f s) (hd : f s.dev = d)
    (h : ∀ e, Quiet d e → Messaged d e → P { s with dev := e }) : Does c s P :=
  (does_of_onDev f hc).2 (h _ (hd ▸ quiet_settle _) (hd ▸ messaged_settle _))

/-- A descriptor with an AT is none of those that allow none. -/
theorem op_of_formRefused {s : Dev} {o : Src} {d : Desc} (h : s.formRefused o d = none) (hat : d.flag 0 = true) : d.op.toNat ≠ 0x12 := by
  intro hop
  have hbad : malformed o d = true := by simp [malformed, hat, hop, noAt]
  unfold Dev.formRefused at h
  simp [hop, hbad] at h

/-- The head of source `o`, which has an AT and which this unit may accept and execute. -/
structure AtHead (o : Src) (d : Desc) (s : Dev) : Prop where
  head : (s.readyOf o).head? = some d
  may : s.mayAccept o d = true
  form : s.formRefused o d = none
  dest : s.destOf o d = .self
  mode : s.modeRefuses d = false
  at_ : d.flag 0 = true

/-- What becomes of it at acceptance. -/
theorem does_atHead {o : Src} {d : Desc} {s : State} {P : State → Prop} {b : Dev} (h : AtHead o d s.dev)
    (hb : (if s.dev.inHold then (s.dev.acceptEnd o d .state, none) else s.dev.acceptCue o d) = (b, none))
    (hP : ∀ e, Quiet b e → Messaged b e → P { s with dev := e }) : Does (descRow o d) s P := by
  obtain ⟨kind, body, hk, hc⟩ := rowOf_descRow (o := o) s (op_of_formRefused h.form h.at_)
  have hjob : s.dev.acceptJob kind o d = (b, none) := by
    have hgo : ((s.dev.readyOf o).head? = some d && kind d && s.dev.mayAccept o d) = true := by simp [h.head, hk, h.may]
    rw [← hb]
    simp [Dev.acceptJob, hgo, h.form, h.dest, Dev.acceptSelf, h.mode, h.at_]
  exact does_of_messaged _ hc (by rw [Dev.acceptRow, hjob]) hP

/-! ### Descriptors that complete at acceptance -/

/-- A device that differs from `s` in notes alone: the rings and what they depend on are the same. -/
structure NotedOn (s b : Dev) : Prop where
  quiet : Quiet s b
  ring : b.ring = s.ring
  engine : SameEngine s b
  messaged : Messaged s b

theorem NotedOn.refl (s : Dev) : NotedOn s s := ⟨.refl s, rfl, .refl s, .refl s⟩

theorem notedOn_flag (s : Dev) (i : Nat) : NotedOn s (s.setFlag 0x1010 i) :=
  ⟨quiet_setFlag s _ i rfl, rfl, sameEngine_setFlag s i (by decide) (.inl (by decide)), messaged_setFlag s _ i⟩

theorem acceptEnd_eq (s : Dev) (o : Src) (d : Desc) (st : Status) :
    s.acceptEnd o d st = (s.takeHead o d).2.completeNow (s.takeHead o d).1 st 0 := rfl

theorem readyOf_of_ring {s t : Dev} (h : t.ring = s.ring) (o : Src) : t.readyOf o = s.readyOf o := by
  cases o <;> simp only [Dev.readyOf, Dev.curdOf, h]

theorem Quiet.readyOf {s t : Dev} (h : Quiet s t) (o : Src) : t.readyOf o = s.readyOf o := by
  cases o with
  | ring n => exact h.ready n
  | lh => simp only [Dev.readyOf, h.queues.lh]
  | lr => simp only [Dev.readyOf, h.queues.lr]

/-- The areas and registers that acceptance and a completion change. -/
theorem runsBut_of_leaves {o : Src} {s : State} {e : Dev} {p : Nat → Bool} (h : Leaves (takenAreas o) p s.dev e)
    (hp : ∀ off, ciReg off = false → off ≠ 0x800C → p off = false) : RunsBut [] (fun _ => false) o s { s with dev := e } :=
  ⟨(List.append_nil (takenAreas o)).symm ▸ h.keepsBut, fun off hn hc hz _ => h.regs off hn (hp off hc hz)⟩

/-- The registers that acceptance and a completion change. -/
def endReg (off : Nat) : Bool := ciReg off || radioReg off

theorem endReg_eq_false {off : Nat} (h : ciReg off = false) (h' : off ≠ 0x800C) : endReg off = false := by
  simp [endReg, radioReg, h, h']

theorem leaves_acceptEnd (s : Dev) (o : Src) (d : Desc) (st : Status) : Leaves (takenAreas o) endReg s (s.acceptEnd o d st) := by
  have htake := (headTaken_takeHead s o d).leaves
  have hjob := accepted_takeHead s o d
  have hci : ∀ off, endReg off = false → ciReg off = false := fun off h => by simp_all [endReg]
  have hradio : ∀ off, endReg off = false → radioReg off = false := fun off h => by simp_all [endReg]
  rw [acceptEnd_eq]
  cases o with
  | ring n => exact (htake.mono (List.Subset.refl _) hci).trans (.of_quiet (quiet_complete (hjob.origin n rfl) _ _ _ _))
  | lh => exact (htake.mono (by decide) hci).trans ((leaves_completeNow _ _ _ _).mono (by decide) hradio)
  | lr => exact (htake.mono (by decide) hci).trans ((leaves_completeNow _ _ _ _).mono (by decide) hradio)

/-- What a completion leaves of the queues. -/
theorem queues_complete (s : Dev) (j : Job) (st : Status) (x : Short) (d : Nat) :
    SameQueues s.ring (s.complete j st x d).ring ∧ ∀ o, (s.complete j st x d).readyOf o = s.readyOf o := by
  obtain ⟨⟨_, _, _, _, _, _, _, _, hr⟩, hc, -⟩ := (leaves_complete s j st x d).same .ring (by decide) ⟨[], s, {}⟩
  have hq : SameQueues s.ring (s.complete j st x d).ring := ⟨by rw [hr], by rw [hr], by rw [hr], by rw [hr], by rw [hr], by rw [hr], by rw [hr]⟩
  refine ⟨hq, fun o => ?_⟩
  cases o with
  | ring n =>
    obtain ⟨_, _, hn⟩ := hc n
    exact (congrArg Curd.ready hn).trans rfl
  | lh => simp only [Dev.readyOf, hq.lh]
  | lr => simp only [Dev.readyOf, hq.lr]

/-- The queues of the rings after the head of a source is taken, and through what follows. -/
theorem took_of_queues {o : Src} {s : State} {b t e : Dev} (hring : b.ring = s.dev.ring) (hclk : b.clk = s.dev.clk) (ht : HeadTaken o b t)
    (hq : SameQueues t.ring e.ring) (hr : e.readyOf o = t.readyOf o) : Took o s { s with dev := e } ∧ SameWaits s { s with dev := e } := by
  refine ⟨⟨?_, ?_, ?_⟩, ?_, ?_, ?_⟩
  · exact hr.trans (ht.ready.trans (congrArg List.tail (readyOf_of_ring hring o)))
  · exact hq.serial.trans (ht.serial.trans (by rw [hring]))
  · exact hq.lastAccept.trans (ht.lastAccept.trans (by rw [hclk]))
  · exact hq.flights.trans (ht.flights.trans (by rw [hring]))
  · exact hq.fences.trans (ht.fences.trans (by rw [hring]))
  · exact hq.steward.trans (ht.steward.trans (by rw [hring]))

theorem noteReg_curdCtl (n : Fin 8) : noteReg (curdOff n + 0x18) = false := by
  have := curdOff_range n
  simp only [noteReg, List.contains_eq_mem, decide_eq_false_iff_not, List.mem_cons, List.not_mem_nil, or_false]
  omega

theorem ciReg_curdCtl (n : Fin 8) : ciReg (curdOff n + 0x18) = false := by
  unfold ciReg curdOff
  simp
  omega

/-- The completion of a host ring's descriptor that was not executed is written where `Answers` says. -/
theorem answers_acceptEnd {o : Src} {d : Desc} {st : Status} {s : State} {b e : Dev} (hb : NotedOn s.dev b)
    (he : (b.acceptEnd o d st).out <:+ e.out) : Answers o d st 0 s { s with dev := e } := by
  rintro n rfl hhalt hdue m hcan hshut hwait
  have htake := headTaken_takeHead b (.ring n) d
  have hjob := accepted_takeHead b (.ring n) d
  have hengine := hb.engine.trans (htake.engine n rfl (by rw [Dev.curdOf, hb.ring]; exact hhalt))
  have hctl : (b.takeHead (.ring n) d).2.force (curdOff n + 0x18) = s.dev.force (curdOff n + 0x18) :=
    (htake.leaves.regs _ (noteReg_curdCtl n) (ciReg_curdCtl n)).1.trans (hb.quiet.force _ (noteReg_curdCtl n))
  have hstatus : (b.takeHead (.ring n) d).1.status st = st := by simp [Job.status, hjob.late]
  have hmem := whey_mem_complete (x := (b.takeHead (.ring n) d).2.short) (detail := 0) hengine hctl (hjob.origin n rfl)
    (by rw [hjob.desc, hstatus]; exact hdue) hcan hshut hwait
  rw [hengine.short, hjob.desc, hstatus] at hmem
  refine he.subset ?_
  rw [acceptEnd_eq, Dev.completeNow, hengine.short]
  exact hmem

/-- A descriptor that completes at acceptance without executing (R146). -/
theorem ends_acceptEnd {o : Src} {d : Desc} {st : Status} {s : State} {b e : Dev} (hb : NotedOn s.dev b) (he : Quiet (b.acceptEnd o d st) e) :
    let t : State := { s with dev := e }
    Took o s t ∧ RunsBut [] (fun _ => false) o s t ∧ SameWaits s t ∧ Answers o d st 0 s t := by
  obtain ⟨hqueues, hready⟩ := queues_complete (b.takeHead o d).2 (b.takeHead o d).1 st (b.takeHead o d).2.short 0
  obtain ⟨htook, hwaits⟩ := took_of_queues (s := s) hb.ring hb.quiet.clk (headTaken_takeHead b o d) (hqueues.trans he.queues)
    ((he.readyOf o).trans (hready o))
  have hleaves := (Leaves.of_quiet hb.quiet).trans ((leaves_acceptEnd b o d st).trans (.of_quiet he))
  exact ⟨htook, runsBut_of_leaves hleaves fun off => endReg_eq_false, hwaits, answers_acceptEnd hb he.out⟩

/-! ### The cue store -/

theorem noted_acceptEnd (s : Dev) (o : Src) (d : Desc) (st : Status) : Noted s (s.acceptEnd o d st) :=
  (headTaken_takeHead s o d).messaged.noted.trans (noted_complete _ _ _ _ _)

/-- The entry that a cue takes in the store (R37). -/
def Dev.cueEntry (s : Dev) (o : Src) (d : Desc) (t : Int) (i : Nat) : Cue :=
  ⟨i, { (s.takeHead o d).1 with cue := some i }, s.short, t, false, false⟩

theorem storeCue_eq (s : Dev) (o : Src) (d : Desc) (t : Int) (i : Nat) :
    s.storeCue o d t i = (s.takeHead o d).2.modRing (fun r => { r with cues := r.cues ++ [s.cueEntry o d t i] }) := rfl

theorem leaves_storeCue (s : Dev) (o : Src) (d : Desc) (t : Int) (i : Nat) : Leaves (takenAreas o) endReg s (s.storeCue o d t i) := by
  have hci : ∀ off, endReg off = false → ciReg off = false := fun off h => by simp_all [endReg]
  have hsub : [.ring, .regs] ⊆ takenAreas o := by cases o <;> simp [takenAreas]
  have hring : Area.ring ∈ takenAreas o := hsub List.mem_cons_self
  rw [storeCue_eq]
  exact ((headTaken_takeHead s o d).leaves.mono hsub hci).trans (leaves_modRing hring _ _)

/-- An AT that lies ahead of the Wheel by no more than 2 s. -/
def Dev.atAhead (s : Dev) (d : Desc) : Prop :=
  (s.wheelN : Int) ≤ resolve s.wheelN d.at48 ∧ resolve s.wheelN d.at48 ≤ s.wheelN + 393216000

theorem acceptCue_free {s : Dev} {d : Desc} {i : Nat} (o : Src) (h : s.atAhead d) (hi : s.freeIdx = some i) :
    s.acceptCue o d = (s.storeCue o d (resolve s.wheelN d.at48) i, none) := by
  obtain ⟨h1, h2⟩ := h
  have hfar : ¬(393216000 : Int) < -((s.wheelN : Int) - resolve s.wheelN d.at48) := by omega
  have htol : ¬(s.lateTol : Int) < (s.wheelN : Int) - resolve s.wheelN d.at48 := by omega
  have hlate : ¬(0 : Int) < (s.wheelN : Int) - resolve s.wheelN d.at48 := by omega
  simp only [Dev.acceptCue, hfar, htol, hlate, if_false, hi]

theorem acceptCue_full {s : Dev} {d : Desc} (o : Src) (h : s.atAhead d) (hi : s.freeIdx = none) :
    s.acceptCue o d = (s.storeFull o d, none) := by
  obtain ⟨h1, h2⟩ := h
  have hfar : ¬(393216000 : Int) < -((s.wheelN : Int) - resolve s.wheelN d.at48) := by omega
  have htol : ¬(s.lateTol : Int) < (s.wheelN : Int) - resolve s.wheelN d.at48 := by omega
  have hlate : ¬(0 : Int) < (s.wheelN : Int) - resolve s.wheelN d.at48 := by omega
  simp only [Dev.acceptCue, hfar, htol, hlate, if_false, hi]

theorem does_storeCue {o : Src} {d : Desc} {s : State} {i : Nat} (h : AtHead o d s.dev) (hold : s.dev.inHold = false)
    (hahead : s.dev.atAhead d)
    (hi : s.dev.freeIdx = some i) (hwait : s.dev.ring.wait = []) : Does (descRow o d) s (fun t =>
      Took o s t ∧ RunsBut [] (fun _ => false) o s t ∧ SameWaits s t ∧
        ∃ c, t.dev.ring.cues = s.dev.ring.cues ++ [c] ∧ c.idx = i ∧ c.job.d = d ∧ c.job.src = o ∧
          c.t = resolve s.dev.wheelN d.at48 ∧ c.out = false) := by
  refine does_atHead (b := s.dev.storeCue o d (resolve s.dev.wheelN d.at48) i) h (by rw [hold, acceptCue_free o hahead hi]; rfl) fun e he hm => ?_
  have htake := headTaken_takeHead s.dev o d
  have hjob := accepted_takeHead s.dev o d
  have hleaves := (leaves_storeCue s.dev o d (resolve s.dev.wheelN d.at48) i).trans (.of_quiet he)
  have hqueues := he.queues
  have hready := he.readyOf o
  rw [storeCue_eq] at hqueues hready hm
  obtain ⟨htook, hwaits⟩ := took_of_queues (s := s) rfl rfl htake (e := e)
    ⟨hqueues.flights, hqueues.fences, hqueues.steward, hqueues.serial, hqueues.lastAccept, hqueues.lh, hqueues.lr⟩
    (hready.trans (by cases o <;> rfl))
  obtain ⟨hstill, hcues⟩ := htake.messaged.still fun w hw => absurd (hwait ▸ hw) List.not_mem_nil
  refine ⟨htook, runsBut_of_leaves hleaves fun off => endReg_eq_false, hwaits, s.dev.cueEntry o d (resolve s.dev.wheelN d.at48) i, ?_, rfl,
    hjob.desc, hjob.src, rfl, rfl⟩
  refine (hm.still hstill).2.trans ?_
  change (s.dev.takeHead o d).2.ring.cues ++ _ = _
  rw [hcues]

/-- A cue that finds the store full, where the ring's POLICY says SKIP. -/
theorem does_skip {o : Src} {d : Desc} {s : State} (h : AtHead o d s.dev) (hold : s.dev.inHold = false)
    (hahead : s.dev.atAhead d)
    (hi : s.dev.freeIdx = none) (hskip : s.dev.skips o = true) : Does (descRow o d) s (fun t =>
      (Took o s t ∧ RunsBut [] (fun _ => false) o s t ∧ SameWaits s t ∧ Answers o d .full 0 s t) ∧ t.dev.rb 0x1010 3 = true) := by
  have hskip' : (s.dev.setFlag 0x1010 3).skips o = true := by
    cases o with
    | ring n =>
      have hforce := (quiet_setFlag s.dev 0x1010 3 rfl).force _ (noteReg_curdCtl n)
      rwa [Dev.skips, Dev.rb, hforce]
    | lh => cases hskip
    | lr => cases hskip
  refine does_atHead (b := (s.dev.setFlag 0x1010 3).acceptEnd o d .full) h ?_ fun e he hm => ?_
  · rw [hold, acceptCue_full o hahead hi]
    simp [Dev.storeFull, hskip']
  · exact ⟨ends_acceptEnd (notedOn_flag s.dev 3) he, hm.noted.flags 3 ((noted_acceptEnd _ o d .full).flags 3 (rb_setFlag s.dev _ (by decide)))⟩

/-- A source told that it stalls. -/
theorem setTold_spec (s : Dev) (o : Src) : Leaves [.ring] (fun _ => false) s (s.setTold o) ∧ Messaged s (s.setTold o) ∧
    SameQueues s.ring (s.setTold o).ring ∧ (s.setTold o).readyOf o = s.readyOf o ∧ (s.setTold o).isTold o = true := by
  cases o with
  | ring n =>
    have hcurd : (s.setTold (.ring n)).curdOf n = { s.curdOf n with told := true } := tabGet_tabSet_self _ _ _ _
    exact ⟨.over rfl, .of_ring rfl (fun _ h => .inl h) rfl fun _ h => h, ⟨rfl, rfl, rfl, rfl, rfl, rfl, rfl⟩,
      (congrArg Curd.ready hcurd).trans rfl, (congrArg Curd.told hcurd).trans rfl⟩
  | lh => exact ⟨.over rfl, .of_ring rfl (fun _ h => .inl h) rfl fun _ h => h, ⟨rfl, rfl, rfl, rfl, rfl, rfl, rfl⟩, rfl, rfl⟩
  | lr => exact ⟨.over rfl, .of_ring rfl (fun _ h => .inl h) rfl fun _ h => h, ⟨rfl, rfl, rfl, rfl, rfl, rfl, rfl⟩, rfl, rfl⟩

theorem Quiet.isTold {s t : Dev} (h : Quiet s t) (o : Src) : t.isTold o = s.isTold o := by
  obtain ⟨⟨_, _, _, _, _, _, _, _, hr⟩, hc, -⟩ := h.ring
  cases o with
  | ring n =>
    obtain ⟨_, _, hn⟩ := hc n
    exact (congrArg Curd.told hn).trans rfl
  | lh => simp only [Dev.isTold, hr]
  | lr => simp only [Dev.isTold, hr]

/-- What a stall leaves: its source told, its descriptor where it was. -/
structure Stalled (o : Src) (s t : Dev) : Prop where
  leaves : Leaves [.ring] (fun _ => false) s t
  queues : SameQueues s.ring t.ring
  ready : t.readyOf o = s.readyOf o
  told : t.isTold o = true
  flag : t.rb 0x1010 3 = true

theorem Stalled.quiet {o : Src} {s t u : Dev} (h : Stalled o s t) (hq : Quiet t u) (hm : Messaged t u) : Stalled o s u :=
  ⟨h.leaves.trans (.of_quiet hq), h.queues.trans hq.queues, (hq.readyOf o).trans h.ready, (hq.isTold o).trans h.told, hm.noted.flags 3 h.flag⟩

theorem stalled_storeFull {s : Dev} {o : Src} {d : Desc} (hskip : s.skips o = false) : Stalled o s (s.storeFull o d) := by
  have hflag := rb_setFlag s 0x1010 (i := 3) (by decide)
  have hq := quiet_setFlag s 0x1010 3 rfl
  have hskip' : (s.setFlag 0x1010 3).skips o = false := by
    cases o with
    | ring n => rwa [Dev.skips, Dev.rb, hq.force _ (noteReg_curdCtl n)]
    | lh => rfl
    | lr => rfl
  unfold Dev.storeFull
  simp only [hskip', Bool.false_eq_true, if_false]
  split
  · next htold => exact ⟨.of_quiet hq, hq.queues, hq.readyOf o, htold, hflag⟩
  · obtain ⟨hleaves, hm, hqueues, hready, htold⟩ := setTold_spec (s.setFlag 0x1010 3) o
    exact Stalled.quiet ⟨(Leaves.of_quiet hq).trans hleaves, hq.queues.trans hqueues, hready.trans (hq.readyOf o), htold, hm.noted.flags 3 hflag⟩
      (quiet_event _ _ _ _) (messaged_postEvent _ _)

/-- Settles O33: each outcome of `acceptCue` by what taking the head, storing and completing leave. -/
theorem cueEntersStore : Obligations.CueEntersStore := by
  intro s o d hhead hmay hform hdest hmode hat
  have h : AtHead o d s.dev := ⟨hhead, hmay, hform, hdest, hmode, hat⟩
  refine ⟨fun hold hahead i hi hwait => does_storeCue h hold hahead hi hwait, fun hold => ?_, fun hold hfar => ?_, fun hold hlate hno => ?_,
    fun hold hahead hi hskip => ?_, fun hold hahead hi hskip => ?_⟩
  · exact does_atHead (b := s.dev.acceptEnd o d .state) h (by rw [hold]; rfl) fun e he _ => ends_acceptEnd (.refl s.dev) he
  · refine does_atHead (b := s.dev.acceptEnd o d .param) h ?_ fun e he _ => ends_acceptEnd (.refl s.dev) he
    have hgo : (393216000 : Int) < -((s.dev.wheelN : Int) - resolve s.dev.wheelN d.at48) := by omega
    rw [hold]
    simp only [Dev.acceptCue, hgo, if_true]
    rfl
  · refine does_atHead (b := s.dev.acceptEnd o d .late) h ?_ fun e he _ => ends_acceptEnd (.refl s.dev) he
    have hfar : ¬(393216000 : Int) < -((s.dev.wheelN : Int) - resolve s.dev.wheelN d.at48) := by omega
    rw [hold]
    simp only [Dev.acceptCue, hfar, hlate, hno, if_true, if_false]
    rfl
  · obtain ⟨t, ht, ⟨htook, hruns, hwaits, hans⟩, hflag⟩ := does_skip h hold hahead hi hskip
    exact ⟨t, ht, htook, hruns, hwaits, hans, hflag⟩
  · refine does_atHead (b := s.dev.storeFull o d) h (by rw [hold, acceptCue_full o hahead hi]; rfl) fun e he hm => ?_
    have hstall := (stalled_storeFull (d := d) hskip).quiet he hm
    exact ⟨hstall.leaves.keepsBut, ⟨hstall.queues.flights, hstall.queues.fences, hstall.queues.steward⟩, hstall.ready, hstall.told, hstall.flag⟩

end Sys2Proof.Machine
end

section
/-! SUPPORT. The release of cues (R37, R38), and O34. -/

namespace Sys2Proof.Machine

/-! ### The cue that is due first -/

/-- The order of release: by time, then by acceptance (R38). -/
def Cue.before (c e : Cue) : Prop := c.t < e.t ∨ (c.t = e.t ∧ c.job.serial < e.job.serial)

/-- The earlier of a cue found so far and another one. -/
def earlier (m : Option Cue) (c : Cue) : Option Cue :=
  match m with
  | some b => if c.t < b.t || (c.t = b.t && c.job.serial < b.job.serial) then some c else m
  | none => some c

theorem earlier_some_of_before {c b : Cue} (h : c.before b) : earlier (some b) c = some c := by
  unfold Cue.before at h
  simp [earlier, h]

theorem earlier_some_of_not_before {c b : Cue} (h : ¬c.before b) : earlier (some b) c = some b := by
  unfold Cue.before at h
  simp [earlier, h]

theorem Cue.before_asymm {c e : Cue} (h : c.before e) : ¬e.before c := by
  unfold Cue.before at *
  omega

/-- A cue that comes before every other of a list, and before what was found so far, is the one found. -/
theorem foldl_earlier {c : Cue} (xs : List Cue) (m : Option Cue) (hxs : ∀ e ∈ xs, e = c ∨ c.before e) (hm : ∀ b, m = some b → b = c ∨ c.before b)
    (hc : c ∈ xs ∨ m = some c) : xs.foldl earlier m = some c := by
  induction xs generalizing m with
  | nil => exact hc.resolve_left List.not_mem_nil
  | cons x xs ih =>
    have hrest : ∀ e ∈ xs, e = c ∨ c.before e := fun e he => hxs e (List.mem_cons_of_mem _ he)
    have hlater : x ≠ c → m ≠ some c → c ∈ xs := fun hx hmc => (List.mem_cons.1 (hc.resolve_right hmc)).resolve_left (Ne.symm hx)
    rw [List.foldl_cons]
    cases m with
    | none =>
      refine ih (some x) hrest (fun b hb => ?_) ?_
      · cases hb
        exact hxs x List.mem_cons_self
      · by_cases hx : x = c
        · exact .inr (by rw [hx])
        · exact .inl (hlater hx (by simp))
    | some b =>
      have hb := hm b rfl
      by_cases hxb : x.before b
      · rw [earlier_some_of_before hxb]
        refine ih (some x) hrest (fun y hy => ?_) ?_
        · cases hy
          exact hxs x List.mem_cons_self
        · by_cases hx : x = c
          · exact .inr (by rw [hx])
          · refine .inl (hlater hx fun h => ?_)
            obtain rfl : b = c := by simpa using h
            exact Cue.before_asymm ((hxs x List.mem_cons_self).resolve_left hx) hxb
      · rw [earlier_some_of_not_before hxb]
        refine ih (some b) hrest (fun y hy => hm y hy) ?_
        by_cases hbc : b = c
        · exact .inr (by rw [hbc])
        · refine .inl (hlater (fun hx => ?_) (by simp [hbc]))
          exact hxb (hx ▸ hb.resolve_left hbc)

/-- A cue whose time has come and which comes before all others that wait. -/
structure FirstDue (c : Cue) (s : Dev) : Prop where
  runs : s.cuesRun = true
  mem : c ∈ s.ring.cues
  waits : c.out = false
  due : c.t ≤ s.wheelN
  first : ∀ e ∈ s.ring.cues, e.out = false → e ≠ c → c.before e

theorem cueDue_of_first {c : Cue} {s : Dev} (h : FirstDue c s) : s.cueDue = some c := by
  have hfold : s.cueDue = (s.ring.cues.filter (fun c => !c.out && decide (c.t ≤ (s.wheelN : Int)))).foldl earlier none := rfl
  rw [hfold]
  refine foldl_earlier _ none (fun e he => ?_) (fun _ hb => by cases hb) (.inl (List.mem_filter.2 ⟨h.mem, by simp [h.waits, h.due]⟩))
  obtain ⟨hmem, hgo⟩ := List.mem_filter.1 he
  obtain ⟨hout, -⟩ : e.out = false ∧ e.t ≤ s.wheelN := by simpa using hgo
  by_cases hec : e = c
  · exact .inl hec
  · exact .inr (h.first e hmem hout hec)

/-! ### Its release -/

/-- The store with a cue released. -/
def Dev.cueOut (s : Dev) (c : Cue) : Dev :=
  s.modRing (fun r => { r with cues := r.cues.map (fun e => if e.idx = c.idx then { e with out := true } else e) })

/-- Whether a cue is later than the tolerance (R37). -/
def Dev.cueLate (s : Dev) (c : Cue) : Bool := decide ((s.lateTol : Int) < (s.wheelN : Int) - c.t)

theorem releaseCue_eq {s : Dev} {c : Cue} (h : FirstDue c s) :
    s.releaseCue = if s.cueLate c && c.job.d.flag 1 then (s.cueOut c).completeNow c.job .late 0
      else (s.cueOut c).runBody { c.job with late := s.cueLate c } := by
  have hruns := h.runs
  unfold Dev.releaseCue
  rw [cueDue_of_first h, hruns]
  rfl

theorem sameEngine_cueOut (s : Dev) (c : Cue) : SameEngine s (s.cueOut c) :=
  ⟨rfl, rfl, rfl, rfl, ⟨rfl, rfl, rfl⟩, rfl, rfl, rfl, fun _ _ _ => rfl⟩

/-- Every cue of the released one's index has left the store, or is on its way out. -/
def Dev.cueGone (s : Dev) (c : Cue) : Prop := ∀ e ∈ s.ring.cues, e.idx = c.idx → e.out = true

theorem cueGone_cueOut (s : Dev) (c : Cue) : (s.cueOut c).cueGone c := by
  intro e he hi
  obtain ⟨x, hx, rfl⟩ := List.mem_map.1 he
  split at hi
  · next h => simp only [h, if_true]
  · next h => exact absurd hi h

theorem Noted.cueGone {s t : Dev} {c : Cue} (h : Noted s t) (hs : s.cueGone c) : t.cueGone c := by
  intro e he hi
  obtain ⟨x, hx, hxi, hxo⟩ := h.cues e he
  exact hxo.trans (hs x hx (hxi.symm.trans hi))

/-- What a release leaves but for the channels that a LEVEL writes. -/
structure Released (areas : List Area) (c : Cue) (s t : Dev) : Prop where
  leaves : Leaves areas radioReg s t
  queues : SameQueues s.ring t.ring
  gone : t.cueGone c

/-- The claims of `CueReleasesInOrder` about any release. -/
theorem Released.claims {areas : List Area} {c : Cue} {s : State} {e : Dev} (h : Released areas c s.dev e) : let t : State := { s with dev := e }
    KeepsBut areas s t ∧ RegsBut (· = 0x800C) s t ∧ SameWaits s t ∧ ∀ e ∈ t.dev.ring.cues, e.idx = c.idx → e.out = true :=
  ⟨h.leaves.keepsBut, h.leaves.regsBut, ⟨h.queues.flights, h.queues.fences, h.queues.steward⟩, h.gone⟩

theorem released_completeNow {areas : List Area} {c : Cue} {s b e : Dev} {j : Job} {st : Status} {detail : Nat}
    (hb : Released areas c s b) (hareas : [.ozh, .regs] ⊆ areas) (he : Quiet (b.completeNow j st detail) e)
    (hm : Messaged (b.completeNow j st detail) e) : Released areas c s e where
  leaves := hb.leaves.trans (((leaves_completeNow b j st detail).mono hareas fun _ h => h).trans (.of_quiet he))
  queues := hb.queues.trans ((queues_complete b j st b.short detail).1.trans he.queues)
  gone := hm.noted.cueGone ((noted_complete b j st b.short detail).cueGone hb.gone)

theorem released_cueOut (s : Dev) (c : Cue) : Released [.ring, .regs, .ozh, .hoop] c s (s.cueOut c) :=
  ⟨leaves_modRing (by decide) s _, ⟨rfl, rfl, rfl, rfl, rfl, rfl, rfl⟩, cueGone_cueOut s c⟩

/-- The completion of a cue that is released lands where `Lands` says. -/
theorem lands_cueOut {s : State} {c : Cue} {j : Job} {st : Status} {detail : Nat} {e : Dev}
    (he : ((s.dev.cueOut c).completeNow j st detail).out <:+ e.out) : Lands j st s.dev.short detail s { s with dev := e } := by
  intro n ho hdue m hcan hshut hwait
  have hreg : (s.dev.cueOut c).force (curdOff n + 0x18) = s.dev.force (curdOff n + 0x18) := rfl
  have hmem := whey_mem_complete (x := s.dev.short) (detail := detail) (sameEngine_cueOut s.dev c) hreg ho hdue hcan hshut hwait
  exact he.subset hmem

theorem setStep_cueOut (s : Dev) (c : Cue) (n : Nat) (v : BitVec 16) : (s.cueOut c).setStep n v = (s.setStep n v).cueOut c := rfl

theorem foldl_setStep_cueOut (ps : List (Nat × Nat)) (c : Cue) : ∀ s : Dev,
    ps.foldl (fun u p => u.setStep p.1 (BitVec.ofNat 16 p.2)) (s.cueOut c) =
      (ps.foldl (fun u p => u.setStep p.1 (BitVec.ofNat 16 p.2)) s).cueOut c := by
  induction ps with
  | nil => exact fun _ => rfl
  | cons p ps ih =>
    intro s
    rw [List.foldl_cons, List.foldl_cons, setStep_cueOut, ih]

theorem leaves_setSteps (ps : List (Nat × Nat)) (s : Dev) :
    Leaves [.chan] (fun _ => false) s (ps.foldl (fun u p => u.setStep p.1 (BitVec.ofNat 16 p.2)) s) :=
  .foldl (fun s p => leaves_setChan (by decide) s _ _) ps s

theorem ring_setSteps (ps : List (Nat × Nat)) : ∀ s : Dev, (ps.foldl (fun u p => u.setStep p.1 (BitVec.ofNat 16 p.2)) s).ring = s.ring := by
  induction ps with
  | nil => exact fun _ => rfl
  | cons p ps ih => exact fun s => (ih (s.setStep p.1 (BitVec.ofNat 16 p.2))).trans rfl

theorem does_cueRelease {s : State} {c : Cue} {P : State → Prop} {d : Dev} (h : FirstDue c s.dev)
    (hd : (if s.dev.cueLate c && c.job.d.flag 1 then (s.dev.cueOut c).completeNow c.job .late 0
      else (s.dev.cueOut c).runBody { c.job with late := s.dev.cueLate c }) = d)
    (hP : ∀ e, Quiet d e → Messaged d e → P { s with dev := e }) : Does .cueRelease s P :=
  does_of_messaged Dev.releaseCue rfl ((releaseCue_eq h).trans hd) hP

/-- A job with opcode LEVEL writes its channels and completes. -/
theorem runBody_level (s : Dev) {j : Job} (h : j.d.op = 0x01) : s.runBody j =
    ((levelPairs j.d).foldl (fun u p => u.setStep p.1 (BitVec.ofNat 16 p.2)) s).completeNow j .ok
      (s.applyDelay ((levelPairs j.d).map (·.1)) + 2 ^ 32 * s.notOwned ((levelPairs j.d).map (·.1))) := by
  unfold Dev.runBody
  rw [h]
  rfl

theorem runBody_nop (s : Dev) {j : Job} (h : j.d.op = 0x00) : s.runBody j = s.completeNow j .ok 0 := by
  unfold Dev.runBody
  rw [h]
  rfl

theorem released_setSteps (ps : List (Nat × Nat)) (s : Dev) (c : Cue) : Released [.ring, .regs, .ozh, .hoop, .chan] c s
    ((ps.foldl (fun u p => u.setStep p.1 (BitVec.ofNat 16 p.2)) s).cueOut c) where
  leaves := by
    have hsteps : Leaves [.ring, .regs, .ozh, .hoop, .chan] radioReg s _ := (leaves_setSteps ps s).mono (by decide) (by simp)
    exact hsteps.trans (leaves_modRing (by decide) _ _)
  queues := by
    have hring := ring_setSteps ps s
    unfold Dev.cueOut Dev.modRing
    simp only [hring]
    exact ⟨rfl, rfl, rfl, rfl, rfl, rfl, rfl⟩
  gone := cueGone_cueOut _ c

theorem lateAllowed {b f : Bool} (h : (b && decide (f = false)) = true) : f = false := by
  simp_all

/-- Settles O34: the cue that comes before all others is the one that `cueDue` finds, and its release is one completion. -/
theorem cueReleasesInOrder : Obligations.CueReleasesInOrder := by
  intro s c hruns hmem hout hdue hfirst
  have h : FirstDue c s.dev := ⟨hruns, hmem, hout, hdue, hfirst⟩
  have hcue := released_cueOut s.dev c
  refine ⟨fun hlate hno => ?_, fun hlate hop => ?_, fun hlate hop => ?_⟩
  · refine does_cueRelease (d := (s.dev.cueOut c).completeNow c.job .late 0) h (if_pos ?_) fun e he hm => ?_
    · exact Bool.and_eq_true_iff.2 ⟨hlate, hno⟩
    · obtain ⟨hkeeps, hgone⟩ := (released_completeNow hcue (by decide) he hm).claims (s := s)
      exact ⟨hkeeps, hgone, lands_cueOut he.out⟩
  · refine does_cueRelease (d := (s.dev.cueOut c).completeNow { c.job with late := s.dev.cueLate c } .ok 0) h ?_ fun e he hm => ?_
    · exact (if_neg (by simp [lateAllowed hlate])).trans (runBody_nop _ hop)
    · obtain ⟨hkeeps, hgone⟩ := (released_completeNow hcue (by decide) he hm).claims (s := s)
      exact ⟨hkeeps, hgone, lands_cueOut he.out⟩
  · have hsteps := leaves_setSteps (levelPairs c.job.d) s.dev
    refine does_cueRelease h ((if_neg (by simp [lateAllowed hlate])).trans (runBody_level (s.dev.cueOut c) hop)) fun e he hm => ?_
    rw [foldl_setStep_cueOut] at he hm
    have hcue' := released_setSteps (levelPairs c.job.d) s.dev c
    obtain ⟨hkeeps, hgone⟩ := (released_completeNow hcue' (by decide) he hm).claims (s := s)
    refine ⟨hkeeps, hgone, ?_⟩
    exact (he.chan.trans ((leaves_completeNow _ _ _ _).same .chan (by decide) s)).trans rfl

end Sys2Proof.Machine
end

section
/-! SUPPORT. What acts on every tick leaves the clock, and what has been put out stays put out. -/

namespace Sys2Proof.Machine

/-! ### What a tick's work keeps -/

/-- From `s` to `t` the clock is the same, what was put out stays put out, and no SETW joins the packets that the unit has sent to itself. -/
structure Steady (s t : Dev) : Prop where
  out : s.out <:+ t.out
  clk : t.clk = s.clk
  own : NoSetw s → NoSetw t

theorem Steady.refl (s : Dev) : Steady s s := ⟨List.suffix_rfl, rfl, id⟩

theorem Steady.trans {s t u : Dev} (h : Steady s t) (k : Steady t u) : Steady s u := ⟨h.out.trans k.out, k.clk.trans h.clk, k.own ∘ h.own⟩

theorem Steady.foldl {α : Type} {f : Dev → α → Dev} (hf : ∀ s a, Steady s (f s a)) (xs : List α) (s : Dev) : Steady s (xs.foldl f s) :=
  foldl_of_step .refl .trans hf xs s

theorem Steady.forEach {f : Dev → Nat → Dev} (hf : ∀ s n, Steady s (f s n)) (xs : List Nat) (s : Dev) : Steady s (forEach xs f s) :=
  .foldl hf xs s

theorem Steady.ite {s t u : Dev} {c : Prop} [Decidable c] (ht : Steady s t) (hu : Steady s u) : Steady s (if c then t else u) := by
  split
  · exact ht
  · exact hu

/-- A change that puts nothing out, and leaves the clock and the unit's own packets. -/
theorem Steady.silent {s t : Dev} (hc : t.clk = s.clk) (hp : t.out = s.out) (ho : t.hoop.own = s.hoop.own) : Steady s t :=
  ⟨hp ▸ List.suffix_rfl, hc, fun h p hm => h p (ho ▸ hm)⟩

theorem Steady.of_leaves {areas : List Area} {p : Nat → Bool} {s t : Dev} (h : Leaves areas p s t) (hc : .clk ∉ areas) (ho : NoSetw s → NoSetw t) :
    Steady s t := ⟨h.out, h.same .clk hc ⟨[], s, {}⟩, ho⟩

theorem Steady.of_quiet {s t : Dev} (h : Quiet s t) (hm : Messaged s t) : Steady s t := ⟨h.out, h.clk, hm.noted.own⟩

theorem steady_emit (s : Dev) (o : Out) : Steady s (s.emit o) := .of_quiet (quiet_emit s o) (messaged_emit s o)

theorem steady_setFlag (s : Dev) (o i : Nat) : Steady s (s.setFlag o i) := .silent rfl rfl rfl

theorem steady_eventOk (s : Dev) (c d : Nat) : Steady s (s.eventOk c d) := .of_quiet (quiet_eventOk s c d) (messaged_eventOk s c d)

theorem steady_settle (s : Dev) : Steady s s.settle := .of_quiet (quiet_settle s) (messaged_settle s)

theorem steady_modOzh (s : Dev) (f : Ozh → Ozh) : Steady s (s.modOzh f) := .silent rfl rfl rfl

theorem steady_modTwin (s : Dev) (f : Twin → Twin) : Steady s (s.modTwin f) := .silent rfl rfl rfl

theorem steady_modStr (s : Dev) (n : Nat) (f : Str → Str) : Steady s (s.modStr n f) := .silent rfl rfl rfl

theorem steady_modRing (s : Dev) (f : Ring → Ring) : Steady s (s.modRing f) := .silent rfl rfl rfl

theorem steady_setRegs (s : Dev) (r : Regs) : Steady s (s.setRegs r) := .silent rfl rfl rfl

/-! ### Completions -/

theorem steady_returnEntry (s : Dev) (og : Origin) (cue : Option Nat) (e : Entry) : Steady s (s.returnEntry og cue e) :=
  .of_leaves (leaves_returnEntry s og cue e) (by decide) (noted_returnEntry s og cue e).own

theorem steady_complete (s : Dev) (j : Job) (st : Status) (x : Short) (d : Nat) : Steady s (s.complete j st x d) :=
  .of_leaves (leaves_complete s j st x d) (by decide) (noted_complete s j st x d).own

theorem steady_landFlightsNow (s : Dev) (q : Flight → Bool) (st : Status) (d : Nat) : Steady s (s.landFlightsNow q st d) :=
  .of_leaves (leaves_landFlightsNow s q st d) (by decide) (frame_landFlightsNow s q st d).own

theorem steady_consumeCpl (s : Dev) (p : Packet) : Steady s (s.consumeCpl p) :=
  (steady_modRing s _).trans (.foldl (fun s _ => steady_returnEntry s _ _ _) _ _)

theorem steady_consumeEvt (s : Dev) (p : Packet) : Steady s (s.consumeEvt p) :=
  .ite (.of_quiet (quiet_postEvent s _) (messaged_postEvent s _)) (.refl s)

/-! ### The radio's frame counter -/

theorem steady_sendCmd (s : Dev) (final : BitVec 16) (b : List Byte) : Steady s (s.sendCmd final b) :=
  .of_leaves (leaves_sendCmd s final b) (by decide) (noted_sendCmd s final b).own

theorem steady_rekey (s : Dev) : Steady s s.rekey := by
  unfold Dev.rekey
  refine .ite (steady_modOzh s _) ?_
  split
  · exact .ite (steady_modOzh s _) (.refl s)
  · exact steady_modOzh s _

theorem steady_endSend (s : Dev) (f : TxFrame) (st : Status) : Steady s (s.endSend f st) := by
  unfold Dev.endSend
  split
  · exact (steady_modRing s _).trans (.foldl (fun s g => steady_complete s _ _ _ _) _ _)
  · exact .refl s

theorem steady_dropQueues (s : Dev) (st : Status) : Steady s (s.dropQueues st) := by
  unfold Dev.dropQueues
  refine (steady_modOzh s _).trans (.foldl (fun s f => (steady_endSend s f st).trans ?_) _ _)
  split
  · exact .ite (steady_landFlightsNow _ _ _ _) (.refl _)
  · exact .refl _

theorem steady_judgeFc (s : Dev) : Steady s s.judgeFc := by
  unfold Dev.judgeFc
  refine Steady.trans (t := _) ?_ (.ite ?_ (.refl _))
  · refine .ite ?_ (.refl s)
    exact ((steady_modOzh s _).trans ((steady_setFlag _ _ _).trans (steady_eventOk _ _ _))).trans
      (.ite (.ite (steady_rekey _) (.refl _)) (steady_sendCmd _ _ _))
  · exact (steady_modOzh _ _).trans ((steady_setFlag _ _ _).trans ((steady_eventOk _ _ _).trans (steady_dropQueues _ _)))

theorem steady_takeFc (s : Dev) : Steady s s.takeFc.2 := (steady_modOzh s _).trans (steady_judgeFc _)

theorem steady_onAir (s : Dev) (offset : Nat) (psdu : List Byte) : Steady s (s.onAir offset psdu) := (steady_emit s _).trans (steady_modOzh _ _)

theorem steady_fastLane (s : Dev) (l : Nat) : Steady s (s.fastLane l) := by
  unfold Dev.fastLane
  refine .ite ?_ (.refl s)
  split
  · refine .ite ?_ (.refl s)
    split
    · exact (steady_onAir s _ _).trans (steady_modOzh _ _)
    · exact (steady_takeFc s).trans ((steady_onAir _ _ _).trans (steady_modOzh _ _))
  · exact .refl s

theorem steady_fastAckOut (s : Dev) : Steady s s.fastAckOut :=
  .ite ((steady_takeFc s).trans (steady_onAir _ _ _)) (.refl s)

theorem steady_ozhTick (s : Dev) : Steady s s.ozhTick := by
  unfold Dev.ozhTick
  refine Steady.trans (t := _) ?_ (.ite (steady_modOzh _ _) (.refl _))
  exact .ite ((Steady.forEach steady_fastLane _ s).trans (steady_fastAckOut _)) (.refl s)

/-! ### Pins, live fields and converters -/

theorem steady_samplePin (s : Dev) (p : Nat) : Steady s (s.samplePin p) := by
  unfold Dev.samplePin
  refine .ite (.refl s) ?_
  cases s.ballLevel p with
  | some b => exact .ite (.refl s) (.silent rfl rfl rfl)
  | none => exact .ite (.silent rfl rfl rfl) (.silent rfl rfl rfl)

theorem steady_pinTick (s : Dev) : Steady s s.pinTick :=
  Steady.trans (t := { s with pins := { s.pins with judged := true } }) (.silent rfl rfl rfl) (.forEach steady_samplePin _ _)

theorem steady_applyReg (p : LiveGrid → Bool) (s : Dev) (off : Nat) : Steady s (s.applyReg p off) :=
  (steady_setRegs s _).trans (.ite (steady_setRegs _ _) (.refl _))

theorem steady_applyLive (s : Dev) (p : Nat → LiveGrid → Bool) : Steady s (s.applyLive p) :=
  .foldl (fun s off => steady_applyReg (p off) s off) _ s

theorem steady_setSeq (s : Dev) (q : Nat) (x : Seq) : Steady s (s.setSeq q x) := .silent rfl rfl rfl

theorem steady_adcChoose (s : Dev) (a : Nat) : Steady s (s.adcChoose a) := by
  unfold Dev.adcChoose
  refine .ite ?_ (.refl s)
  split
  · exact .ite (.refl s) (steady_setSeq s _ _)
  · exact .refl s

theorem steady_adcTick (s : Dev) : Steady s s.adcTick := by
  unfold Dev.adcTick
  simp only
  refine Steady.trans (t := _) ?_ (.ite (.forEach (fun s q => .ite (steady_setSeq s _ _) (.refl s)) _ _) (.refl _))
  refine Steady.trans (t := _) ?_ (.ite (.refl _) (steady_adcChoose _ _))
  refine Steady.trans (t := _) ?_ (steady_adcChoose _ _)
  refine Steady.trans (t := _) ?_ (.forEach (fun s q => .ite (steady_setSeq s _ _) (.refl s)) _ _)
  exact .ite (steady_applyLive s _) (.refl s)

theorem steady_syncOut (s : Dev) (t : Trips) (o : Out) : Steady s (({ s with trips := t } : Dev).emit o) :=
  Steady.trans (t := { s with trips := t }) (.silent rfl rfl rfl) (steady_emit _ o)

theorem steady_syncTick (s : Dev) : Steady s s.syncTick := .ite (steady_syncOut s _ _) (.ite (.refl s) (steady_syncOut s _ _))

/-! ### The fabric -/

theorem steady_setPort (s : Dev) (k : Nat) (x : HPort) : Steady s (s.setPort k x) := .silent rfl rfl rfl

theorem steady_portTick (s : Dev) (k : Nat) : Steady s (s.portTick k) := by
  unfold Dev.portTick
  simp only
  split
  · split
    · exact .ite ((steady_setPort s _ _).trans (steady_emit _ _)) (.refl s)
    · exact .refl s
  · exact .refl s

theorem steady_hoopTick (s : Dev) : Steady s s.hoopTick :=
  .ite (.forEach (fun s k => .ite (Steady.trans (.ite (steady_setPort s _ _) (.refl s)) (steady_portTick _ k)) (.refl s)) _ s) (.refl s)

/-! ### After a takeover -/

theorem steady_strTake (s : Dev) (l : Nat) : Steady s (s.strTake l) := by
  unfold Dev.strTake
  refine .ite (.refl s) ?_
  refine Steady.trans (t := _) ?_ (steady_modStr _ _ _)
  refine Steady.trans (t := _) ?_ (.forEach (fun s n => steady_modStr s n _) _ _)
  refine Steady.trans (t := _) ?_ (.ite (.forEach (fun s n => steady_modStr s n _) _ _) (.ite (.refl _) (.forEach (fun s n => steady_modStr s n _) _ _)))
  refine Steady.trans (t := _) ?_ (.forEach (fun s n => steady_modStr s n _) _ _)
  refine Steady.trans (t := _) ?_ (steady_modStr _ _ _)
  exact .silent rfl rfl rfl

theorem steady_takeoverTick (s : Dev) : Steady s s.takeoverTick := by
  unfold Dev.takeoverTick
  simp only
  refine Steady.trans (t := _) ?_ (.ite ((steady_modTwin _ _).trans (steady_modTwin _ _)) (.refl _))
  refine .ite (.refl s) (.forEach (fun s n => .ite ((steady_modTwin s _).trans (.ite (.refl _) ?_)) (.refl s)) _ s)
  exact (steady_strTake _ n).trans (.ite (steady_modTwin _ _) (.refl _))

theorem steady_pfltTick (s : Dev) : Steady s s.pfltTick := .ite (.refl s) (steady_modTwin s _)

end Sys2Proof.Machine
end

section
/-! SUPPORT. What a set-up write of a packet does keeps all that was put out, and the packets that the unit has sent to itself. -/

namespace Sys2Proof.Machine

/-! ### What was put out stays put out -/

/-- From `s` to `t` what was put out stays put out. -/
def Grows (s t : Dev) : Prop := s.out <:+ t.out

theorem Grows.refl (s : Dev) : Grows s s := List.suffix_rfl

theorem Grows.trans {s t u : Dev} (h : Grows s t) (k : Grows t u) : Grows s u := List.IsSuffix.trans h k

theorem Grows.foldl {α : Type} {f : Dev → α → Dev} (hf : ∀ s a, Grows s (f s a)) (xs : List α) (s : Dev) : Grows s (xs.foldl f s) :=
  foldl_of_step .refl .trans hf xs s

theorem Grows.forEach {f : Dev → Nat → Dev} (hf : ∀ s n, Grows s (f s n)) (xs : List Nat) (s : Dev) : Grows s (forEach xs f s) :=
  .foldl hf xs s

theorem Grows.ite {s t u : Dev} {c : Prop} [Decidable c] (ht : Grows s t) (hu : Grows s u) : Grows s (if c then t else u) := by
  split
  · exact ht
  · exact hu

/-- A change that puts nothing out. -/
theorem Grows.silent {s t : Dev} (h : t.out = s.out) : Grows s t := by
  unfold Grows
  rw [h]

theorem Steady.grows {s t : Dev} (h : Steady s t) : Grows s t := h.out

theorem Quiet.grows {s t : Dev} (h : Quiet s t) : Grows s t := h.out

theorem grows_setRegs (s : Dev) (r : Regs) : Grows s (s.setRegs r) := .silent rfl

theorem grows_setBoth (s : Dev) (o : Nat) (w : Word) : Grows s (s.setBoth o w) := grows_setRegs s _

theorem grows_setFlag (s : Dev) (o i : Nat) : Grows s (s.setFlag o i) := (grows_setRegs s _).trans (grows_setRegs _ _)

theorem grows_clearFlags (s : Dev) (o : Nat) (m : Word) : Grows s (s.clearFlags o m) := grows_setRegs s _

theorem grows_modPwr (s : Dev) (f : Pwr → Pwr) : Grows s (s.modPwr f) := .silent rfl

theorem grows_modRing (s : Dev) (f : Ring → Ring) : Grows s (s.modRing f) := .silent rfl

theorem grows_modFlt (s : Dev) (f : Flt → Flt) : Grows s (s.modFlt f) := .silent rfl

theorem grows_modHoop (s : Dev) (f : Hoop → Hoop) : Grows s (s.modHoop f) := .silent rfl

theorem grows_modOzh (s : Dev) (f : Ozh → Ozh) : Grows s (s.modOzh f) := .silent rfl

theorem grows_modPort (s : Dev) (k : Nat) (f : HPort → HPort) : Grows s (s.modPort k f) := .silent rfl

theorem grows_modStr (s : Dev) (n : Nat) (f : Str → Str) : Grows s (s.modStr n f) := .silent rfl

theorem grows_modPos (s : Dev) (n : Nat) (f : Pos → Pos) : Grows s (s.modPos n f) := .silent rfl

theorem grows_modCls (s : Dev) (k : Nat) (f : Cls → Cls) : Grows s (s.modCls k f) := .silent rfl

theorem grows_modCar (s : Dev) (n : Nat) (f : Car → Car) : Grows s (s.modCar n f) := .silent rfl

theorem grows_modHarp (s : Dev) (n : Nat) (f : Harp → Harp) : Grows s (s.modHarp n f) := .silent rfl

theorem grows_setSeq (s : Dev) (q : Nat) (x : Seq) : Grows s (s.setSeq q x) := .silent rfl

theorem grows_setChan (s : Dev) (c : Nat) (x : Chan) : Grows s (s.setChan c x) := .silent rfl

theorem grows_floatPins (s : Dev) (m : BitVec 32) : Grows s (s.floatPins m) := .silent rfl

theorem grows_queuePacket (s : Dev) (k : Nat) (p : Packet) : Grows s (s.queuePacket k p) := (quiet_queuePacket s k p).grows

theorem grows_strobe {f : Dev → Dev} (hf : ∀ s, Grows s (f s)) (b : Word) (i : Nat) (s : Dev) : Grows s (strobe b i f s) := .ite (hf s) (.refl s)

/-! ### Refused writes and stored fields -/

theorem grows_recordReject (s : Dev) (src : BitVec 16) (off : Nat) : Grows s (s.recordReject src off) := by
  unfold Dev.recordReject
  cases rejectOff off with
  | some r => exact (grows_setFlag s r 31).trans (grows_modFlt _ _)
  | none => exact grows_modFlt s _

theorem grows_rejectWrite (s : Dev) (src : BitVec 16) (off : Nat) (st : Status) : Grows s (s.rejectWrite src off st) :=
  (grows_recordReject s src off).trans (quiet_event _ _ _ _).grows

theorem grows_storeOne (s : Dev) (off : Nat) (f : Fld) (v : Nat) : Grows s (s.storeOne off f v) := by
  unfold Dev.storeOne Dev.storeField
  split
  · exact (grows_setChan s _ _).trans ((grows_setRegs _ _).trans (grows_setRegs _ _))
  · split
    · exact (grows_setRegs s _).trans (grows_setRegs _ _)
    · exact (grows_setRegs s _).trans (grows_setRegs _ _)
    · exact grows_setRegs s _
    · exact .refl s

theorem grows_storeAll (s : Dev) (off : Nat) (w mask : Word) : Grows s (s.storeAll off w mask) :=
  .foldl (fun t f => .ite (grows_storeOne t off f _) (.refl t)) _ s

theorem grows_srcChange (s : Dev) (k old new : Nat) : Grows s (s.srcChange k old new) := by
  unfold Dev.srcChange
  refine .ite (.forEach (fun s n => grows_modStr s n _) _ s) (.ite ?_ (.refl s))
  exact (grows_modCls s k _).trans (.ite ((grows_setFlag _ _ _).trans (quiet_eventOk _ _ _).grows) (.refl _))

theorem grows_judgeAbi (s : Dev) (major minor : Nat) : Grows s (s.judgeAbi major minor) := .ite (grows_modRing s _) (grows_modRing s _)

theorem grows_afterStore (old s : Dev) (off : Nat) (w mask : Word) : Grows s (old.afterStore s off w mask) := by
  unfold Dev.afterStore
  refine .ite (grows_floatPins s _) (.ite (.ite ?_ (.refl s)) (.ite (grows_srcChange s _ _ _) (.ite (grows_judgeAbi s _ _) ?_)))
  · exact (grows_modHarp s _ _).trans (grows_modHarp _ _ _)
  · exact .ite (grows_modPwr s _) (.refl s)

/-! ### Strobes -/

theorem grows_mtxFltClear (s : Dev) (short : Bool) (w : Nat) (bits : BitVec 32) : Grows s (s.mtxFltClear short w bits) :=
  .forEach (fun s _ => .ite ((grows_clearFlags s _ _).trans (grows_modPos _ _ _)) (.refl s)) _ s

theorem grows_strFltClear (s : Dev) (short : Bool) (bits : BitVec 16) : Grows s (s.strFltClear short bits) :=
  .forEach (fun s _ => .ite ((grows_clearFlags s _ _).trans ((grows_modStr _ _ _).trans (grows_modStr _ _ _))) (.refl s)) _ s

theorem grows_strPhClear (s : Dev) (sense : Bool) (bits : BitVec 16) : Grows s (s.strPhClear sense bits) :=
  .forEach (fun s _ => .ite ((grows_clearFlags s _ _).trans (grows_modStr _ _ _)) (.refl s)) _ s

theorem grows_clrArm (s : Dev) (bits : BitVec 8) : Grows s (s.clrArm bits) :=
  .forEach (fun s n => .ite (grows_modCls s n _) (.refl s)) _ s

theorem grows_carLatchClear (s : Dev) (m : Nat) : Grows s (s.carLatchClear m) :=
  .forEach (fun s _ => .ite ((grows_clearFlags s _ _).trans (grows_modCar _ _ _)) (.refl s)) _ s

theorem grows_clearFltDev (s : Dev) (m : Word) : Grows s (s.clearFltDev m) :=
  (grows_clearFlags s _ _).trans (.ite (grows_modPwr _ _) (.refl _))

theorem grows_fltDevClear (s : Dev) (bits : BitVec 2) : Grows s (s.fltDevClear bits) := by
  unfold Dev.fltDevClear
  exact Grows.trans (t := _) (.ite (grows_clearFltDev s 1) (.refl s)) (.ite (grows_clearFltDev _ 2) (.refl _))

theorem grows_commitReg (s : Dev) (off : Nat) : Grows s (s.commitReg off) := grows_setRegs s _

theorem grows_commitWhere (s : Dev) (p : Nat → Bool) : Grows s (s.commitWhere p) := .foldl grows_commitReg _ s

theorem grows_applyCommitReg (s : Dev) (off : Nat) : Grows s (s.applyCommitReg off) := by
  unfold Dev.applyCommitReg
  split
  · exact .refl s
  · exact (grows_setRegs s _).trans (grows_setRegs _ _)

theorem grows_applyCommit (s : Dev) (p : Nat → Bool) : Grows s (s.applyCommit p) := .foldl grows_applyCommitReg _ s

theorem grows_seqTrigger (s : Dev) (trig q : Nat) : Grows s (s.seqTrigger trig q) :=
  .ite (.ite ((grows_setSeq s _ _).trans (grows_setFlag _ _ _)) (grows_setSeq s _ _)) (.refl s)

theorem grows_adcStart (s : Dev) (m : Nat) : Grows s (s.adcStart m) := .forEach (fun s q => .ite (grows_seqTrigger s 0 q) (.refl s)) _ s

theorem grows_flushes (s : Dev) (b : Word) : Grows s
    (forEach (upTo 8) (fun s n => strobe b (8 + n) (fun s => s.flushRx n) (strobe b n (fun s => s.flushTx n) s)) s) :=
  .forEach (fun s n => (grows_strobe (fun s => grows_modHarp s n _) b n s).trans (grows_strobe (fun s => grows_modHarp s n _) b (8 + n) _)) _ s

/-- A RESTART keeps what was put out (R94). -/
theorem grows_restart (s : Dev) (why : Nat) : Grows s (s.restart why) := by
  have hreset : Grows s (s.supplyReset why) := by
    unfold Dev.supplyReset Dev.dropRetention
    exact .ite (.silent rfl) (.silent rfl)
  exact hreset.trans (.silent rfl)

/-! ### Ozhild's strobes -/

theorem grows_setRole (s : Dev) (r : WRole) : Grows s (s.setRole r) := (leaves_setRole s r).out

theorem grows_refGone (s : Dev) (r : WRole) : Grows s (s.refGone r) := .ite (grows_setRole s _) (.refl s)

theorem grows_newBlock (s : Dev) (m : BitVec 40) : Grows s (s.newBlock m) := by
  obtain ⟨z, hz⟩ := newBlock_only s m
  exact .silent (by rw [hz])

theorem grows_installKey (s : Dev) : Grows s s.installKey := by
  unfold Dev.installKey
  exact (grows_modOzh s _).trans (.forEach (fun s _ => (grows_setBoth s _ _).trans (grows_setRegs _ _)) _ _)

theorem grows_ozhCommit (s : Dev) : Grows s s.ozhCommit := by
  unfold Dev.ozhCommit
  refine Grows.trans (t := _) (.ite (grows_installKey s) (.refl s)) (.ite ?_ (.refl _))
  exact ((grows_commitWhere _ _).trans (grows_applyCommit _ _)).trans (grows_newBlock _ _)

theorem grows_ozhJoin (s : Dev) : Grows s s.ozhJoin := .ite (grows_modOzh s _) (.refl s)

theorem grows_ozhLeave (s : Dev) : Grows s s.ozhLeave :=
  .ite (((steady_sendCmd s _ _).trans (steady_modOzh _ _)).grows.trans (grows_refGone _ _)) (.refl s)

theorem grows_ozhCmd (s : Dev) (b : Word) : Grows s (s.ozhCmd b) := by
  unfold Dev.ozhCmd
  refine .trans ?_ (grows_strobe (fun s => grows_modOzh s _) b 4 _)
  refine .trans ?_ (grows_strobe (fun s => .ite (steady_rekey s).grows (.refl s)) b 3 _)
  refine .trans ?_ (grows_strobe grows_ozhLeave b 2 _)
  exact (grows_strobe grows_ozhCommit b 0 s).trans (grows_strobe grows_ozhJoin b 1 _)

/-! ### The fabric's strobes -/

theorem grows_bcastPacket (s : Dev) (k : Option Nat) (p : Packet) : Grows s (s.bcastPacket k p) :=
  .forEach (fun s k => .ite (grows_queuePacket s k p) (.refl s)) _ s

theorem grows_addAuto (s : Dev) (lo hi port : Nat) : Grows s (s.addAuto lo hi port) := by
  unfold Dev.addAuto
  refine .ite (.refl s) ?_
  split
  · exact grows_setBoth s _ _
  · exact grows_setFlag s _ _

theorem grows_removeId (s : Dev) (id : Nat) : Grows s (s.removeId id) := by
  refine .forEach (fun s i => .ite (.ite (grows_setBoth s _ _) (.ite (grows_setBoth s _ _) ?_)) (.refl s)) _ s
  exact .ite (grows_setBoth s _ _) ((grows_setBoth s _ _).trans (grows_addAuto _ _ _ _))

theorem grows_clearAuto (s : Dev) : Grows s s.clearAuto := .forEach (fun s _ => .ite (grows_setBoth s _ _) (.refl s)) _ s

theorem grows_portPacket (s : Dev) (k type : Nat) (p : List Byte) : Grows s (s.portPacket k type p) := grows_queuePacket s k _

theorem grows_assignBelow (s : Dev) (base : Nat) : Grows s (s.assignBelow base) := by
  unfold Dev.assignBelow
  simp only
  refine .trans ?_ (grows_addAuto _ _ _ _)
  refine .trans ?_ (grows_addAuto _ _ _ _)
  exact Grows.trans (.ite (grows_portPacket s _ _ _) (.refl s)) (.ite (grows_portPacket _ _ _ _) (.refl _))

theorem grows_landFlights (s : Dev) (p : Flight → Bool) (st : Status) (d : Nat) : Grows s (s.landFlights p st d) :=
  ((steady_modRing s _).trans (.foldl (fun s _ => steady_complete s _ _ _ _) _ _)).grows

theorem grows_enumFinish (s : Dev) (tmo : Bool) : Grows s (s.enumFinish tmo) := by
  unfold Dev.enumFinish
  simp only
  refine .trans ?_ (.ite (steady_landFlightsNow _ _ _ _).grows (grows_landFlights _ _ _ _))
  refine .trans ?_ (grows_modHoop _ _)
  refine .trans ?_ (.foldl (fun s d => grows_removeId s _) _ _)
  refine .trans ?_ (.foldl (fun s c => grows_bcastPacket s _ _) _ _)
  refine .trans ?_ (.foldl (fun s _ => (grows_setFlag s _ _).trans (quiet_eventOk _ _ _).grows) _ _)
  exact .ite (grows_setFlag s _ _) (.refl s)

theorem grows_enumCounted (s : Dev) : Grows s s.enumCounted := by
  unfold Dev.enumCounted
  simp only
  refine .ite (.refl s) (.ite ?_ ((grows_modHoop s _).trans (grows_portPacket _ _ _ _)))
  exact ((grows_modHoop s _).trans (grows_assignBelow _ _)).trans (.ite (grows_enumFinish _ _) (.refl _))

theorem grows_enumBegin (s : Dev) (epoch : BitVec 16) : Grows s (s.enumBegin epoch) := by
  unfold Dev.enumBegin
  simp only
  refine .trans ?_ (grows_enumCounted _)
  refine .trans ?_ (.forEach (fun s k => grows_portPacket s _ _ _) _ _)
  refine .trans ?_ (grows_modHoop _ _)
  exact (grows_clearAuto s).trans (.forEach (fun s k => grows_modPort s k _) _ _)

theorem grows_enumRequest (s : Dev) : Grows s s.enumRequest :=
  .ite (grows_modHoop s _) ((grows_modHoop s _).trans (grows_enumBegin _ _))

theorem grows_hoopCmd (s : Dev) (b : Word) : Grows s (s.hoopCmd b) := by
  unfold Dev.hoopCmd
  refine .trans ?_ (grows_strobe (fun s => grows_modHoop s _) b 2 _)
  refine .trans ?_ (grows_strobe (fun s => .ite (grows_enumRequest s) (.refl s)) b 1 _)
  exact grows_strobe (fun s => (grows_commitWhere s _).trans (grows_applyCommit _ _)) b 0 s

/-! ### The write of a packet -/

theorem grows_strobes (s : Dev) (off : Nat) (b : Word) : Grows s (s.strobes off b) := by
  unfold Dev.strobes
  refine .ite (.refl s) (.ite (grows_mtxFltClear s _ _ _) (.ite (grows_mtxFltClear s _ _ _) ?_))
  split
  · exact .ite (grows_restart s 1) (.refl s)
  · exact grows_commitWhere s _
  · exact grows_strFltClear s _ _
  · exact grows_strFltClear s _ _
  · exact grows_strPhClear s _ _
  · exact grows_strPhClear s _ _
  · exact grows_commitWhere s _
  · exact (grows_clrArm s _).trans (grows_strobe (fun s => grows_commitWhere s _) b 8 _)
  · exact grows_commitWhere s _
  · exact grows_flushes s b
  · exact (grows_carLatchClear s _).trans (grows_clearFlags _ _ _)
  · exact grows_adcStart s _
  · exact grows_hoopCmd s b
  · exact grows_ozhCmd s b
  · exact grows_fltDevClear s _
  · exact grows_clearFlags s _ _

theorem grows_putWord (s : Dev) (off : Nat) (w mask : Word) : Grows s (s.putWord off w mask) :=
  ((grows_storeAll s off w mask).trans (grows_afterStore s _ off w mask)).trans (grows_strobes _ off _)

theorem grows_setupWrite (s : Dev) (src : BitVec 16) (off : Nat) (value mask : Word) : Grows s (s.setupWrite src off value mask).2 := by
  unfold Dev.setupWrite
  simp only
  split
  · exact .refl s
  · split
    · exact grows_recordReject s src off
    · split
      · exact grows_recordReject s src off
      · split
        · exact (grows_putWord s _ _ _).trans (grows_recordReject _ _ _)
        · exact grows_putWord s _ _ _

theorem grows_consumeSetw (s : Dev) (p : Packet) : Grows s (s.consumeSetw p) := by
  unfold Dev.consumeSetw
  refine .ite (.ite (grows_rejectWrite s _ _ _) (.refl s)) ?_
  have h := grows_setupWrite s (p.src.setWidth 16) (leAt p.payload 0 2) (BitVec.ofNat 32 (leAt p.payload 4 4)) (BitVec.ofNat 32 (leAt p.payload 8 4))
  split
  · next t ht =>
      rw [ht] at h
      exact h
  · next st t hst ht =>
      rw [ht] at h
      exact h.trans (quiet_event _ _ _ _).grows

/-- The unit's own packets, whatever they are, keep what was put out. -/
theorem grows_ownPackets (s : Dev) : Grows s s.ownPackets := by
  refine (grows_modHoop s _).trans (.foldl (fun s p => ?_) _ _)
  split
  · exact (steady_consumeCpl s p).grows
  · exact (steady_consumeEvt s p).grows
  · exact grows_consumeSetw s p
  · exact .refl s

/-! ### Packets but SETW -/

theorem Steady.foldl_mem {α : Type} {f : Dev → α → Dev} {xs : List α} (hf : ∀ a ∈ xs, ∀ s, Steady s (f s a)) : ∀ s, Steady s (xs.foldl f s) := by
  induction xs with
  | nil => exact .refl
  | cons x xs ih => exact fun s => (hf x List.mem_cons_self s).trans (ih (fun a ha => hf a (List.mem_cons_of_mem x ha)) _)

/-- Without a SETW among them the unit's own packets leave the clock. -/
theorem steady_ownPackets {s : Dev} (h : NoSetw s) : Steady s s.ownPackets := by
  have hempty : Steady s (s.modHoop (fun h => { h with own := [] })) :=
    { Steady.refl s with own := fun _ _ hp => absurd hp List.not_mem_nil }
  refine hempty.trans (.foldl_mem (fun p hp s => ?_) _)
  split
  · exact steady_consumeCpl s p
  · exact steady_consumeEvt s p
  · next ht => exact absurd (BitVec.eq_of_toNat_eq (ht.trans rfl)) (h p hp)
  · exact .refl s

end Sys2Proof.Machine
end

section
/-! SUPPORT. The transitions that a tick judges, and O2. -/

namespace Sys2Proof.Machine

/-! ### What a transition keeps -/

/-- From `s` to `t` what was put out stays put out, and no SETW joins the packets that the unit has sent to itself. -/
structure Spoken (s t : Dev) : Prop where
  out : s.out <:+ t.out
  own : NoSetw s → NoSetw t

theorem Spoken.refl (s : Dev) : Spoken s s := ⟨List.suffix_rfl, id⟩

theorem Spoken.trans {s t u : Dev} (h : Spoken s t) (k : Spoken t u) : Spoken s u := ⟨h.out.trans k.out, k.own ∘ h.own⟩

theorem Spoken.foldl {α : Type} {f : Dev → α → Dev} (hf : ∀ s a, Spoken s (f s a)) (xs : List α) (s : Dev) : Spoken s (xs.foldl f s) :=
  foldl_of_step .refl .trans hf xs s

theorem Spoken.forEach {f : Dev → Nat → Dev} (hf : ∀ s n, Spoken s (f s n)) (xs : List Nat) (s : Dev) : Spoken s (forEach xs f s) :=
  .foldl hf xs s

theorem Spoken.ite {s t u : Dev} {c : Prop} [Decidable c] (ht : Spoken s t) (hu : Spoken s u) : Spoken s (if c then t else u) := by
  split
  · exact ht
  · exact hu

theorem Steady.spoken {s t : Dev} (h : Steady s t) : Spoken s t := ⟨h.out, h.own⟩

/-- A change that puts nothing out and leaves the unit's own packets. -/
theorem Spoken.silent {s t : Dev} (hp : t.out = s.out) (ho : t.hoop.own = s.hoop.own) : Spoken s t :=
  ⟨hp ▸ List.suffix_rfl, fun h p hm => h p (ho ▸ hm)⟩

theorem spoken_eventOk (s : Dev) (c d : Nat) : Spoken s (s.eventOk c d) := (steady_eventOk s c d).spoken

theorem spoken_modPwr (s : Dev) (f : Pwr → Pwr) : Spoken s (s.modPwr f) := .silent rfl rfl

theorem spoken_modMtx (s : Dev) (f : Mtx → Mtx) : Spoken s (s.modMtx f) := .silent rfl rfl

theorem spoken_modPos (s : Dev) (n : Nat) (f : Pos → Pos) : Spoken s (s.modPos n f) := .silent rfl rfl

theorem spoken_modCar (s : Dev) (n : Nat) (f : Car → Car) : Spoken s (s.modCar n f) := .silent rfl rfl

theorem spoken_modHarp (s : Dev) (n : Nat) (f : Harp → Harp) : Spoken s (s.modHarp n f) := .silent rfl rfl

theorem spoken_setRip (s : Dev) (n : Nat) (r : Rip) : Spoken s (s.setRip n r) := .silent rfl rfl

theorem spoken_setChan (s : Dev) (c : Nat) (x : Chan) : Spoken s (s.setChan c x) := .silent rfl rfl

theorem spoken_floatPins (s : Dev) (m : BitVec 32) : Spoken s (s.floatPins m) := .silent rfl rfl

theorem spoken_modTwin (s : Dev) (f : Twin → Twin) : Spoken s (s.modTwin f) := (steady_modTwin s f).spoken

theorem spoken_modOzh (s : Dev) (f : Ozh → Ozh) : Spoken s (s.modOzh f) := (steady_modOzh s f).spoken

theorem spoken_modStr (s : Dev) (n : Nat) (f : Str → Str) : Spoken s (s.modStr n f) := (steady_modStr s n f).spoken

theorem spoken_modRing (s : Dev) (f : Ring → Ring) : Spoken s (s.modRing f) := (steady_modRing s f).spoken

theorem spoken_refGone (s : Dev) (r : WRole) : Spoken s (s.refGone r) := ⟨grows_refGone s r, (frame_refGone s r).own⟩

/-! ### HOLD -/

theorem spoken_hoopStop (s : Dev) : Spoken s s.hoopStop := ⟨(leaves_hoopStop s).out, (frame_hoopStop s).own⟩

theorem spoken_stringHalt (s : Dev) (l : Nat) : Spoken s (s.stringHalt l) :=
  (spoken_modStr s l _).trans (.forEach (fun s n => spoken_modStr s n _) _ _)

theorem spoken_cutSlot (s : Dev) : Spoken s s.cutSlot :=
  (spoken_modMtx s _).trans (.forEach (fun s _ => .ite (spoken_modPos s _ _) (.refl s)) _ _)

theorem spoken_haltStrings (s : Dev) : Spoken s s.haltStrings := .forEach (fun s n => .ite (spoken_stringHalt s n) (.refl s)) _ s

theorem spoken_haltMatrix (s : Dev) : Spoken s s.haltMatrix :=
  .ite (((spoken_cutSlot s).trans (spoken_modMtx _ _)).trans (spoken_modMtx _ _)) (.refl s)

theorem spoken_lightsOff (s : Dev) : Spoken s s.lightsOff := (spoken_haltStrings s).trans (spoken_haltMatrix _)

theorem spoken_limpOff (s : Dev) : Spoken s s.limpOff := by
  unfold Dev.limpOff Dev.stopHarps
  refine .trans ?_ (spoken_floatPins _ _)
  refine .trans ?_ (.forEach (fun s n => spoken_modHarp s n _) _ _)
  exact (spoken_hoopStop s).trans (spoken_modOzh _ _)

theorem spoken_causeActs (s : Dev) : Spoken s s.causeActs := by
  unfold Dev.causeActs
  exact Spoken.trans (t := _) (.ite (spoken_lightsOff s) (.refl s)) (.ite (spoken_limpOff _) (.refl _))

theorem spoken_discardCues (s : Dev) : Spoken s s.discardCues :=
  .foldl (fun s _ => (spoken_modRing s _).trans (steady_complete _ _ _ _ _).spoken) _ s

theorem spoken_holdWork (s : Dev) : Spoken s s.holdWork := by
  unfold Dev.holdWork
  simp only
  refine .trans ?_ (spoken_causeActs _)
  refine .trans ?_ (spoken_eventOk _ _ _)
  refine .trans ?_ (spoken_modMtx _ _)
  refine .trans ?_ (.forEach (fun s n => spoken_modCar s n _) _ _)
  refine .trans ?_ (.forEach (fun s c => .ite (.refl s) (spoken_setChan s c _)) _ _)
  exact (spoken_discardCues s).trans (.forEach (fun s n => spoken_setRip s n _) _ _)

theorem spoken_enterHold (s : Dev) : Spoken s s.enterHold := by
  have habandon : Spoken s s.abandonSleep := by
    unfold Dev.abandonSleep
    split
    · exact (spoken_modPwr s _).trans (spoken_eventOk _ _ _)
    · exact .refl s
  rw [enterHold_eq]
  exact habandon.trans ((spoken_modPwr _ _).trans (spoken_holdWork _))

theorem spoken_setCause (s : Dev) (i : Nat) : Spoken s (s.setCause i) :=
  (spoken_modPwr s _).trans (.ite (spoken_causeActs _) (.ite (spoken_enterHold _) (.refl _)))

/-! ### Mode requests -/

theorem spoken_beginSleep (s : Dev) (m : Mode) : Spoken s (s.beginSleep m) := by
  unfold Dev.beginSleep
  refine .trans ?_ (Steady.of_quiet (quiet_syncShadows _) (messaged_syncShadows _)).spoken
  refine .trans ?_ (Steady.of_quiet (quiet_flushWhey _) (messaged_flushWhey _)).spoken
  exact (spoken_modPwr s _).trans (spoken_discardCues _)

theorem spoken_leaveHold (s : Dev) : Spoken s s.leaveHold := ((spoken_modPwr s _).trans (spoken_modMtx _ _)).trans (spoken_eventOk _ _ _)

theorem Spoken.snd {s t : Dev} {st : Status} (h : Spoken s t) : Spoken s (st, t).2 := h

theorem spoken_modeRequest (s : Dev) (m : Mode) : Spoken s (s.modeRequest m).2 := by
  unfold Dev.modeRequest
  split
  · exact .snd (.refl s)
  · split
    · exact .snd (.refl s)
    · split
      · exact .snd ((spoken_modPwr s _).trans (spoken_modMtx _ _))
      · exact .snd (spoken_modPwr s _)
      · exact .snd (spoken_setCause s causeHost)
      · exact .snd (spoken_setCause s causeHost)
      · exact .snd (spoken_setCause s causeHost)
      · exact .snd (spoken_beginSleep s .vault)
      · exact .snd (spoken_beginSleep s .vault)
      · exact .snd (spoken_beginSleep s .doze)
      · exact .snd (spoken_beginSleep s .doze)
      · split
        · exact .snd ((spoken_modPwr s _).trans (spoken_leaveHold _))
        · exact .snd (.refl s)
      · exact .snd (.refl s)

theorem spoken_modeJudge (s : Dev) (m : Mode) : Spoken s (s.modeJudge m).2 := by
  unfold Dev.modeJudge
  split
  · exact .refl s
  · exact spoken_modeRequest s m

theorem spoken_modeFlight (s : Dev) (f : Flight) : Spoken s (s.modeFlight f) := by
  unfold Dev.modeFlight
  split
  · exact (spoken_modeJudge s _).trans (steady_complete _ _ _ _ _).spoken
  · exact .refl s

/-! ### A takeover -/

theorem spoken_restoreMirror (s : Dev) : Spoken s s.restoreMirror := by
  unfold Dev.restoreMirror
  have hrips : ∀ (s : Dev) (n : Nat), Spoken s (match tabGet none s.twin.ripSnaps n with
      | some r => if r.run then s.setRip n (s.ripRestored r) else s
      | none => s) := fun s n => by
    split
    · exact .ite (spoken_setRip s _ _) (.refl s)
    · exact .refl s
  have hharps : ∀ (s : Dev) (n : Nat), Spoken s (match tabGet none s.twin.harpSnaps n with
      | some (_, tx) => s.modHarp n (fun h => { h with st := 0, tx := tx })
      | none => s) := fun s n => by
    split
    · exact spoken_modHarp s _ _
    · exact .refl s
  simp only
  split
  · exact ((Spoken.forEach hrips _ s).trans (.forEach hharps _ _)).trans (spoken_modOzh _ _)
  · exact (Spoken.forEach hrips _ s).trans (.forEach hharps _ _)

theorem spoken_setFlag (s : Dev) (o i : Nat) : Spoken s (s.setFlag o i) := (steady_setFlag s o i).spoken

theorem spoken_takeover (s : Dev) : Spoken s s.takeover := by
  unfold Dev.takeover Dev.enterActive
  simp only
  refine .trans ?_ (spoken_modTwin _ _)
  refine .trans ?_ (steady_judgeFc _).spoken
  refine .trans ?_ (.forEach (fun s n => spoken_modCar s n _) _ _)
  refine .trans ?_ (spoken_modOzh _ _)
  refine .trans ?_ (spoken_refGone _ _)
  refine .trans ?_ (spoken_modMtx _ _)
  refine .trans ?_ (spoken_modPwr _ _)
  refine .trans ?_ (spoken_eventOk _ _ _)
  refine .trans ?_ (.ite (spoken_setFlag _ _ _) (.refl _))
  refine .trans ?_ (spoken_setFlag _ _ _)
  exact (spoken_restoreMirror s).trans ((spoken_modTwin _ _).trans ((spoken_modTwin _ _).trans (spoken_modTwin _ _)))

theorem spoken_takeoverJudge (s : Dev) : Spoken s s.takeoverJudge :=
  .ite ((spoken_modTwin s _).trans (.ite (spoken_takeover _) (.refl _))) (.refl s)

/-- The MODE requests of a tick, judged. -/
def Dev.modesJudged (s : Dev) : Dev :=
  if (s.ring.flights.filter (fun f => f.modeAsked.isSome)).isEmpty then s
  else (s.ring.flights.filter (fun f => f.modeAsked.isSome)).foldl Dev.modeFlight (s.dropFlights (fun f => f.modeAsked.isSome))

/-- The mode that the host's register asks for, judged. -/
def Dev.askedJudged (s : Dev) : Dev :=
  match s.pwr.asked with
  | some m => ((s.modPwr (fun p => { p with asked := none })).modeJudge m).2
  | none => s

theorem arbitrate_eq (s : Dev) : s.arbitrate = s.takeoverJudge.modesJudged.askedJudged := rfl

theorem spoken_modesJudged (s : Dev) : Spoken s s.modesJudged := .ite (.refl s) ((spoken_modRing s _).trans (.foldl spoken_modeFlight _ _))

theorem spoken_askedJudged (s : Dev) : Spoken s s.askedJudged := by
  unfold Dev.askedJudged
  split
  · exact (spoken_modPwr s _).trans (spoken_modeJudge _ _)
  · exact .refl s

theorem spoken_arbitrate (s : Dev) : Spoken s s.arbitrate :=
  (spoken_takeoverJudge s).trans ((spoken_modesJudged _).trans (spoken_askedJudged _))

/-- Nothing to judge, nothing changes. -/
theorem arbitrate_eq_self {s : Dev} (ht : s.twin.takeDue = false) (ha : s.pwr.asked = none) (hf : ∀ f ∈ s.ring.flights, f.modeAsked = none) :
    s.arbitrate = s := by
  have htake : s.takeoverJudge = s := by simp [Dev.takeoverJudge, ht]
  have hnone : s.ring.flights.filter (fun f => f.modeAsked.isSome) = [] := List.filter_eq_nil_iff.2 fun f hm => by simp [hf f hm]
  have hmodes : s.modesJudged = s := by simp [Dev.modesJudged, hnone]
  have hasked : s.askedJudged = s := by simp [Dev.askedJudged, ha]
  rw [arbitrate_eq, htake, hmodes, hasked]

/-! ### A tick -/

/-- The transitions of a tick, judged. -/
def Dev.judged (s : Dev) : Dev := if s.coreOn then s.arbitrate.settle else s

/-- What acts on every tick and is no row of its own. -/
def Dev.tickWork (s : Dev) : Dev :=
  s.pinTick.convLive.adcTick.syncTick.hoopTick.ownPackets.ozhTick.takeoverTick.pfltTick.settle

theorem tick_eq (s : Dev) : s.tick = if (s.judged.modClk Clk.tick).coreOn && (s.judged.modClk Clk.tick).clk.running
    then (s.judged.modClk Clk.tick).tickWork else s.judged.modClk Clk.tick := rfl

theorem spoken_judged (s : Dev) : Spoken s s.judged := .ite ((spoken_arbitrate s).trans (steady_settle _).spoken) (.refl s)

/-- What a tick does before the unit's own packets. -/
theorem steady_beforeOwn (s : Dev) : Steady s s.pinTick.convLive.adcTick.syncTick.hoopTick :=
  ((((steady_pinTick s).trans (steady_applyLive _ _)).trans (steady_adcTick _)).trans (steady_syncTick _)).trans (steady_hoopTick _)

/-- What a tick does after the unit's own packets. -/
theorem steady_afterOwn (s : Dev) : Steady s s.ozhTick.takeoverTick.pfltTick.settle :=
  (((steady_ozhTick s).trans (steady_takeoverTick _)).trans (steady_pfltTick _)).trans (steady_settle _)

theorem grows_tickWork (s : Dev) : Grows s s.tickWork := ((steady_beforeOwn s).grows.trans (grows_ownPackets _)).trans (steady_afterOwn _).grows

theorem steady_tickWork {s : Dev} (h : NoSetw s) : Steady s s.tickWork :=
  ((steady_beforeOwn s).trans (steady_ownPackets ((steady_beforeOwn s).own h))).trans (steady_afterOwn _)

theorem grows_tick (s : Dev) : Grows s s.tick := by
  have hclk : Grows s (s.judged.modClk Clk.tick) := (spoken_judged s).out
  rw [tick_eq]
  exact .ite (hclk.trans (grows_tickWork _)) hclk

/-- Where no SETW waits, the clock after a tick is the clock of the judged state, one tick on. -/
theorem clk_tick {s : Dev} (h : NoSetw s) : s.tick.clk = s.judged.clk.tick := by
  have hown : NoSetw (s.judged.modClk Clk.tick) := (spoken_judged s).own h
  rw [tick_eq]
  split
  · exact (steady_tickWork hown).clk
  · rfl

theorem Clk.tick_now (c : Clk) : c.tick.now = c.now + 1 := by
  simp only [Clk.tick]
  split_ifs <;> rfl

theorem Clk.tick_phase (c : Clk) : c.tick.phase = 0 := by
  simp only [Clk.tick]
  split_ifs <;> rfl

theorem Clk.tick_run {c : Clk} (hr : c.running = true) (hs : c.skip = 0) : c.tick.wheel = c.wheel + 1 ∧ c.tick.prev = c.wheel := by
  simp [Clk.tick, hr, hs]

theorem Clk.tick_forward {c : Clk} (hr : c.running = true) (hs : 0 < c.skip) :
    c.tick.wheel = c.wheel + 2 ∧ c.tick.prev = c.wheel ∧ c.tick.skip = c.skip - 1 := by
  simp [Clk.tick, hr, hs]

theorem Clk.tick_held {c : Clk} (hr : c.running = true) (hs : c.skip < 0) :
    c.tick.wheel = c.wheel ∧ c.tick.prev = c.wheel ∧ c.tick.skip = c.skip + 1 := by
  have hnot : ¬0 < c.skip := by omega
  simp [Clk.tick, hr, hs, hnot]

theorem Clk.tick_stopped {c : Clk} (hr : c.running = false) : c.tick.wheel = c.wheel := by
  simp [Clk.tick, hr]

/-- Settles O2: a step on an empty queue is `idle`; a tick judges, advances the clock by `Clk.tick` and does work that leaves the clock. -/
theorem idleStepKeepsTime : Obligations.IdleStepKeepsTime := by
  intro s hempty
  have hstep : step s = idle s := by simp only [step, hempty]
  refine ⟨fun i c hrow => ?_, fun hnone => ?_⟩
  · simp only [hstep, idle, hrow]
  · refine ⟨{ s with dev := s.dev.tick }, by simp only [hstep, idle, hnone], hempty, rfl, grows_tick s.dev, fun ht ha hf => ?_, fun hown => ?_⟩
    · rw [arbitrate_eq_self ht ha hf]
      split
      · exact settle_clk s.dev
      · rfl
    · change s.dev.tick.clk.now = s.dev.judged.clk.now + 1 ∧ _
      rw [clk_tick hown]
      exact ⟨Clk.tick_now _, Clk.tick_phase _, Clk.tick_run, Clk.tick_forward, Clk.tick_held, Clk.tick_stopped⟩

end Sys2Proof.Machine
end

section
/-! SUPPORT. What a reset leaves, and what the loss of V3 or VCORE leaves (R79, R94, R95, R443). -/

namespace Sys2Proof.Machine

/-! ### The image slots and the registers after a reset -/

/-- One step of `slotsAfter`: the slot of an open sequence becomes EMPTY. -/
def Dev.emptySlot (s : Dev) (m : Tab Slot) (k : Nat) : Tab Slot :=
  if (s.updOf k).open_ then tabSet {} m (s.updSlot k) { tabGet {} m (s.updSlot k) with st := 0 } else m

theorem slotsAfter_eq (s : Dev) : s.slotsAfter = s.emptySlot (s.emptySlot s.flt.slots 0) 1 := rfl

theorem emptySlot_closed {s : Dev} {k : Nat} (h : (s.updOf k).open_ = false) (m : Tab Slot) : s.emptySlot m k = m := if_neg (by simp [h])

theorem emptySlot_open {s : Dev} {k : Nat} (h : (s.updOf k).open_ = true) (m : Tab Slot) : (tabGet {} (s.emptySlot m k) (s.updSlot k)).st = 0 := by
  rw [Dev.emptySlot, if_pos h, tabGet_tabSet_self]

/-- A slot that is EMPTY stays so. -/
theorem emptySlot_empty {m : Tab Slot} {j : Nat} (h : (tabGet {} m j).st = 0) (s : Dev) (k : Nat) : (tabGet {} (s.emptySlot m k) j).st = 0 := by
  unfold Dev.emptySlot
  split
  · rw [tabGet_tabSet]
    split
    · rfl
    · exact h
  · exact h

theorem slotsAfter_closed {s : Dev} (h : ∀ k < 2, (s.updOf k).open_ = false) : s.slotsAfter = s.flt.slots := by
  rw [slotsAfter_eq, emptySlot_closed (h 1 (by decide)), emptySlot_closed (h 0 (by decide))]

theorem slotsAfter_open {s : Dev} {k : Nat} (hk : k < 2) (h : (s.updOf k).open_ = true) : (tabGet {} s.slotsAfter (s.updSlot k)).st = 0 := by
  rw [slotsAfter_eq]
  obtain rfl | rfl : k = 0 ∨ k = 1 := by omega
  · exact emptySlot_empty (emptySlot_open h _) s 1
  · exact emptySlot_open h _

theorem coreReset_force (s : Dev) (off : Nat) : s.coreReset.force off = if aonReg off then s.force off else regReset off :=
  tabGet_tabKeep (regReset off) aonReg s.regs.force off

theorem coreReset_written (s : Dev) (off : Nat) : s.coreReset.written off = if aonReg off then s.written off else regReset off :=
  tabGet_tabKeep (regReset off) aonReg s.regs.written off

/-! ### A reset -/

/-- What every reset of `s` leaves: the clock stopped, engines and rings empty, every register outside the always-on domain at its reset value, and
the flash as it was but for the slot of an open update sequence (R79, R94, R443). -/
structure WasReset (s t : Dev) : Prop where
  running : t.clk.running = false
  now : t.clk.now = s.clk.now
  str : t.str = []
  rip : t.rip = []
  harp : t.harp = []
  car : t.car = []
  cult : t.cult = []
  wait : t.ring.wait = []
  cues : t.ring.cues = []
  flights : t.ring.flights = []
  regs : ∀ off, noteReg off = false → aonReg off = false → t.force off = regReset off ∧ t.written off = regReset off
  slots : t.flt.slots = s.slotsAfter

theorem wasReset_coreReset (s : Dev) : WasReset s s.coreReset where
  running := rfl
  now := rfl
  str := rfl
  rip := rfl
  harp := rfl
  car := rfl
  cult := rfl
  wait := rfl
  cues := rfl
  flights := rfl
  regs off _ ha := by
    rw [coreReset_force, coreReset_written, ha]
    exact ⟨rfl, rfl⟩
  slots := rfl

/-- A reset of a state with the same clock and flash is one of this state. -/
theorem WasReset.of_source {s s' t : Dev} (h : WasReset s' t) (hn : s'.clk.now = s.clk.now) (hs : s'.slotsAfter = s.slotsAfter) : WasReset s t :=
  { h with now := h.now.trans hn, slots := h.slots.trans hs }

/-- The power state, retention and the pins make no difference to it. -/
theorem WasReset.repower {s t : Dev} (h : WasReset s t) (p : Pwr) (k : Option OzhKept) (x : Pins) :
    WasReset s { t with pwr := p, ozhKept := k, pins := x } := { h with }

/-- The machine `t` in reset, from `s`, with its core unpowered. -/
def Dark (s t : State) : Prop :=
  t.rind = s.rind ∧ t.pending = s.pending ∧ t.dev.clk.running = false ∧
    t.dev.clk.now = s.dev.clk.now ∧ t.dev.str = [] ∧ t.dev.rip = [] ∧ t.dev.harp = [] ∧ t.dev.car = [] ∧ t.dev.cult = [] ∧
    t.dev.ring.cues = [] ∧ t.dev.ring.flights = [] ∧ t.dev.coreOn = false ∧
    (∀ off, noteReg off = false → aonReg off = false → t.dev.force off = regReset off ∧ t.dev.written off = regReset off) ∧
    ((∀ k < 2, (s.dev.updOf k).open_ = false) → t.dev.flt.slots = s.dev.flt.slots) ∧
    ∀ k < 2, (s.dev.updOf k).open_ = true → (t.dev.slotOf (s.dev.updSlot k)).st = 0

theorem WasReset.dark {s : State} {d : Dev} (h : WasReset s.dev d) (hcore : d.coreOn = false) : Dark s { s with dev := d.settle } := by
  have hq := quiet_settle d
  have hcues : d.settle.ring.cues = [] := ((messaged_settle d).still fun w hw => by simp [h.wait] at hw).2.trans h.cues
  generalize d.settle = e at hq hcues
  obtain ⟨⟨_, _, _, _, _, _, _, _, hring⟩, -⟩ := hq.ring
  obtain ⟨_, _, hflt⟩ := hq.flt
  have hslots : e.flt.slots = s.dev.slotsAfter := by rw [hflt, h.slots]
  have hclk : e.clk = d.clk := hq.clk
  refine ⟨rfl, rfl, (congrArg Clk.running hclk).trans h.running, (congrArg Clk.now hclk).trans h.now, hq.str.trans h.str,
    hq.rip.trans h.rip, hq.harp.trans h.harp, hq.car.trans h.car, hq.cult.trans h.cult, hcues, ?_, ?_, fun off hn ha => ?_, fun hclosed => ?_,
    fun k hk hopen => ?_⟩
  · exact (congrArg Ring.flights hring).trans h.flights
  · rw [Dev.coreOn, hq.pwr]
    exact hcore
  · exact ⟨(hq.force off hn).trans (h.regs off hn ha).1, (hq.written off hn).trans (h.regs off hn ha).2⟩
  · exact hslots.trans (slotsAfter_closed hclosed)
  · rw [Dev.slotOf, hslots]
    exact slotsAfter_open hk hopen

/-! ### A supply lost -/

theorem dropRetention_eq (s : Dev) : s.dropRetention = { s with
    pwr := { s.pwr with retained := s.pwr.retained && s.rb 0x81C 0 }, ozhKept := if s.rb 0x81C 0 then s.ozhKept else none } := by
  unfold Dev.dropRetention
  cases s.rb 0x81C 0
  · simp [Dev.modPwr]
  · simp

/-- The power state after a supply reset that ends in VAULT. -/
def Dev.pwrLost (s : Dev) (why : Nat) : Pwr :=
  { s.pwr with
    mode := .vault, wake := .idle, cause := 0, dozeEvent := false, dozeWake := false, sleepTo := none, request := none, asked := none,
    retValid := false, resetWhy := why, retained := s.pwr.retained && s.rb 0x81C 0,
    storedWheel := if s.clk.running then s.pwr.wheelCopy + 4096 else s.pwr.storedWheel,
    woscCount := if s.clk.running then 0 else s.pwr.woscCount }

theorem rb_coreReset (s : Dev) : s.coreReset.rb 0x81C 0 = s.rb 0x81C 0 := by
  rw [Dev.rb, coreReset_force]
  rfl

theorem supplyReset_eq (s : Dev) (why : Nat) : s.supplyReset why = { s.coreReset with
    pwr := { s.coreReset.pwr with
      storedWheel := if s.clk.running then s.pwr.wheelCopy + 4096 else s.pwr.storedWheel,
      woscCount := if s.clk.running then 0 else s.pwr.woscCount, resetWhy := why, retained := s.pwr.retained && s.rb 0x81C 0 },
    ozhKept := if s.rb 0x81C 0 then s.ozhKept else none } := by
  have hrb (f : Pwr → Pwr) : (s.coreReset.modPwr f).rb 0x81C 0 = s.rb 0x81C 0 := rb_coreReset s
  rw [Dev.supplyReset, dropRetention_eq, hrb]
  rfl

theorem supplyReset_toVault (s : Dev) (why : Nat) : (s.supplyReset why).toVault = { s.coreReset with
    pwr := s.pwrLost why, ozhKept := if s.rb 0x81C 0 then s.ozhKept else none, pins := { ext := s.pins.ext } } := by
  have hrb : (s.supplyReset why).rb 0x81C 0 = s.rb 0x81C 0 := by
    rw [supplyReset_eq]
    exact rb_coreReset s
  rw [toVault_eq, hrb, supplyReset_eq]
  cases h : s.rb 0x81C 0
  · simp only [Dev.pwrLost, h, Bool.and_false]
    rfl
  · simp only [Dev.pwrLost, h, Bool.and_true]
    rfl

/-- What noting the loss of V3 or VCORE leaves: the registers but PWR_FLAGS, and all else. -/
theorem noteV3Lost_only (s : Dev) : ∃ r, s.noteV3Lost = { s with regs := r } := by
  unfold Dev.noteV3Lost
  split
  · exact ⟨_, rfl⟩
  · exact ⟨(s.setFlag 0x82C 5).regs, rfl⟩

theorem noteV3Lost_other (s : Dev) {off : Nat} (h : off ≠ 0x82C) :
    s.noteV3Lost.force off = s.force off ∧ s.noteV3Lost.written off = s.written off := by
  unfold Dev.noteV3Lost
  split
  · exact ⟨rfl, rfl⟩
  · have hflag := sameReg_setFlag s 5 h
    exact ⟨hflag.force, hflag.written⟩

theorem rb_noteV3Lost (s : Dev) : s.noteV3Lost.rb 0x81C 0 = s.rb 0x81C 0 :=
  congrArg (fun w : Word => w.toNat.testBit 0) (noteV3Lost_other s (off := 0x81C) (by decide)).1

theorem noteV3Lost_flag (s : Dev) : s.noteV3Lost.force 0x82C = if s.pwr.mode = .vault then s.force 0x82C else s.force 0x82C ||| 0x20 := by
  unfold Dev.noteV3Lost
  split
  · rfl
  · exact flagged_force s 0x82C 5

/-- The device after the loss of V3 or VCORE, before what follows it (R79, R94). -/
def Dev.powerLost (s : Dev) : Dev := (s.noteV3Lost.supplyReset 3).toVault

theorem powerLost_eq (s : Dev) : s.powerLost = { s.noteV3Lost.coreReset with
    pwr := s.pwrLost 3, ozhKept := if s.rb 0x81C 0 then s.ozhKept else none, pins := { ext := s.pins.ext } } := by
  obtain ⟨r, hr⟩ := noteV3Lost_only s
  rw [Dev.powerLost, supplyReset_toVault, Dev.pwrLost, rb_noteV3Lost, hr]
  rfl

theorem powerLost_pwr (s : Dev) : s.powerLost.pwr = s.pwrLost 3 := by rw [powerLost_eq]

/-- What the loss of V3 or VCORE claims of the power state. -/
def Pwr.sameLoss (p q : Pwr) : Prop :=
  q.mode = p.mode ∧ q.resetWhy = p.resetWhy ∧ q.retained = p.retained ∧ q.storedWheel = p.storedWheel ∧ q.woscCount = p.woscCount

/-- The device `t` after the loss of V3 or VCORE, from `s`, whatever has followed it. -/
structure PowerLost (s t : Dev) : Prop where
  reset : WasReset s t
  pwr : (s.pwrLost 3).sameLoss t.pwr
  kept : t.ozhKept = if s.rb 0x81C 0 then s.ozhKept else none
  limp : t.clk.limp = s.clk.limp
  aon : ∀ off, aonReg off = true → off ≠ 0x82C → t.force off = s.force off ∧ t.written off = s.written off
  flag : t.force 0x82C = if s.pwr.mode = .vault then s.force 0x82C else s.force 0x82C ||| 0x20

theorem powerLost_powerLost (s : Dev) : PowerLost s s.powerLost := by
  obtain ⟨r, hr⟩ := noteV3Lost_only s
  have hreset := (wasReset_coreReset s.noteV3Lost).of_source (s := s) (by rw [hr]) (by rw [hr]; rfl)
  have hforce (off : Nat) : s.powerLost.force off = if aonReg off then s.noteV3Lost.force off else regReset off := by
    rw [powerLost_eq]
    exact coreReset_force s.noteV3Lost off
  have hwritten (off : Nat) : s.powerLost.written off = if aonReg off then s.noteV3Lost.written off else regReset off := by
    rw [powerLost_eq]
    exact coreReset_written s.noteV3Lost off
  refine ⟨?_, ?_, ?_, ?_, fun off ha ho => ?_, ?_⟩
  · rw [powerLost_eq]
    exact hreset.repower _ _ _
  · rw [powerLost_pwr]
    exact ⟨rfl, rfl, rfl, rfl, rfl⟩
  · rw [powerLost_eq]
  · rw [powerLost_eq, hr]
    rfl
  · rw [hforce, hwritten, ha]
    exact noteV3Lost_other s ho
  · rw [hforce]
    exact noteV3Lost_flag s

/-- What follows may change the power state but for what the loss claims of it. -/
theorem PowerLost.goes {s t : Dev} (h : PowerLost s t) {q : Pwr} (hq : t.pwr.sameLoss q) : PowerLost s { t with pwr := q } := by
  obtain ⟨hmode, hwhy, hret, hstored, hcount⟩ := h.pwr
  obtain ⟨hmode', hwhy', hret', hstored', hcount'⟩ := hq
  exact { h with
    reset := h.reset.repower q t.ozhKept t.pins
    pwr := ⟨hmode'.trans hmode, hwhy'.trans hwhy, hret'.trans hret, hstored'.trans hstored, hcount'.trans hcount⟩ }

/-- Whether V3 is in lockout makes no difference to the loss. -/
theorem PowerLost.of_v3Low {s t : Dev} {b : Bool} (h : PowerLost (s.modPwr (fun p => { p with v3Low := b })) t) : PowerLost s t :=
  { h with reset := h.reset.of_source rfl rfl }

/-- The machine `t` after the loss of V3 or VCORE, from `s`. -/
def Lost (s t : State) : Prop :=
  Dark s t ∧ t.dev.pwr.resetWhy = 3 ∧ t.dev.pwr.retained = (s.dev.pwr.retained && s.dev.rb 0x81C 0) ∧
    t.dev.ozhKept = (if s.dev.rb 0x81C 0 then s.dev.ozhKept else none) ∧
    t.dev.pwr.storedWheel = (if s.dev.clk.running then s.dev.pwr.wheelCopy + 4096 else s.dev.pwr.storedWheel) ∧
    t.dev.pwr.woscCount = (if s.dev.clk.running then 0 else s.dev.pwr.woscCount) ∧ t.dev.clk.limp = s.dev.clk.limp ∧
    (∀ off, aonReg off = true → off ≠ 0x82C → t.dev.force off = s.dev.force off ∧ t.dev.written off = s.dev.written off) ∧
    t.dev.force 0x82C = (if s.dev.pwr.mode = .vault then s.dev.force 0x82C else s.dev.force 0x82C ||| 0x20)

theorem noteReg_of_aonReg {off : Nat} (h : aonReg off = true) : noteReg off = false := by
  simp only [aonReg, List.contains_eq_mem, decide_eq_true_eq, List.mem_cons, List.not_mem_nil, or_false] at h
  obtain rfl | rfl | rfl | rfl | rfl | rfl := h <;> rfl

theorem PowerLost.lost {s : State} {d : Dev} (h : PowerLost s.dev d) : Lost s { s with dev := d.settle } := by
  obtain ⟨hmode, hwhy, hret, hstored, hcount⟩ := h.pwr
  have hdark := h.reset.dark (s := s) (by simp [Dev.coreOn, hmode, Dev.pwrLost])
  have hq := quiet_settle d
  generalize d.settle = e at hq hdark
  refine ⟨hdark, ?_, ?_, hq.ozhKept.trans h.kept, ?_, ?_, (congrArg Clk.limp hq.clk).trans h.limp, fun off ha ho => ?_,
    (hq.force _ rfl).trans h.flag⟩
  · exact (congrArg Pwr.resetWhy hq.pwr).trans hwhy
  · exact (congrArg Pwr.retained hq.pwr).trans hret
  · exact (congrArg Pwr.storedWheel hq.pwr).trans hstored
  · exact (congrArg Pwr.woscCount hq.pwr).trans hcount
  · have hn := noteReg_of_aonReg ha
    exact ⟨(hq.force off hn).trans (h.aon off ha ho).1, (hq.written off hn).trans (h.aon off ha ho).2⟩

end Sys2Proof.Machine
end

section
/-! SUPPORT. The commands that reset the device and those that end a reset (R52 to R54, R58, R79, R83, R94, R95, R98), and O40. -/

namespace Sys2Proof.Machine

/-! ### V3 in lockout -/

theorem waitV3_eq (s : Dev) (doze : Bool) :
    s.waitV3 doze = { s with pwr := { s.pwr with wake := if doze || s.pwr.vaultLock then s.pwr.wake else .v3wait } } := by
  unfold Dev.waitV3
  split <;> simp_all [Dev.modPwr]

/-- The device with V3 noted as in lockout. -/
def Dev.v3Gone (s : Dev) : Dev := s.modPwr (fun p => { p with v3Low := true })

/-- The steps of the wake sequence after the buck's. -/
def afterBuck : List Wake := [.refMeas, .crystal, .pll, .pause, .limpPll, .wheelWait, .steward]

/-- The lockout of V3 by the step of the wake sequence in which it comes (R58, R79, R98). -/
theorem v3Down_eq {s : Dev} (hlow : s.pwr.v3Low = false) : s.v3Down = match s.pwr.wake with
    | .por => s.v3Gone
    | .idle => if s.pwr.mode = .vault then s.v3Gone else s.v3Gone.powerLost
    | .v3wait => s.v3Gone
    | .buck => s.v3Gone.noteV3Lost.pgoodFail.waitV3 s.pwr.dozeWake
    | _ => s.v3Gone.powerLost.waitV3 s.pwr.dozeWake := by
  rw [Dev.v3Down, if_neg (by simp [hlow])]
  rfl

/-- Where V3 was in lockout already or nothing runs on it, the lockout is noted. -/
theorem v3Down_unused {s : Dev} (h : s.pwr.v3Low = true ∨ s.pwr.wake = .por ∨ s.pwr.wake = .v3wait ∨ (s.pwr.wake = .idle ∧ s.pwr.mode = .vault)) :
    s.v3Down = s.v3Gone := by
  by_cases hlow : s.pwr.v3Low = true
  · rw [Dev.v3Down, if_pos hlow, Dev.v3Gone, Dev.modPwr, ← hlow]
  · rw [v3Down_eq (eq_false_of_ne_true hlow)]
    obtain h | h | h | ⟨h, hm⟩ := h
    · exact absurd h hlow
    · rw [h]
    · rw [h]
    · rw [h]
      exact if_pos hm

theorem v3Down_afterBuck {s : Dev} (hlow : s.pwr.v3Low = false) (hw : s.pwr.wake ∈ afterBuck) :
    s.v3Down = s.v3Gone.powerLost.waitV3 s.pwr.dozeWake := by
  simp only [afterBuck, List.mem_cons, List.not_mem_nil, or_false] at hw
  obtain h | h | h | h | h | h | h := hw <;> rw [v3Down_eq hlow, h]

/-- A command after which V3 or VCORE has been lost. -/
theorem does_lost {c : Instr} {s : State} {d : Dev} (f : Dev → Dev) (hc : exec c s = onDev f s) (hd : f s.dev = d) (h : PowerLost s.dev d) :
    Does c s (fun t => Lost s t ∧ t.dev.pwr = d.pwr) :=
  (does_of_onDev f hc).2 ⟨by rw [hd]; exact h.lost, by rw [hd]; exact settle_pwr d⟩

theorem does_v3Lockout_idle {s : State} (hlow : s.dev.pwr.v3Low = false) (hw : s.dev.pwr.wake = .idle) (hm : s.dev.pwr.mode ≠ .vault) :
    Does .v3Lockout s (fun t => Lost s t ∧ t.dev.pwr = s.dev.v3Gone.pwrLost 3) := by
  have hd : s.dev.v3Down = s.dev.v3Gone.powerLost := by
    rw [v3Down_eq hlow, hw]
    exact if_neg hm
  have h := does_lost (c := .v3Lockout) _ (.refl (execV3Lockout s)) hd (powerLost_powerLost _).of_v3Low
  rwa [powerLost_pwr] at h

theorem does_v3Lockout_afterBuck {s : State} (hlow : s.dev.pwr.v3Low = false) (hw : s.dev.pwr.wake ∈ afterBuck) :
    Does .v3Lockout s (fun t => Lost s t ∧ t.dev.pwr = { s.dev.v3Gone.pwrLost 3 with
      wake := if s.dev.pwr.dozeWake || s.dev.pwr.vaultLock then .idle else .v3wait }) := by
  have hd : s.dev.v3Down = { s.dev.v3Gone.powerLost with pwr := { s.dev.v3Gone.pwrLost 3 with
      wake := if s.dev.pwr.dozeWake || s.dev.pwr.vaultLock then .idle else .v3wait } } := by
    rw [v3Down_afterBuck hlow hw, waitV3_eq, powerLost_pwr]
    rfl
  refine does_lost (c := .v3Lockout) _ (.refl (execV3Lockout s)) hd (PowerLost.goes (powerLost_powerLost _).of_v3Low ?_)
  rw [powerLost_pwr]
  exact ⟨rfl, rfl, rfl, rfl, rfl⟩

/-- V3 lost while the buck starts: a failed start, and no more (R87, R98). -/
theorem does_v3Lockout_buck {s : State} (hlow : s.dev.pwr.v3Low = false) (hw : s.dev.pwr.wake = .buck) :
    Does .v3Lockout s (fun t => KeepsBut [.pwr, .regs, .pins, .kept] s t ∧ t.dev.pwr = { s.dev.pwr with
      mode := .vault, v3Low := true, dozeWake := false, dozeEvent := false, lastFail := 1, pgoodFails := min 3 (s.dev.pwr.pgoodFails + 1),
      vaultLock := s.dev.pwr.vaultLock || decide (2 ≤ s.dev.pwr.pgoodFails), 
      retained := s.dev.pwr.retained && s.dev.rb 0x81C 0,
      wake := if s.dev.pwr.dozeWake || (s.dev.pwr.vaultLock || decide (2 ≤ s.dev.pwr.pgoodFails)) then .idle else .v3wait }) := by
  obtain ⟨r, hr⟩ := noteV3Lost_only s.dev.v3Gone
  have hfail := buckFailed_pgoodFail s.dev.v3Gone.noteV3Lost
  have hnote : Leaves [.pwr, .regs, .pins, .kept] (fun off => decide (off = 0x82C)) s.dev s.dev.v3Gone.noteV3Lost := by
    refine (leaves_modPwr (by decide) s.dev fun p => { p with v3Low := true }).trans (.ite (.refl _) ?_)
    exact leaves_setFlag (by decide) _ 5 (decide_eq_true rfl)
  refine does_of_quiet _ (.refl (execV3Lockout s)) (d := s.dev.v3Gone.noteV3Lost.pgoodFail.waitV3 s.dev.pwr.dozeWake)
    (by rw [v3Down_eq hlow, hw]) fun e he => ?_
  rw [waitV3_eq] at he
  refine ⟨((hnote.trans hfail.leaves).trans ((leaves_modPwr (by decide) _ fun p => { p with wake := _ }).trans (.of_quiet he))).keepsBut, he.pwr.trans ?_⟩
  rw [hfail.pwr, rb_noteV3Lost, hr]
  rfl

/-! ### V3 back -/

/-- The return of V3 by the step of the wake sequence in which it comes (R58, R83, R89, R98). -/
theorem v3Up_eq {s : Dev} (hlow : s.pwr.v3Low = true) : s.v3Up = match s.pwr.wake with
    | .v3wait => { s with pwr := { s.pwr with v3Low := false, wake := .buck, stepAt := s.clk.now, clkAttempts := 0 } }
    | .idle =>
      if s.pwr.mode = .vault && !s.pwr.vaultLock then (s.modPwr (fun p => { p with v3Low := false })).beginWake 2 0
      else { s with pwr := { s.pwr with v3Low := false } }
    | _ => { s with pwr := { s.pwr with v3Low := false } } := by
  rw [Dev.v3Up, if_neg (by simp [hlow])]
  rfl

/-- A wake sequence with V3 out of lockout starts with the buck (R85). -/
theorem beginWake_pwr (s : Dev) (cause pin : Nat) (h : s.pwr.v3Low = false) : s.beginWake cause pin = { s with pwr := { s.pwr with
    wake := .buck, stepAt := s.clk.now, wakeStart := s.clk.now, wakeCause := cause, wakePin := pin,
    fromDoze := s.pwr.mode = .doze, dozeWake := false, latched := none, clkAttempts := 0 } } := by
  simp [Dev.beginWake, Dev.modPwr, h]

theorem does_v3LockoutExit_plain {s : State} (hlow : s.dev.pwr.v3Low = true) (hw : s.dev.pwr.wake ≠ .v3wait)
    (h : s.dev.pwr.wake = .idle → s.dev.pwr.mode ≠ .vault ∨ s.dev.pwr.vaultLock = true) :
    Does .v3LockoutExit s (fun t => KeepsBut [.pwr] s t ∧ t.dev.pwr = { s.dev.pwr with v3Low := false }) := by
  refine does_pwr (c := .v3LockoutExit) _ (.refl (execV3LockoutExit s)) ?_
  rw [v3Up_eq hlow]
  split
  · next hwait => exact absurd hwait hw
  · next hidle => exact if_neg (by simpa [or_iff_not_imp_left] using h hidle)
  · rfl

/-! ### VCORE -/

/-- Whether VCORE has come up, so that its loss resets the device. -/
def Dev.vcoreUp (s : Dev) : Bool :=
  match s.pwr.wake with
  | .por => false
  | .v3wait => false
  | .buck => false
  | .idle => s.coreOn
  | _ => true

theorem vcoreUp_iff (s : Dev) : s.vcoreUp = true ↔ s.coreOn = true ∨ s.pwr.wake ∈ afterBuck := by
  cases h : s.pwr.wake <;> simp [Dev.vcoreUp, Dev.coreOn, afterBuck, h]

/-- What the loss of VCORE leaves of the power state: VAULT, and the wake sequence begun where V3 is there. -/
def Dev.pwrVcoreLost (s : Dev) : Pwr :=
  if s.pwr.v3Low then s.pwrLost 3
  else { s.pwrLost 3 with
    wake := .buck, stepAt := s.clk.now, wakeStart := s.clk.now, wakeCause := 2, wakePin := 0, fromDoze := false, dozeWake := false,
    latched := none, clkAttempts := 0 }

theorem does_vcorePgoodLoss {s : State} (h : s.dev.vcoreUp = true) :
    Does .vcorePgoodLoss s (fun t => Lost s t ∧ t.dev.pwr = s.dev.pwrVcoreLost) := by
  have hlost := powerLost_powerLost s.dev
  have hlow : s.dev.powerLost.pwr.v3Low = s.dev.pwr.v3Low := by
    rw [powerLost_pwr]
    rfl
  by_cases hv3 : s.dev.pwr.v3Low = true
  · rw [Dev.pwrVcoreLost, if_pos hv3, ← powerLost_pwr]
    exact does_lost (c := .vcorePgoodLoss) _ (.refl (execVcorePgoodLoss s)) ((if_pos h).trans (if_pos (hlow.trans hv3))) hlost
  · have hbegin : s.dev.powerLost.beginWake 2 0 = { s.dev.powerLost with pwr := s.dev.pwrVcoreLost } := by
      rw [beginWake_pwr _ _ _ (hlow.trans (eq_false_of_ne_true hv3)), powerLost_pwr, hlost.reset.now, Dev.pwrVcoreLost, if_neg hv3]
      rfl
    refine does_lost (c := .vcorePgoodLoss) _ (.refl (execVcorePgoodLoss s))
      (((if_pos h).trans (if_neg (hlow.trans_ne hv3))).trans hbegin) (hlost.goes ?_)
    rw [powerLost_pwr, Dev.pwrVcoreLost, if_neg hv3]
    exact ⟨rfl, rfl, rfl, rfl, rfl⟩

/-! ### Power-on reset and RST_N -/

/-- The machine `t` held in a power-on reset, from `s`. -/
def Cold (s t : State) : Prop :=
  Dark s t ∧ t.dev.ozhKept = none ∧ t.dev.pwr.wake = .por ∧ t.dev.pwr.cold = true ∧
    t.dev.pwr.retained = false ∧ t.dev.pwr.vaultLock = false ∧ t.dev.clk = { now := s.dev.clk.now, refHz := s.dev.clk.refHz } ∧
    t.dev.ozh.fc = 0 ∧ ∀ off, noteReg off = false → t.dev.force off = regReset off ∧ t.dev.written off = regReset off

theorem wasReset_porReset (s : Dev) : WasReset s s.porReset :=
  { wasReset_coreReset s with
    running := rfl
    now := rfl
    regs := fun _ _ _ => ⟨rfl, rfl⟩ }

/-- A power-on reset, whatever becomes of VBAT with it. -/
theorem does_porReset {c : Instr} {s : State} {b : Bool} (f : Dev → Dev) (hc : exec c s = onDev f s)
    (hd : f s.dev = { s.dev with pwr := { s.dev.pwr with vbatLow := b } }.porReset) :
    Does c s (fun t => Cold s t ∧ t.dev.pwr.vbatLow = b) := by
  have hdark := ((wasReset_porReset { s.dev with pwr := { s.dev.pwr with vbatLow := b } }).of_source (s := s.dev) rfl rfl).dark (s := s) rfl
  have hq := quiet_settle { s.dev with pwr := { s.dev.pwr with vbatLow := b } }.porReset
  rw [does_of_onDev f hc, hd]
  generalize { s.dev with pwr := { s.dev.pwr with vbatLow := b } }.porReset.settle = e at hq hdark
  refine ⟨⟨hdark, hq.ozhKept, ?_, ?_, ?_, ?_, hq.clk, ?_, fun off hn => ⟨hq.force off hn, hq.written off hn⟩⟩, ?_⟩
  · exact congrArg Pwr.wake hq.pwr
  · exact congrArg Pwr.cold hq.pwr
  · exact congrArg Pwr.retained hq.pwr
  · exact congrArg Pwr.vaultLock hq.pwr
  · exact congrArg Ozh.fc hq.ozh
  · exact congrArg Pwr.vbatLow hq.pwr

/-- The power state once a reset is released: a wake sequence with its cause, or VAULT where V3 is in lockout (R79). -/
def Dev.pwrReleased (s : Dev) (cause : Nat) : Pwr :=
  if s.pwr.v3Low then { s.pwr with wake := .idle, mode := .vault }
  else { s.pwr with
    wake := .buck, stepAt := s.clk.now, wakeStart := s.clk.now, wakeCause := cause, wakePin := 0, fromDoze := s.pwr.mode = .doze,
    dozeWake := false, latched := none, clkAttempts := 0 }

theorem release_eq (s : Dev) (cause : Nat) : s.release cause = { s with pwr := s.pwrReleased cause } := by
  unfold Dev.release Dev.pwrReleased
  split
  · rfl
  · next h => exact beginWake_pwr s cause 0 (eq_false_of_ne_true h)

/-- Settles O40: each loss by the reset that it is and what follows it, each return by the wake sequence that it begins. -/
theorem resetsKeepTheRind : Obligations.ResetsKeepTheRind := by
  intro s
  refine ⟨fun h => ?_, fun hlow hw hm => ?_, fun hlow hw => ?_, fun hlow hw hlock => ?_, fun hlow => ?_, fun hlow hw hm hlock => ?_,
    fun hlow hw => ?_, fun hlow hw h => ?_, fun h => ?_, fun hoff hw => ?_, ?_, ?_, fun v3 wx hw => ?_, fun v3 wx hw => ?_, fun hw hbat => ?_,
    fun h => ?_⟩
  · exact does_pwr (c := .v3Lockout) _ (.refl (execV3Lockout s)) (v3Down_unused h)
  · obtain ⟨t, ht, hlost, hpwr⟩ := does_v3Lockout_idle hlow hw hm
    exact ⟨t, ht, hlost, by rw [hpwr]; exact ⟨rfl, rfl, rfl⟩⟩
  · obtain ⟨t, ht, hkeeps, hpwr⟩ := does_v3Lockout_buck hlow hw
    exact ⟨t, ht, hkeeps, by rw [hpwr]; exact ⟨rfl, rfl, rfl, rfl, rfl⟩⟩
  · obtain ⟨t, ht, hlost, hpwr⟩ := does_v3Lockout_afterBuck hlow hw
    refine ⟨t, ht, hlost, ?_⟩
    rw [hpwr, hlock, Bool.or_false]
    exact ⟨rfl, rfl, rfl, rfl⟩
  · exact does_nothing _ (.refl (execV3LockoutExit s)) (if_pos (by simp [hlow]))
  · obtain ⟨t, ht, hkeeps, hpwr⟩ := does_pwr (c := .v3LockoutExit) (s := s) (q := ((s.dev.modPwr (fun p => { p with v3Low := false })).beginWake 2 0).pwr)
      _ (.refl (execV3LockoutExit s)) (by rw [v3Up_eq hlow, hw]; exact if_pos (by simp [hm, hlock]))
    exact ⟨t, ht, hkeeps, by rw [hpwr]; exact ⟨rfl, rfl, rfl⟩⟩
  · exact does_pwr (c := .v3LockoutExit) _ (.refl (execV3LockoutExit s)) (by rw [v3Up_eq hlow, hw])
  · exact does_v3LockoutExit_plain hlow hw h
  · obtain ⟨t, ht, hlost, hpwr⟩ := does_vcorePgoodLoss ((vcoreUp_iff s.dev).2 h)
    refine ⟨t, ht, hlost, ?_⟩
    rw [hpwr, Dev.pwrVcoreLost]
    split
    · exact ⟨rfl, rfl⟩
    · exact ⟨rfl, rfl, rfl⟩
  · refine does_nothing _ (.refl (execVcorePgoodLoss s)) (if_neg fun h => ?_)
    exact ((vcoreUp_iff s.dev).1 h).elim (by simp [hoff]) hw
  · exact does_porReset (c := .vbatLow) _ (.refl (execVbatLow s)) rfl
  · exact does_porReset (c := .rstN) _ (.refl (execRstN s)) rfl
  · obtain ⟨t, ht, hkeeps, hpwr⟩ := does_pwr (c := .powerOnReset ⟨v3, wx⟩) _ (.refl (execPowerOnReset ⟨v3, wx⟩ s))
      ((if_pos hw).trans (release_eq _ 0))
    refine ⟨t, ht, hkeeps, ?_⟩
    rw [hpwr]
    cases v3
    · exact ⟨rfl, rfl, rfl, rfl, rfl⟩
    · exact ⟨rfl, rfl, rfl, rfl, rfl⟩
  · exact does_nothing _ (.refl (execPowerOnReset ⟨v3, wx⟩ s)) (if_neg hw)
  · obtain ⟨t, ht, hkeeps, hpwr⟩ := does_pwr (c := .rstNRelease) _ (.refl (execRstNRelease s))
      ((if_pos (by simp [hw, hbat])).trans (release_eq s.dev 1))
    refine ⟨t, ht, hkeeps, ?_⟩
    rw [hpwr, Dev.pwrReleased]
    split
    · exact ⟨rfl, rfl⟩
    · exact ⟨rfl, rfl⟩
  · refine does_nothing _ (.refl (execRstNRelease s)) (if_neg fun hgo => ?_)
    obtain ⟨hw, hbat⟩ : s.dev.pwr.wake = .por ∧ s.dev.pwr.vbatLow = false := by simpa using hgo
    simp [hw, hbat] at h

end Sys2Proof.Machine
end

section
/-! SUPPORT. VIN and VROW in lockout: strings stopped, and the row switch in use off (R57, R60, R61). -/

namespace Sys2Proof.Machine

/-! ### What a halt of a string leaves -/

theorem leaves_stringHalt_str (s : Dev) (l : Nat) : Leaves [.str] (fun _ => false) s (s.stringHalt l) :=
  Leaves.trans (leaves_modStr (by decide) s l _) (.forEach (fun s n => leaves_modStr (by decide) s n _) _ _)

theorem strOf_modStr (s : Dev) (n m : Nat) (f : Str → Str) : (s.modStr n f).strOf m = if m = n then f (s.strOf n) else s.strOf m :=
  tabGet_tabSet _ _ _ _ _

/-- A fold of changes to strings that leave whether they switch. -/
theorem switching_forEach {g : Dev → Nat → Dev} (hg : ∀ s n, ∃ f : Str → Str, g s n = s.modStr n f ∧ ∀ x, (f x).switching = x.switching)
    (m : Nat) (xs : List Nat) (s : Dev) : ((forEach xs g s).strOf m).switching = (s.strOf m).switching := by
  refine foldl_of_step (R := fun s t : Dev => (t.strOf m).switching = (s.strOf m).switching) (fun _ => rfl) (fun h k => k.trans h) (fun s n => ?_) xs s
  obtain ⟨f, hgf, hf⟩ := hg s n
  rw [hgf, strOf_modStr]
  split
  · next h => rw [hf, h]
  · rfl

theorem switching_stringHalt (s : Dev) (l m : Nat) :
    ((s.stringHalt l).strOf m).switching = if m = l then false else (s.strOf m).switching := by
  refine (switching_forEach (fun s n => ⟨_, rfl, fun x => ?_⟩) m _ _).trans ?_
  · rfl
  · rw [strOf_modStr]
    split <;> rfl

/-! ### VIN lockout -/

/-- Whether a string runs with a level, so that it reports the lockout. -/
def Dev.lit (s : Dev) (n : Nat) : Bool := (s.strOf n).switching && decide ((s.chanOf n).level ≠ 0)

/-- The strings' report of a lockout. -/
def Dev.vinTold (s : Dev) (n : Nat) : Dev := if (s.chanOf n).level ≠ 0 then (s.setFlag 0x2020 1).eventOk 0x0306 (n + 256 * n) else s

/-- A running string that VIN leaves without supply: with a level it reports it, and it stops (R57, R60). -/
def Dev.vinStop (s : Dev) (n : Nat) : Dev := if (s.strOf n).switching then (s.vinTold n).stringHalt n else s

theorem leaves_vinTold (s : Dev) (n : Nat) : Leaves [.str, .regs] (fun off => decide (off = 0x2020)) s (s.vinTold n) :=
  .ite ((leaves_setFlag (by decide) s 1 (decide_eq_true rfl)).trans (.of_quiet (quiet_eventOk _ _ _))) (.refl s)

theorem leaves_vinStop (s : Dev) (n : Nat) : Leaves [.str, .regs] (fun off => decide (off = 0x2020)) s (s.vinStop n) := by
  refine .ite ((leaves_vinTold s n).trans ?_) (.refl s)
  exact (leaves_stringHalt_str _ n).mono (by decide) fun _ _ => rfl

/-- VIN noted as in lockout. -/
def Dev.vinGone (s : Dev) : Dev := s.modPwr (fun p => { p with vinLow := true, vinSusp := true, vinEnd := none })

theorem vinDown_eq {s : Dev} (h : s.pwr.vinLow = false) : s.vinDown = forEach (upTo 16) Dev.vinStop s.vinGone := by
  rw [Dev.vinDown, if_neg (by simp [h])]
  rfl

theorem switching_vinStop (s : Dev) (n m : Nat) : ((s.vinStop n).strOf m).switching = if m = n then false else (s.strOf m).switching := by
  have htold : (s.vinTold n).strOf m = s.strOf m := by
    unfold Dev.strOf Dev.vinTold
    split
    · rw [(quiet_eventOk _ _ _).str]
      rfl
    · rfl
  by_cases h : (s.strOf n).switching = true
  · have hstop : s.vinStop n = (s.vinTold n).stringHalt n := if_pos h
    rw [hstop, switching_stringHalt, htold]
  · have hstop : s.vinStop n = s := if_neg h
    rw [hstop]
    split
    · next hm => rw [hm, eq_false_of_ne_true h]
    · rfl

theorem chan_vinStop (s : Dev) (n : Nat) : (s.vinStop n).chan = s.chan := (leaves_vinStop s n).same .chan (by decide) ⟨[], s, {}⟩

theorem lit_vinStop (s : Dev) {n m : Nat} (h : m ≠ n) : (s.vinStop n).lit m = s.lit m := by
  rw [Dev.lit, switching_vinStop, if_neg h, Dev.chanOf, chan_vinStop]
  rfl

theorem flag_vinTold (s : Dev) (n : Nat) :
    (s.vinTold n).force 0x2020 = if (s.chanOf n).level ≠ 0 then s.force 0x2020 ||| 2 else s.force 0x2020 := by
  unfold Dev.vinTold
  split
  · exact ((quiet_eventOk _ _ _).force _ rfl).trans (flagged_force s 0x2020 1)
  · rfl

/-- A string that runs with a level sets DIM_SUPPLY's flag; any other leaves it. -/
theorem flag_vinStop (s : Dev) (n : Nat) : (s.vinStop n).force 0x2020 = if s.lit n then s.force 0x2020 ||| 2 else s.force 0x2020 := by
  unfold Dev.vinStop Dev.lit
  by_cases hsw : (s.strOf n).switching = true
  · have hhalt := ((leaves_stringHalt_str (s.vinTold n) n).regs 0x2020 rfl rfl).1
    rw [if_pos hsw, hhalt, flag_vinTold, hsw, Bool.true_and]
    simp only [decide_eq_true_eq]
  · rw [if_neg hsw, eq_false_of_ne_true hsw]
    rfl

theorem flag_foldl_vinStop {xs : List Nat} (hx : xs.Nodup) (s : Dev) :
    (xs.foldl Dev.vinStop s).force 0x2020 = if xs.any s.lit then s.force 0x2020 ||| 2 else s.force 0x2020 := by
  induction xs generalizing s with
  | nil => rfl
  | cons n xs ih =>
    rw [List.nodup_cons] at hx
    have hlit : xs.any (s.vinStop n).lit = xs.any s.lit := by
      rw [Bool.eq_iff_iff, List.any_eq_true, List.any_eq_true]
      exact exists_congr fun m => and_congr_right fun hm => by rw [lit_vinStop s (ne_of_mem_of_not_mem hm hx.1)]
    rw [List.foldl_cons, ih hx.2, hlit, flag_vinStop, List.any_cons]
    cases s.lit n <;> cases xs.any s.lit <;> simp [BitVec.or_assoc]

theorem does_vinLockout {s : State} (h : s.dev.pwr.vinLow = false) : Does .vinLockout s (fun t =>
    KeepsBut [.pwr, .str, .regs] s t ∧ RegsBut (· = 0x2020) s t ∧
      t.dev.pwr = { s.dev.pwr with vinLow := true, vinSusp := true, vinEnd := none } ∧ (∀ n < 16, (t.dev.strOf n).switching = false) ∧
      t.dev.force 0x2020 = if (upTo 16).any s.dev.lit then s.dev.force 0x2020 ||| 2 else s.dev.force 0x2020) := by
  refine does_of_quiet _ (.refl (execVinLockout s)) (vinDown_eq h) fun e he => ?_
  have hstops := Leaves.forEach leaves_vinStop (upTo 16) s.dev.vinGone
  have hleaves : Leaves [.pwr, .str, .regs] (fun off => decide (off = 0x2020)) s.dev e :=
    ((leaves_modPwr (by decide) s.dev _).trans (hstops.mono (by decide) fun _ h => h)).trans (.of_quiet he)
  refine ⟨hleaves.keepsBut, hleaves.regsBut, he.pwr.trans (hstops.same .pwr (by decide) s), fun n hn => ?_, ?_⟩
  · rw [Dev.strOf, he.str]
    exact forEach_units (get := fun d m => (d.strOf m).switching) (f := fun _ _ => false) switching_vinStop hn s.dev.vinGone
  · exact (he.force _ rfl).trans (flag_foldl_vinStop List.nodup_range s.dev.vinGone)

/-! ### VROW lockout -/

/-- From `s` to `t` only the matrix has changed, and its row switch is as it was. -/
def OnlyMtx (s t : Dev) : Prop := ∃ m, t = { s with mtx := m } ∧ m.cut = s.mtx.cut

theorem onlyMtx_modPos (s : Dev) (n : Nat) (f : Pos → Pos) : OnlyMtx s (s.modPos n f) := ⟨_, rfl, rfl⟩

theorem OnlyMtx.forEach {f : Dev → Nat → Dev} (hf : ∀ s n, OnlyMtx s (f s n)) (xs : List Nat) (s : Dev) : OnlyMtx s (forEach xs f s) := by
  refine foldl_of_step (fun s => ⟨s.mtx, rfl, rfl⟩) (fun h k => ?_) hf xs s
  obtain ⟨m, rfl, hm⟩ := h
  obtain ⟨n, rfl, hn⟩ := k
  exact ⟨n, rfl, hn.trans hm⟩

/-- Cutting the slot turns the row switch off and changes the matrix alone. -/
theorem cutSlot_only (s : Dev) : ∃ m, s.cutSlot = { s with mtx := m } ∧ m.cut = true := by
  obtain ⟨m, hm, hcut⟩ : OnlyMtx (s.modMtx _) s.cutSlot := by
    refine OnlyMtx.forEach (fun d c => ?_) (upTo 64) _
    split
    · exact onlyMtx_modPos d _ _
    · exact ⟨d.mtx, rfl, rfl⟩
  exact ⟨m, hm, hcut⟩

/-- VROW noted as in lockout. -/
def Dev.vrowGone (s : Dev) : Dev := s.modPwr (fun p => { p with vrowLow := true, vrowSusp := true, vrowEnd := none })

/-- A row switch in use goes off, and the host is told. -/
def Dev.rowDropped (s : Dev) : Dev := (s.cutSlot.setFlag 0x301C 1).eventOk 0x0403 0

theorem does_vrowLockout_driving {s : State} (h : s.dev.pwr.vrowLow = false) (hdrive : s.dev.mtx.driving = true) : Does .vrowLockout s (fun t =>
    KeepsBut [.pwr, .mtx, .regs] s t ∧ RegsBut (· = 0x301C) s t ∧ t.dev.pwr = s.dev.vrowGone.pwr ∧
      t.dev.mtx.cut = true ∧ t.dev.force 0x301C = s.dev.force 0x301C ||| 2 ∧ Tells 0x0403 0 s t) := by
  obtain ⟨m, hm, hcut⟩ := cutSlot_only s.dev.vrowGone
  refine does_of_quiet _ (.refl (execVrowLockout s)) (d := s.dev.vrowGone.rowDropped)
    ((if_neg (by simp [h])).trans (if_pos hdrive)) fun e he => ?_
  have hengine : SameEngine s.dev (s.dev.vrowGone.cutSlot.setFlag 0x301C 1) := by
    rw [hm]
    exact .trans (t := { s.dev.vrowGone with mtx := m }) (.of_eq rfl rfl rfl rfl) (sameEngine_setFlag _ 1 (by decide) (.inr (by decide)))
  have hq := (quiet_eventOk (s.dev.vrowGone.cutSlot.setFlag 0x301C 1) 0x0403 0).trans he
  rw [hm] at hq
  have hleaves : Leaves [.pwr, .mtx, .regs] (fun off => decide (off = 0x301C)) s.dev e :=
    (((leaves_modPwr (by decide) s.dev _).trans (leaves_modMtx (by decide) s.dev.vrowGone fun _ => m)).trans
      (leaves_setFlag (by decide) _ 1 (decide_eq_true rfl))).trans (.of_quiet hq)
  exact ⟨hleaves.keepsBut, hleaves.regsBut, hq.pwr, (congrArg Mtx.cut hq.mtx).trans hcut, (hq.force _ rfl).trans (flagged_force _ _ _),
    tells_of_eventOk hengine he.out⟩

theorem does_vrowLockout_off {s : State} (h : s.dev.pwr.vrowLow = false) (hdrive : s.dev.mtx.driving = false) : Does .vrowLockout s (fun t =>
    KeepsBut [.pwr, .mtx, .regs] s t ∧ RegsBut (· = 0x301C) s t ∧ t.dev.pwr = s.dev.vrowGone.pwr ∧
      t.dev.mtx = s.dev.mtx ∧ t.dev.force 0x301C = s.dev.force 0x301C) := by
  refine does_of_quiet _ (.refl (execVrowLockout s)) (d := s.dev.vrowGone) ((if_neg (by simp [h])).trans (if_neg (by simp [hdrive]))) fun e he => ?_
  have hleaves : Leaves [.pwr, .mtx, .regs] (fun off => decide (off = 0x301C)) s.dev e := (leaves_modPwr (by decide) s.dev _).trans (.of_quiet he)
  exact ⟨hleaves.keepsBut, hleaves.regsBut, he.pwr, he.mtx, he.force _ rfl⟩

theorem does_vrowLockout {s : State} (h : s.dev.pwr.vrowLow = false) : Does .vrowLockout s (fun t =>
    KeepsBut [.pwr, .mtx, .regs] s t ∧ RegsBut (· = 0x301C) s t ∧ t.dev.pwr = s.dev.vrowGone.pwr ∧
      (s.dev.mtx.driving = true → t.dev.mtx.cut = true ∧ t.dev.force 0x301C = s.dev.force 0x301C ||| 2 ∧ Tells 0x0403 0 s t) ∧
      (s.dev.mtx.driving = false → t.dev.mtx = s.dev.mtx ∧ t.dev.force 0x301C = s.dev.force 0x301C)) := by
  cases hdrive : s.dev.mtx.driving with
  | true =>
    obtain ⟨t, ht, hkeeps, hregs, hpwr, hcut⟩ := does_vrowLockout_driving h hdrive
    exact ⟨t, ht, hkeeps, hregs, hpwr, fun _ => hcut, nofun⟩
  | false =>
    obtain ⟨t, ht, hkeeps, hregs, hpwr, hsame⟩ := does_vrowLockout_off h hdrive
    exact ⟨t, ht, hkeeps, hregs, hpwr, nofun, fun _ => hsame⟩

end Sys2Proof.Machine
end

section
/-! SUPPORT. VIO_H in lockout and back: pins high-Z, the flags of the Harps that own them, and pins sampled again (R62, R265, R278). -/

namespace Sys2Proof.Machine

/-! ### Edges -/

theorem onlyHarps_pinEdge (s : Dev) (p : Nat) (rising : Bool) : OnlyHarps s (s.pinEdge p rising) := by
  unfold Dev.pinEdge
  simp only
  split
  · split
    · exact ⟨_, rfl⟩
    · exact .refl s
  · exact .refl s

theorem onlyHarps_pinEdges (rising : Bool) (ps : List Nat) (s : Dev) : OnlyHarps s (forEach ps (fun s p => s.pinEdge p rising) s) :=
  foldl_of_step .refl .trans (fun s p => onlyHarps_pinEdge s p rising) ps s

/-! ### The Harps' flags -/

/-- Whether Harp `n` is enabled and owns a pin, so that it reports a lockout of VIO_H (R278). -/
def Dev.harpPinned (s : Dev) (n : Nat) : Bool := s.rb (hrpOff n) 0 && (upTo 32).any (fun p => s.pinOwner p = n)

/-- That report. -/
def Dev.vioFlag (s : Dev) (n : Nat) : Dev := if s.harpPinned n then (s.setFlag 0x5008 (8 + n)).eventOk 0x0702 n else s

theorem harpVio_eq (s : Dev) : s.harpVio = forEach (upTo 8) Dev.vioFlag s := rfl

theorem leaves_vioFlag (s : Dev) (n : Nat) : Leaves [.regs] (fun off => decide (off = 0x5008)) s (s.vioFlag n) :=
  .ite ((leaves_setFlag (by decide) s _ (decide_eq_true rfl)).trans (.of_quiet (quiet_eventOk _ _ _))) (.refl s)

theorem harpPinned_iff (s : Dev) (n : Nat) : s.harpPinned n = true ↔ s.rb (hrpOff n) 0 = true ∧ ∃ k < 32, s.pinOwner k = n := by
  simp [Dev.harpPinned, upTo]

/-- Whether a Harp owns a pin depends on registers that the reports leave. -/
theorem harpPinned_vioFlag (s : Dev) (m : Nat) {n : Nat} (hn : n < 8) : (s.vioFlag m).harpPinned n = s.harpPinned n := by
  have hforce (off : Nat) (h : 0x5010 ≤ off) (h' : off < 0x6000) : (s.vioFlag m).force off = s.force off :=
    ((leaves_vioFlag s m).regs off (noteReg_pins (by omega) h') (by simp; omega)).1
  have howner (k : Nat) (hk : k < 32) : (s.vioFlag m).pinOwner k = s.pinOwner k := by
    rw [Dev.pinOwner, Dev.rf, hforce _ (by omega) (by omega)]
    rfl
  have hen : (s.vioFlag m).rb (hrpOff n) 0 = s.rb (hrpOff n) 0 := by
    rw [Dev.rb, hforce _ (by unfold hrpOff; omega) (by unfold hrpOff; omega)]
    rfl
  rw [Bool.eq_iff_iff, harpPinned_iff, harpPinned_iff, hen]
  exact and_congr_right fun _ => exists_congr fun k => and_congr_right fun hk => by rw [howner k hk]

/-- A flag of a Harp stays set. -/
theorem rb_vioFlag_of_set {s : Dev} {i : Nat} (h : s.rb 0x5008 i = true) (n : Nat) : (s.vioFlag n).rb 0x5008 i = true := by
  unfold Dev.vioFlag
  split
  · rw [Dev.rb, (quiet_eventOk _ _ _).force _ rfl, flagged_force]
    exact testBit_toNat_or h
  · exact h

theorem rb_vioFlag_self {s : Dev} {n : Nat} (hn : n < 8) (h : s.harpPinned n = true) : (s.vioFlag n).rb 0x5008 (8 + n) = true := by
  rw [Dev.vioFlag, if_pos h, Dev.rb, (quiet_eventOk _ _ _).force _ rfl]
  exact rb_setFlag s 0x5008 (by omega)

theorem rb_foldl_vioFlag {n : Nat} (hn : n < 8) {xs : List Nat} (hx : n ∈ xs) {s : Dev} (h : s.harpPinned n = true) :
    (xs.foldl Dev.vioFlag s).rb 0x5008 (8 + n) = true := by
  induction xs generalizing s with
  | nil => exact absurd hx List.not_mem_nil
  | cons m xs ih =>
    obtain rfl | hx := List.mem_cons.1 hx
    · exact foldl_of_step (R := fun s t : Dev => s.rb 0x5008 (8 + n) = true → t.rb 0x5008 (8 + n) = true) (fun _ => id) (fun h k => k ∘ h)
        (fun s m h => rb_vioFlag_of_set h m) xs _ (rb_vioFlag_self hn h)
    · exact ih hx ((harpPinned_vioFlag s m hn).trans h)

/-! ### VIO_H lockout -/

/-- VIO_H noted as in lockout. -/
def Dev.vioGone (s : Dev) : Dev := s.modPwr (fun p => { p with vioLow := true })

/-- The device with VIO_H in lockout, where it was not. -/
structure VioDown (s t : Dev) : Prop where
  leaves : Leaves [.pwr, .harp, .regs] (fun off => decide (off = 0x5008)) s t
  pwr : t.pwr = s.vioGone.pwr
  flags : s.coreOn = true → ∀ n < 8, s.harpPinned n = true → t.rb 0x5008 (8 + n) = true

theorem vioDown_vioDown {s : Dev} (h : s.pwr.vioLow = false) : VioDown s s.vioDown := by
  have hgone : Leaves [.pwr, .harp, .regs] (fun off => decide (off = 0x5008)) s s.vioGone := leaves_modPwr (by decide) s _
  by_cases hon : s.coreOn = true
  · have hd : s.vioDown = (forEach ((upTo 32).filter (fun p => s.pinLevel p)) (fun s p => s.pinEdge p false) s.vioGone).harpVio := by
      rw [Dev.vioDown, if_neg (by simp [h])]
      exact if_pos hon
    obtain ⟨x, hx⟩ := onlyHarps_pinEdges false ((upTo 32).filter (fun p => s.pinLevel p)) s.vioGone
    rw [hd, hx, harpVio_eq]
    have hflags := Leaves.forEach leaves_vioFlag (upTo 8) { s.vioGone with harp := x }
    refine ⟨(hgone.trans (.one (a := .harp) (by decide) rfl)).trans (hflags.mono (by decide) fun _ h => h),
      hflags.same .pwr (by decide) ⟨[], s, {}⟩, fun _ n hn hp => rb_foldl_vioFlag hn (List.mem_range.2 hn) hp⟩
  · have hd : s.vioDown = s.vioGone := by
      rw [Dev.vioDown, if_neg (by simp [h])]
      exact if_neg hon
    rw [hd]
    exact ⟨hgone, rfl, fun h => absurd h hon⟩

theorem does_vioHLockout {s : State} (h : s.dev.pwr.vioLow = false) : Does .vioHLockout s (fun t =>
    KeepsBut [.pwr, .harp, .regs] s t ∧ RegsBut (· = 0x5008) s t ∧ VioDown s.dev t.dev) := by
  refine does_of_quiet _ (.refl (execVioHLockout s)) (d := s.dev.vioDown) rfl fun e he => ?_
  have hdown := vioDown_vioDown h
  have hleaves := hdown.leaves.trans (.of_quiet he)
  exact ⟨hleaves.keepsBut, hleaves.regsBut, hleaves, he.pwr.trans hdown.pwr, fun hon n hn hp => by
    rw [Dev.rb, he.force _ rfl]
    exact hdown.flags hon n hn hp⟩

/-- Without VIO_H pins are high-Z and read 0. -/
theorem pins_dead {s : Dev} (h : s.pwr.vioLow = true) (n : Nat) : s.pinDriven n = false ∧ s.pinLevel n = false := by
  simp [Dev.pinDriven, Dev.pinLevel, h]

/-! ### Balls sampled -/

/-- From `s` to `t` pins have been sampled, with free values where a ball has no level. -/
def OnlySampled (s t : Dev) : Prop := ∃ f c q, t = { s with free := f, pins := { s.pins with syncd := c, since := q } }

theorem OnlySampled.refl (s : Dev) : OnlySampled s s := ⟨_, _, _, rfl⟩

theorem OnlySampled.trans {s t u : Dev} (h : OnlySampled s t) (k : OnlySampled t u) : OnlySampled s u := by
  obtain ⟨_, _, _, rfl⟩ := h
  obtain ⟨_, _, _, rfl⟩ := k
  exact ⟨_, _, _, rfl⟩

theorem onlySampled_samplePin (s : Dev) (p : Nat) : OnlySampled s (s.samplePin p) := by
  unfold Dev.samplePin
  split
  · exact .refl s
  · cases s.ballLevel p with
    | some b =>
      simp only
      split
      · exact .refl s
      · exact ⟨_, _, _, rfl⟩
    | none =>
      simp only
      split
      · exact ⟨_, _, _, rfl⟩
      · exact ⟨_, _, _, rfl⟩

/-- What a pin samples is what its ball shows, whatever has been sampled. -/
theorem OnlySampled.ball {s t : Dev} (h : OnlySampled s t) (k : Nat) : t.pinSampled k = s.pinSampled k ∧ t.ballLevel k = s.ballLevel k := by
  obtain ⟨_, _, _, rfl⟩ := h
  exact ⟨rfl, rfl⟩

/-- A pin whose ball has a level samples it. -/
theorem samplePin_self {s : Dev} {k : Nat} {b : Bool} (hk : k < 32) (hs : s.pinSampled k = true) (hb : s.ballLevel k = some b) :
    (s.samplePin k).pins.syncd.toNat.testBit k = b := by
  unfold Dev.samplePin
  simp only [hs, hb, Bool.not_true, Bool.false_eq_true, if_false]
  split
  · next h => exact h
  · exact (setBitTo_getLsbD _ _ hk).trans (if_pos rfl)

/-- No other pin's sample changes. -/
theorem samplePin_other (s : Dev) {k p : Nat} (hk : k < 32) (hp : k ≠ p) :
    (s.samplePin p).pins.syncd.toNat.testBit k = s.pins.syncd.toNat.testBit k := by
  have hset (w : BitVec 32) (v : Bool) : (setBitTo w p v).toNat.testBit k = w.toNat.testBit k :=
    (setBitTo_getLsbD w v hk).trans (if_neg hp)
  unfold Dev.samplePin
  split
  · rfl
  · cases s.ballLevel p with
    | some b =>
      simp only
      split
      · rfl
      · exact hset _ _
    | none =>
      simp only
      split
      · rfl
      · exact hset _ _

/-- A pin sampled at its ball's level keeps it whatever is sampled. -/
theorem samplePin_keeps {s : Dev} {k : Nat} {b : Bool} (hk : k < 32) (hs : s.pinSampled k = true) (hb : s.ballLevel k = some b)
    (h : s.pins.syncd.toNat.testBit k = b) (p : Nat) : (s.samplePin p).pins.syncd.toNat.testBit k = b := by
  by_cases hp : k = p
  · subst hp
    exact samplePin_self hk hs hb
  · exact (samplePin_other s hk hp).trans h

theorem syncd_foldl_samplePin {k : Nat} {b : Bool} (hk : k < 32) (ps : List Nat) {s : Dev} (hs : s.pinSampled k = true)
    (hb : s.ballLevel k = some b) (h : k ∈ ps ∨ s.pins.syncd.toNat.testBit k = b) :
    (ps.foldl (fun s p => s.samplePin p) s).pins.syncd.toNat.testBit k = b := by
  induction ps generalizing s with
  | nil => exact h.resolve_left List.not_mem_nil
  | cons p ps ih =>
    obtain ⟨hsampled, hball⟩ := (onlySampled_samplePin s p).ball k
    refine ih (hsampled.trans hs) (hball.trans hb) ?_
    obtain h | h := h
    · obtain rfl | h := List.mem_cons.1 h
      · exact .inr (samplePin_self hk hs hb)
      · exact .inl h
    · exact .inr (samplePin_keeps hk hs hb h p)

/-! ### VIO_H back -/

/-- The device with VIO_H back and the balls as the outside drives them, no pin sampled yet. -/
def Dev.vioBack (s : Dev) (told : List (Fin 32 × Option Bool)) : Dev :=
  { s.modPwr (fun p => { p with vioLow := false }) with pins := { s.pins with ext := extWith s.pins.ext told, syncd := 0, ball := 0 } }

/-- The device with VIO_H back, where it was in lockout. -/
structure VioUp (told : List (Fin 32 × Option Bool)) (s t : Dev) : Prop where
  only : ∃ h f c q b, t = { s with
    pwr := { s.pwr with vioLow := false }, harp := h, free := f,
    pins := { s.pins with ext := extWith s.pins.ext told, syncd := c, since := q, ball := b } }
  ball : s.coreOn = true → ∀ k < 32, ∀ b, t.pinSampled k = true → t.ballLevel k = some b → t.pins.ball.toNat.testBit k = b

/-- The filtered samples take what has been sampled. -/
def Dev.takeSamples (s : Dev) : Dev := { s with pins := { s.pins with ball := s.pins.syncd } }

/-- Every pin that reads 1 takes a rising edge. -/
def Dev.risen (s : Dev) : Dev := forEach ((upTo 32).filter (fun p => s.pinLevel p)) (fun s p => s.pinEdge p true) s

theorem onlyHarps_risen (s : Dev) : OnlyHarps s s.risen := onlyHarps_pinEdges true _ s

theorem vioUp_eq {s : Dev} (told : List (Fin 32 × Option Bool)) (h : s.pwr.vioLow = true) :
    s.vioUp told = if (s.vioBack told).coreOn then (forEach (upTo 32) (fun s p => s.samplePin p) (s.vioBack told)).takeSamples.risen
      else s.vioBack told := by
  unfold Dev.vioBack Dev.takeSamples Dev.risen
  rw [Dev.vioUp, if_pos h]

theorem vioUp_vioUp {s : Dev} (told : List (Fin 32 × Option Bool)) (h : s.pwr.vioLow = true) : VioUp told s (s.vioUp told) := by
  have hcore : (s.vioBack told).coreOn = s.coreOn := rfl
  rw [vioUp_eq told h, hcore]
  by_cases hon : s.coreOn = true
  · have hsampled := foldl_of_step .refl .trans onlySampled_samplePin (upTo 32) (s.vioBack told)
    have hsync := fun k (hk : k < 32) b hs hb =>
      syncd_foldl_samplePin (b := b) hk (upTo 32) (s := s.vioBack told) hs hb (.inl (List.mem_range.2 hk))
    rw [if_pos hon, forEach]
    generalize (upTo 32).foldl (fun s p => s.samplePin p) (s.vioBack told) = d at hsampled hsync
    obtain ⟨x, hx⟩ := onlyHarps_risen d.takeSamples
    rw [hx]
    refine ⟨?_, fun _ k hk b hs hb => ?_⟩
    · obtain ⟨f, c, q, rfl⟩ := hsampled
      exact ⟨_, _, _, _, _, rfl⟩
    · obtain ⟨hsame, hball⟩ := hsampled.ball k
      exact hsync k hk b (hsame.symm.trans hs) (hball.symm.trans hb)
  · rw [if_neg hon]
    exact ⟨⟨_, _, _, _, _, rfl⟩, fun h => absurd h hon⟩

/-- What a pin samples is the same in two devices with the same pins, rail and registers. -/
theorem ball_congr {s t : Dev} (hpins : t.pins = s.pins) (hvio : t.pwr.vioLow = s.pwr.vioLow)
    (hforce : ∀ off, noteReg off = false → t.force off = s.force off) {n : Nat} (hn : n < 32) :
    t.pinSampled n = s.pinSampled n ∧ t.ballLevel n = s.ballLevel n := by
  obtain ⟨hdriven, hout⟩ := pins_congr hpins hvio hforce hn
  have hreg {off : Nat} (hi lo : Nat) (hn : noteReg off = false) : t.rf off hi lo = s.rf off hi lo := by rw [Dev.rf, Dev.rf, hforce off hn]
  have hbit {off : Nat} (i : Nat) (hn : noteReg off = false) : t.rb off i = s.rb off i := by rw [Dev.rb, Dev.rb, hforce off hn]
  have howner : t.pinOwner n = s.pinOwner n := hreg _ _ (noteReg_pins (by omega) (by omega))
  have hpull : t.pullLevel n = s.pullLevel n := by rw [Dev.pullLevel, hreg 2 1 (noteReg_pins (by omega) (by omega))]; rfl
  have hext : t.extOf n = s.extOf n := by rw [Dev.extOf, hpins]; rfl
  constructor
  · rw [Dev.pinSampled, hvio, howner, hbit 5 rfl, hreg 4 0 rfl]
    rfl
  · rw [Dev.ballLevel, hdriven, hout, hext, hpull, hbit 0 (noteReg_pins (by omega) (by omega))]
    rfl

theorem VioUp.of_quiet {told : List (Fin 32 × Option Bool)} {s d e : Dev} (h : VioUp told s d) (hq : Quiet d e) {k : Nat} {b : Bool}
    (hon : s.coreOn = true) (hk : k < 32) (hs : e.pinSampled k = true) (hb : e.ballLevel k = some b) : e.pins.ball.toNat.testBit k = b := by
  obtain ⟨hsampled, hball⟩ := ball_congr hq.pins (by rw [hq.pwr]) hq.force hk
  rw [hq.pins]
  exact h.ball hon k hk b (hsampled.symm.trans hs) (hball.symm.trans hb)

theorem does_vioHLockoutExit {s : State} (told : List (Fin 32 × Option Bool)) (h : s.dev.pwr.vioLow = true) :
    Does (.vioHLockoutExit told) s (fun t => KeepsBut [.pwr, .harp, .pins, .free] s t ∧ t.dev.pwr = { s.dev.pwr with vioLow := false } ∧
      (∃ c q b, t.dev.pins = { s.dev.pins with ext := extWith s.dev.pins.ext told, syncd := c, since := q, ball := b }) ∧
      ∀ k < 32, ∀ b, s.dev.coreOn = true → t.dev.pinSampled k = true → t.dev.ballLevel k = some b → t.dev.pins.ball.toNat.testBit k = b) := by
  have hup := vioUp_vioUp told h
  refine does_of_quiet _ (.refl (execVioHLockoutExit told s)) (d := s.dev.vioUp told) rfl fun e he => ?_
  have hball := fun k (hk : k < 32) b (hon : s.dev.coreOn = true) hs hb => hup.of_quiet he (k := k) (b := b) hon hk hs hb
  obtain ⟨x, f, c, q, b, hd⟩ := hup.only
  have hleaves : Leaves [.pwr, .harp, .pins, .free] (fun _ => false) s.dev (s.dev.vioUp told) := .over (by rw [hd]; rfl)
  exact ⟨(hleaves.trans (.of_quiet he)).keepsBut, he.pwr.trans (by rw [hd]), ⟨c, q, b, he.pins.trans (by rw [hd])⟩, hball⟩

end Sys2Proof.Machine
end

section
/-! SUPPORT. VRIND lost and back: what the Rind keeps, and the entry that it logs (R403, R411, R424). -/

namespace Sys2Proof.Machine

/-! ### Claims about a command on the device and the Rind -/

/-- A command on both does what every quiet change of its effect shows. -/
theorem does_both_of_quiet {c : Instr} {s : State} {P : State → Prop} {x : Dev × Rind} (f : Dev → Rind → Dev × Rind)
    (hc : exec c s = onBoth f s) (hd : f s.dev s.rind = x) (h : ∀ e, Quiet x.1 e → P { s with dev := e, rind := x.2 }) : Does c s P := by
  subst hd
  exact ⟨_, hc, h _ (quiet_settle _)⟩

/-- A command on both that has nothing to do. -/
theorem does_both_nothing {c : Instr} {s : State} (f : Dev → Rind → Dev × Rind) (hc : exec c s = onBoth f s)
    (hd : f s.dev s.rind = (s.dev, s.rind)) : Does c s (KeepsBut [] s) :=
  does_both_of_quiet f hc hd fun _ hq => (Leaves.of_quiet (p := fun _ => false) hq).keepsBut

/-- A change of the device and the Rind keeps what the device's change leaves. -/
theorem Leaves.keepsBut_rind {areas : List Area} {p : Nat → Bool} {s : State} {t : Dev} (h : Leaves areas p s.dev t) (hr : .rind ∈ areas) (r : Rind) :
    KeepsBut areas s { s with dev := t, rind := r } := by
  refine ⟨rfl, h.out, fun a ha => ?_⟩
  have hs := h.same a ha s
  cases a
  case rind => exact absurd hr ha
  all_goals exact hs

/-! ### VRIND lost -/

theorem leaves_modBr {areas : List Area} {p : Nat → Bool} (h : .br ∈ areas) (s : Dev) (f : Bridge → Bridge) : Leaves areas p s (s.modBr f) := .one h rfl

/-- The Rind without VRIND, from `r`. -/
def Rind.unpowered (r : Rind) : Rind :=
  { r with
    on := false, cHist := [], cls := 0, winCnt := 0, closeTag := none, nonce := none, sealReq := false, iStr := [],
    trial := r.trial.map (fun x => { x with held := [] }), lost := (r.recno, r.rtime) }

theorem does_vrindLoss {s : State} (hon : s.rind.on = true) : Does .vrindLoss s (fun t => KeepsBut [.br, .rind] s t ∧
    t.dev.br.on = false ∧ t.dev.br.queue = [] ∧ t.dev.br.recBuf = [] ∧ t.dev.br.evtBuf = [] ∧ t.rind = s.rind.unpowered) := by
  refine does_both_of_quiet _ (.refl (execVrindLoss s)) (if_neg (by simp [hon])) fun e he => ?_
  obtain ⟨_, _, _, hbr⟩ := he.br
  have hleaves : Leaves [.br, .rind] (fun _ => false) s.dev e := by
    refine .trans ?_ (.of_quiet he)
    exact .one (a := .br) (by decide) rfl
  refine ⟨hleaves.keepsBut_rind (by decide) _, ?_, ?_, ?_, ?_, rfl⟩
  all_goals
    rw [hbr]
    rfl

/-! ### The Rind starts -/

/-- The Rind with VRIND, running the image that its boot ROM chooses (R403). -/
def Rind.booted (r : Rind) (s : Dev) : Rind :=
  let r := { r with on := true }
  match s.rindSlot r.slot with
  | some k => if k = r.slot then r.runs s k else { r.runs s k with trial := none }
  | none => { r with romOnly := true, runLr := 0, trial := none }

/-- What the start leaves of the Rind. -/
structure Started (s : Dev) (r t : Rind) : Prop where
  on : t.on = true
  recno : t.recno = r.recno
  eIn : t.eIn = r.eIn
  eSusp : t.eSusp = r.eSusp
  ring : t.ring = r.ring
  cal : t.cal = r.cal
  sealed : t.sealed = r.sealed
  image : match s.rindSlot r.slot with
    | some k => t.slot = k ∧ t.romOnly = false
    | none => t.romOnly = true

theorem booted_log (r : Rind) (s : Dev) : (r.booted s).evtcnt = r.evtcnt ∧ (r.booted s).log = r.log := by
  unfold Rind.booted
  simp only
  split
  · split <;> exact ⟨rfl, rfl⟩
  · exact ⟨rfl, rfl⟩

theorem started_booted (s : Dev) (r : Rind) : Started s r (r.booted s) := by
  unfold Rind.booted
  cases h : s.rindSlot r.slot with
  | some k =>
    simp only [h]
    split
    · exact ⟨rfl, rfl, rfl, rfl, rfl, rfl, rfl, by rw [h]; exact ⟨rfl, rfl⟩⟩
    · exact ⟨rfl, rfl, rfl, rfl, rfl, rfl, rfl, by rw [h]; exact ⟨rfl, rfl⟩⟩
  | none =>
    simp only [h]
    exact ⟨rfl, rfl, rfl, rfl, rfl, rfl, rfl, by rw [h]⟩

/-- The Rind `t` after its start from `r`, the return of its supply logged and at most `k` entries in all (R411, R416, R424). -/
structure Returned (s : Dev) (r : Rind) (k : Nat) (t : Rind) : Prop extends Started s r t where
  after : r.evtcnt < t.evtcnt
  soon : t.evtcnt ≤ r.evtcnt + k
  entry : (tabGet [] t.log (r.evtcnt % 128)).take 2 = [0x07, 0]
  flag : t.rflags.toNat.testBit 3 = true

theorem Started.logEvent {s : Dev} {r t : Rind} (h : Started s r t) (c a : Nat) (d : List Byte) : Started s r (t.logEvent c a d) := { h with }

/-- Where an entry stands, and how it begins (R416). -/
theorem logEvent_log (r : Rind) (c a : Nat) (d : List Byte) : ∃ e : List Byte,
    (r.logEvent c a d).log = tabSet [] r.log (r.evtcnt % 128) e ∧ e.take 2 = [BitVec.ofNat 8 c, BitVec.ofNat 8 a] := by
  unfold Rind.logEvent
  simp only
  refine ⟨_, rfl, ?_⟩
  simp

section
variable {s : Dev} {r t : Rind} {k : Nat}

/-- Fewer than 128 further entries leave the one of the return in the log. -/
theorem Returned.logEvent (h : Returned s r k t) (hk : k < 128) (c a : Nat) (d : List Byte) : Returned s r (k + 1) (t.logEvent c a d) where
  toStarted := h.toStarted.logEvent c a d
  after := Nat.lt_succ_of_lt h.after
  soon := Nat.succ_le_succ h.soon
  entry := by
    have hafter := h.after
    have hsoon := h.soon
    have hplace : r.evtcnt % 128 ≠ t.evtcnt % 128 := by omega
    obtain ⟨e, hlog, -⟩ := logEvent_log t c a d
    rw [hlog, tabGet_tabSet_ne _ _ _ _ _ hplace, h.entry]
  flag := h.flag

theorem Returned.flags (h : Returned s r k t) (m : Byte) : Returned s r k { t with rflags := t.rflags ||| m } :=
  { h with
    flag := by
      rw [BitVec.toNat_or, Nat.testBit_or, h.flag, Bool.true_or] }

theorem Returned.mono (h : Returned s r k t) {j : Nat} (hj : k ≤ j) : Returned s r j t := { h with soon := by have := h.soon; omega }

/-- What is noted of RTAMP is no other entry's or value's business. -/
theorem Returned.tamperTold (h : Returned s r k t) (b : Bool) : Returned s r k { t with tamperTold := b } := { h with }

theorem Returned.noteTamper (h : Returned s r k t) (hk : k < 128) : Returned s r (k + 1) t.noteTamper := by
  unfold Rind.noteTamper
  split
  · exact (h.tamperTold _).mono (by omega)
  · split
    · exact ((h.flags _).logEvent hk _ _ _).tamperTold _
    · split
      · exact (h.logEvent hk _ _ _).tamperTold _
      · exact h.mono (by omega)

end

/-- The Rind started, its supply's return logged. -/
def Rind.returned (r : Rind) (s : Dev) : Rind :=
  ((r.booted s).logEvent 0x07 0 (leBytes (r.booted s).lost.1 4 ++ leBytes (r.booted s).lost.2 6)).flag 3

/-- Without an image to run, the boot ROM logs why. -/
def Rind.noteRom (r : Rind) (s : Dev) : Rind :=
  if r.romOnly then r.logEvent 0x0C 0 [BitVec.ofNat 8 (s.imgReason 2), BitVec.ofNat 8 (s.imgReason 3)] else r

/-- The Rind after its start. -/
def Rind.started (r : Rind) (s : Dev) : Rind :=
  let r := (r.returned s).noteRom s
  { r with rflags := r.rflags ||| r.flags0 }.noteTamper

theorem returned_returned (s : Dev) (r : Rind) : Returned s r 1 (r.returned s) := by
  obtain ⟨hcnt, hlog⟩ := booted_log r s
  have hstart := (started_booted s r).logEvent 0x07 0 (leBytes (r.booted s).lost.1 4 ++ leBytes (r.booted s).lost.2 6)
  have hevt : (r.returned s).evtcnt = r.evtcnt + 1 := congrArg (· + 1) hcnt
  refine { hstart with after := by omega, soon := by omega, entry := ?_, flag := ?_ }
  · obtain ⟨e, hlog, hhead⟩ := logEvent_log (r.booted s) 0x07 0 (leBytes (r.booted s).lost.1 4 ++ leBytes (r.booted s).lost.2 6)
    have hret : (r.returned s).log = tabSet [] (r.booted s).log ((r.booted s).evtcnt % 128) e := hlog
    rw [hret, hcnt, tabGet_tabSet_self, hhead]
    rfl
  · rw [Rind.returned, Rind.flag, BitVec.toNat_or, Nat.testBit_or]
    exact Bool.or_true _

theorem returned_started (s : Dev) (r : Rind) : Returned s r 3 (r.started s) := by
  have hrom : Returned s r 2 ((r.returned s).noteRom s) := by
    unfold Rind.noteRom
    split
    · exact (returned_returned s r).logEvent (by decide) _ _ _
    · exact (returned_returned s r).mono (by decide)
  exact (hrom.flags _).noteTamper (by decide)

/-! ### VRIND back -/

/-- The bridge's copies refreshed, and the versions judged where the image has changed (R422, R441). -/
theorem refresh_eq (s : Dev) (r : Rind) : ∃ (b : Bridge) (c : Bool), b.on = true ∧ b.run = r.slot ∧
    s.refresh r = if c then { s with br := b }.judgeVersion false else { s with br := b } := by
  refine ⟨_, _, ?_, ?_, rfl⟩ <;> rfl

/-- What refreshing leaves. -/
structure Refreshed (r : Rind) (s t : Dev) : Prop where
  leaves : Leaves [.br, .flt] (fun _ => false) s t
  on : t.br.on = true
  run : t.br.run = r.slot

theorem refreshed_refresh (s : Dev) (r : Rind) : Refreshed r s (s.refresh r) := by
  obtain ⟨b, c, hon, hrun, h⟩ := refresh_eq s r
  have hb : Leaves [.br, .flt] (fun _ => false) s { s with br := b } := leaves_modBr (by decide) s fun _ => b
  rw [h]
  cases c with
  | true =>
    have hjudged := (judged_judgeVersion { s with br := b } false).leaves
    obtain ⟨_, _, _, hbr⟩ := hjudged.same .br (by decide) ⟨[], s, r⟩
    refine ⟨hb.trans (hjudged.mono (by decide) fun _ h => h), ?_, ?_⟩
    · exact (congrArg Bridge.on hbr).trans hon
    · exact (congrArg Bridge.run hbr).trans hrun
  | false => exact ⟨hb, hon, hrun⟩

theorem does_vrindRise {s : State} (hoff : s.rind.on = false) : Does .vrindRise s (fun t => KeepsBut [.br, .rind, .flt] s t ∧
    t.dev.br.on = true ∧ t.dev.br.run = t.rind.slot ∧ Returned s.dev s.rind 3 t.rind) := by
  refine does_both_of_quiet _ (.refl (execVrindRise s))
    (x := (s.dev.windowBegins.refresh (s.rind.started s.dev.windowBegins), s.rind.started s.dev.windowBegins))
    ((if_neg (by simp [hoff])).trans rfl) fun e he => ?_
  have hnew := refreshed_refresh s.dev.windowBegins (s.rind.started s.dev.windowBegins)
  have hleaves : Leaves [.br, .rind, .flt] (fun _ => false) s.dev e :=
    (leaves_modBr (by decide) s.dev _).trans ((hnew.leaves.mono (by decide) fun _ h => h).trans (.of_quiet he))
  obtain ⟨_, _, _, hbr⟩ := he.br
  refine ⟨hleaves.keepsBut_rind (by decide) _, ?_, ?_, ?_⟩
  · rw [hbr]
    exact hnew.on
  · rw [hbr]
    exact hnew.run
  · exact { returned_started s.dev.windowBegins s.rind with }

/-! ### O39 -/

theorem does_vrowSuspensionEnd {s : State} {n : Nat} (h : s.dev.pwr.vrowEnd = some n) (hdue : n ≤ s.dev.clk.now) :
    Does .vrowSuspensionEnd s (fun t => KeepsBut [.pwr, .mtx] s t ∧ t.dev.pwr = { s.dev.pwr with vrowSusp := false, vrowEnd := none } ∧
      t.dev.mtx = { s.dev.mtx with blank := s.dev.clk.now + 262144 }) := by
  refine does_of_quiet _ (.refl (execVrowSuspensionEnd s)) (by simp only [h]; exact if_pos hdue) fun e he => ?_
  have hleaves : Leaves [.pwr, .mtx] (fun _ => false) s.dev e :=
    ((leaves_modPwr (by decide) s.dev _).trans (leaves_modMtx (by decide) _ _)).trans (.of_quiet he)
  exact ⟨hleaves.keepsBut, he.pwr, he.mtx⟩

/-- A rail that is where the command says does nothing. -/
theorem does_railIdle {s : State} {c : Instr × Bool} (hc : c ∈ [(Instr.vinLockout, s.dev.pwr.vinLow), (.vinLockoutExit, !s.dev.pwr.vinLow),
    (.vrowLockout, s.dev.pwr.vrowLow), (.vrowLockoutExit, !s.dev.pwr.vrowLow), (.vioHLockout, s.dev.pwr.vioLow), (.vrindLoss, !s.rind.on),
    (.vrindRise, s.rind.on)]) (h : c.2 = true) : Does c.1 s (KeepsBut [] s) := by
  simp only [List.mem_cons, List.not_mem_nil, or_false] at hc
  obtain rfl | rfl | rfl | rfl | rfl | rfl | rfl := hc
  · exact does_nothing _ (.refl (execVinLockout s)) (if_pos h)
  · exact does_nothing _ (.refl (execVinLockoutExit s)) (if_neg (by simpa using h))
  · exact does_nothing _ (.refl (execVrowLockout s)) (if_pos h)
  · exact does_nothing _ (.refl (execVrowLockoutExit s)) (if_neg (by simpa using h))
  · exact does_nothing _ (.refl (execVioHLockout s)) (if_pos h)
  · exact does_both_nothing _ (.refl (execVrindLoss s)) (if_pos h)
  · exact does_both_nothing _ (.refl (execVrindRise s)) (if_pos h)

/-- Settles O39: each lockout by what it stops, VIO_H's return by the samples it takes, the Rind's start by the entry it logs. -/
theorem railsSuspendTheirOutputs : Obligations.RailsSuspendTheirOutputs := by
  intro s
  refine ⟨fun c hc hgo => ?_, fun told hlow => ?_, fun hlow => ?_, fun hlow => ?_, fun e he hdue => ?_, fun he => ?_, fun hlow => ?_, fun hlow => ?_,
    fun e he hdue => ?_, fun he => ?_, fun hlow => ?_, fun told hlow => ?_, fun hon => ?_, fun hoff => ?_⟩
  · exact does_railIdle hc hgo
  · exact does_nothing _ (.refl (execVioHLockoutExit told s)) (if_neg (by simp [hlow]))
  · exact does_vinLockout hlow
  · exact does_pwr (c := .vinLockoutExit) _ (.refl (execVinLockoutExit s)) (if_pos hlow)
  · exact does_pwr (c := .supplySuspensionEnd) _ (.refl (execSupplySuspensionEnd s)) (by simp only [he]; exact if_pos hdue)
  · refine does_nothing _ (.refl (execSupplySuspensionEnd s)) ?_
    cases hend : s.dev.pwr.vinEnd with
    | none => rfl
    | some e => exact if_neg (Nat.not_le.2 (he e hend))
  · exact does_vrowLockout hlow
  · exact does_pwr (c := .vrowLockoutExit) _ (.refl (execVrowLockoutExit s)) (if_pos hlow)
  · exact does_vrowSuspensionEnd he hdue
  · refine does_nothing _ (.refl (execVrowSuspensionEnd s)) ?_
    cases hend : s.dev.pwr.vrowEnd with
    | none => rfl
    | some e => exact if_neg (Nat.not_le.2 (he e hend))
  · obtain ⟨t, ht, hkeeps, hregs, hdown⟩ := does_vioHLockout hlow
    refine ⟨t, ht, hkeeps, hregs, hdown.pwr, pins_dead (by rw [hdown.pwr]; rfl), fun n hn k hk hon hen hown => ?_⟩
    exact hdown.flags hon n hn ((harpPinned_iff s.dev n).2 ⟨hen, k, hk, hown⟩)
  · exact does_vioHLockoutExit told hlow
  · exact does_vrindLoss hon
  · obtain ⟨t, ht, hkeeps, hbr, hrun, hret⟩ := does_vrindRise hoff
    exact ⟨t, ht, hkeeps, hret.on, hbr, hret.recno, hret.eIn, hret.eSusp, hret.ring, hret.cal, hret.sealed, hret.after, hret.entry, hret.flag,
      hrun, hret.image⟩

end Sys2Proof.Machine
end

section
/-! SUPPORT. What no event and no entry touches: the states of the whey rings, and the twin. -/

namespace Sys2Proof.Machine

/-- Every whey ring is in the same state, and the twin is the same. -/
structure SameStates (s t : Dev) : Prop where
  whey : ∀ m, (t.wheyOf m).st = (s.wheyOf m).st
  twin : t.twin = s.twin

theorem SameStates.refl (s : Dev) : SameStates s s := ⟨fun _ => rfl, rfl⟩

theorem SameStates.trans {s t u : Dev} (h : SameStates s t) (k : SameStates t u) : SameStates s u :=
  ⟨fun m => (k.whey m).trans (h.whey m), k.twin.trans h.twin⟩

theorem SameStates.foldl {α : Type} {f : Dev → α → Dev} (hf : ∀ s a, SameStates s (f s a)) (xs : List α) (s : Dev) :
    SameStates s (xs.foldl f s) := foldl_of_step .refl .trans hf xs s

theorem SameStates.ite {s t u : Dev} {c : Prop} [Decidable c] (ht : SameStates s t) (hu : SameStates s u) : SameStates s (if c then t else u) := by
  split
  · exact ht
  · exact hu

/-- A change of neither the whey rings nor the twin. -/
theorem SameStates.of_eq {s t : Dev} (hw : t.ring.whey = s.ring.whey) (ht : t.twin = s.twin) : SameStates s t :=
  ⟨fun m => by rw [Dev.wheyOf, Dev.wheyOf, hw], ht⟩

/-! ### Entries and packets -/

theorem sameStates_setWhey (s : Dev) (m : Nat) {w : Whey} (h : w.st = (s.wheyOf m).st) : SameStates s (s.setWhey m w) := by
  refine ⟨fun k => ?_, rfl⟩
  have hget : (s.setWhey m w).wheyOf k = if k = m then w else s.wheyOf k := tabGet_tabSet ..
  rw [hget]
  split
  · next hk => rw [hk, h]
  · rfl

theorem sameStates_sendMsix (s : Dev) (v : Nat) : SameStates s (s.sendMsix v) := .ite (.of_eq rfl rfl) (.of_eq rfl rfl)

theorem sameStates_emit (s : Dev) (o : Out) : SameStates s (s.emit o) := .of_eq rfl rfl

theorem sameStates_putWhey (s : Dev) (m : Nat) (e : Entry) : SameStates s (s.putWhey m e) := by
  have htail (d : Dev) (w : Word) : SameStates d (d.setBoth (wheyOff m + 0x1C) w) := .of_eq rfl rfl
  unfold Dev.putWhey
  simp only
  have hput := ((sameStates_emit s (.whey m (s.wheyTail m) (s.wheyAddr m) e)).trans (htail _ (s.wheyTail m + 1))).trans (sameStates_emit _
    (.tail m ((((s.emit (.whey m (s.wheyTail m) (s.wheyAddr m) e)).setBoth (wheyOff m + 0x1C) (s.wheyTail m + 1)).addr64
      (wheyOff m + 0x10))) ((s.wheyTail m + 1).setWidth 64)))
  split
  · refine .trans ?_ (sameStates_sendMsix _ _)
    exact hput.trans (sameStates_setWhey _ m rfl)
  · exact hput.trans (sameStates_setWhey _ m rfl)

theorem sameStates_queuePacket (s : Dev) (k : Nat) (p : Packet) : SameStates s (s.queuePacket k p) := .ite (.of_eq rfl rfl) (.of_eq rfl rfl)

theorem sameStates_sendPacket (s : Dev) (type : Nat) (dest : BitVec 12) (tag : BitVec 16) (p : List Byte) :
    SameStates s (s.sendPacket type dest tag p) := by
  unfold Dev.sendPacket
  refine .ite (.of_eq rfl rfl) ?_
  split
  · exact sameStates_queuePacket s _ _
  · exact .of_eq rfl rfl

theorem sameStates_postEvent (s : Dev) (e : Entry) : SameStates s (s.postEvent e) := by
  unfold Dev.postEvent
  refine .ite (.ite (sameStates_sendPacket s _ _ _ _) (.of_eq rfl rfl)) (.ite (sameStates_putWhey s _ e) (.ite ?_ (.of_eq rfl rfl)))
  exact .ite (.of_eq rfl rfl) (.of_eq rfl rfl)

theorem sameStates_eventOk (s : Dev) (c d : Nat) : SameStates s (s.eventOk c d) := sameStates_postEvent s _

/-! ### What follows every command -/

theorem sameStates_flushList (ws : List Waiting) : ∀ s : Dev, SameStates s (Dev.flushList ws s) := by
  induction ws with
  | nil => exact .refl
  | cons w ws ih =>
    intro s
    unfold Dev.flushList
    refine SameStates.trans ?_ (ih _)
    simp only
    split
    · refine (sameStates_putWhey s (s.waitRing w) w.e).trans ?_
      cases w.cue with
      | some i => exact .of_eq rfl rfl
      | none => exact .refl _
    · exact .of_eq rfl rfl

theorem sameStates_writeOwed (s : Dev) : SameStates s s.writeOwed := by
  refine .ite (.trans ?_ (sameStates_putWhey _ _ _)) (.refl s)
  exact .of_eq rfl rfl

theorem sameStates_flushWhey (s : Dev) : SameStates s s.flushWhey := by
  refine .trans ?_ (sameStates_writeOwed _)
  refine .trans ?_ (sameStates_flushList s.ring.wait _)
  exact .of_eq rfl rfl

theorem sameStates_mailboxTold (s : Dev) : SameStates s s.mailboxTold := by
  have htold (b : Bool) : SameStates s (s.modBr (fun x => { x with told := b })) := .of_eq rfl rfl
  unfold Dev.mailboxTold
  refine .ite (.refl s) (.ite ?_ (.ite ((htold _).trans (sameStates_eventOk _ _ _)) (htold _)))
  split
  · exact (htold _).trans (sameStates_eventOk _ _ _)
  · exact htold _

theorem sameStates_reportFault (s : Dev) (c : Nat) : SameStates s (s.reportFault c) :=
  SameStates.trans (t := s.modFlt (fun f => { f with last := BitVec.ofNat 8 c })) (.of_eq rfl rfl) (sameStates_eventOk _ _ _)

theorem sameStates_scanFaults (s : Dev) : SameStates s s.scanFaults :=
  SameStates.trans (t := s.modFlt (fun f => { f with local_ := s.localNow })) (.of_eq rfl rfl)
    (.foldl (fun s _ => .ite (sameStates_reportFault s _) (.refl s)) _ _)

theorem sameStates_syncShadows (s : Dev) : SameStates s s.syncShadows := by
  refine .foldl (fun s n => .ite ?_ (.refl s)) _ s
  exact .ite (.of_eq rfl rfl) (.ite (.of_eq rfl rfl) (.of_eq rfl rfl))

/-- What follows every command, but for the mirror. -/
theorem sameStates_beforeMirror (s : Dev) : SameStates s s.watchClock.mailboxTold.flushWhey.scanFaults.syncShadows := by
  refine .trans ?_ (sameStates_syncShadows _)
  refine .trans ?_ (sameStates_scanFaults _)
  refine .trans ?_ (sameStates_flushWhey _)
  refine .trans ?_ (sameStates_mailboxTold _)
  exact .of_eq rfl rfl

theorem mirror_whey (s : Dev) : s.mirror.ring.whey = s.ring.whey := by
  unfold Dev.mirror
  simp only
  split_ifs <;> rfl

theorem settle_wheySt (s : Dev) (m : Nat) : (s.settle.wheyOf m).st = (s.wheyOf m).st := by
  rw [Dev.settle, Dev.wheyOf, mirror_whey]
  exact (sameStates_beforeMirror s).whey m

/-- The twin of a unit that is not active is told nothing. -/
theorem settle_twin {s : Dev} (h : s.twin.role ≠ .active) : s.settle.twin = s.twin := by
  have htwin := (sameStates_beforeMirror s).twin
  rw [Dev.settle, Dev.mirror, if_pos (by rw [htwin]; exact h), htwin]

end Sys2Proof.Machine
end

section
/-! SUPPORT. A mode request (R82) and a RESTART (R79, R90, R94, R95), and O9. -/

namespace Sys2Proof.Machine

/-! ### PWR_MODE_REQ -/

/-- The field of PWR_MODE_REQ. -/
def modeField : Fld := ⟨2, 0, .live .press, 2, .range 0 5⟩

theorem regFields_modeReq : regFields 0x804 = [modeField] := by decide +kernel

theorem fieldOf_mode (v : Word) : fieldOf v 2 0 = v.toNat % 8 := by
  simp [fieldOf, bits]

theorem modeOfCode_eq_none (n : Nat) : modeOfCode n = none ↔ 5 < n := by
  unfold modeOfCode
  split
  case h_7 h0 h1 h2 h3 h4 h5 =>
    refine ⟨fun _ => ?_, fun _ => rfl⟩
    by_contra hn
    interval_cases n
    exacts [h0 rfl, h1 rfl, h2 rfl, h3 rfl, h4 rfl, h5 rfl]
  all_goals simp

/-- A value written to PWR_MODE_REQ is judged by its range alone. -/
theorem fieldRefused_modeReq (s : Dev) (w : Word) (n : Nat) : s.fieldRefused 0x804 w modeField n = if 5 < n then some .param else none := by
  have hring : ((upTo 8).any (fun n => n ≠ 0 && (0x804 : Nat) = curdOff n + 0x18) ||
      (upTo 4).any (fun m => m ≠ 0 && (0x804 : Nat) = wheyOff m + 0x18)) = false := by decide
  have hupd : s.updateRefuses 0x804 modeField n = false := by rw [Dev.updateRefuses, hring, Bool.and_false]
  have habi : s.abiRefuses 0x804 modeField n = false := by simp [Dev.abiRefuses]
  have hjudged : (if s.legalNow 0x804 w n modeField.legal then none else some .param : Option Status) = if 5 < n then some .param else none := by
    by_cases h : 5 < n <;> simp [Dev.legalNow, modeField, h, Nat.le_of_not_lt, Nat.not_le_of_lt]
  simp only [Dev.fieldRefused, hupd, habi, shadowRefuses_of_block s (off := 0x804) rfl, hjudged]
  rfl

theorem writeRefused_modeReq (s : Dev) (w : Word) :
    s.writeRefused 0x804 w (BitVec.allOnes 32) = if 5 < w.toNat % 8 then some .param else none := by
  have hfield := fieldRefused_modeReq s w (fieldOf w modeField.hi modeField.lo)
  have hmode : fieldOf w modeField.hi modeField.lo = w.toNat % 8 := fieldOf_mode w
  rw [hmode] at hfield
  unfold Dev.writeRefused
  simp only [regFields_modeReq, List.filterMap_cons, List.filterMap_nil, touched_allOnes modeField (by decide), if_true, hmode, hfield]
  by_cases h : 5 < w.toNat % 8 <;> simp [h]

/-- The register file in which a value of PWR_MODE_REQ waits for its press. -/
theorem storeField_modeReq (s : Dev) (n : Nat) : ∃ b k, s.storeField 0x804 modeField n = s.setRegs { s.regs with
    before := b, stTick := k, written := tabSet (regReset 0x804) s.regs.written 0x804 (setField (s.written 0x804) 2 0 n),
    live := tabSet false s.regs.live 0x804 true } := by
  obtain ⟨b, k, hr⟩ := remember_eq s 0x804
  refine ⟨b, k, ?_⟩
  change (s.setWrittenField 0x804 2 0 n).markLive 0x804 = _
  simp only [Dev.setWrittenField, hr]
  rfl

/-- A change of the register file alone, by the registers that it changes. -/
theorem leaves_setRegs {areas : List Area} {p : Nat → Bool} (h : .regs ∈ areas) (s : Dev) (r : Regs)
    (hr : ∀ off, p off = false → (s.setRegs r).force off = s.force off ∧ (s.setRegs r).written off = s.written off) :
    Leaves areas p s (s.setRegs r) where
  out := List.suffix_rfl
  same a ha x := by
    have hs := a.same_refl { x with dev := s }
    cases a
    case regs => exact absurd h ha
    all_goals exact hs
  regs off _ hp := hr off hp

theorem leaves_storeField_modeReq (s : Dev) (n : Nat) :
    Leaves [.pwr, .regs] (fun off => decide (off = 0x804)) s (s.storeField 0x804 modeField n) := by
  obtain ⟨b, k, hs⟩ := storeField_modeReq s n
  rw [hs]
  refine leaves_setRegs (by decide) s _ fun off ho => ⟨rfl, ?_⟩
  exact tabGet_tabSet_ne' _ _ _ _ _ _ (by simpa using ho)

/-- An accepted request waits, and its value with it. -/
theorem writeReg_modeReq {s : Dev} (src : BitVec 16) {w : Word} (hc : s.coreOn = true) (hw : ¬5 < w.toNat % 8) :
    s.writeReg src 0x804 w = (s.storeField 0x804 modeField (w.toNat % 8)).modPwr (fun p =>
      { p with request := (modeOfCode (w.toNat % 8)).map (fun m => (m, s.clk.now)) }) := by
  have hr : s.writeRefused 0x804 w (BitVec.allOnes 32) = none := by rw [writeRefused_modeReq, if_neg hw]
  have hmem : modeField ∈ regFields 0x804 := by rw [regFields_modeReq]; exact List.mem_singleton_self _
  have hrow : (regRow 0x804).isNone = false := by decide +kernel
  have hstore : s.storeAll 0x804 w (BitVec.allOnes 32) = s.storeField 0x804 modeField (w.toNat % 8) := by
    rw [storeAll_accepted hr hmem rfl, regFields_modeReq, ← fieldOf_mode]
    rfl
  have hclk : (s.storeField 0x804 modeField (w.toNat % 8)).clk = s.clk := by
    obtain ⟨b, k, hs⟩ := storeField_modeReq s (w.toNat % 8)
    rw [hs]
    rfl
  have hall : (BitVec.allOnes 32).toNat % 8 ≠ 0 := by decide
  simp only [Dev.writeReg, hrow, hc, hr, maskRefused_of_ne s w _ (off := 0x804) (by decide), Dev.putWord, hstore,
    oneBits_of_stores s w _ hmem rfl, Bool.not_true, Bool.false_eq_true, if_false, Dev.afterStore, Dev.strobes, if_true]
  simp [inRange, fieldOf_mode, hclk]

/-- A refused request is recorded and reported, and nothing is stored. -/
theorem writeReg_modeReq_refused {s : Dev} (src : BitVec 16) {w : Word} (hc : s.coreOn = true) (hw : 5 < w.toNat % 8) :
    s.writeReg src 0x804 w = s.rejectWrite src 0x804 .param := by
  have hr : s.writeRefused 0x804 w (BitVec.allOnes 32) = some .param := by rw [writeRefused_modeReq, if_pos hw]
  have hmem : modeField ∈ regFields 0x804 := by rw [regFields_modeReq]; exact List.mem_singleton_self _
  have hrow : (regRow 0x804).isNone = false := by decide +kernel
  have hmode : fieldOf w modeField.hi modeField.lo = w.toNat % 8 := fieldOf_mode w
  have hstore : s.storeAll 0x804 w (BitVec.allOnes 32) = s := by
    simp [Dev.storeAll, regFields_modeReq, fieldRefused_modeReq, hmode, hw]
  simp only [Dev.writeReg, hrow, hc, hr, Dev.putWord, hstore, oneBits_of_stores s w _ hmem rfl, Bool.not_true, Bool.false_eq_true, if_false,
    Dev.afterStore, Dev.strobes, if_true]
  simp [inRange]

theorem does_pwrModeReq {s : State} (src : BitVec 16) {v : Word} {m : Mode} (hc : s.dev.coreOn = true) (hm : modeOfCode (v.toNat % 8) = some m) :
    Does (.pwrModeReq src v) s (fun t => KeepsBut [.pwr, .regs] s t ∧ RegsBut (· = 0x804) s t ∧
      t.dev.pwr = { s.dev.pwr with request := some (m, s.dev.clk.now) } ∧ fieldOf (t.dev.written 0x804) 2 0 = v.toNat % 8) := by
  have hgood : ¬5 < v.toNat % 8 := fun h => by rw [(modeOfCode_eq_none _).2 h] at hm; cases hm
  refine does_of_quiet _ (.refl (execPwrModeReq src v s)) (writeReg_modeReq src hc hgood) fun e he => ?_
  have hleaves := ((leaves_storeField_modeReq s.dev (v.toNat % 8)).trans (leaves_modPwr (by decide) _ _)).trans (.of_quiet he)
  obtain ⟨b, k, hs⟩ := storeField_modeReq s.dev (v.toNat % 8)
  rw [hm, hs] at he
  refine ⟨hleaves.keepsBut, hleaves.regsBut, he.pwr, ?_⟩
  have hwritten : e.written 0x804 = setField (s.dev.written 0x804) 2 0 (fieldOf v 2 0) := by
    rw [he.written _ rfl, fieldOf_mode]
    exact tabGet_tabSet_self _ _ _ _
  rw [hwritten, fieldOf_setField_same _ _ (by decide), fieldOf_mode]

theorem does_pwrModeReq_refused {s : State} (src : BitVec 16) {v : Word} (hc : s.dev.coreOn = true) (hm : modeOfCode (v.toNat % 8) = none) :
    Does (.pwrModeReq src v) s (fun t => KeepsBut [.flt, .regs] s t ∧ t.dev.flt.cfgOff = 0x804 ∧ t.dev.flt.cfgSrc = src ∧
      t.dev.flt.cfgCnt = satInc s.dev.flt.cfgCnt ∧ t.dev.written 0x804 = s.dev.written 0x804) := by
  refine does_of_quiet _ (.refl (execPwrModeReq src v s)) (writeReg_modeReq_refused src hc ((modeOfCode_eq_none _).1 hm)) fun e he => ?_
  have hq : Quiet (s.dev.recordReject src 0x804) e := (quiet_event _ _ _ _).trans he
  have hreject : s.dev.recordReject src 0x804 =
      (s.dev.setFlag 0x82C 31).modFlt (fun f => { f with cfgOff := 0x804, cfgSrc := src, cfgCnt := satInc f.cfgCnt }) := rfl
  have hrecord : Leaves [.flt, .regs] (fun off => decide (off = 0x82C)) s.dev (s.dev.recordReject src 0x804) :=
    hreject ▸ (leaves_setFlag (areas := [.flt, .regs]) (by decide) s.dev 31 (decide_eq_true rfl)).trans
      (leaves_modFlt (areas := [.flt, .regs]) (by decide) _ _)
  have hleaves := hrecord.trans (.of_quiet hq)
  obtain ⟨_, _, hflt⟩ := hq.flt
  rw [hflt]
  exact ⟨hleaves.keepsBut, rfl, rfl, rfl, (hleaves.regs _ rfl rfl).2⟩

/-! ### RESTART -/

theorem regFields_restart : regFields 0x808 = [⟨0, 0, .wo, 0, .any⟩] := by decide +kernel

/-- PWR_CMD stores nothing: a 1 written to it strobes (R10). -/
theorem writeReg_restart {s : Dev} (src : BitVec 16) (hc : s.coreOn = true) : s.writeReg src 0x808 1 = s.restart 1 := by
  have hrow : (regRow 0x808).isNone = false := by decide +kernel
  have hwo (v : Nat) : s.fieldRefused 0x808 1 ⟨0, 0, .wo, 0, .any⟩ v = none := fieldRefused_wo rfl (shadowRefuses_of_block s rfl)
  have hstore : s.storeAll 0x808 1 (BitVec.allOnes 32) = s := by
    simp [Dev.storeAll, regFields_restart, Dev.storeOne, Dev.storeField]
  have hbits : s.oneBits 0x808 1 (BitVec.allOnes 32) = 1 := by
    simp only [Dev.oneBits, regFields_restart, List.foldl_cons, List.foldl_nil, hwo]
    decide
  have hr : s.writeRefused 0x808 1 (BitVec.allOnes 32) = none := by
    simp only [Dev.writeRefused, regFields_restart, List.filterMap_cons, List.filterMap_nil, hwo, ite_self]
    rfl
  have hafter : s.afterStore s 0x808 1 (BitVec.allOnes 32) = s := rfl
  simp only [Dev.writeReg, hrow, hc, hr, maskRefused_of_ne s 1 _ (off := 0x808) (by decide), Dev.putWord, hstore, hafter, hbits, Bool.not_true,
    Bool.false_eq_true, if_false]
  simp [Dev.strobes, inRange, Dev.restartCmd, hc]

/-- The power state that a RESTART leaves (R79, R85, R94, R95). -/
def Dev.pwrRestarted (s : Dev) (why : Nat) : Pwr :=
  { s.pwr with
    mode := .ready, wake := if s.pwr.v3Low then .v3wait else .buck, stepAt := s.clk.now, wakeStart := s.clk.now, wakeCause := 8, wakePin := 0,
    fromDoze := false, latched := none, clkAttempts := 0, dozeWake := false, dozeEvent := false, sleepTo := none, request := none, asked := none,
    cause := 0, retValid := false, resetWhy := why, retained := s.pwr.retained && s.rb 0x81C 0,
    storedWheel := if s.clk.running then s.pwr.wheelCopy + 4096 else s.pwr.storedWheel,
    woscCount := if s.clk.running then 0 else s.pwr.woscCount }

/-- A RESTART is a reset, and a wake sequence begun. -/
theorem restart_eq (s : Dev) (why : Nat) : s.restart why = { s.coreReset with
    clk := { s.coreReset.clk with limp := false }, pwr := s.pwrRestarted why, ozhKept := if s.rb 0x81C 0 then s.ozhKept else none } := by
  rw [Dev.restart, supplyReset_eq]
  rfl

theorem restart_force (s : Dev) (why off : Nat) : (s.restart why).force off = if aonReg off then s.force off else regReset off := by
  rw [restart_eq]
  exact coreReset_force s off

theorem restart_written (s : Dev) (why off : Nat) : (s.restart why).written off = if aonReg off then s.written off else regReset off := by
  rw [restart_eq]
  exact coreReset_written s off

/-- Entries that follow a reset find no cue and no descriptor. -/
theorem cues_settle_restart (s : Dev) (why : Nat) : (s.restart why).settle.ring.cues = [] := by
  have hw : (s.restart why).ring.wait = [] := by rw [restart_eq]; rfl
  have hc : (s.restart why).ring.cues = [] := by rw [restart_eq]; rfl
  exact ((messaged_settle _).still fun w hmem => by simp [hw] at hmem).2.trans hc

/-- After a RESTART there is no twin. -/
theorem twin_settle_restart (s : Dev) (why : Nat) : (s.restart why).settle.twin = {} := by
  have ht : (s.restart why).twin = {} := by rw [restart_eq]; rfl
  rw [settle_twin (by rw [ht]; decide), ht]

theorem does_restart {s : State} (src : BitVec 16) (hc : s.dev.coreOn = true) {P : State → Prop}
    (h : P { s with dev := (s.dev.restart 1).settle }) : Does (.restart src) s P := by
  rw [does_of_onDev (c := .restart src) (fun d => d.writeReg src 0x808 1) (.refl (execRestart src s)), writeReg_restart src hc]
  exact h

/-! ### O9 -/

/-- Settles O9: an accepted request and its value wait, a refused one is recorded, and a RESTART is a reset that keeps the always-on domain. -/
theorem powerWritesRequestAndRestart : Obligations.PowerWritesRequestAndRestart := by
  intro s src hc
  refine ⟨fun v m hm => does_pwrModeReq src hc hm, fun v hm => does_pwrModeReq_refused src hc hm, does_restart src hc ?_⟩
  have hcues := cues_settle_restart s.dev 1
  have htwin := twin_settle_restart s.dev 1
  have hforce := restart_force s.dev 1
  have hwritten := restart_written s.dev 1
  have hq := quiet_settle (s.dev.restart 1)
  generalize (s.dev.restart 1).settle = e at hq hcues htwin
  have hf (off : Nat) (hn : noteReg off = false) := (hq.force off hn).trans (hforce off)
  have hwr (off : Nat) (hn : noteReg off = false) := (hq.written off hn).trans (hwritten off)
  rw [restart_eq] at hq
  obtain ⟨⟨_, _, _, _, _, _, _, _, hring⟩, -⟩ := hq.ring
  obtain ⟨_, _, hflt⟩ := hq.flt
  have hclk : e.clk = { s.dev.coreReset.clk with limp := false } := hq.clk
  refine ⟨rfl, rfl, hq.out, (congrArg Clk.running hclk :), (congrArg Clk.now hclk :), (congrArg Clk.limp hclk :),
    (congrArg Clk.woscCal hclk :), hq.pwr, hq.str, hq.mtx, hq.rip, hq.harp, hq.car, hq.cult, hq.tempo, hq.chan, hq.clr, hq.seq, htwin, hcues,
    congrArg Ring.flights hring, congrArg Flt.slots hflt, hq.ozhKept, fun off ha hn => ?_, fun off ha => ?_⟩
  · simpa [ha] using And.intro (hf off hn) (hwr off hn)
  · have hn := noteReg_of_aonReg ha
    simpa [ha] using And.intro (hf off hn) (hwr off hn)

end Sys2Proof.Machine
end

section
/-! SUPPORT. The wake sources (R83, R84, R88), and O41. -/

namespace Sys2Proof.Machine

/-! ### What a wake source does -/

/-- The sleep modes that a wake source wakes (R83). -/
def Wakes (vault doze : Bool) (m : Mode) : Prop := (m = .vault ∧ vault = true) ∨ (m = .doze ∧ doze = true)

/-- The device with a wake source noted in its DOZE event. -/
def Dev.sourceNoted (b : Dev) (cause pin : Nat) : Dev :=
  b.modPwr (fun p => { p with wakeCause := cause, wakePin := pin, fromDoze := true, wakeStart := b.clk.now })

section
variable {b : Dev} {cause pin : Nat} {vault doze en : Bool}

theorem wakeSource_of_not_acts (h : ¬(en = true ∧ b.pwr.vaultLock = false)) : b.wakeSource cause pin vault doze en = b := by
  have hb : (!en || b.pwr.vaultLock) = true := by
    cases en <;> simp_all
  simp only [Dev.wakeSource, hb, if_true]

theorem wakeSource_entry (h : en = true ∧ b.pwr.vaultLock = false) {m : Mode} (hs : b.pwr.sleepTo = some m) : b.wakeSource cause pin vault doze en =
    if ((m = .vault && vault) || (m = .doze && doze)) && b.pwr.latched.isNone then b.modPwr (fun p => { p with latched := some (cause, pin) })
    else b := by
  simp only [Dev.wakeSource, h.1, h.2, hs]
  rfl

theorem wakeSource_misfit (h : en = true ∧ b.pwr.vaultLock = false) (hs : b.pwr.sleepTo = none) (hf : ¬Wakes vault doze b.pwr.mode) :
    b.wakeSource cause pin vault doze en = b := by
  have hb : ((b.pwr.mode = .vault && vault) || (b.pwr.mode = .doze && doze)) = false := by
    simpa [Wakes] using hf
  simp only [Dev.wakeSource, h.1, h.2, hs, hb]
  rfl

/-- From a sleep that it wakes, a source goes on by where the DOZE event and the wake sequence stand. -/
theorem wakeSource_fit (h : en = true ∧ b.pwr.vaultLock = false) (hs : b.pwr.sleepTo = none) (hf : Wakes vault doze b.pwr.mode) :
    b.wakeSource cause pin vault doze en =
      if b.pwr.dozeEvent then (b.sourceNoted cause pin).enterTarget
      else if b.pwr.dozeWake then
        b.modPwr (fun p => { p with wakeCause := cause, wakePin := pin, fromDoze := true, wakeStart := b.clk.now, dozeWake := false })
      else if b.pwr.wake = .idle then b.beginWake cause pin
      else b := by
  have hb : ((b.pwr.mode = .vault && vault) || (b.pwr.mode = .doze && doze)) = true := by
    simpa [Wakes] using hf
  simp only [Dev.wakeSource, h.1, h.2, hs, hb]
  rfl

end

/-! ### A wake into its target mode keeps the whey rings -/

theorem sameStates_releasePins (s : Dev) : SameStates s s.releasePins := .ite (.of_eq rfl rfl) (.refl s)

theorem sameStates_awake (s : Dev) : SameStates s s.awake := by
  refine .trans ?_ (sameStates_releasePins _)
  exact .trans (t := s.modPwr (fun p => p.woken s.clk.now)) (.of_eq rfl rfl) (.ite (sameStates_eventOk _ _ _) (.refl _))

theorem sameStates_enterTarget {s : Dev} (h : s.calm) : SameStates s s.enterTarget := by
  have hinstead : s.awake.holdInstead = s.awake := holdInstead_calm ((awake_calm s).2 h)
  rw [enterTarget_eq, hinstead]
  exact .ite (sameStates_awake s) (.ite (.trans (sameStates_awake s) (.of_eq rfl rfl)) (sameStates_awake s))

/-- The end of a DOZE event by a wake source, where no cause of HOLD is present. -/
theorem enterTarget_sourceNoted {b : Dev} {cause pin : Nat} (hauto : ¬(cause = 0 ∨ cause = 1 ∨ cause = 8)) (h : (b.sourceNoted cause pin).calm) :
    Leaves [.pwr, .mtx, .pins] (fun _ => false) b (b.sourceNoted cause pin).enterTarget ∧
      let p : Pwr := (b.sourceNoted cause pin).enterTarget.pwr
      p.wakeCause = cause ∧ p.wakePin = pin ∧ p.fromDoze = true ∧ p.dozeEvent = false ∧ p.wake = .idle ∧
        p.mode = if b.rb 0x81C 1 then .run else .ready := by
  obtain ⟨hleaves, hmode⟩ := (entered_enterTarget (b.sourceNoted cause pin)).calm h
  obtain ⟨m, x, l, k, a, hp⟩ := (entered_enterTarget (b.sourceNoted cause pin)).pwr
  have hrun : (b.sourceNoted cause pin).autoRun = b.rb 0x81C 1 := by
    have hnot : (decide (cause = 0) || decide (cause = 1) || decide (cause = 8)) = false := by simpa [and_assoc] using hauto
    change (b.rb 0x81C 1 && !(decide (cause = 0) || decide (cause = 1) || decide (cause = 8))) = _
    rw [hnot, Bool.not_false, Bool.and_true]
  rw [hrun] at hmode
  refine ⟨(leaves_modPwr (by decide) b _).trans hleaves, ?_, ?_, ?_, ?_, ?_, hmode⟩
  all_goals rw [hp]; rfl

/-! ### The claims about one source -/

/-- The claims of `WakeSourcesBeginWake` about one command, from the device `b` on which its source is judged; `K areas` is what else it leaves,
where it changes `areas`. -/
def WakeClaims (c : Instr) (s : State) (b : Dev) (en : Bool) (cause pin : Nat) (vault doze : Bool) (K : List Area → State → Prop) : Prop :=
  let p : Pwr := b.pwr
  let acts : Prop := en = true ∧ p.vaultLock = false
  (¬acts ∨ (∃ m, p.sleepTo = some m ∧ (¬Wakes vault doze m ∨ p.latched ≠ none)) ∨ (p.sleepTo = none ∧ ¬Wakes vault doze p.mode) ∨
    (p.sleepTo = none ∧ p.dozeEvent = false ∧ p.dozeWake = false ∧ p.wake ≠ .idle) → Does c s (K [])) ∧
  (∀ m, acts → p.sleepTo = some m → Wakes vault doze m → p.latched = none → Does c s (fun t => K [.pwr] t ∧
    t.dev.pwr = { p with latched := some (cause, pin) })) ∧
  (acts → p.sleepTo = none → Wakes vault doze p.mode → p.dozeEvent = false → p.dozeWake = false → p.wake = .idle →
    Does c s (fun t => K [.pwr] t ∧ t.dev.pwr = { p with
      wake := if p.v3Low then .v3wait else .buck, stepAt := b.clk.now, wakeStart := b.clk.now, wakeCause := cause,
      wakePin := pin, fromDoze := decide (p.mode = .doze), latched := none, clkAttempts := 0 })) ∧
  (acts → p.sleepTo = none → Wakes vault doze p.mode → p.dozeEvent = false → p.dozeWake = true → Does c s (fun t => K [.pwr] t ∧
    t.dev.pwr = { p with wakeCause := cause, wakePin := pin, fromDoze := true, wakeStart := b.clk.now, dozeWake := false })) ∧
  (acts → p.sleepTo = none → Wakes vault doze p.mode → p.dozeEvent = true → p.cause = 0 → b.clk.limp = false → b.flt.refuse = false →
    Does c s (fun t => K [.pwr, .mtx, .pins] t ∧ t.dev.pwr.wakeCause = cause ∧ t.dev.pwr.wakePin = pin ∧
      t.dev.pwr.fromDoze = true ∧ t.dev.pwr.dozeEvent = false ∧ t.dev.pwr.wake = .idle ∧
      t.dev.pwr.mode = if b.rb 0x81C 1 then .run else .ready)) ∧
  (acts → p.sleepTo = none → Wakes vault doze p.mode → p.dozeEvent = true → p.cause ≠ 0 ∨ b.clk.limp = true ∨ b.flt.refuse = true →
    Does c s (fun t => t.rind = s.rind ∧ t.dev.pwr.wakeCause = cause ∧ t.dev.pwr.dozeEvent = false ∧ t.dev.pwr.mode = .hold))

section
variable {c : Instr} {s : State} {b : Dev} {en : Bool} {cause pin : Nat} {vault doze : Bool} {K : List Area → State → Prop}

/-- A command that judges a wake source on the device `b` does what the claims say, where `K` holds of all that leaves `b` but for its areas. -/
theorem wakeClaims (f : Dev → Dev) (hc : exec c s = onDev f s) (hf : f s.dev = b.wakeSource cause pin vault doze en)
    (hauto : ¬(cause = 0 ∨ cause = 1 ∨ cause = 8))
    (hK : ∀ areas e, Area.ring ∉ areas → Leaves areas (fun _ => false) b e →
      (∀ m, (e.wheyOf m).st = (b.wheyOf m).st) → K areas { s with dev := e }) :
    WakeClaims c s b en cause pin vault doze K := by
  have hsettle {d : Dev} {areas : List Area} (hr : Area.ring ∉ areas) (hl : Leaves areas (fun _ => false) b d) (hs : SameStates b d) :
      K areas { s with dev := d.settle } :=
    hK areas _ hr (hl.trans (.of_quiet (quiet_settle d))) fun m => (settle_wheySt d m).trans (hs.whey m)
  have hidle (h : b.wakeSource cause pin vault doze en = b) : Does c s (K []) :=
    (does_of_onDev f hc).2 (by rw [hf, h]; exact hsettle (by decide) (.refl b) (.refl b))
  have hpwr {q : Pwr} (h : b.wakeSource cause pin vault doze en = { b with pwr := q }) : Does c s (fun t => K [.pwr] t ∧ t.dev.pwr = q) := by
    have hkeeps := hsettle (areas := [.pwr]) (by decide) (leaves_modPwr (by decide) b fun _ => q) (.of_eq rfl rfl)
    have hend : ({ b with pwr := q } : Dev).settle.pwr = q := settle_pwr _
    refine (does_of_onDev f hc).2 ?_
    rw [hf, h]
    exact ⟨hkeeps, hend⟩
  have hevent (hact : en = true ∧ b.pwr.vaultLock = false) (hs : b.pwr.sleepTo = none) (hfit : Wakes vault doze b.pwr.mode)
      (he : b.pwr.dozeEvent = true) {P : State → Prop} (hP : ∀ e, Quiet (b.sourceNoted cause pin).enterTarget e →
        (∀ m, (e.wheyOf m).st = ((b.sourceNoted cause pin).enterTarget.wheyOf m).st) → P { s with dev := e }) : Does c s P := by
    refine (does_of_onDev f hc).2 ?_
    rw [hf, wakeSource_fit hact hs hfit, if_pos he]
    exact hP _ (quiet_settle _) (settle_wheySt _)
  refine ⟨fun h => ?_, fun m hact hs hfit hl => ?_, fun hact hs hfit he hw hi => ?_, fun hact hs hfit he hw => ?_,
    fun hact hs hfit he h0 hlimp href => ?_, fun hact hs hfit he hcause => ?_⟩
  · by_cases hact : en = true ∧ b.pwr.vaultLock = false
    · obtain h | ⟨m, hs, h⟩ | ⟨hs, hfit⟩ | ⟨hs, he, hw, hi⟩ := h
      · exact absurd hact h
      · refine hidle ((wakeSource_entry hact hs).trans (if_neg ?_))
        simpa [Wakes, ← not_or, imp_iff_not_or] using h
      · exact hidle (wakeSource_misfit hact hs hfit)
      · by_cases hfit : Wakes vault doze b.pwr.mode
        · exact hidle (by simp [wakeSource_fit hact hs hfit, he, hw, hi])
        · exact hidle (wakeSource_misfit hact hs hfit)
    · exact hidle (wakeSource_of_not_acts hact)
  · refine hpwr ((wakeSource_entry hact hs).trans (if_pos ?_))
    simpa [Wakes, hl] using hfit
  · refine hpwr ((wakeSource_fit hact hs hfit).trans ?_)
    rw [if_neg (by simp [he]), if_neg (by simp [hw]), if_pos hi]
    simp only [Dev.beginWake, Dev.modPwr, hw]
  · refine hpwr ((wakeSource_fit hact hs hfit).trans ?_)
    rw [if_neg (by simp [he]), if_pos hw]
    rfl
  · have hcalm : (b.sourceNoted cause pin).calm := ⟨h0, hlimp, href⟩
    obtain ⟨hleaves, hend⟩ := enterTarget_sourceNoted hauto hcalm
    refine hevent hact hs hfit he fun e hq hst => ?_
    simp only [hq.pwr]
    exact ⟨hK _ _ (by decide) (hleaves.trans (.of_quiet hq)) fun m => (hst m).trans ((sameStates_enterTarget hcalm).whey m), hend⟩
  · have hcalm : ¬(b.sourceNoted cause pin).calm := fun ⟨h0, hlimp, href⟩ => by
      have hl : b.clk.limp = false := hlimp
      have hr : b.flt.refuse = false := href
      obtain h | h | h := hcause
      · exact h h0
      · simp [hl] at h
      · simp [hr] at h
    have hentered := entered_enterTarget (b.sourceNoted cause pin)
    obtain ⟨m, x, l, k, a, hp⟩ := hentered.pwr
    refine hevent hact hs hfit he fun e hq _ => ?_
    simp only [hq.pwr]
    exact ⟨trivial, by rw [hp]; rfl, by rw [hp]; rfl, hentered.hold hcalm⟩

end

/-! ### O41 -/

/-- What a wake source leaves beside `areas`, as `WakeSourcesBeginWake` says it: PERST_N deasserted is a change of the link's state alone. -/
def SourceKeeps (c : Instr) (s : State) (areas : List Area) (t : State) : Prop :=
  KeepsBut (if c = .perstNDeassert then .ring :: areas else areas) s t ∧
    (c = .perstNDeassert → ∀ n m, t.dev.ring.perst = false ∧ t.dev.ring.bme = s.dev.ring.bme ∧ t.dev.ring.link = s.dev.ring.link ∧
      (t.dev.curdOf n).st = (s.dev.curdOf n).st ∧ (t.dev.wheyOf m).st = (s.dev.wheyOf m).st)

/-- Every source but PERST_N is judged on the device as it is. -/
theorem sourceClaims {c : Instr} {s : State} {en : Bool} {cause pin : Nat} {vault doze : Bool} (hperst : c ≠ .perstNDeassert)
    (hc : exec c s = onDev (fun d => d.wakeSource cause pin vault doze en) s) (hauto : ¬(cause = 0 ∨ cause = 1 ∨ cause = 8)) :
    WakeClaims c s s.dev en cause pin vault doze (SourceKeeps c s) := by
  refine wakeClaims (fun d => d.wakeSource cause pin vault doze en) hc rfl hauto fun areas e _ hleaves _ => ?_
  exact ⟨by rw [if_neg hperst]; exact hleaves.keepsBut, fun h => absurd h hperst⟩

theorem perstClaims (s : State) :
    WakeClaims .perstNDeassert s (s.dev.modRing (fun r => { r with perst := false })) (s.dev.rb 0x80C 1) 5 0 false true
      (SourceKeeps .perstNDeassert s) := by
  refine wakeClaims (fun d => (d.modRing (fun r => { r with perst := false })).wakeSource 5 0 false true (d.rb 0x80C 1))
    (.refl (execPerstNDeassert s)) rfl (by decide) fun areas e hr hleaves hwhey => ?_
  obtain ⟨⟨_, _, _, _, _, _, _, _, hring⟩, hcurd, -⟩ := hleaves.same .ring hr ⟨[], s.dev, {}⟩
  have hall : Leaves (.ring :: areas) (fun _ => false) s.dev e :=
    (leaves_modRing (by simp) s.dev _).trans (hleaves.mono (List.subset_cons_self _ _) fun _ h => h)
  refine ⟨by rw [if_pos rfl]; exact hall.keepsBut, fun _ n m => ?_⟩
  obtain ⟨v, w, hn⟩ := hcurd n
  exact ⟨(congrArg Ring.perst hring :), (congrArg Ring.bme hring :), (congrArg Ring.link hring :), (congrArg Curd.st hn :), hwhey m⟩

/-- Settles O41: each source by the device that it is judged on. -/
theorem wakeSourcesBeginWake : Obligations.WakeSourcesBeginWake := by
  intro s p c hc
  simp only [List.mem_append, List.mem_cons, List.not_mem_nil, or_false, List.mem_flatMap, List.mem_finRange, true_and, List.map_cons,
    List.map_nil] at hc
  obtain (rfl | rfl | rfl | rfl) | ⟨n, rfl | rfl⟩ := hc
  · exact sourceClaims (cause := 3) (by simp) (.refl (execWakeEdge s)) (by decide)
  · exact sourceClaims (cause := 4) (by simp) (.refl (execVaultAlarm s)) (by decide)
  · exact perstClaims s
  · exact sourceClaims (cause := 6) (by simp) (.refl (execHoopSignalDetect s)) (by decide)
  · exact sourceClaims (cause := 7) (by simp) (.refl (execWakePinEdge n true s)) (by decide)
  · exact sourceClaims (cause := 7) (by simp) (.refl (execWakePinEdge n false s)) (by decide)

end Sys2Proof.Machine
end

section
/-! SUPPORT. What entry to HOLD, and a cause that acts in HOLD, leave: the areas of each part, and what becomes of the Ripeners, the channels and
the light outputs (R92, R93, Table MOD-5). -/

namespace Sys2Proof.Machine

/-! ### Areas left -/

section
variable {areas : List Area} {p : Nat → Bool} {s t : Dev}

theorem Leaves.pwr (h : Leaves areas p s t) (ha : .pwr ∉ areas) : t.pwr = s.pwr := h.same .pwr ha ⟨[], s, {}⟩
theorem Leaves.clk (h : Leaves areas p s t) (ha : .clk ∉ areas) : t.clk = s.clk := h.same .clk ha ⟨[], s, {}⟩
theorem Leaves.chan (h : Leaves areas p s t) (ha : .chan ∉ areas) : t.chan = s.chan := h.same .chan ha ⟨[], s, {}⟩
theorem Leaves.str (h : Leaves areas p s t) (ha : .str ∉ areas) : t.str = s.str := h.same .str ha ⟨[], s, {}⟩
theorem Leaves.mtx (h : Leaves areas p s t) (ha : .mtx ∉ areas) : t.mtx = s.mtx := h.same .mtx ha ⟨[], s, {}⟩
theorem Leaves.rip (h : Leaves areas p s t) (ha : .rip ∉ areas) : t.rip = s.rip := h.same .rip ha ⟨[], s, {}⟩

theorem Leaves.force (h : Leaves areas p s t) {off : Nat} (hn : noteReg off = false) (hp : p off = false) : t.force off = s.force off :=
  (h.regs off hn hp).1

end

/-! ### The light outputs off -/

theorem leaves_haltStrings_str (s : Dev) : Leaves [.str] (fun _ => false) s s.haltStrings :=
  .forEach (fun s n => .ite (leaves_stringHalt_str s n) (.refl s)) _ s

theorem leaves_haltMatrix_mtx (s : Dev) : Leaves [.mtx] (fun _ => false) s s.haltMatrix := by
  obtain ⟨m, hm, -⟩ := cutSlot_only s
  have hcut : Leaves [.mtx] (fun _ => false) s s.cutSlot := by
    rw [hm]
    exact leaves_modMtx (by decide) s fun _ => m
  exact .ite ((hcut.trans (leaves_modMtx (by decide) _ _)).trans (leaves_modMtx (by decide) _ _)) (.refl s)

theorem leaves_lightsOff (s : Dev) : Leaves [.mtx, .str] (fun _ => false) s s.lightsOff :=
  ((leaves_haltStrings_str s).mono (by decide) fun _ h => h).trans ((leaves_haltMatrix_mtx _).mono (by decide) fun _ h => h)

/-- No light output is on. -/
def Dev.dark (s : Dev) : Prop := s.mtx.driving = false ∧ ∀ n < 16, (s.strOf n).switching = false

theorem switching_haltStrings (s : Dev) {n : Nat} (h : n < 16) : (s.haltStrings.strOf n).switching = false := by
  refine forEach_units (get := fun s n => (s.strOf n).switching) (f := fun _ _ => false) (fun s n m => ?_) h s
  by_cases hn : (s.strOf n).switching = true
  · simp only [hn, if_true]
    exact switching_stringHalt s n m
  · simp only [hn, Bool.false_eq_true, if_false]
    split
    · next hm => rw [hm, eq_false_of_ne_true hn]
    · rfl

theorem driving_haltMatrix (s : Dev) : s.haltMatrix.mtx.driving = false := by
  unfold Dev.haltMatrix
  split
  · rfl
  · next h => exact eq_false_of_ne_true h

theorem strOf_congr {s t : Dev} (h : t.str = s.str) (n : Nat) : t.strOf n = s.strOf n := by rw [Dev.strOf, Dev.strOf, h]

theorem dark_congr {s t : Dev} (hm : t.mtx = s.mtx) (hs : t.str = s.str) (h : s.dark) : t.dark := by
  obtain ⟨hd, hn⟩ := h
  exact ⟨hm ▸ hd, fun n hlt => (congrArg Str.switching (strOf_congr hs n)).trans (hn n hlt)⟩

theorem dark_lightsOff (s : Dev) : s.lightsOff.dark := by
  rw [Dev.lightsOff]
  refine ⟨driving_haltMatrix _, fun n hn => ?_⟩
  have hstr := (leaves_haltMatrix_mtx s.haltStrings).str (by decide)
  exact (congrArg Str.switching (strOf_congr hstr n)).trans (switching_haltStrings s hn)

/-! ### The limp clock's part -/

/-- What the limp clock as a cause of HOLD can change (R93). -/
def limpAreas : List Area := [.clk, .regs, .tempo, .harp, .pins, .ozh, .ring, .hoop]

theorem leaves_setRole_limp (s : Dev) (r : WRole) : Leaves limpAreas radioReg s (s.setRole r) := by
  have hclk (d : Dev) (f : Clk → Clk) : Leaves limpAreas radioReg d (d.modClk f) := leaves_modClk (by decide) d f
  unfold Dev.setRole
  simp only
  split
  · exact .trans (hclk s _) (.ite (leaves_modTempo (by decide) _ _) (.refl _))
  · exact (hclk s _).trans (hclk _ _)

theorem leaves_hoopStop_limp (s : Dev) : Leaves limpAreas radioReg s s.hoopStop := by
  unfold Dev.hoopStop
  simp only
  refine Leaves.trans ?_ (.ite (leaves_setRole_limp _ _) (.refl _))
  refine Leaves.trans ?_ (leaves_modHoop (by decide) _ _)
  refine Leaves.trans ?_ (.forEach (fun s k => leaves_modPort (by decide) s k _) _ _)
  exact (leaves_landFlightsNow s _ _ _).mono (by decide) fun _ h => h

theorem leaves_limpOff_limp (s : Dev) : Leaves limpAreas radioReg s s.limpOff := by
  refine Leaves.trans ?_ (leaves_floatPins (by decide) _ _)
  refine Leaves.trans ?_ (.forEach (fun s n => leaves_modHarp (by decide) s n _) _ _)
  exact (leaves_hoopStop_limp s).trans (leaves_modOzh (by decide) _ _)

/-! ### Causes that act -/

/-- The light outputs off where a cause asks for it. -/
def Dev.darkened (s : Dev) : Dev := if s.holdDark then s.lightsOff else s

theorem causeActs_eq (s : Dev) : s.causeActs = if s.darkened.inHold && s.darkened.hasCause causeLimp then s.darkened.limpOff else s.darkened := rfl

theorem leaves_darkened (s : Dev) : Leaves [.mtx, .str] (fun _ => false) s s.darkened := .ite (leaves_lightsOff s) (.refl s)

theorem darkened_pwr (s : Dev) : s.darkened.pwr = s.pwr := (leaves_darkened s).pwr (by decide)

theorem leaves_causeActs_limp (s : Dev) : Leaves (.mtx :: .str :: limpAreas) radioReg s s.causeActs := by
  rw [causeActs_eq]
  refine ((leaves_darkened s).mono (by decide) fun _ _ => rfl).trans (.ite ?_ (.refl _))
  exact (leaves_limpOff_limp _).mono (by decide) fun _ h => h

theorem causeActs_of_not_limp {s : Dev} (h : s.hasCause causeLimp = false) : s.causeActs = s.darkened := by
  have hlimp : s.darkened.hasCause causeLimp = false := by rw [Dev.hasCause, darkened_pwr]; exact h
  rw [causeActs_eq, hlimp, Bool.and_false]
  rfl

/-- Without the limp clock as a cause, the light outputs are all that a cause acts on. -/
theorem leaves_causeActs_light {s : Dev} (h : s.hasCause causeLimp = false) : Leaves [.mtx, .str] (fun _ => false) s s.causeActs := by
  rw [causeActs_of_not_limp h]
  exact leaves_darkened s

theorem dark_causeActs {s : Dev} (h : s.holdDark = true) : s.causeActs.dark := by
  have hdark : s.darkened.dark := by
    rw [Dev.darkened, if_pos h]
    exact dark_lightsOff s
  have hlimp := leaves_limpOff_limp s.darkened
  rw [causeActs_eq]
  split
  · exact dark_congr (hlimp.mtx (by decide)) (hlimp.str (by decide)) hdark
  · exact hdark

theorem causeActs_pwr (s : Dev) : s.causeActs.pwr = s.pwr := (leaves_causeActs_limp s).pwr (by decide)

/-! ### Safe levels -/

theorem leadOf_congr {s t : Dev} (h : t.force 0x2000 = s.force 0x2000) (n : Nat) : t.leadOf n = s.leadOf n := by
  induction n with
  | zero => rfl
  | succ n ih => rw [Dev.leadOf, Dev.leadOf, Dev.rb, Dev.rb, h, ih]

theorem leadOf_le (s : Dev) (n : Nat) : s.leadOf n ≤ n := by
  induction n with
  | zero => exact Nat.le_refl _
  | succ n ih =>
    unfold Dev.leadOf
    split <;> omega

/-- What the safe levels are read from: the set-up of the strings and the matrix. -/
theorem safeLevel_congr {s t : Dev} {c : Nat} (h : ∀ off, 0x2000 ≤ off → off < 0x3800 ∨ 1040 ≤ c → t.force off = s.force off) :
    t.safeLevel c = s.safeLevel c := by
  have hlead := leadOf_congr (h 0x2000 (by decide) (.inl (by decide))) c
  have hle := leadOf_le s c
  unfold Dev.safeLevel
  split
  · rw [hlead, Dev.rf, Dev.rf, h _ (by unfold strOff; omega) (.inl (by unfold strOff; omega))]
  · simp only [Dev.rf]
    rw [h _ (by omega) (by omega)]

theorem Leaves.safeLevel {areas : List Area} {p : Nat → Bool} {s t : Dev} (h : Leaves areas p s t)
    (hp : ∀ off, 0x2000 ≤ off → off < 0x3800 → p off = false) {c : Nat} (hc : c < 1040) : t.safeLevel c = s.safeLevel c := by
  refine safeLevel_congr fun off hlo hhi => h.force ?_ (hp off hlo (hhi.resolve_right (by omega)))
  simp [noteReg]
  omega

theorem radioReg_of_lt {off : Nat} (h : off < 0x3800) : radioReg off = false := by
  simp [radioReg]
  omega

theorem chanOf_setChan (s : Dev) (c m : Nat) (x : Chan) : (s.setChan c x).chanOf m = if m = c then x else s.chanOf m := tabGet_tabSet ..

theorem safeStep_step (s : Dev) (c m : Nat) :
    ((s.safeStep c).chanOf m).step = if m = c then BitVec.ofNat 16 (s.safeLevel c) else (s.chanOf m).step := by
  unfold Dev.safeStep
  simp only
  split
  · next h =>
    split
    · next hm =>
      rw [hm]
      simp only [Bool.and_eq_true, decide_eq_true_eq] at h
      exact h.1
    · rfl
  · rw [chanOf_setChan]
    split <;> rfl

theorem safeStep_safeLevel (s : Dev) (c m : Nat) : (s.safeStep c).safeLevel m = s.safeLevel m := by
  refine safeLevel_congr fun off _ _ => ?_
  unfold Dev.safeStep
  simp only
  split <;> rfl

/-- Every channel's stepwise value is its safe level. -/
theorem forEach_safeStep (s : Dev) {c : Nat} (h : c < 1040) :
    ((forEach (upTo 1040) (fun s c => s.safeStep c) s).chanOf c).step = BitVec.ofNat 16 (s.safeLevel c) := by
  have hpair := forEach_units (get := fun (s : Dev) c => ((s.chanOf c).step, s.safeLevel c)) (step := fun s c => s.safeStep c)
    (f := fun _ x => (BitVec.ofNat 16 x.2, x.2)) (fun s n m => ?_) h s
  · exact (Prod.mk.inj hpair).1
  · simp only [safeStep_step, safeStep_safeLevel]
    split
    · next hm => rw [hm]
    · rfl

/-! ### The work of HOLD -/

/-- Every Ripener stopped. -/
def Dev.stopRips (s : Dev) : Dev := forEach (upTo 12) (fun s n => s.modRip n Rip.stopped) s

/-- Every channel at its safe level. -/
def Dev.safeSteps (s : Dev) : Dev := forEach (upTo 1040) (fun s c => s.safeStep c) s

/-- The carrier outputs low, and the matrix held. -/
def Dev.outputsHeld (s : Dev) : Dev := s.carriersOff.modMtx (fun m => { m with waitFrame := false, holdRows := BitVec.allOnes 16 })

/-- The engines as entry to HOLD leaves them, before its causes act. -/
def Dev.heldEngines (s : Dev) : Dev := s.discardCues.stopRips.safeSteps.outputsHeld

theorem holdWork_eq (s : Dev) : s.holdWork = (s.heldEngines.eventOk 0x0204 s.heldEngines.pwr.cause.toNat).causeActs := by
  simp only [Dev.holdWork, Dev.heldEngines, Dev.stopRips, Dev.safeSteps, Dev.outputsHeld]

/-- What entry to HOLD changes whatever its cause. -/
def engineAreas : List Area := [.regs, .ring, .ozh, .rip, .chan, .car, .mtx]

theorem leaves_discardCues_engine (s : Dev) : Leaves engineAreas radioReg s s.discardCues :=
  (leaves_discardCues s).mono (by decide) fun _ h => h

theorem leaves_stopRips (s : Dev) : Leaves engineAreas radioReg s s.stopRips := .forEach (fun s n => leaves_modRip (by decide) s n _) _ _

theorem leaves_safeSteps (s : Dev) : Leaves [.chan] (fun _ => false) s s.safeSteps :=
  .forEach (fun s c => .ite (.refl s) (leaves_setChan (by decide) s c _)) _ _

theorem leaves_outputsHeld (s : Dev) : Leaves [.car, .mtx] (fun _ => false) s s.outputsHeld :=
  .trans (t := s.carriersOff) (.forEach (fun s n => leaves_modCar (by decide) s n _) _ _) (leaves_modMtx (by decide) _ _)

theorem leaves_heldEngines (s : Dev) : Leaves engineAreas radioReg s s.heldEngines :=
  (((leaves_discardCues_engine s).trans (leaves_stopRips _)).trans ((leaves_safeSteps _).mono (by decide) fun _ _ => rfl)).trans
    ((leaves_outputsHeld _).mono (by decide) fun _ _ => rfl)

theorem ripOf_stopRips (s : Dev) {n : Nat} (h : n < 12) : s.stopRips.ripOf n = (s.ripOf n).stopped :=
  forEach_units (get := fun s n => s.ripOf n) (f := fun _ r => r.stopped) (fun _ _ _ => tabGet_tabSet ..) h s

theorem ripOf_congr {s t : Dev} (h : t.rip = s.rip) (n : Nat) : t.ripOf n = s.ripOf n := by rw [Dev.ripOf, Dev.ripOf, h]

theorem chanOf_congr {s t : Dev} (h : t.chan = s.chan) (c : Nat) : t.chanOf c = s.chanOf c := by rw [Dev.chanOf, Dev.chanOf, h]

theorem heldEngines_ripOf (s : Dev) {n : Nat} (h : n < 12) : s.heldEngines.ripOf n = (s.ripOf n).stopped := by
  have hcues : s.discardCues.rip = s.rip := (leaves_discardCues s).rip (by decide)
  have hsteps : s.discardCues.stopRips.safeSteps.rip = s.discardCues.stopRips.rip := (leaves_safeSteps s.discardCues.stopRips).rip (by decide)
  have hheld : s.heldEngines.rip = s.discardCues.stopRips.safeSteps.rip := (leaves_outputsHeld s.discardCues.stopRips.safeSteps).rip (by decide)
  rw [ripOf_congr hheld, ripOf_congr hsteps, ripOf_stopRips _ h, ripOf_congr hcues]

theorem heldEngines_step (s : Dev) {c : Nat} (h : c < 1040) : (s.heldEngines.chanOf c).step = BitVec.ofNat 16 (s.safeLevel c) := by
  have hlevel := ((leaves_discardCues_engine s).trans (leaves_stopRips _)).safeLevel (fun off _ hhi => radioReg_of_lt hhi) h
  have hheld : s.heldEngines.chan = s.discardCues.stopRips.safeSteps.chan := (leaves_outputsHeld s.discardCues.stopRips.safeSteps).chan (by decide)
  rw [chanOf_congr hheld, Dev.safeSteps, forEach_safeStep _ h, hlevel]

/-! ### Entry to HOLD -/

/-- From `s` to `t` every Ripener has stopped, and every channel's stepwise value is its safe level. -/
structure Stilled (s t : Dev) : Prop where
  rips : ∀ n < 12, t.ripOf n = (s.ripOf n).stopped
  steps : ∀ c < 1040, (t.chanOf c).step = BitVec.ofNat 16 (s.safeLevel c)

/-- What follows may change neither Ripeners nor channels. -/
theorem Stilled.goes {s t u : Dev} (h : Stilled s t) (hr : u.rip = t.rip) (hc : u.chan = t.chan) : Stilled s u where
  rips n hn := (ripOf_congr hr n).trans (h.rips n hn)
  steps c hc' := (congrArg Chan.step (chanOf_congr hc c)).trans (h.steps c hc')

/-- What went before may have changed neither Ripeners nor what the safe levels are read from. -/
theorem Stilled.of_source {s s' t : Dev} (h : Stilled s' t) (hr : s'.rip = s.rip) (hl : ∀ c < 1040, s'.safeLevel c = s.safeLevel c) :
    Stilled s t where
  rips n hn := (h.rips n hn).trans (congrArg Rip.stopped (ripOf_congr hr n))
  steps c hc := (h.steps c hc).trans (congrArg (BitVec.ofNat 16) (hl c hc))

theorem stilled_holdWork (s : Dev) : Stilled s s.holdWork := by
  have hacts := leaves_causeActs_limp (s.heldEngines.eventOk 0x0204 s.heldEngines.pwr.cause.toNat)
  have hq := quiet_eventOk s.heldEngines 0x0204 s.heldEngines.pwr.cause.toNat
  have heng : Stilled s s.heldEngines := ⟨fun _ h => heldEngines_ripOf s h, fun _ h => heldEngines_step s h⟩
  rw [holdWork_eq]
  exact heng.goes ((hacts.rip (by decide)).trans hq.rip) ((hacts.chan (by decide)).trans hq.chan)

theorem leaves_abandonSleep_pwr (s : Dev) : Leaves [.pwr] (fun _ => false) s s.abandonSleep := by
  unfold Dev.abandonSleep
  split
  · exact (leaves_modPwr (by decide) s _).trans (.of_quiet (quiet_eventOk _ _ _))
  · exact .refl s

/-- The device in HOLD, its entry's work not yet done. -/
def Dev.toHold (s : Dev) : Dev := s.abandonSleep.modPwr (fun p => { p with mode := .hold, transAt := some s.abandonSleep.clk.now })

theorem enterHold_toHold (s : Dev) : s.enterHold = s.toHold.holdWork := enterHold_eq s

theorem leaves_toHold (s : Dev) : Leaves [.pwr] (fun _ => false) s s.toHold := (leaves_abandonSleep_pwr s).trans (leaves_modPwr (by decide) _ _)

theorem hasCause_toHold (s : Dev) (i : Nat) : s.toHold.hasCause i = s.hasCause i := by
  obtain ⟨l, hl⟩ := abandonSleep_pwr s
  exact (congrArg (fun p : Pwr => p.cause.toNat.testBit i) hl :)

theorem stilled_enterHold (s : Dev) : Stilled s s.enterHold := by
  have hto := leaves_toHold s
  rw [enterHold_toHold]
  exact (stilled_holdWork _).of_source (hto.rip (by decide)) fun c hc => hto.safeLevel (fun _ _ _ => rfl) hc

/-- The power state before the causes act. -/
theorem heldEngines_event_pwr (s : Dev) (d : Nat) : (s.heldEngines.eventOk 0x0204 d).pwr = s.pwr :=
  (quiet_eventOk _ _ _).pwr.trans ((leaves_heldEngines s).pwr (by decide))

/-- Entry to HOLD where the limp clock is no cause. -/
theorem leaves_enterHold_light {s : Dev} (h : s.hasCause causeLimp = false) :
    Leaves (.pwr :: .str :: engineAreas) radioReg s s.enterHold := by
  rw [enterHold_toHold, holdWork_eq]
  have hlimp : (s.toHold.heldEngines.eventOk 0x0204 s.toHold.heldEngines.pwr.cause.toNat).hasCause causeLimp = false := by
    rw [Dev.hasCause, heldEngines_event_pwr]
    exact (hasCause_toHold s causeLimp).trans h
  refine .trans ?_ ((leaves_causeActs_light hlimp).mono (by decide) fun _ _ => rfl)
  refine .trans ?_ (.of_quiet (quiet_eventOk _ _ _))
  exact ((leaves_toHold s).mono (by decide) fun _ _ => rfl).trans ((leaves_heldEngines _).mono (by decide) fun _ h => h)

/-- Entry to HOLD with a cause that asks for darkness. -/
theorem dark_enterHold {s : Dev} (h : (s.hasCause causeThermal || s.hasCause causeRefuse) = true) : s.enterHold.dark := by
  rw [enterHold_toHold, holdWork_eq]
  refine dark_causeActs ?_
  rw [Dev.holdDark, Dev.inHold, Dev.hasCause, Dev.hasCause, heldEngines_event_pwr]
  have hmode : s.toHold.pwr.mode = .hold := rfl
  have hthermal := hasCause_toHold s causeThermal
  have hrefuse := hasCause_toHold s causeRefuse
  rw [Dev.hasCause] at hthermal hrefuse
  rw [hmode, hthermal, hrefuse, h]
  rfl

/-! ### A cause set -/

/-- The device with a cause of HOLD noted. -/
def Dev.withCause (s : Dev) (i : Nat) : Dev := s.modPwr (fun p => { p with cause := p.cause ||| BitVec.ofNat 5 (2 ^ i) })

theorem setCause_eq (s : Dev) (i : Nat) : s.setCause i = if (s.withCause i).inHold then (s.withCause i).causeActs
    else if s.coreOn && (s.pwr.mode = .ready || s.pwr.mode = .run || s.pwr.mode = .shadow) then (s.withCause i).enterHold else s.withCause i := rfl

theorem setCause_inHold {s : Dev} (i : Nat) (h : s.pwr.mode = .hold) : s.setCause i = (s.withCause i).causeActs := by
  rw [setCause_eq, if_pos (show (s.withCause i).inHold = true from decide_eq_true h)]

theorem inHold_withCause {s : Dev} (i : Nat) (h : s.pwr.mode ≠ .hold) : ¬(s.withCause i).inHold = true := fun hi => h (of_decide_eq_true hi)

/-- The modes that a cause of HOLD ends (R79). -/
def Mode.works (m : Mode) : Prop := m = .ready ∨ m = .run ∨ m = .shadow

theorem setCause_works {s : Dev} (i : Nat) (hc : s.coreOn = true) (h : s.pwr.mode.works) : s.setCause i = (s.withCause i).enterHold := by
  have hnot : s.pwr.mode ≠ .hold := by
    obtain h | h | h := h <;> simp [h]
  rw [setCause_eq, if_neg (inHold_withCause i hnot), if_pos (by simpa [hc, or_assoc, Mode.works] using h)]

theorem setCause_rests {s : Dev} (i : Nat) (hn : s.pwr.mode ≠ .hold) (h : ¬s.pwr.mode.works) : s.setCause i = s.withCause i := by
  rw [setCause_eq, if_neg (inHold_withCause i hn), if_neg]
  rw [Bool.and_eq_true]
  exact fun ⟨_, hw⟩ => h (by simpa [or_assoc, Mode.works] using hw)

theorem leaves_setCause (s : Dev) (i : Nat) : Leaves (.pwr :: holdAreas) radioReg s (s.setCause i) :=
  .trans (t := s.withCause i) (leaves_modPwr (by decide) s _) (.ite ((leaves_causeActs _).mono (by decide) fun _ h => h)
    (.ite (leaves_enterHold _) (.refl _)))

end Sys2Proof.Machine
end

section
/-! SUPPORT. Over-temperature and its end (R92, R99, R210, R232). -/

namespace Sys2Proof.Machine

/-! ### The power state after a cause -/

theorem hasCause_withCause (s : Dev) {i : Nat} (hi : i < 5) (j : Nat) : (s.withCause i).hasCause j = (s.hasCause j || decide (i = j)) := by
  have hpow : 2 ^ i % 2 ^ 5 = 2 ^ i := Nat.mod_eq_of_lt (Nat.pow_lt_pow_right (by decide) hi)
  have hbits : (s.withCause i).pwr.cause.toNat = s.pwr.cause.toNat ||| 2 ^ i := by
    change (s.pwr.cause ||| BitVec.ofNat 5 (2 ^ i)).toNat = _
    rw [BitVec.toNat_or, BitVec.toNat_ofNat, hpow]
  rw [Dev.hasCause, hbits, Nat.testBit_or, Nat.testBit_two_pow]
  rfl

theorem setCause_cause (s : Dev) (i : Nat) : (s.setCause i).pwr.cause = s.pwr.cause ||| BitVec.ofNat 5 (2 ^ i) := by
  rw [setCause_eq]
  split
  · rw [causeActs_pwr]
    rfl
  · split
    · obtain ⟨l, t, h⟩ := (held_enterHold (s.withCause i)).other
      rw [h]
      rfl
    · rfl

/-- A cause of HOLD brings HOLD, or finds it. -/
theorem setCause_mode {s : Dev} (i : Nat) (hc : s.coreOn = true) (h : s.pwr.mode.works ∨ s.pwr.mode = .hold) : (s.setCause i).pwr.mode = .hold := by
  obtain h | h := h
  · rw [setCause_works i hc h]
    exact (held_enterHold _).mode
  · rw [setCause_inHold i h, causeActs_pwr]
    exact h

/-! ### THERMAL_SHUTDOWN -/

/-- The flag and the event of an over-temperature. -/
def Dev.overheated (s : Dev) (k : Nat) : Dev := (s.setFlag 0x82C 0).eventOk 0x0504 k

/-- The register of the power flags. -/
def flagReg (off : Nat) : Bool := decide (off = 0x82C)

theorem leaves_overheated (s : Dev) (k : Nat) : Leaves [.regs] flagReg s (s.overheated k) :=
  (leaves_setFlag (by decide) s 0 rfl).trans (.of_quiet (quiet_eventOk _ _ _))

theorem overheated_pwr (s : Dev) (k : Nat) : (s.overheated k).pwr = s.pwr := (leaves_overheated s k).pwr (by decide)

theorem coreOn_congr {s t : Dev} (h : t.pwr = s.pwr) : t.coreOn = s.coreOn := by rw [Dev.coreOn, Dev.coreOn, h]

theorem hasCause_congr {s t : Dev} (h : t.pwr = s.pwr) (i : Nat) : t.hasCause i = s.hasCause i := by rw [Dev.hasCause, Dev.hasCause, h]

section
variable {s e : Dev} {k : Nat} (h : Quiet ((s.overheated k).setCause causeThermal) e)
include h

theorem overheat_leaves : Leaves (.pwr :: holdAreas) radioReg (s.overheated k) e := (leaves_setCause _ _).trans (.of_quiet h)

theorem overheat_cause : e.pwr.cause = s.pwr.cause ||| 2 := by
  rw [h.pwr, setCause_cause, overheated_pwr]
  rfl

theorem overheat_flag : e.force 0x82C = s.force 0x82C ||| 1 := by
  refine ((overheat_leaves h).force rfl rfl).trans (((quiet_eventOk _ _ _).force _ rfl).trans ?_)
  exact flagged_force s 0x82C 0

theorem overheat_told {p : List Instr} {r : Rind} : Tells 0x0504 k ⟨p, s, r⟩ ⟨p, e, r⟩ :=
  tells_of_eventOk (s := ⟨p, s, r⟩) (sameEngine_setFlag s 0 (by decide) (.inl (by decide))) (overheat_leaves h).out

theorem overheat_works (hc : s.coreOn = true) (hlimp : s.hasCause causeLimp = false) (hm : s.pwr.mode.works) :
    Leaves [.pwr, .regs, .ring, .ozh, .rip, .chan, .car, .mtx, .str] (fun off => flagReg off || radioReg off) s e ∧ e.pwr.mode = .hold ∧
      Stilled s e ∧ e.dark := by
  have hpwr := overheated_pwr s k
  have hover := leaves_overheated s k
  rw [setCause_works causeThermal ((coreOn_congr hpwr).trans hc) (hpwr ▸ hm)] at h
  have hnot : ((s.overheated k).withCause causeThermal).hasCause causeLimp = false := by
    rw [hasCause_withCause _ (by decide), hasCause_congr hpwr, hlimp]
    rfl
  have hthermal : ((s.overheated k).withCause causeThermal).hasCause causeThermal = true := by
    rw [hasCause_withCause _ (by decide), decide_eq_true rfl, Bool.or_true]
  have hwith : Leaves [.pwr, .regs] flagReg s ((s.overheated k).withCause causeThermal) :=
    (hover.mono (by decide) fun _ h => h).trans (leaves_modPwr (by decide) _ _)
  have hleaves := leaves_enterHold_light hnot
  have hstill := (stilled_enterHold ((s.overheated k).withCause causeThermal)).of_source (s := s) (hwith.rip (by decide)) fun c hc =>
    hwith.safeLevel (fun off _ hhi => by simp [flagReg]; omega) hc
  refine ⟨?_, h.pwr ▸ (held_enterHold _).mode, hstill.goes h.rip h.chan, ?_⟩
  · refine (hwith.mono (by decide) fun off ho => ?_).trans ((hleaves.mono (by decide) fun off ho => ?_).trans (.of_quiet h))
    · exact (Bool.or_eq_false_iff.1 ho).1
    · exact (Bool.or_eq_false_iff.1 ho).2
  · exact dark_congr h.mtx h.str (dark_enterHold (by rw [hthermal, Bool.true_or]))

theorem overheat_hold (hlimp : s.hasCause causeLimp = false) (hm : s.pwr.mode = .hold) :
    Leaves [.pwr, .regs, .mtx, .str] flagReg s e ∧ e.pwr.mode = .hold ∧ e.dark := by
  have hpwr := overheated_pwr s k
  rw [setCause_inHold causeThermal (hpwr ▸ hm)] at h
  have hnot : ((s.overheated k).withCause causeThermal).hasCause causeLimp = false := by
    rw [hasCause_withCause _ (by decide), hasCause_congr hpwr, hlimp]
    rfl
  have hthermal : ((s.overheated k).withCause causeThermal).hasCause causeThermal = true := by
    rw [hasCause_withCause _ (by decide), decide_eq_true rfl, Bool.or_true]
  have hmode : ((s.overheated k).withCause causeThermal).pwr.mode = .hold := (congrArg Pwr.mode hpwr).trans hm
  have hdark : ((s.overheated k).withCause causeThermal).holdDark = true := by
    rw [Dev.holdDark, hthermal, Dev.inHold, hmode]
    rfl
  have hwith : Leaves [.pwr, .regs, .mtx, .str] flagReg s ((s.overheated k).withCause causeThermal) :=
    ((leaves_overheated s k).mono (by decide) fun _ h => h).trans (leaves_modPwr (by decide) _ _)
  refine ⟨hwith.trans (((leaves_causeActs_light hnot).mono (by decide) fun _ _ => rfl).trans (.of_quiet h)), ?_,
    dark_congr h.mtx h.str (dark_causeActs hdark)⟩
  rw [h.pwr, causeActs_pwr, hmode]

theorem overheat_doze (hm : s.pwr.mode = .doze) : Leaves [.pwr, .regs] flagReg s e ∧ e.pwr.mode = .doze := by
  have hpwr := overheated_pwr s k
  have hmode : (s.overheated k).pwr.mode = .doze := hpwr ▸ hm
  rw [setCause_rests causeThermal (by simp [hmode]) (by simp [Mode.works, hmode])] at h
  exact ⟨((leaves_overheated s k).mono (by decide) fun _ h => h).trans ((leaves_modPwr (by decide) _ _).trans (.of_quiet h)), h.pwr ▸ hmode⟩

end

theorem does_thermalShutdown {s : State} (k : Fin 4) (hc : s.dev.coreOn = true) (h : s.dev.hasCause 1 = false) (hlimp : s.dev.hasCause 2 = false) :
    Does (.thermalShutdown k) s (fun t =>
      t.dev.pwr.cause = s.dev.pwr.cause ||| 2 ∧ t.dev.force 0x82C = s.dev.force 0x82C ||| 1 ∧ Tells 0x0504 k s t ∧
      (s.dev.pwr.mode = .ready ∨ s.dev.pwr.mode = .run ∨ s.dev.pwr.mode = .shadow →
        KeepsBut [.pwr, .regs, .ring, .ozh, .rip, .chan, .car, .mtx, .str] s t ∧ t.dev.pwr.mode = .hold ∧
        (∀ n < 12, t.dev.ripOf n = (s.dev.ripOf n).stopped) ∧
        ∀ c < 1040, (t.dev.chanOf c).step = BitVec.ofNat 16 (s.dev.safeLevel c)) ∧
      (s.dev.pwr.mode = .hold → KeepsBut [.pwr, .regs, .mtx, .str] s t ∧ RegsBut (· = 0x82C) s t ∧ t.dev.pwr.mode = .hold) ∧
      (s.dev.pwr.mode = .ready ∨ s.dev.pwr.mode = .run ∨ s.dev.pwr.mode = .shadow ∨ s.dev.pwr.mode = .hold →
        t.dev.mtx.driving = false ∧ ∀ n < 16, (t.dev.strOf n).switching = false) ∧
      (s.dev.pwr.mode = .doze → KeepsBut [.pwr, .regs] s t ∧ RegsBut (· = 0x82C) s t ∧ t.dev.pwr.mode = .doze)) := by
  refine does_of_quiet _ (.refl (execThermalShutdown k s)) (d := (s.dev.overheated k).setCause causeThermal)
    (if_pos (by simp [hc, causeThermal, h])) fun e he => ?_
  refine ⟨overheat_cause he, overheat_flag he, overheat_told he, fun hm => ?_, fun hm => ?_, fun hm => ?_, fun hm => ?_⟩
  · obtain ⟨hleaves, hmode, hstill, -⟩ := overheat_works he hc hlimp hm
    exact ⟨hleaves.keepsBut, hmode, hstill.rips, hstill.steps⟩
  · obtain ⟨hleaves, hmode, -⟩ := overheat_hold he hlimp hm
    exact ⟨hleaves.keepsBut, hleaves.regsBut, hmode⟩
  · obtain hm | hm | hm | hm := hm
    · exact (overheat_works he hc hlimp (.inl hm)).2.2.2
    · exact (overheat_works he hc hlimp (.inr (.inl hm))).2.2.2
    · exact (overheat_works he hc hlimp (.inr (.inr hm))).2.2.2
    · exact (overheat_hold he hlimp hm).2.2
  · obtain ⟨hleaves, hmode⟩ := overheat_doze he hm
    exact ⟨hleaves.keepsBut, hleaves.regsBut, hmode⟩

theorem does_thermalShutdown_again {s : State} (k : Fin 4) (h : s.dev.hasCause 1 = true) : Does (.thermalShutdown k) s (KeepsBut [] s) :=
  does_nothing _ (.refl (execThermalShutdown k s)) (if_neg (by simp [causeThermal, h]))

/-! ### THERMAL_RELEASE -/

/-- The device with the thermal cause dropped, its matrix sampling blanked. -/
def Dev.cooled (s : Dev) : Dev := (s.dropCause causeThermal).modMtx (fun m => { m with blank := s.clk.now + 262144 })

/-- HOLD left, before the host is told. -/
def Dev.holdLeft (s : Dev) : Dev := (s.modPwr (fun p => { p with mode := .ready })).modMtx (fun m => { m with holdRows := 0 })

theorem thermal_alone : ∀ c : BitVec 5, c.toNat.testBit 1 = true → (c &&& ~~~ 2 = 0 ↔ c = 2) := by decide

theorem does_thermalRelease {s : State} (hc : s.dev.coreOn = true) (h : s.dev.hasCause 1 = true) :
    let ends : Prop := s.dev.pwr.mode = .hold ∧ s.dev.pwr.cause = 2 ∧ s.dev.rb 0x81C 2 = true
    Does .thermalRelease s (fun t => KeepsBut [.pwr, .mtx] s t ∧
      (ends → t.dev.pwr = { s.dev.pwr with cause := 0, mode := .ready } ∧
        t.dev.mtx = { s.dev.mtx with blank := s.dev.clk.now + 262144, holdRows := 0 } ∧ Tells 0x0205 0 s t) ∧
      (¬ends → t.dev.pwr = { s.dev.pwr with cause := s.dev.pwr.cause &&& ~~~ 2 } ∧
        t.dev.mtx = { s.dev.mtx with blank := s.dev.clk.now + 262144 })) := by
  intro ends
  have hcooled : Leaves [.pwr, .mtx] (fun _ => false) s.dev s.dev.cooled :=
    .trans (t := s.dev.dropCause causeThermal) (leaves_modPwr (by decide) _ _) (leaves_modMtx (by decide) _ _)
  have hguard : (s.dev.coreOn && s.dev.hasCause causeThermal) = true := by rw [hc, causeThermal, h]; rfl
  have hends : (s.dev.cooled.inHold && decide (s.dev.cooled.pwr.cause = 0) && s.dev.cooled.rb 0x81C 2) = true ↔ ends := by
    have hcause : s.dev.cooled.pwr.cause = 0 ↔ s.dev.pwr.cause = 2 := thermal_alone s.dev.pwr.cause h
    rw [Bool.and_eq_true, Bool.and_eq_true, decide_eq_true_iff, hcause, and_assoc]
    exact and_congr_left' decide_eq_true_iff
  by_cases he : ends
  · have hmode : s.dev.pwr.mode = .hold := he.1
    have hon : s.dev.cooled.holdLeft.coreOn = s.dev.coreOn := by
      simp only [Dev.coreOn, hmode, Dev.holdLeft, Dev.cooled, Dev.dropCause, Dev.modPwr, Dev.modMtx]
      rfl
    have hcause : s.dev.pwr.cause &&& ~~~ 2 = 0 := (thermal_alone _ h).2 he.2.1
    refine does_of_quiet _ (.refl (execThermalRelease s)) (d := s.dev.cooled.leaveHold)
      ((if_pos hguard).trans (if_pos (hends.2 he))) fun e hq => ?_
    have hq' : Quiet s.dev.cooled.holdLeft e := (quiet_eventOk _ _ _).trans hq
    have hleft : Leaves [.pwr, .mtx] (fun _ => false) s.dev.cooled s.dev.cooled.holdLeft :=
      .trans (t := s.dev.cooled.modPwr (fun p => { p with mode := .ready })) (leaves_modPwr (by decide) _ _) (leaves_modMtx (by decide) _ _)
    have hpwr : s.dev.cooled.holdLeft.pwr = { s.dev.pwr with cause := s.dev.pwr.cause &&& ~~~ 2, mode := .ready } := rfl
    refine ⟨((hcooled.trans hleft).trans (.of_quiet hq')).keepsBut, fun _ => ⟨?_, hq'.mtx, ?_⟩, fun hn => absurd he hn⟩
    · rw [hq'.pwr, hpwr, hcause]
    · exact tells_of_eventOk (b := s.dev.cooled.holdLeft) (.of_eq rfl rfl hon rfl) hq.out
  · refine does_of_quiet _ (.refl (execThermalRelease s)) (d := s.dev.cooled)
      ((if_pos hguard).trans (if_neg fun hg => he (hends.1 hg))) fun e hq => ?_
    exact ⟨(hcooled.trans (.of_quiet hq)).keepsBut, fun hn => absurd hn he, fun _ => ⟨hq.pwr, hq.mtx⟩⟩

theorem does_thermalRelease_idle {s : State} (h : s.dev.hasCause 1 = false) : Does .thermalRelease s (KeepsBut [] s) :=
  does_nothing _ (.refl (execThermalRelease s)) (if_neg (by simp [causeThermal, h]))

end Sys2Proof.Machine
end

section
/-! SUPPORT. The watchdog and the trial of an image (R94, R434, R436, R440, R444). -/

namespace Sys2Proof.Machine

/-! ### Slots and their checks -/

theorem slotOf_congr {s t : Dev} (h : t.flt.slots = s.flt.slots) (k : Nat) : t.slotOf k = s.slotOf k := by rw [Dev.slotOf, Dev.slotOf, h]

theorem slotOf_setSlotSt (s : Dev) (k j st : Nat) : (s.setSlotSt k st).slotOf j = if j = k then { s.slotOf k with st := st } else s.slotOf j :=
  tabGet_tabSet ..

/-- The check of a slot looks at the slot alone. -/
theorem imgReason_congr {s t : Dev} {k : Nat} (h : t.slotOf k = s.slotOf k) : t.imgReason k = s.imgReason k := by
  have hbyte (i : Nat) : t.flashByte k i = s.flashByte k i := by rw [Dev.flashByte, Dev.flashByte, h]
  have hle (n i : Nat) : t.flashLe k i n = s.flashLe k i n := by
    induction n generalizing i with
    | zero => rfl
    | succ n ih => rw [Dev.flashLe, Dev.flashLe, hbyte, ih]
  have hbytes (i n : Nat) : t.slotBytes k i n = s.slotBytes k i n := by simp only [Dev.slotBytes, hbyte]
  have hheader : t.headerGood k = s.headerGood k := by simp only [Dev.headerGood, hbyte, hle]
  have hlength : t.lengthGood k = s.lengthGood k := by simp only [Dev.lengthGood, hle]
  have hhash : t.hashGood k = s.hashGood k := by simp only [Dev.hashGood, hbytes, hle]
  have hsign : t.signGood k = s.signGood k := by simp only [Dev.signGood, hbytes]
  have hsilicon : t.siliconGood k = s.siliconGood k := by simp only [Dev.siliconGood, hbyte]
  rw [Dev.imgReason, Dev.imgReason, h, hheader, hlength, hhash, hsign, hsilicon]

/-! ### What a cause of HOLD finds -/

/-- Whether a cause set now brings HOLD, or finds it. -/
def Dev.holds (s : Dev) : Prop := (s.coreOn = true ∧ s.pwr.mode.works) ∨ s.pwr.mode = .hold

theorem holds_congr {s t : Dev} (h : t.pwr = s.pwr) : t.holds ↔ s.holds := by rw [Dev.holds, Dev.holds, coreOn_congr h, h]

theorem holds_of_stewardRuns {s : Dev} (h : s.stewardRuns = true) : s.holds := by
  simp only [Dev.stewardRuns, Dev.enginesOn, Bool.and_eq_true, Bool.or_eq_true, decide_eq_true_eq] at h
  obtain ⟨⟨⟨hc, hm⟩, -⟩, -⟩ := h
  obtain ((hm | hm) | hm) | hm := hm
  · exact .inl ⟨hc, .inl hm⟩
  · exact .inl ⟨hc, .inr (.inl hm)⟩
  · exact .inl ⟨hc, .inr (.inr hm)⟩
  · exact .inr hm

theorem setCause_holds {s : Dev} (i : Nat) (h : s.holds) : (s.setCause i).pwr.mode = .hold := by
  obtain ⟨hc, hm⟩ | hm := h
  · exact setCause_mode i hc (.inl hm)
  · rw [setCause_inHold i hm, causeActs_pwr]
    exact hm

/-! ### The device fault -/

theorem raiseDev_standing {s : Dev} {bit : Nat} (code : Nat) (h : s.rb 0xA008 bit = true) : s.raiseDev bit code = s := if_pos h

theorem raiseDev_new {s : Dev} {bit : Nat} (code : Nat) (h : s.rb 0xA008 bit = false) :
    s.raiseDev bit code = ((s.setFlag 0xA008 bit).reportFault code).setCause causeFault := if_neg (by simp [h])

/-- FLT_DEV, and what the radio takes from completions. -/
def devReg (off : Nat) : Bool := decide (off = 0xA008) || radioReg off

theorem leaves_faultTold (s : Dev) (bit code : Nat) : Leaves (.pwr :: holdAreas) devReg s ((s.setFlag 0xA008 bit).reportFault code) :=
  (leaves_setFlag (by decide) s bit rfl).trans (.of_quiet (quiet_reportFault _ _))

theorem leaves_raiseDev (s : Dev) (bit code : Nat) : Leaves (.pwr :: holdAreas) devReg s (s.raiseDev bit code) := by
  refine .ite (.refl s) ((leaves_faultTold s bit code).trans ((leaves_setCause _ _).mono (by decide) fun off h => ?_))
  exact (Bool.or_eq_false_iff.1 h).2

/-- A device fault raised brings HOLD with its cause. -/
theorem raiseDev_raised {s : Dev} {bit code : Nat} (h : s.rb 0xA008 bit = false) (hh : s.holds) :
    (s.raiseDev bit code).pwr.mode = .hold ∧ (s.raiseDev bit code).hasCause causeFault = true ∧
      (s.raiseDev bit code).force 0xA008 = s.force 0xA008 ||| BitVec.ofNat 32 (2 ^ bit) := by
  have hq := quiet_reportFault (s.setFlag 0xA008 bit) code
  have hpwr : ((s.setFlag 0xA008 bit).reportFault code).pwr = s.pwr := hq.pwr
  rw [raiseDev_new code h]
  refine ⟨setCause_holds _ ((holds_congr hpwr).2 hh), ?_, ?_⟩
  · have hbits : (BitVec.ofNat 5 (2 ^ causeFault)).toNat.testBit causeFault = true := by decide
    rw [Dev.hasCause, setCause_cause, BitVec.toNat_or, Nat.testBit_or, hbits, Bool.or_true]
  · exact ((leaves_setCause _ _).force rfl rfl).trans ((hq.force _ rfl).trans (flagged_force _ _ _))

/-! ### A trial that fails -/

theorem bootActive_wdog (s : Dev) : s.bootActive.flt.wdogCnt = s.flt.wdogCnt ∧ s.bootActive.flt.wdogAt = s.flt.wdogAt := by
  obtain ⟨x, hx, -⟩ := noteReason_only s (s.imgReason s.flt.active)
  rw [bootActive_eq, hx]
  split_ifs <;> exact ⟨rfl, rfl⟩

/-- The running slot BAD, and its trial over (R444). -/
def Dev.slotFailed (s : Dev) : Dev := (s.setSlotSt s.flt.running 2).modFlt (fun f => { f with reverted := true, trial := false })

theorem trialFail_eq (s : Dev) : s.trialFail = if (s.slotFailed.bootActive.judgeVersion true).flt.refuse then
    (s.slotFailed.bootActive.judgeVersion true).setCause causeRefuse else s.slotFailed.bootActive.judgeVersion true := rfl

/-- What the end of a failed trial leaves. -/
structure TrialFailed (s t : Dev) : Prop where
  leaves : Leaves (.flt :: .pwr :: holdAreas) radioReg s t
  trial : t.flt.trial = false
  reverted : t.flt.reverted = true
  wdogCnt : t.flt.wdogCnt = s.flt.wdogCnt
  wdogAt : t.flt.wdogAt = s.flt.wdogAt
  boots : s.flt.active ≠ s.flt.running → s.imgReason s.flt.active = 0 → (t.slotOf s.flt.running).st = 2 ∧ t.flt.running = s.flt.active
  holds : s.holds → t.holds

theorem judged_slotFailed (s : Dev) : TrialFailed s (s.slotFailed.bootActive.judgeVersion true) := by
  have hboot := bootChoice_bootActive s.slotFailed
  obtain ⟨hcnt, hat⟩ := bootActive_wdog s.slotFailed
  obtain ⟨f, hf⟩ := hboot.only
  obtain ⟨hjudge, m, v, l, c, hflt⟩ := judged_judgeVersion s.slotFailed.bootActive true
  have hfailed : Leaves (.flt :: .pwr :: holdAreas) radioReg s s.slotFailed :=
    leaves_modFlt (by decide) s fun g => { s.slotFailed.flt with }
  have hchosen : Leaves (.flt :: .pwr :: holdAreas) radioReg s.slotFailed s.slotFailed.bootActive := by
    rw [hf]
    exact leaves_modFlt (by decide) _ fun _ => f
  have hpwr : (s.slotFailed.bootActive.judgeVersion true).pwr = s.pwr := by
    rw [hjudge.pwr (by decide), hf]
    rfl
  refine ⟨(hfailed.trans hchosen).trans (hjudge.mono (by decide) fun _ _ => rfl), ?_, ?_, ?_, ?_, fun hne hr => ?_,
    fun h => (holds_congr hpwr).2 h⟩
  · rw [hflt]
    exact hboot.trial
  · rw [hflt]
    exact hboot.reverted
  · rw [hflt]
    exact hcnt
  · rw [hflt]
    exact hat
  · have hslot (j : Nat) : s.slotFailed.slotOf j = if j = s.flt.running then { s.slotOf s.flt.running with st := 2 } else s.slotOf j :=
      slotOf_setSlotSt s _ j 2
    have hactive : s.slotFailed.imgReason s.flt.active = s.imgReason s.flt.active := imgReason_congr ((hslot _).trans (if_neg hne))
    obtain ⟨hrun, -⟩ := hboot.active (hactive.trans hr)
    have hst : (s.slotFailed.bootActive.judgeVersion true).slotOf s.flt.running = { s.slotOf s.flt.running with st := 2 } := by
      have hslots : (s.slotFailed.bootActive.judgeVersion true).flt.slots = s.slotFailed.flt.slots := by
        rw [hflt]
        exact hboot.slots
      rw [slotOf_congr hslots, hslot, if_pos rfl]
    rw [hst, hflt]
    exact ⟨rfl, hrun⟩

/-- A cause of HOLD set leaves what a failed trial left. -/
theorem TrialFailed.setCause {s t : Dev} (h : TrialFailed s t) (i : Nat) : TrialFailed s (t.setCause i) := by
  have hleaves := leaves_setCause t i
  obtain ⟨l, c, hflt⟩ : sameFlt t (t.setCause i) := hleaves.same .flt (by decide) ⟨[], t, {}⟩
  have hslot := slotOf_congr (s := t) (t := t.setCause i) (by rw [hflt]) s.flt.running
  refine ⟨h.leaves.trans (hleaves.mono (by decide) fun _ h => h), ?_, ?_, ?_, ?_, fun hne hr => ?_,
    fun hh => .inr (setCause_holds i (h.holds hh))⟩
  · rw [hflt]
    exact h.trial
  · rw [hflt]
    exact h.reverted
  · rw [hflt]
    exact h.wdogCnt
  · rw [hflt]
    exact h.wdogAt
  · rw [hslot, hflt]
    exact h.boots hne hr

theorem trialFailed_trialFail (s : Dev) : TrialFailed s s.trialFail := by
  rw [trialFail_eq]
  split
  · exact (judged_slotFailed s).setCause causeRefuse
  · exact judged_slotFailed s

/-! ### The watchdog -/

/-- Whether the watchdog's last expiry but one was within 10 s (R434). -/
def Dev.wdogRepeated (s : Dev) : Bool :=
  match s.flt.wdogAt with
  | [_, t] => decide (s.clk.now ≤ t + 1966080000)
  | _ => false

theorem wdogRepeated_iff (s : Dev) : s.wdogRepeated = true ↔ ∃ a b, s.flt.wdogAt = [a, b] ∧ s.clk.now ≤ b + 1966080000 := by
  unfold Dev.wdogRepeated
  split
  · next a b h => simp [h]
  · next h =>
    simp only [Bool.false_eq_true, false_iff]
    rintro ⟨a, b, hab, -⟩
    exact h a b hab

/-- The device with the Steward restarted by its watchdog: the expiry counted and FLT_DBG.EN off. -/
def Dev.wdogReset (s : Dev) : Dev :=
  (s.modFlt (fun f => { f with wdogCnt := satInc f.wdogCnt, wdogAt := (s.clk.now :: f.wdogAt).take 2 })).debugOff.setFlag 0x82C 3

/-- The same, with the host told. -/
def Dev.wdogTold (s : Dev) : Dev := s.wdogReset.eventOk 0x0206 0

/-- The same, with a trial ended. -/
def Dev.wdogTrial (s : Dev) : Dev := if s.wdogTold.flt.trial then s.wdogTold.trialFail else s.wdogTold

/-- The watchdog's registers. -/
def wdogReg (off : Nat) : Bool := decide (off = 0x82C) || decide (off = 0xA0C0)

theorem debugOff_force (s : Dev) (off : Nat) : s.debugOff.force off = if off = 0xA0C0 then regReset off else s.force off := by
  refine (tabGet_tabKeep (regReset off) (fun off => off ≠ 0xA0C0) s.regs.force off).trans ?_
  by_cases h : off = 0xA0C0 <;> simp [h, Dev.force]

theorem debugOff_written (s : Dev) (off : Nat) : s.debugOff.written off = if off = 0xA0C0 then regReset off else s.written off := by
  refine (tabGet_tabKeep (regReset off) (fun off => off ≠ 0xA0C0) s.regs.written off).trans ?_
  by_cases h : off = 0xA0C0 <;> simp [h, Dev.written]

theorem leaves_debugOff (s : Dev) : Leaves [.flt, .regs] wdogReg s s.debugOff := by
  refine leaves_setRegs (by decide) s _ fun off h => ?_
  have hne : off ≠ 0xA0C0 := fun he => by simp [wdogReg, he] at h
  exact ⟨(debugOff_force s off).trans (if_neg hne), (debugOff_written s off).trans (if_neg hne)⟩

theorem leaves_wdogReset (s : Dev) : Leaves [.flt, .regs] wdogReg s s.wdogReset :=
  ((leaves_modFlt (by decide) s _).trans (leaves_debugOff _)).trans (leaves_setFlag (by decide) _ 3 rfl)

theorem quiet_wdogTold (s : Dev) : Quiet s.wdogReset s.wdogTold := quiet_eventOk _ _ _

theorem leaves_wdogTold (s : Dev) : Leaves [.flt, .regs] wdogReg s s.wdogTold := (leaves_wdogReset s).trans (.of_quiet (quiet_wdogTold s))

theorem sameEngine_wdogReset (s : Dev) : SameEngine s s.wdogReset := by
  have hleaves := leaves_wdogReset s
  refine .of_regs rfl rfl rfl ?_ fun off hlo hhi => ?_
  · exact hleaves.force rfl rfl
  · have hflag : s.wdogReset.force off =
        (s.modFlt (fun f => { f with wdogCnt := satInc f.wdogCnt, wdogAt := (s.clk.now :: f.wdogAt).take 2 })).debugOff.force off :=
      tabGet_tabSet_ne' _ _ _ _ _ _ (by omega)
    rw [hflag, debugOff_force, if_neg (by omega)]
    rfl

theorem wdogReset_flags (s : Dev) : s.wdogReset.force 0x82C = s.force 0x82C ||| 8 ∧ s.wdogReset.force 0xA0C0 = regReset 0xA0C0 := by
  refine ⟨(flagged_force _ 0x82C 3).trans ?_, ?_⟩
  · rw [debugOff_force]
    rfl
  · refine (tabGet_tabSet_ne' _ _ _ _ _ _ (by decide)).trans ?_
    exact debugOff_force _ 0xA0C0

/-- The areas that a failed trial, or a fault raised, can change. -/
def wdogAreas : List Area := .flt :: .pwr :: holdAreas

theorem leaves_wdogTrial (s : Dev) : Leaves wdogAreas radioReg s.wdogTold s.wdogTrial :=
  .ite (trialFailed_trialFail _).leaves (.refl _)

/-- The same, with the fault raised that a third expiry within 10 s is. -/
def Dev.wdogEnd (s : Dev) : Dev := if s.wdogRepeated then s.wdogTrial.raiseDev 1 0x11 else s.wdogTrial

theorem leaves_wdogFault (s : Dev) : Leaves (.pwr :: holdAreas) devReg s.wdogTrial s.wdogEnd := .ite (leaves_raiseDev _ 1 0x11) (.refl _)

theorem leaves_wdogEnd (s : Dev) : Leaves wdogAreas devReg s.wdogTold s.wdogEnd :=
  ((leaves_wdogTrial s).mono (by decide) fun _ h => (Bool.or_eq_false_iff.1 h).2).trans
    ((leaves_wdogFault s).mono (by decide) fun _ h => h)

theorem wdogTold_flt (s : Dev) : ∃ l c, s.wdogTold.flt =
    { s.flt with wdogCnt := satInc s.flt.wdogCnt, wdogAt := (s.clk.now :: s.flt.wdogAt).take 2, local_ := l, last := c } := (quiet_wdogTold s).flt

theorem wdogTrial_idle {s : Dev} (h : s.flt.trial = false) : s.wdogTrial = s.wdogTold := by
  obtain ⟨l, c, hf⟩ := wdogTold_flt s
  exact if_neg (by rw [hf]; simp [h])

theorem wdogTrial_failed {s : Dev} (h : s.flt.trial = true) : s.wdogTrial = s.wdogTold.trialFail := by
  obtain ⟨l, c, hf⟩ := wdogTold_flt s
  exact if_pos (by rw [hf]; exact h)

theorem wdogTrial_count (s : Dev) :
    s.wdogTrial.flt.wdogCnt = satInc s.flt.wdogCnt ∧ s.wdogTrial.flt.wdogAt = (s.clk.now :: s.flt.wdogAt).take 2 := by
  obtain ⟨l, c, hf⟩ := wdogTold_flt s
  cases h : s.flt.trial with
  | false =>
    rw [wdogTrial_idle h, hf]
    exact ⟨rfl, rfl⟩
  | true =>
    have hfail := trialFailed_trialFail s.wdogTold
    rw [wdogTrial_failed h, hfail.wdogCnt, hfail.wdogAt, hf]
    exact ⟨rfl, rfl⟩

theorem wdogTold_pwr (s : Dev) : s.wdogTold.pwr = s.pwr := (leaves_wdogTold s).pwr (by decide)

theorem wdogTrial_holds {s : Dev} (h : s.holds) : s.wdogTrial.holds := by
  have htold : s.wdogTold.holds := (holds_congr (wdogTold_pwr s)).2 h
  unfold Dev.wdogTrial
  split
  · exact (trialFailed_trialFail s.wdogTold).holds htold
  · exact htold

theorem wdogTrial_fault (s : Dev) : s.wdogTrial.force 0xA008 = s.force 0xA008 :=
  ((leaves_wdogTrial s).force rfl rfl).trans ((leaves_wdogTold s).force rfl rfl)

/-- Without a trial and without a new fault the watchdog's end is the Steward's restart alone. -/
theorem wdogEnd_plain {s : Dev} (ht : s.flt.trial = false) (hr : ¬(s.wdogRepeated = true ∧ s.rb 0xA008 1 = false)) : s.wdogEnd = s.wdogTold := by
  have hfault : s.wdogTold.rb 0xA008 1 = s.rb 0xA008 1 := by rw [Dev.rb, Dev.rb, (leaves_wdogTold s).force rfl rfl]
  rw [Dev.wdogEnd, wdogTrial_idle ht]
  split
  · next hrep => exact raiseDev_standing _ (hfault.trans (eq_true_of_ne_false fun hb => hr ⟨hrep, hb⟩))
  · rfl

theorem does_watchdogExpiry {s : State} (h : s.dev.stewardRuns = true) :
    let f : Flt := s.dev.flt
    let repeated : Prop := ∃ a b, f.wdogAt = [a, b] ∧ s.dev.clk.now ≤ b + 1966080000
    let raised : Prop := repeated ∧ s.dev.rb 0xA008 1 = false
    Does .watchdogExpiry s (fun t => t.rind = s.rind ∧ t.dev.flt.wdogCnt = satInc f.wdogCnt ∧
      t.dev.flt.wdogAt = (s.dev.clk.now :: f.wdogAt).take 2 ∧ t.dev.force 0x82C = s.dev.force 0x82C ||| 8 ∧
      t.dev.force 0xA0C0 = regReset 0xA0C0 ∧ Tells 0x0206 0 s t ∧
      (f.trial = false → ¬raised → KeepsBut [.flt, .regs] s t ∧ RegsBut (fun off => off = 0x82C || off = 0xA0C0) s t) ∧
      (f.trial = true → t.dev.flt.trial = false ∧ t.dev.flt.reverted = true ∧
        (f.active ≠ f.running → s.dev.imgReason f.active = 0 → (t.dev.slotOf f.running).st = 2 ∧ t.dev.flt.running = f.active)) ∧
      (raised → t.dev.pwr.mode = .hold ∧ t.dev.hasCause 4 = true ∧ t.dev.force 0xA008 = s.dev.force 0xA008 ||| 2)) := by
  intro f repeated raised
  have hraised : raised ↔ s.dev.wdogRepeated = true ∧ s.dev.rb 0xA008 1 = false := and_congr_left' (wdogRepeated_iff s.dev).symm
  refine does_of_quiet _ (.refl (execWatchdogExpiry s)) (d := s.dev.wdogEnd) ((if_pos h).trans rfl) fun e he => ?_
  have hend : Leaves wdogAreas devReg s.dev.wdogTold e := (leaves_wdogEnd s.dev).trans (.of_quiet he)
  have hfault : Leaves (.pwr :: holdAreas) devReg s.dev.wdogTrial e := (leaves_wdogFault s.dev).trans (.of_quiet he)
  obtain ⟨l, c, hflt⟩ := hfault.same .flt (by decide) ⟨[], e, {}⟩
  have hflt : e.flt = { s.dev.wdogTrial.flt with local_ := l, last := c } := hflt
  obtain ⟨hcnt, hat⟩ := wdogTrial_count s.dev
  obtain ⟨hflag, hdebug⟩ := wdogReset_flags s.dev
  have htold := quiet_wdogTold s.dev
  refine ⟨rfl, by rw [hflt]; exact hcnt, by rw [hflt]; exact hat, ?_, ?_, ?_, fun ht hr => ?_, fun ht => ?_, fun hr => ?_⟩
  · exact (hend.force rfl rfl).trans ((htold.force _ rfl).trans hflag)
  · exact (hend.force rfl rfl).trans ((htold.force _ rfl).trans hdebug)
  · exact tells_of_eventOk (sameEngine_wdogReset s.dev) hend.out
  · rw [wdogEnd_plain ht (mt hraised.2 hr)] at he
    have hplain := (leaves_wdogTold s.dev).trans (.of_quiet he)
    exact ⟨hplain.keepsBut, hplain.regsBut⟩
  · have hfail := trialFailed_trialFail s.dev.wdogTold
    rw [← wdogTrial_failed ht] at hfail
    obtain ⟨_, _, hf⟩ := wdogTold_flt s.dev
    have hslot (k : Nat) : s.dev.wdogTold.slotOf k = s.dev.slotOf k := slotOf_congr (by rw [hf]) k
    have hboots := hfail.boots
    rw [imgReason_congr (hslot _), hf] at hboots
    rw [slotOf_congr (s := s.dev.wdogTrial) (by rw [hflt]), hflt]
    exact ⟨hfail.trial, hfail.reverted, hboots⟩
  · obtain ⟨hrep, hnew⟩ := hraised.1 hr
    have hnew' : s.dev.wdogTrial.rb 0xA008 1 = false := by rw [Dev.rb, wdogTrial_fault]; exact hnew
    obtain ⟨hmode, hcause, hforce⟩ := raiseDev_raised (code := 0x11) hnew' (wdogTrial_holds (holds_of_stewardRuns h))
    rw [Dev.wdogEnd, if_pos hrep] at he
    refine ⟨(congrArg Pwr.mode he.pwr).trans hmode, (hasCause_congr he.pwr 4).trans hcause, (he.force _ rfl).trans (hforce.trans ?_)⟩
    rw [wdogTrial_fault]
    rfl

theorem does_watchdogExpiry_idle {s : State} (h : s.dev.stewardRuns = false) : Does .watchdogExpiry s (KeepsBut [] s) :=
  does_nothing _ (.refl (execWatchdogExpiry s)) (if_neg (by simp [h]))

end Sys2Proof.Machine
end

section
/-! SUPPORT. The debug halt, the trial's end and a lost PLL (R256, R277, R435 to R437, R444), and O44. -/

namespace Sys2Proof.Machine

/-! ### Engines halted -/

/-- Only the Ripeners differ. -/
def OnlyRips (s t : Dev) : Prop := ∃ r, t = { s with rip := r }

theorem OnlyRips.refl (s : Dev) : OnlyRips s s := ⟨_, rfl⟩

theorem OnlyRips.trans {s t u : Dev} (h : OnlyRips s t) (k : OnlyRips t u) : OnlyRips s u := by
  obtain ⟨_, rfl⟩ := h
  obtain ⟨_, rfl⟩ := k
  exact ⟨_, rfl⟩

theorem onlyHarps_harpHalt (s : Dev) (n : Nat) : OnlyHarps s (s.harpHalt n) := by
  unfold Dev.harpHalt
  simp only
  split
  · exact ⟨_, rfl⟩
  · exact .refl s

theorem onlyHarps_harpResume (s : Dev) (n : Nat) : OnlyHarps s (s.harpResume n) := by
  unfold Dev.harpResume
  simp only
  split
  · exact ⟨_, rfl⟩
  · exact .refl s

theorem ripOf_setRip (s : Dev) (n m : Nat) (r : Rip) : (s.setRip n r).ripOf m = if m = n then r else s.ripOf m := tabGet_tabSet ..

theorem harpOf_congr {s t : Dev} (h : t.harp = s.harp) (n : Nat) : t.harpOf n = s.harpOf n := by rw [Dev.harpOf, Dev.harpOf, h]

/-- The state of a Harp in a debug halt, by whether it is enabled (R277). -/
def haltedSt (en : Bool) (st : Nat) : Nat := if en ∧ (st = 1 ∨ st = 2) then 4 else st

theorem harpHalt_st (s : Dev) (n m : Nat) :
    ((s.harpHalt n).harpOf m).st = if m = n then haltedSt (s.rb 0x5000 n) (s.harpOf n).st else (s.harpOf m).st := by
  unfold Dev.harpHalt haltedSt
  simp only [Bool.and_eq_true, Bool.or_eq_true, decide_eq_true_eq]
  split
  · rw [harpOf_setHarp]
    split <;> rfl
  · split
    · next h => rw [h]
    · rfl

/-- Every Harp halted. -/
theorem forEach_harpHalt (s : Dev) {n : Nat} (h : n < 8) :
    ((forEach (upTo 8) (fun s n => s.harpHalt n) s).harpOf n).st = haltedSt (s.rb 0x5000 n) (s.harpOf n).st := by
  have hpair := forEach_units (get := fun (s : Dev) n => ((s.harpOf n).st, s.rb 0x5000 n)) (step := fun s n => s.harpHalt n)
    (f := fun _ x => (haltedSt x.2 x.1, x.2)) (fun s n m => ?_) h s
  · exact (Prod.mk.inj hpair).1
  · obtain ⟨_, ho⟩ := onlyHarps_harpHalt s n
    have hrb : (s.harpHalt n).rb 0x5000 m = s.rb 0x5000 m := by rw [ho]; rfl
    simp only [harpHalt_st, hrb]
    split
    · next hm => rw [hm]
    · rfl

/-- A Ripener paused where it is enabled (R256). -/
def Dev.ripHalt (s : Dev) (n : Nat) : Dev := if s.rb 0x4000 n then s.modRip n (fun r => { r with dbgPause := true }) else s

theorem onlyRips_ripHalt (s : Dev) (n : Nat) : OnlyRips s (s.ripHalt n) := by
  unfold Dev.ripHalt
  split
  · exact ⟨_, rfl⟩
  · exact .refl s

theorem ripHalt_ripOf (s : Dev) (n m : Nat) : (s.ripHalt n).ripOf m =
    if m = n then (if s.rb 0x4000 n then { s.ripOf n with dbgPause := true } else s.ripOf n) else s.ripOf m := by
  unfold Dev.ripHalt
  split
  · exact ripOf_setRip s n m _
  · split
    · next h => rw [h]
    · rfl

theorem forEach_ripHalt (s : Dev) {n : Nat} (h : n < 12) : (forEach (upTo 12) (fun s n => s.ripHalt n) s).ripOf n =
    if s.rb 0x4000 n then { s.ripOf n with dbgPause := true } else s.ripOf n := by
  have hpair := forEach_units (get := fun (s : Dev) n => (s.ripOf n, s.rb 0x4000 n)) (step := fun s n => s.ripHalt n)
    (f := fun _ x => (if x.2 then { x.1 with dbgPause := true } else x.1, x.2)) (fun s n m => ?_) h s
  · exact (Prod.mk.inj hpair).1
  · obtain ⟨_, ho⟩ := onlyRips_ripHalt s n
    have hrb : (s.ripHalt n).rb 0x4000 m = s.rb 0x4000 m := by rw [ho]; rfl
    simp only [ripHalt_ripOf, hrb]
    split
    · next hm => rw [hm]
    · rfl

/-! ### DEBUG_HALT -/

/-- The halt noted. -/
def Dev.haltNoted (s : Dev) : Dev := s.modFlt (fun f => { f with dbgHalt := true, haltAt := s.clk.now })

/-- The Ripeners halted. -/
def Dev.ripsHalted (s : Dev) : Dev := forEach (upTo 12) (fun s n => s.ripHalt n) s

/-- The Harps halted. -/
def Dev.harpsHalted (s : Dev) : Dev := forEach (upTo 8) (fun s n => s.harpHalt n) s

theorem onlyRips_ripsHalted (s : Dev) : OnlyRips s s.ripsHalted := foldl_of_step .refl .trans onlyRips_ripHalt _ s

theorem onlyHarps_harpsHalted (s : Dev) : OnlyHarps s s.harpsHalted := foldl_of_step .refl .trans onlyHarps_harpHalt _ s

/-- A change of the fault summary, the Ripeners and the Harps, in that order. -/
theorem leaves_units {s b t u : Dev} {f : Flt} (hb : b = { s with flt := f }) (hr : OnlyRips b t) (hh : OnlyHarps t u) :
    Leaves [.flt, .rip, .harp] (fun _ => false) s u := by
  subst hb
  obtain ⟨_, rfl⟩ := hr
  obtain ⟨_, rfl⟩ := hh
  exact .over rfl

theorem does_debugHalt {s : State} (hc : s.dev.coreOn = true) (hen : s.dev.rb 0xA0C0 0 = true) (hrun : s.dev.flt.dbgHalt = false) :
    Does .debugHalt s (fun t => KeepsBut [.flt, .rip, .harp] s t ∧
      t.dev.flt.dbgHalt = true ∧ t.dev.flt.haltAt = s.dev.clk.now ∧ t.dev.flt.running = s.dev.flt.running ∧
      (∀ n < 12, t.dev.ripOf n = if s.dev.rb 0x4000 n then { s.dev.ripOf n with dbgPause := true } else s.dev.ripOf n) ∧
      ∀ n < 8, (t.dev.harpOf n).st =
        if s.dev.rb 0x5000 n ∧ ((s.dev.harpOf n).st = 1 ∨ (s.dev.harpOf n).st = 2) then 4 else (s.dev.harpOf n).st) := by
  refine does_of_quiet _ (.refl (execDebugHalt s)) (d := s.dev.haltNoted.ripsHalted.harpsHalted)
    ((if_pos (by simp [hc, hen, hrun])).trans rfl) fun e he => ?_
  have hrips := onlyRips_ripsHalted s.dev.haltNoted
  have hharps := onlyHarps_harpsHalted s.dev.haltNoted.ripsHalted
  have hleaves := (leaves_units (s := s.dev) rfl hrips hharps).trans (.of_quiet he)
  have hrip (n : Nat) (hn : n < 12) := forEach_ripHalt s.dev.haltNoted hn
  have hharp (n : Nat) (hn : n < 8) := forEach_harpHalt s.dev.haltNoted.ripsHalted hn
  obtain ⟨r, hr⟩ := hrips
  obtain ⟨x, hx⟩ := hharps
  obtain ⟨_, _, hflt⟩ := he.flt
  have hflt' : s.dev.haltNoted.ripsHalted.harpsHalted.flt = s.dev.haltNoted.flt := by rw [hx, hr]
  have hrip' : e.rip = s.dev.haltNoted.ripsHalted.rip := he.rip.trans (by rw [hx])
  rw [hflt'] at hflt
  rw [hflt]
  refine ⟨hleaves.keepsBut, rfl, rfl, rfl, fun n hn => (ripOf_congr hrip' n).trans (hrip n hn), fun n hn => ?_⟩
  refine (congrArg Harp.st (harpOf_congr he.harp n)).trans ((hharp n hn).trans ?_)
  rw [hr]
  rfl

theorem does_debugHalt_idle {s : State} (h : s.dev.rb 0xA0C0 0 = false ∨ s.dev.flt.dbgHalt = true) : Does .debugHalt s (KeepsBut [] s) := by
  refine does_nothing _ (.refl (execDebugHalt s)) (if_neg ?_)
  obtain h | h := h <;> simp [h]

/-! ### The end of a debug halt -/

/-- The halt ended, the trial's time going on. -/
def Dev.haltEnded (s : Dev) : Dev := s.trialResumes.modFlt (fun f => { f with dbgHalt := false })

/-- The Ripeners resumed. -/
def Dev.ripsResumed (s : Dev) : Dev := forEach (upTo 12) (fun s n => s.modRip n (fun r => { r with dbgPause := false })) s

/-- The Harps resumed. -/
def Dev.harpsResumed (s : Dev) : Dev := forEach (upTo 8) (fun s n => s.harpResume n) s

theorem onlyRips_ripsResumed (s : Dev) : OnlyRips s s.ripsResumed := foldl_of_step .refl .trans (fun _ _ => ⟨_, rfl⟩) _ s

theorem onlyHarps_harpsResumed (s : Dev) : OnlyHarps s s.harpsResumed := foldl_of_step .refl .trans onlyHarps_harpResume _ s

/-- The state of a Harp and the state it was halted in, after a halt. -/
def resumedSt (x : Nat × Nat) : Nat × Nat := (if x.1 = 4 then x.2 else x.1, if x.1 = 4 then 0 else x.2)

theorem harpResume_st (s : Dev) (n m : Nat) : (((s.harpResume n).harpOf m).st, ((s.harpResume n).harpOf m).paused) =
    if m = n then resumedSt ((s.harpOf n).st, (s.harpOf n).paused) else ((s.harpOf m).st, (s.harpOf m).paused) := by
  unfold Dev.harpResume resumedSt
  by_cases h : (s.harpOf n).st = 4
  · simp only [h, if_true, harpOf_setHarp]
    split <;> rfl
  · simp only [h, if_false]
    split
    · next hm => rw [hm]
    · rfl

theorem harpsResumed_st (s : Dev) {n : Nat} (h : n < 8) :
    (s.harpsResumed.harpOf n).st = if (s.harpOf n).st = 4 then (s.harpOf n).paused else (s.harpOf n).st := by
  have hpair := forEach_units (get := fun (s : Dev) n => ((s.harpOf n).st, (s.harpOf n).paused)) (step := fun s n => s.harpResume n)
    (f := fun _ x => resumedSt x) harpResume_st h s
  exact (Prod.mk.inj hpair).1

/-- Where nothing waited for the Steward, nothing but the engines goes on. -/
theorem enumRelease_nothing {s : Dev} (h : s.hoop.enumHeld = []) : s.enumRelease = s := by
  unfold Dev.enumRelease
  rw [h]
  rw [List.foldl_nil, Dev.modHoop, ← h]

theorem ozhRelease_nothing {s : Dev} (hl : s.ozh.later = []) (hg : s.ozh.leaves = []) (hr : s.ozh.rspLater = none) (hk : s.ozh.rekeyLater = false) :
    s.ozhRelease = s := by
  unfold Dev.ozhRelease
  simp only [hl, hg, hr, hk, List.foldl_nil, Bool.false_and, Bool.false_eq_true, if_false]
  rw [Dev.modOzh, ← hl, ← hg, ← hr, ← hk]

theorem stewardRun_nothing {s : Dev} (hs : s.ring.steward = []) (hc : ∀ n < 8, (s.curdOf n).stopping = false) (r : Rind) :
    stewardRun s r = (s, r) := by
  have hmod : s.modRing (fun q => { q with steward := [] }) = s := by rw [Dev.modRing, ← hs]
  have hstop : s.stopRings = s := List.foldl_fixed' (fun n => if_neg (by simp [hc n.val n.isLt])) _
  simp only [stewardRun, hs, hmod, List.foldl_nil, hstop]

/-- The engines as the end of a halt leaves them. -/
def Dev.enginesResumed (s : Dev) : Dev := s.haltEnded.ripsResumed.harpsResumed

theorem haltEnds_eq (s : Dev) : s.haltEnds = s.enginesResumed.enumRelease := rfl

theorem enginesResumed_only (s : Dev) : ∃ r h, s.enginesResumed = { s with flt := s.haltEnded.flt, rip := r, harp := h } := by
  obtain ⟨r, hr⟩ := onlyRips_ripsResumed s.haltEnded
  obtain ⟨h, hh⟩ := onlyHarps_harpsResumed s.haltEnded.ripsResumed
  refine ⟨r, h, ?_⟩
  rw [Dev.enginesResumed, hh, hr]
  rfl

theorem leaves_enginesResumed (s : Dev) : Leaves [.flt, .rip, .harp] (fun _ => false) s s.enginesResumed := by
  obtain ⟨r, h, hd⟩ := enginesResumed_only s
  rw [hd]
  exact .over rfl

theorem enginesResumed_flt (s : Dev) : s.enginesResumed.flt = s.haltEnded.flt := by
  obtain ⟨r, h, hd⟩ := enginesResumed_only s
  rw [hd]

theorem enginesResumed_ripOf (s : Dev) {n : Nat} (hn : n < 12) : s.enginesResumed.ripOf n = { s.ripOf n with dbgPause := false } := by
  obtain ⟨h, hh⟩ := onlyHarps_harpsResumed s.haltEnded.ripsResumed
  have hrip : s.enginesResumed.rip = s.haltEnded.ripsResumed.rip := by rw [Dev.enginesResumed, hh]
  rw [ripOf_congr hrip]
  exact forEach_units (get := fun (s : Dev) n => s.ripOf n) (step := fun s n => s.modRip n (fun r => { r with dbgPause := false }))
    (f := fun _ r => { r with dbgPause := false }) (fun _ _ _ => tabGet_tabSet ..) hn s.haltEnded

theorem enginesResumed_st (s : Dev) {n : Nat} (hn : n < 8) :
    (s.enginesResumed.harpOf n).st = if (s.harpOf n).st = 4 then (s.harpOf n).paused else (s.harpOf n).st := by
  obtain ⟨r, hr⟩ := onlyRips_ripsResumed s.haltEnded
  have hharp : s.haltEnded.ripsResumed.harpOf n = s.harpOf n := by
    rw [hr]
    rfl
  rw [Dev.enginesResumed, harpsResumed_st _ hn, hharp]

/-- Nothing waits for the Steward (R437). -/
structure NothingWaits (s : Dev) : Prop where
  steward : s.ring.steward = []
  curd : ∀ n < 8, (s.curdOf n).stopping = false
  enum : s.hoop.enumHeld = []
  later : s.ozh.later = []
  leaves : s.ozh.leaves = []
  rsp : s.ozh.rspLater = none
  rekey : s.ozh.rekeyLater = false

theorem haltEnds_resumed {s : Dev} (h : NothingWaits s) : s.haltEnds = s.enginesResumed := by
  obtain ⟨r, x, hd⟩ := enginesResumed_only s
  have hhoop : s.enginesResumed.hoop = s.hoop := by rw [hd]
  have henum : s.enginesResumed.hoop.enumHeld = [] := by rw [hhoop]; exact h.enum
  rw [haltEnds_eq]
  exact enumRelease_nothing henum

theorem ozhRelease_resumed {s : Dev} (h : NothingWaits s) : s.enginesResumed.ozhRelease = s.enginesResumed := by
  obtain ⟨r, x, hd⟩ := enginesResumed_only s
  have hozh : s.enginesResumed.ozh = s.ozh := by rw [hd]
  have hnone (z : Ozh) (hz : z = s.ozh) : z.later = [] ∧ z.leaves = [] ∧ z.rspLater = none ∧ z.rekeyLater = false := by
    rw [hz]
    exact ⟨h.later, h.leaves, h.rsp, h.rekey⟩
  obtain ⟨hlater, hleaves, hrsp, hrekey⟩ := hnone _ hozh
  exact ozhRelease_nothing hlater hleaves hrsp hrekey

theorem stewardRun_resumed {s : Dev} (h : NothingWaits s) (r : Rind) : stewardRun s.enginesResumed r = (s.enginesResumed, r) := by
  obtain ⟨x, y, hd⟩ := enginesResumed_only s
  have hring : s.enginesResumed.ring = s.ring := by rw [hd]
  have hsteward : s.enginesResumed.ring.steward = [] := by rw [hring]; exact h.steward
  have hcurd (n : Nat) : s.enginesResumed.curdOf n = s.curdOf n := by rw [Dev.curdOf, Dev.curdOf, hring]
  exact stewardRun_nothing hsteward (fun n hn => by rw [hcurd]; exact h.curd n hn) r

/-- At the end of a halt for which nothing waits, the engines resume, and nothing else goes on. -/
theorem stewardRun_haltEnds {s : Dev} (h : NothingWaits s) (r : Rind) : stewardRun s.haltEnds.ozhRelease r = (s.enginesResumed, r) := by
  rw [haltEnds_resumed h, ozhRelease_resumed h, stewardRun_resumed h]

theorem does_debugHaltEnd {s : State} (hc : s.dev.coreOn = true) (hen : s.dev.rb 0xA0C0 0 = true) (hhalt : s.dev.flt.dbgHalt = true)
    (hnothing : NothingWaits s.dev) :
    Does .debugHaltEnd s (fun t => KeepsBut [.flt, .rip, .harp] s t ∧ t.dev.flt.dbgHalt = false ∧
      t.dev.flt.trialAt = (if s.dev.flt.trial then s.dev.flt.trialAt + (s.dev.clk.now - s.dev.flt.haltAt) else s.dev.flt.trialAt) ∧
      (∀ n < 12, t.dev.ripOf n = { s.dev.ripOf n with dbgPause := false }) ∧
      ∀ n < 8, (t.dev.harpOf n).st = if (s.dev.harpOf n).st = 4 then (s.dev.harpOf n).paused else (s.dev.harpOf n).st) := by
  have hguard : (s.dev.coreOn && s.dev.rb 0xA0C0 0 && s.dev.flt.dbgHalt) = true := by rw [hc, hen, hhalt]; rfl
  refine does_both_of_quiet _ (.refl (execDebugHaltEnd s)) (x := (s.dev.enginesResumed, s.rind))
    ((if_pos hguard).trans (stewardRun_haltEnds hnothing s.rind)) fun e he => ?_
  dsimp only at he ⊢
  obtain ⟨l, c, hquiet⟩ := he.flt
  rw [enginesResumed_flt] at hquiet
  refine ⟨((leaves_enginesResumed s.dev).trans (.of_quiet he)).keepsBut, ?_, ?_,
    fun n hn => (ripOf_congr he.rip n).trans (enginesResumed_ripOf s.dev hn),
    fun n hn => (congrArg Harp.st (harpOf_congr he.harp n)).trans (enginesResumed_st s.dev hn)⟩
  · rw [hquiet]
    rfl
  · rw [hquiet]
    rfl

theorem does_debugHaltEnd_idle {s : State} (h : s.dev.rb 0xA0C0 0 = false ∨ s.dev.flt.dbgHalt = false) : Does .debugHaltEnd s (KeepsBut [] s) := by
  refine does_both_nothing _ (.refl (execDebugHaltEnd s)) (if_neg ?_)
  obtain h | h := h <;> simp [h]

/-! ### TRIAL_PASS -/

/-- The running slot VALID and active. -/
def Dev.trialPassed (s : Dev) : Dev := (s.setSlotSt s.flt.running 1).modFlt (fun f => { f with active := s.flt.running, trial := false })

theorem does_trialPass {s : State} (hrun : s.dev.stewardRuns = true) (htrial : s.dev.flt.trial = true)
    (hdue : s.dev.flt.trialAt + 393216000 ≤ s.dev.clk.now) : Does .trialPass s (fun t => KeepsBut [.flt] s t ∧
      t.dev.flt.active = s.dev.flt.running ∧ t.dev.flt.running = s.dev.flt.running ∧ t.dev.flt.trial = false ∧
      (t.dev.slotOf s.dev.flt.running).st = 1) := by
  refine does_of_quiet _ (.refl (execTrialPass s)) (d := s.dev.trialPassed.judgeVersion true)
    ((if_pos (by simp [Dev.trialDue, hrun, htrial, hdue])).trans rfl) fun e he => ?_
  obtain ⟨hleaves, hflt⟩ := (judged_judgeVersion s.dev.trialPassed true).trans (.of_quiet he)
  obtain ⟨_, _, _, _, hflt⟩ := hflt
  have hpassed : Leaves [.flt] (fun _ => false) s.dev s.dev.trialPassed := leaves_modFlt (by decide) s.dev fun _ => s.dev.trialPassed.flt
  have hslot : s.dev.trialPassed.slotOf s.dev.flt.running = { s.dev.slotOf s.dev.flt.running with st := 1 } :=
    (slotOf_setSlotSt s.dev _ _ 1).trans (if_pos rfl)
  refine ⟨(hpassed.trans hleaves).keepsBut, by rw [hflt]; rfl, by rw [hflt]; rfl, by rw [hflt]; rfl, ?_⟩
  rw [slotOf_congr (s := s.dev.trialPassed) (by rw [hflt]), hslot]

theorem does_trialPass_idle {s : State}
    (h : s.dev.stewardRuns = false ∨ s.dev.flt.trial = false ∨ s.dev.clk.now < s.dev.flt.trialAt + 393216000) :
    Does .trialPass s (KeepsBut [] s) := by
  refine does_nothing _ (.refl (execTrialPass s)) (if_neg ?_)
  obtain h | h | h := h
  · simp [Dev.trialDue, h]
  · simp [Dev.trialDue, h]
  · simp [Dev.trialDue, Nat.not_le_of_lt h]

/-! ### PLL_LOCK_LOSS -/

theorem does_pllLockLoss {s : State} (hlock : s.dev.clk.pllLock = true) (hlimp : s.dev.clk.limp = false) : Does .pllLockLoss s (fun t =>
    t.rind = s.rind ∧ t.dev.pwr.resetWhy = 2 ∧ t.dev.pwr.wakeCause = 8 ∧ t.dev.pwr.mode = .ready ∧
      t.dev.pwr.wake = (if s.dev.pwr.v3Low then .v3wait else .buck) ∧ t.dev.clk.running = false ∧ t.dev.coreOn = false ∧
      ∀ off, noteReg off = false → t.dev.force off = if aonReg off then s.dev.force off else regReset off) := by
  refine does_of_quiet _ (.refl (execPllLockLoss s)) (d := s.dev.restart 2) (if_pos (by simp [hlock, hlimp])) fun e he => ?_
  have hforce (off : Nat) (hn : noteReg off = false) := (he.force off hn).trans (restart_force s.dev 2 off)
  have hpwr : e.pwr = s.dev.pwrRestarted 2 := he.pwr.trans (by rw [restart_eq])
  have hclk : e.clk.running = false := (congrArg Clk.running he.clk).trans (by rw [restart_eq]; rfl)
  have hoff : e.coreOn = false := by
    rw [Dev.coreOn, hpwr]
    cases h : s.dev.pwr.v3Low <;> simp [Dev.pwrRestarted, h]
  simp only [hpwr]
  exact ⟨trivial, rfl, rfl, rfl, rfl, hclk, hoff, hforce⟩

theorem does_pllLockLoss_idle {s : State} (h : s.dev.clk.pllLock = false ∨ s.dev.clk.limp = true) : Does .pllLockLoss s (KeepsBut [] s) := by
  refine does_nothing _ (.refl (execPllLockLoss s)) (if_neg ?_)
  obtain h | h := h <;> simp [h]

/-! ### O44 -/

/-- Settles O44: each command by what it leaves, where its condition holds and where it does not. -/
theorem holdHaltAndTrialAct : Obligations.HoldHaltAndTrialAct := by
  intro s hc
  exact ⟨fun k h hlimp => does_thermalShutdown k hc h hlimp, fun k h => does_thermalShutdown_again k h, fun h => does_thermalRelease hc h,
    does_thermalRelease_idle, does_watchdogExpiry, does_watchdogExpiry_idle, does_pllLockLoss, does_pllLockLoss_idle, does_debugHalt hc,
    does_debugHalt_idle, fun hen hhalt hs hcurd he hl hg hr hk => does_debugHaltEnd hc hen hhalt ⟨hs, hcurd, he, hl, hg, hr, hk⟩,
    does_debugHaltEnd_idle, does_trialPass, does_trialPass_idle⟩

end Sys2Proof.Machine
end

section
/-! SUPPORT. MODE accepted: it waits for the end of its tick, or for the Steward (R81, R82, R437). -/

namespace Sys2Proof.Machine

/-! ### A descriptor accepted -/

/-- A descriptor that executes at once goes to the body of its row. -/
theorem acceptRow_runs {o : Src} {d : Desc} {s : State} {kind : Desc → Bool} {body : Dev → Job → Dev} (h : Runs o d s) (hk : kind d = true) :
    s.dev.acceptRow kind body o d = body (s.dev.takeHead o d).2 (s.dev.takeHead o d).1 := by
  obtain ⟨hhead, hmay, hform, hdest, hmode, hat⟩ := h
  have hgo : ((s.dev.readyOf o).head? = some d && kind d && s.dev.mayAccept o d) = true := by simp [hhead, hk, hmay]
  have hjob : s.dev.acceptJob kind o d = ((s.dev.takeHead o d).2, some (s.dev.takeHead o d).1) := by
    simp [Dev.acceptJob, hgo, hform, hdest, Dev.acceptSelf, hmode, hat]
  rw [Dev.acceptRow, hjob]

/-- A descriptor taken that then only waits in the rings. -/
structure Waits (o : Src) (b : Dev) (f : Ring → Ring) : Prop where
  ready : (b.modRing f).readyOf o = b.readyOf o
  serial : (f b.ring).serial = b.ring.serial
  lastAccept : (f b.ring).lastAccept = b.ring.lastAccept

theorem took_waits {o : Src} {d : Desc} {s : State} {e : Dev} {f : Ring → Ring} (hf : Waits o (s.dev.takeHead o d).2 f)
    (he : Quiet ((s.dev.takeHead o d).2.modRing f) e) : Took o s { s with dev := e } ∧ RunsBut [] (fun _ => false) o s { s with dev := e } := by
  have htake := headTaken_takeHead s.dev o d
  have hsub : [.ring, .regs] ⊆ takenAreas o := by cases o <;> simp [takenAreas]
  have hring : Area.ring ∈ takenAreas o := hsub List.mem_cons_self
  have hleaves : Leaves (takenAreas o) ciReg s.dev e :=
    (htake.leaves.mono hsub fun _ h => h).trans ((leaves_modRing hring _ f).trans (.of_quiet he))
  refine ⟨⟨?_, ?_, ?_⟩, runsBut_of_leaves hleaves fun off hc _ => hc⟩
  · exact (he.readyOf o).trans (hf.ready.trans htake.ready)
  · exact he.queues.serial.trans (hf.serial.trans htake.serial)
  · exact he.queues.lastAccept.trans (hf.lastAccept.trans htake.lastAccept)

theorem waits_flights (o : Src) (b : Dev) (fs : List Flight) : Waits o b (fun r => { r with flights := fs }) :=
  ⟨by cases o <;> rfl, rfl, rfl⟩

theorem waits_steward (o : Src) (b : Dev) (js : List Job) : Waits o b (fun r => { r with steward := js }) :=
  ⟨by cases o <;> rfl, rfl, rfl⟩

/-! ### MODE -/

theorem modeBody_runs {s : Dev} {j : Job} {m : Mode} (hrun : s.flt.dbgHalt = false) (hm : modeOfCode (j.d.b 12) = some m) :
    s.modeBody j = s.fly j (.mode m) := by
  simp [Dev.modeBody, Dev.unlessHalted, hrun, hm]

theorem modeBody_halted {s : Dev} (j : Job) (hhalt : s.flt.dbgHalt = true) : s.modeBody j = s.holdJob j := if_pos hhalt

theorem dbgHalt_takeHead (s : Dev) (o : Src) (d : Desc) : (s.takeHead o d).2.flt.dbgHalt = s.flt.dbgHalt := by
  obtain ⟨_, _, hf⟩ := (headTaken_takeHead s o d).leaves.same .flt (by decide) ⟨[], s, {}⟩
  exact (congrArg Flt.dbgHalt hf :)

theorem isOp_mode {d : Desc} (h : d.op = 0x10) : isOp 0x10 d = true := by
  rw [isOp, h]
  rfl

theorem does_mode {o : Src} {d : Desc} {s : State} {m : Mode} (h : Runs o d s) (hop : d.op = 0x10) (hm : modeOfCode (d.b 12) = some m)
    (hrun : s.dev.flt.dbgHalt = false) : Does (.mode o d) s (fun t =>
      Took o s t ∧ RunsBut [] (fun _ => false) o s t ∧ Flies o d (.mode m) s t ∧
        t.dev.ring.fences = s.dev.ring.fences ∧ t.dev.ring.steward = s.dev.ring.steward) := by
  have hjob := accepted_takeHead s.dev o d
  have htake := headTaken_takeHead s.dev o d
  have hbody := modeBody_runs (s := (s.dev.takeHead o d).2) (j := (s.dev.takeHead o d).1) ((dbgHalt_takeHead s.dev o d).trans hrun)
    (by rw [hjob.desc]; exact hm)
  refine does_of_quiet _ (.refl (execMode o d s)) ((acceptRow_runs h (isOp_mode hop)).trans hbody) fun e he => ?_
  obtain ⟨htook, hruns⟩ := took_waits (waits_flights o _ _) he
  refine ⟨htook, hruns, ⟨⟨(s.dev.takeHead o d).1, (s.dev.takeHead o d).2.short, .mode m⟩, ?_, hjob.desc, hjob.src, hjob.serial, ?_, rfl⟩,
    ?_, ?_⟩
  · exact he.queues.flights.trans (congrArg (· ++ _) htake.flights)
  · have hclk : (s.dev.takeHead o d).2.clk = s.dev.clk := htake.leaves.clk (by decide)
    exact (congrArg (fun c : Clk => c.wheel.setWidth 48) hclk :)
  · exact he.queues.fences.trans htake.fences
  · exact he.queues.steward.trans htake.steward

theorem does_mode_halted {o : Src} {d : Desc} {s : State} (h : Runs o d s) (hop : d.op = 0x10) (hhalt : s.dev.flt.dbgHalt = true) :
    Does (.mode o d) s (fun t => Took o s t ∧ RunsBut [] (fun _ => false) o s t ∧ StewardHolds o d s t) := by
  have hjob := accepted_takeHead s.dev o d
  have htake := headTaken_takeHead s.dev o d
  have hbody := modeBody_halted (s := (s.dev.takeHead o d).2) (s.dev.takeHead o d).1 ((dbgHalt_takeHead s.dev o d).trans hhalt)
  refine does_of_quiet _ (.refl (execMode o d s)) ((acceptRow_runs h (isOp_mode hop)).trans hbody) fun e he => ?_
  obtain ⟨htook, hruns⟩ := took_waits (waits_steward o _ _) he
  refine ⟨htook, hruns, ?_, ?_, (s.dev.takeHead o d).1, ?_, hjob.desc, hjob.src, hjob.serial⟩
  · exact he.queues.flights.trans htake.flights
  · exact he.queues.fences.trans htake.fences
  · exact he.queues.steward.trans (congrArg (· ++ _) htake.steward)

end Sys2Proof.Machine
end

section
/-! SUPPORT. Cues discarded, and descriptors that only complete, in entry to HOLD and to sleep (R31, R82, R92). -/

namespace Sys2Proof.Machine

/-! ### Descriptors that only complete -/

/-- From `s` to `t` no cue arises or goes back to the store, and descriptors that wait only complete. -/
structure Lessens (s t : Dev) : Prop where
  noted : Noted s t
  flights : ∀ g ∈ t.ring.flights, g ∈ s.ring.flights

theorem Lessens.refl (s : Dev) : Lessens s s := ⟨.refl s, fun _ h => h⟩

theorem Lessens.trans {s t u : Dev} (h : Lessens s t) (k : Lessens t u) : Lessens s u :=
  ⟨h.noted.trans k.noted, fun g hg => h.flights g (k.flights g hg)⟩

theorem Lessens.foldl {α : Type} {f : Dev → α → Dev} (hf : ∀ s a, Lessens s (f s a)) (xs : List α) (s : Dev) : Lessens s (xs.foldl f s) :=
  foldl_of_step .refl .trans hf xs s

theorem Lessens.forEach {f : Dev → Nat → Dev} (hf : ∀ s n, Lessens s (f s n)) (xs : List Nat) (s : Dev) : Lessens s (forEach xs f s) :=
  .foldl hf xs s

theorem Lessens.ite {s t u : Dev} {c : Prop} [Decidable c] (ht : Lessens s t) (hu : Lessens s u) : Lessens s (if c then t else u) := by
  split
  · exact ht
  · exact hu

/-- A change of neither the rings nor the Hoop. -/
theorem Lessens.of_same {s t : Dev} (hr : t.ring = s.ring) (ho : t.hoop = s.hoop) (hf : t.force 0x1010 = s.force 0x1010) : Lessens s t :=
  ⟨(Messaged.of_same hr ho hf).noted, fun _ hg => hr ▸ hg⟩

theorem Lessens.of_quiet {s t : Dev} (hq : Quiet s t) (hm : Messaged s t) : Lessens s t := ⟨hm.noted, fun _ hg => hq.queues.flights ▸ hg⟩

theorem lessens_settle (s : Dev) : Lessens s s.settle := .of_quiet (quiet_settle s) (messaged_settle s)

theorem lessens_eventOk (s : Dev) (c d : Nat) : Lessens s (s.eventOk c d) := .of_quiet (quiet_eventOk s c d) (messaged_eventOk s c d)

theorem lessens_complete (s : Dev) (j : Job) (st : Status) (x : Short) (d : Nat) : Lessens s (s.complete j st x d) :=
  ⟨noted_complete s j st x d, fun _ hg => (queues_complete s j st x d).1.flights ▸ hg⟩

theorem lessens_dropFlights (s : Dev) (q : Flight → Bool) : Lessens s (s.dropFlights q) :=
  ⟨(Messaged.of_ring (s := s) (t := s.dropFlights q) rfl (fun _ h => .inl h) rfl fun _ h => h).noted, fun _ hg => List.mem_of_mem_filter hg⟩

theorem lessens_landFlightsNow (s : Dev) (q : Flight → Bool) (st : Status) (d : Nat) : Lessens s (s.landFlightsNow q st d) :=
  (lessens_dropFlights s q).trans (.foldl (fun s _ => lessens_complete s _ _ _ _) _ _)

/-! ### Causes of HOLD -/

theorem lessens_modStr (s : Dev) (n : Nat) (f : Str → Str) : Lessens s (s.modStr n f) := .of_same rfl rfl rfl

theorem lessens_modMtx (s : Dev) (f : Mtx → Mtx) : Lessens s (s.modMtx f) := .of_same rfl rfl rfl

theorem lessens_modClk (s : Dev) (f : Clk → Clk) : Lessens s (s.modClk f) := .of_same rfl rfl rfl

theorem lessens_modTempo (s : Dev) (f : Tempo → Tempo) : Lessens s (s.modTempo f) := .of_same rfl rfl rfl

theorem lessens_modOzh (s : Dev) (f : Ozh → Ozh) : Lessens s (s.modOzh f) := .of_same rfl rfl rfl

theorem lessens_modHarp (s : Dev) (n : Nat) (f : Harp → Harp) : Lessens s (s.modHarp n f) := .of_same rfl rfl rfl

theorem lessens_modRip (s : Dev) (n : Nat) (f : Rip → Rip) : Lessens s (s.modRip n f) := .of_same rfl rfl rfl

theorem lessens_modCar (s : Dev) (n : Nat) (f : Car → Car) : Lessens s (s.modCar n f) := .of_same rfl rfl rfl

theorem lessens_setChan (s : Dev) (c : Nat) (x : Chan) : Lessens s (s.setChan c x) := .of_same rfl rfl rfl

theorem lessens_floatPins (s : Dev) (m : BitVec 32) : Lessens s (s.floatPins m) := .of_same rfl rfl rfl

theorem lessens_modHoop (s : Dev) {f : Hoop → Hoop} (h : (f s.hoop).own = s.hoop.own) : Lessens s (s.modHoop f) :=
  ⟨(Messaged.of_ring (s := s) (t := s.modHoop f) rfl (fun _ h => .inl h) h fun _ h => h).noted, fun _ hg => hg⟩

theorem lessens_modPort (s : Dev) (k : Nat) (f : HPort → HPort) : Lessens s (s.modPort k f) :=
  ⟨(Messaged.of_ring (s := s) (t := s.modPort k f) rfl (fun _ h => .inl h) rfl fun _ h => h).noted, fun _ hg => hg⟩

theorem lessens_setRole (s : Dev) (r : WRole) : Lessens s (s.setRole r) := by
  unfold Dev.setRole
  simp only
  split
  · exact .trans (lessens_modClk s _) (.ite (lessens_modTempo _ _) (.refl _))
  · exact (lessens_modClk s _).trans (lessens_modClk _ _)

theorem lessens_hoopStop (s : Dev) : Lessens s s.hoopStop := by
  unfold Dev.hoopStop
  simp only
  refine .trans ?_ (.ite (lessens_setRole _ _) (.refl _))
  refine .trans ?_ (lessens_modHoop _ rfl)
  exact (lessens_landFlightsNow s _ _ _).trans (.forEach (fun s k => lessens_modPort s k _) _ _)

theorem lessens_limpOff (s : Dev) : Lessens s s.limpOff := by
  unfold Dev.limpOff Dev.stopHarps
  refine .trans ?_ (lessens_floatPins _ _)
  exact ((lessens_hoopStop s).trans (lessens_modOzh _ _)).trans (.forEach (fun s n => lessens_modHarp s n _) _ _)

theorem lessens_stringHalt (s : Dev) (n : Nat) : Lessens s (s.stringHalt n) :=
  (lessens_modStr s n _).trans (.forEach (fun s k => lessens_modStr s k _) _ _)

theorem lessens_cutSlot (s : Dev) : Lessens s s.cutSlot := by
  obtain ⟨m, hm, -⟩ := cutSlot_only s
  rw [hm]
  exact .of_same rfl rfl rfl

theorem lessens_haltStrings (s : Dev) : Lessens s s.haltStrings := .forEach (fun s n => .ite (lessens_stringHalt s n) (.refl s)) _ s

theorem lessens_haltMatrix (s : Dev) : Lessens s s.haltMatrix :=
  .ite (((lessens_cutSlot s).trans (lessens_modMtx _ _)).trans (lessens_modMtx _ _)) (.refl s)

theorem lessens_lightsOff (s : Dev) : Lessens s s.lightsOff := (lessens_haltStrings s).trans (lessens_haltMatrix _)

theorem lessens_causeActs (s : Dev) : Lessens s s.causeActs := by
  rw [causeActs_eq]
  exact .trans (t := s.darkened) (.ite (lessens_lightsOff s) (.refl s)) (.ite (lessens_limpOff _) (.refl _))

/-! ### Cues discarded -/

/-- Every cue has left the store: those that remain wait for room in their whey ring. -/
def Dev.cuesOut (s : Dev) : Prop := ∀ c ∈ s.ring.cues, c.out = true

theorem Lessens.cuesOut {s t : Dev} (h : Lessens s t) (hs : s.cuesOut) : t.cuesOut := fun e he => by
  obtain ⟨c, hc, -, ho⟩ := h.noted.cues e he
  exact ho.trans (hs c hc)

/-- The cue `c` taken from the store. -/
def Dev.cueTaken (s : Dev) (c : Cue) : Dev :=
  s.modRing (fun r => { r with cues := r.cues.map (fun e => if e.idx = c.idx then { e with out := true } else e) })

theorem discardCues_eq (s : Dev) :
    s.discardCues = (s.ring.cues.filter (fun c => !c.out)).foldl (fun s c => (s.cueTaken c).completeNow c.job .state 0) s := rfl

/-- Cues still in the store are among `xs`. -/
def Dev.cuesAmong (s : Dev) (xs : List Cue) : Prop := ∀ e ∈ s.ring.cues, e.out = false → ∃ c ∈ xs, e.idx = c.idx

theorem cuesAmong_step {s : Dev} {c : Cue} {xs : List Cue} (h : s.cuesAmong (c :: xs)) :
    ((s.cueTaken c).completeNow c.job .state 0).cuesAmong xs := by
  intro e he ho
  obtain ⟨b, hb, hi, hout⟩ := (noted_complete (s.cueTaken c) c.job .state (s.cueTaken c).short 0).cues e he
  obtain ⟨a, ha, hab⟩ := List.mem_map.1 hb
  rw [hi]
  rw [hout] at ho
  split at hab
  · rw [← hab] at ho
    cases ho
  · next hne =>
    subst hab
    obtain ⟨x, hx, hix⟩ := h a ha ho
    obtain rfl | hx := List.mem_cons.1 hx
    · exact absurd hix hne
    · exact ⟨x, hx, hix⟩

theorem cuesOut_foldl (xs : List Cue) : ∀ s : Dev, s.cuesAmong xs →
    (xs.foldl (fun s c => (s.cueTaken c).completeNow c.job .state 0) s).cuesOut := by
  induction xs with
  | nil => exact fun s hs e he => eq_true_of_ne_false fun ho => by simpa using hs e he ho
  | cons c xs ih => exact fun s hs => ih _ (cuesAmong_step hs)

theorem cuesOut_discardCues (s : Dev) : s.discardCues.cuesOut := by
  rw [discardCues_eq]
  exact cuesOut_foldl _ s fun e he ho => ⟨e, List.mem_filter.2 ⟨he, by simp [ho]⟩, rfl⟩

theorem flights_discardCues (s : Dev) : ∀ g ∈ s.discardCues.ring.flights, g ∈ s.ring.flights := by
  rw [discardCues_eq]
  refine foldl_of_step (R := fun s t : Dev => ∀ g ∈ t.ring.flights, g ∈ s.ring.flights) (fun _ _ h => h) (fun h k g hg => h g (k g hg))
    (fun s c g hg => ?_) _ s
  exact (lessens_complete (s.cueTaken c) c.job .state _ 0).flights g hg

/-! ### Entry to HOLD -/

theorem lessens_heldEngines (s : Dev) : Lessens s.discardCues s.heldEngines := by
  have hrips (d : Dev) : Lessens d d.stopRips := .forEach (fun s n => lessens_modRip s n _) _ d
  have hsteps (d : Dev) : Lessens d d.safeSteps := .forEach (fun s c => .ite (.refl s) (lessens_setChan s c _)) _ d
  have hheld (d : Dev) : Lessens d d.outputsHeld :=
    .trans (t := d.carriersOff) (.forEach (fun s n => lessens_modCar s n _) _ d) (lessens_modMtx _ _)
  exact ((hrips _).trans (hsteps _)).trans (hheld _)

theorem lessens_holdWork (s : Dev) : Lessens s.discardCues s.holdWork := by
  rw [holdWork_eq]
  exact (lessens_heldEngines s).trans ((lessens_eventOk _ _ _).trans (lessens_causeActs _))

theorem cuesOut_enterHold (s : Dev) : s.enterHold.cuesOut := by
  rw [enterHold_toHold]
  exact (lessens_holdWork _).cuesOut (cuesOut_discardCues _)

theorem flights_enterHold (s : Dev) : ∀ g ∈ s.enterHold.ring.flights, g ∈ s.ring.flights := by
  have hto : s.toHold.ring.flights = s.ring.flights := by
    unfold Dev.toHold Dev.abandonSleep
    split
    · exact (quiet_eventOk _ _ _).queues.flights
    · rfl
  rw [enterHold_toHold]
  exact fun g hg => hto ▸ flights_discardCues _ g ((lessens_holdWork _).flights g hg)

/-! ### Entry to sleep -/

/-- The entry to sleep noted. -/
def Dev.sleepNoted (s : Dev) (m : Mode) : Dev := s.modPwr (fun p => { p with sleepTo := some m, sleepStart := s.clk.now, latched := none })

theorem beginSleep_eq (s : Dev) (m : Mode) : s.beginSleep m = (s.sleepNoted m).discardCues.flushWhey.syncShadows := rfl

theorem quiet_sleepFlushed (s : Dev) : Quiet s s.flushWhey.syncShadows := (quiet_flushWhey s).trans (quiet_syncShadows _)

theorem lessens_sleepFlushed (s : Dev) : Lessens s s.flushWhey.syncShadows :=
  .of_quiet (quiet_sleepFlushed s) ((messaged_flushWhey s).trans (messaged_syncShadows _))

theorem leaves_beginSleep (s : Dev) (m : Mode) : Leaves [.pwr, .ring, .ozh, .regs] radioReg s (s.beginSleep m) := by
  rw [beginSleep_eq]
  refine .trans ?_ (.of_quiet (quiet_sleepFlushed _))
  exact .trans (t := s.sleepNoted m) (leaves_modPwr (by decide) _ _) ((leaves_discardCues _).mono (by decide) fun _ h => h)

theorem beginSleep_pwr (s : Dev) (m : Mode) :
    (s.beginSleep m).pwr = { s.pwr with sleepTo := some m, sleepStart := s.clk.now, latched := none } := by
  rw [beginSleep_eq]
  exact (quiet_sleepFlushed _).pwr.trans ((leaves_discardCues (s.sleepNoted m)).pwr (by decide))

theorem cuesOut_beginSleep (s : Dev) (m : Mode) : (s.beginSleep m).cuesOut := by
  rw [beginSleep_eq]
  exact (lessens_sleepFlushed _).cuesOut (cuesOut_discardCues _)

theorem flights_beginSleep (s : Dev) (m : Mode) : ∀ g ∈ (s.beginSleep m).ring.flights, g ∈ s.ring.flights := by
  rw [beginSleep_eq]
  exact fun g hg => flights_discardCues (s.sleepNoted m) g ((lessens_sleepFlushed _).flights g hg)

end Sys2Proof.Machine
end

section
/-! SUPPORT. A MODE request judged at the end of its tick (R79, R81, R82), and O27. -/

namespace Sys2Proof.Machine

/-! ### One request judged -/

/-- The requests of this tick taken off the rings. -/
def Dev.modesTaken (s : Dev) : Dev := s.dropFlights (fun g => g.modeAsked.isSome)

/-- The completion of a judged request. -/
def Flight.modeEnd (f : Flight) (r : Status × Dev) : Dev := r.2.complete f.job r.1 f.exec r.2.modeAfter

theorem modeEnd_pwr (f : Flight) (r : Status × Dev) : (f.modeEnd r).pwr = r.2.pwr := (leaves_complete r.2 _ _ _ _).pwr (by decide)

/-- On a tick with one request for a mode, none of the register's and no takeover, it alone is judged. -/
theorem arbitrate_one {s : Dev} {f : Flight} {m : Mode} (htake : s.twin.takeDue = false)
    (hone : s.ring.flights.filter (fun g => g.modeAsked.isSome) = [f]) (hf : f.await = .mode m)
    (hasked : (s.modesTaken.modeJudge m).2.pwr.asked = none) : s.arbitrate = f.modeEnd (s.modesTaken.modeJudge m) := by
  have htaken : s.takeoverJudge = s := by simp [Dev.takeoverJudge, htake]
  have hflight : s.modesTaken.modeFlight f = f.modeEnd (s.modesTaken.modeJudge m) := by
    have hm : f.modeAsked = some m := by rw [Flight.modeAsked, hf]
    rw [Dev.modeFlight, hm]
    rfl
  have hmodes : s.modesJudged = f.modeEnd (s.modesTaken.modeJudge m) := by
    rw [← hflight, Dev.modesJudged, hone]
    rfl
  have hnone : (f.modeEnd (s.modesTaken.modeJudge m)).pwr.asked = none := by rw [modeEnd_pwr, hasked]
  rw [arbitrate_eq, htaken, hmodes, Dev.askedJudged, hnone]

theorem modesTaken_pwr (s : Dev) : s.modesTaken.pwr = s.pwr := rfl

theorem leaves_modesTaken (s : Dev) : Leaves [.ring] (fun _ => false) s s.modesTaken :=
  leaves_modRing (by decide) s (fun r => { r with flights := r.flights.filter (fun g => !g.modeAsked.isSome) })

theorem modesTaken_flights (s : Dev) : s.modesTaken.ring.flights = s.ring.flights.filter (fun g => !g.modeAsked.isSome) := rfl

theorem modeAsked_modesTaken (s : Dev) : ∀ g ∈ s.modesTaken.ring.flights, g.modeAsked = none := by
  intro g hg
  rw [modesTaken_flights, List.mem_filter] at hg
  simpa using hg.2

theorem sameEngine_modesTaken (s : Dev) : SameEngine s s.modesTaken := ⟨rfl, rfl, rfl, rfl, ⟨rfl, rfl, rfl⟩, rfl, rfl, rfl, fun _ _ _ => rfl⟩

/-! ### Whether it is carried out -/

/-- No transition runs, and none of a higher rank began on this tick. -/
def Dev.modeFree (s : Dev) : Bool := !s.transBusy && decide (s.pwr.transAt ≠ some s.clk.now)

theorem modeFree_iff (s : Dev) : s.modeFree = true ↔ s.pwr.wake = .idle ∧ s.pwr.sleepTo = none ∧ s.pwr.transAt ≠ some s.clk.now := by
  simp [Dev.modeFree, Dev.transBusy, and_assoc]

theorem modeJudge_busy {s : Dev} (m : Mode) (h : s.modeFree = false) : s.modeJudge m = (.state, s) := by
  refine if_pos ?_
  cases hb : s.transBusy <;> simp_all [Dev.modeFree]

theorem modeJudge_free {s : Dev} (m : Mode) (h : s.modeFree = true) : s.modeJudge m = s.modeRequest m := by
  refine if_neg ?_
  cases hb : s.transBusy <;> simp_all [Dev.modeFree]

section
variable {s : Dev} {m : Mode}

theorem modeRequest_same (h : m = s.pwr.mode) : s.modeRequest m = (.ok, s) := if_pos h

theorem modeRequest_run (hw : s.pwr.mode = .ready) (hs : s.pwr.sleepTo = none) :
    s.modeRequest .run = (.ok, (s.modPwr (fun p => { p with mode := .run })).startOutputs) := by
  simp [Dev.modeRequest, hw, hs]

theorem modeRequest_ready (hw : s.pwr.mode = .run) (hs : s.pwr.sleepTo = none) :
    s.modeRequest .ready = (.ok, s.modPwr (fun p => { p with mode := .ready })) := by
  simp [Dev.modeRequest, hw, hs]

theorem modeRequest_sleep (hw : s.pwr.mode = .ready ∨ s.pwr.mode = .run) (hs : s.pwr.sleepTo = none) (hm : m = .vault ∨ m = .doze) :
    s.modeRequest m = (.ok, s.beginSleep m) := by
  obtain hw | hw := hw
  · obtain rfl | rfl := hm <;> simp [Dev.modeRequest, hw, hs]
  · obtain rfl | rfl := hm <;> simp [Dev.modeRequest, hw, hs]

theorem modeRequest_hold (hw : s.pwr.mode.works) (hs : s.pwr.sleepTo = none) : s.modeRequest .hold = (.ok, s.setCause causeHost) := by
  obtain hw | hw | hw := hw
  all_goals simp [Dev.modeRequest, hw, hs]

theorem modeRequest_leave (hw : s.pwr.mode = .hold) (hs : s.pwr.sleepTo = none) (hc : s.pwr.cause.toNat / 2 = 0) :
    s.modeRequest .ready = (.ok, (s.dropCause causeHost).leaveHold) := by
  simp [Dev.modeRequest, hw, hs, hc]

/-- The transitions that a host may not ask for (Table MOD-2). -/
def Dev.modeBarred (s : Dev) (m : Mode) : Prop :=
  ((s.pwr.mode = .ready ∨ s.pwr.mode = .run) ∧ m = .shadow) ∨ (s.pwr.mode = .hold ∧ (m ≠ .ready ∨ s.pwr.cause.toNat / 2 ≠ 0)) ∨
    (s.pwr.mode = .shadow ∧ m ≠ .hold)

theorem modeRequest_barred (hne : m ≠ s.pwr.mode) (hs : s.pwr.sleepTo = none) (h : s.modeBarred m) : s.modeRequest m = (.state, s) := by
  obtain ⟨hw | hw, rfl⟩ | ⟨hw, h⟩ | ⟨hw, h⟩ := h
  · simp [Dev.modeRequest, hw, hs]
  · simp [Dev.modeRequest, hw, hs]
  · cases m <;> simp_all [Dev.modeRequest]
  · cases m <;> simp_all [Dev.modeRequest]

end

/-! ### The tick's end -/

/-- One MODE request, `f` for mode `m`, is all that the end of a tick has to judge. -/
structure OneMode (s : Dev) (f : Flight) (m : Mode) : Prop where
  take : s.twin.takeDue = false
  asked : s.pwr.asked = none
  one : s.ring.flights.filter (fun g => g.modeAsked.isSome) = [f]
  await : f.await = .mode m

/-- The device at the end of the tick, its entries written. -/
def Dev.tickEnd (s : Dev) : Dev := s.arbitrate.settle

section
variable {s : State} {f : Flight} {m : Mode} {u : Dev} {st : Status}

theorem OneMode.quiet (h : OneMode s.dev f m) (hj : s.dev.modesTaken.modeJudge m = (st, u)) (ha : u.pwr.asked = none) :
    Quiet (f.modeEnd (st, u)) s.dev.tickEnd := by
  have hone := arbitrate_one h.take h.one h.await (by rw [hj]; exact ha)
  rw [hj] at hone
  rw [Dev.tickEnd, hone]
  exact quiet_settle _

theorem OneMode.lessens (h : OneMode s.dev f m) (hj : s.dev.modesTaken.modeJudge m = (st, u)) (ha : u.pwr.asked = none) :
    Lessens u s.dev.tickEnd := by
  have hone := arbitrate_one h.take h.one h.await (by rw [hj]; exact ha)
  rw [hj] at hone
  rw [Dev.tickEnd, hone]
  exact (lessens_complete _ _ _ _ _).trans (lessens_settle _)

theorem leaves_modeEnd (f : Flight) (r : Status × Dev) : Leaves [.ozh, .regs] radioReg r.2 (f.modeEnd r) := leaves_complete _ _ _ _ _

/-- What a judged request leaves, where the transition itself changes `areas`. -/
def JudgedOnly (areas : List Area) (s t : State) : Prop :=
  KeepsBut ([.ring, .regs, .ozh, .hoop] ++ areas) s t ∧ RegsBut (· = 0x800C) s t ∧
    t.dev.ring.flights = s.dev.ring.flights.filter (fun g => !g.modeAsked.isSome)

theorem judgedOnly {areas : List Area} (hl : Leaves areas (fun _ => false) s.dev.modesTaken u)
    (hf : u.ring.flights = s.dev.modesTaken.ring.flights) {e : Dev} (he : Quiet (f.modeEnd (st, u)) e) :
    JudgedOnly areas s { s with dev := e } := by
  have hsub : areas ⊆ [.ring, .regs, .ozh, .hoop] ++ areas := List.subset_append_right _ _
  have hring : [.ring] ⊆ [.ring, .regs, .ozh, .hoop] ++ areas := by simp
  have hozh : [.ozh, .regs] ⊆ [.ring, .regs, .ozh, .hoop] ++ areas := by simp
  have hall := (((leaves_modesTaken s.dev).mono hring fun _ _ => rfl).trans (hl.mono hsub fun _ _ => rfl)).trans
    (((leaves_modeEnd f (st, u)).mono hozh fun _ h => h).trans (.of_quiet he))
  refine ⟨hall.keepsBut, hall.regsBut, ?_⟩
  exact he.queues.flights.trans ((queues_complete u f.job st f.exec u.modeAfter).1.flights.trans hf)

theorem lands_modeEnd (hb : SameEngine s.dev u) (hr : u.regs = s.dev.regs) {e : Dev} (he : Quiet (f.modeEnd (st, u)) e) :
    Lands f.job st f.exec u.modeAfter s { s with dev := e } := by
  intro n ho hdue _ hcan hshut hwait
  exact he.out.subset (whey_mem_complete hb (by rw [Dev.force, Dev.force, hr]) ho hdue hcan hshut hwait)

theorem judge_free {s : Dev} (m : Mode) (h : s.modeFree = true) : s.modesTaken.modeJudge m = s.modesTaken.modeRequest m :=
  modeJudge_free (s := s.modesTaken) m h

/-- A request that is refused, or finds its mode, leaves the device as it was. -/
theorem OneMode.still (h : OneMode s.dev f m) (hj : s.dev.modesTaken.modeJudge m = (st, s.dev.modesTaken)) :
    JudgedOnly [] s { s with dev := s.dev.tickEnd } ∧ Lands f.job st f.exec s.dev.modeAfter s { s with dev := s.dev.tickEnd } := by
  have hq := h.quiet hj h.asked
  exact ⟨judgedOnly (.refl _) rfl hq, lands_modeEnd (sameEngine_modesTaken s.dev) rfl hq⟩

theorem modeAfter_awake {s : Dev} (hs : s.pwr.sleepTo = none) : s.modeAfter = s.pwr.mode.code := by
  rw [Dev.modeAfter, hs]
  rfl

/-- A request for the mode that is. -/
theorem OneMode.same (h : OneMode s.dev f m) (hfree : s.dev.modeFree = true) (hm : m = s.dev.pwr.mode) :
    JudgedOnly [] s { s with dev := s.dev.tickEnd } ∧ Lands f.job .ok f.exec m.code s { s with dev := s.dev.tickEnd } := by
  obtain ⟨-, hsleep, -⟩ := (modeFree_iff _).1 hfree
  have hstill := h.still ((judge_free m hfree).trans (modeRequest_same (s := s.dev.modesTaken) hm))
  rwa [modeAfter_awake hsleep, ← hm] at hstill

/-- A request for a transition that a host may not ask for. -/
theorem OneMode.barred (h : OneMode s.dev f m) (hfree : s.dev.modeFree = true) (hne : m ≠ s.dev.pwr.mode) (hbar : s.dev.modeBarred m) :
    JudgedOnly [] s { s with dev := s.dev.tickEnd } ∧ Lands f.job .state f.exec s.dev.pwr.mode.code s { s with dev := s.dev.tickEnd } := by
  obtain ⟨-, hsleep, -⟩ := (modeFree_iff _).1 hfree
  have hstill := h.still ((judge_free m hfree).trans (modeRequest_barred (s := s.dev.modesTaken) hne hsleep hbar))
  rwa [modeAfter_awake hsleep] at hstill

theorem coreOn_works {s : Dev} (hwake : s.pwr.wake = .idle) (hm : s.pwr.mode.works) : s.coreOn = true := by
  obtain h | h | h := hm <;> simp [Dev.coreOn, hwake, h]

/-- READY to RUN. -/
theorem OneMode.run (h : OneMode s.dev f .run) (hfree : s.dev.modeFree = true) (hw : s.dev.pwr.mode = .ready) :
    JudgedOnly [.pwr, .mtx] s { s with dev := s.dev.tickEnd } ∧ Lands f.job .ok f.exec 3 s { s with dev := s.dev.tickEnd } ∧
      s.dev.tickEnd.pwr = { s.dev.pwr with mode := .run } ∧
      s.dev.tickEnd.mtx = { s.dev.mtx with waitFrame := true, blank := s.dev.clk.now + 262144 } := by
  obtain ⟨hwake, hsleep, -⟩ := (modeFree_iff _).1 hfree
  let b := s.dev.modesTaken.modPwr (fun p => { p with mode := .run })
  have hj : s.dev.modesTaken.modeJudge .run = (.ok, b.startOutputs) :=
    (judge_free .run hfree).trans (modeRequest_run (s := s.dev.modesTaken) hw hsleep)
  have hq := h.quiet hj h.asked
  have hon : b.startOutputs.coreOn = s.dev.coreOn := by
    rw [coreOn_works hwake (.inl hw), coreOn_works (s := b.startOutputs) hwake (.inr (.inl rfl))]
  have hafter : b.startOutputs.modeAfter = 3 := modeAfter_awake (s := b.startOutputs) hsleep
  have hlands := lands_modeEnd (s := s) (u := b.startOutputs) ((sameEngine_modesTaken s.dev).trans (.of_eq rfl rfl hon rfl)) rfl hq
  rw [hafter] at hlands
  refine ⟨judgedOnly (.trans (t := b) (leaves_modPwr (by decide) _ _) (leaves_modMtx (by decide) _ _)) rfl hq, hlands, ?_, ?_⟩
  · exact hq.pwr.trans (modeEnd_pwr f _)
  · exact hq.mtx.trans ((leaves_modeEnd f _).mtx (by decide))

/-- RUN to READY. -/
theorem OneMode.ready (h : OneMode s.dev f .ready) (hfree : s.dev.modeFree = true) (hw : s.dev.pwr.mode = .run) :
    JudgedOnly [.pwr] s { s with dev := s.dev.tickEnd } ∧ Lands f.job .ok f.exec 2 s { s with dev := s.dev.tickEnd } ∧
      s.dev.tickEnd.pwr = { s.dev.pwr with mode := .ready } := by
  obtain ⟨hwake, hsleep, -⟩ := (modeFree_iff _).1 hfree
  let b := s.dev.modesTaken.modPwr (fun p => { p with mode := .ready })
  have hj : s.dev.modesTaken.modeJudge .ready = (.ok, b) := (judge_free .ready hfree).trans (modeRequest_ready (s := s.dev.modesTaken) hw hsleep)
  have hq := h.quiet hj h.asked
  have hon : b.coreOn = s.dev.coreOn := by
    rw [coreOn_works hwake (.inr (.inl hw)), coreOn_works (s := b) hwake (.inl rfl)]
  have hafter : b.modeAfter = 2 := modeAfter_awake (s := b) hsleep
  have hlands := lands_modeEnd (s := s) (u := b) ((sameEngine_modesTaken s.dev).trans (.of_eq rfl rfl hon rfl)) rfl hq
  rw [hafter] at hlands
  exact ⟨judgedOnly (leaves_modPwr (by decide) _ _) rfl hq, hlands, hq.pwr.trans (modeEnd_pwr f _)⟩

theorem host_alone : ∀ c : BitVec 5, c.toNat / 2 = 0 → c &&& ~~~ BitVec.ofNat 5 (2 ^ causeHost) = 0 := by decide

/-- HOLD to READY, where the host alone held the device. -/
theorem OneMode.leave (h : OneMode s.dev f .ready) (hfree : s.dev.modeFree = true) (hw : s.dev.pwr.mode = .hold)
    (hc : s.dev.pwr.cause.toNat / 2 = 0) :
    JudgedOnly [.pwr, .mtx] s { s with dev := s.dev.tickEnd } ∧
      s.dev.tickEnd.pwr = { s.dev.pwr with mode := .ready, cause := 0 } ∧ s.dev.tickEnd.mtx = { s.dev.mtx with holdRows := 0 } := by
  obtain ⟨-, hsleep, -⟩ := (modeFree_iff _).1 hfree
  let b := (s.dev.modesTaken.dropCause causeHost).holdLeft
  have hj : s.dev.modesTaken.modeJudge .ready = (.ok, b.eventOk 0x0205 0) :=
    (judge_free .ready hfree).trans (modeRequest_leave (s := s.dev.modesTaken) hw hsleep hc)
  have htold := quiet_eventOk b 0x0205 0
  have hq := h.quiet hj ((congrArg Pwr.asked htold.pwr).trans h.asked)
  have hleft : Leaves [.pwr, .mtx] (fun _ => false) s.dev.modesTaken b :=
    .trans (t := (s.dev.modesTaken.dropCause causeHost).modPwr (fun p => { p with mode := .ready }))
      (.trans (t := s.dev.modesTaken.dropCause causeHost) (leaves_modPwr (by decide) _ _) (leaves_modPwr (by decide) _ _))
      (leaves_modMtx (by decide) _ _)
  refine ⟨judgedOnly (hleft.trans (.of_quiet htold)) htold.queues.flights hq, ?_, ?_⟩
  · refine hq.pwr.trans ((modeEnd_pwr f _).trans (htold.pwr.trans ?_))
    have hcause := host_alone _ hc
    change ({ s.dev.pwr with mode := .ready, cause := s.dev.pwr.cause &&& ~~~ BitVec.ofNat 5 (2 ^ causeHost) } : Pwr) = _
    rw [hcause]
  · exact hq.mtx.trans (((leaves_modeEnd f _).mtx (by decide)).trans htold.mtx)

/-- READY and RUN to sleep. -/
theorem OneMode.sleep (h : OneMode s.dev f m) (hfree : s.dev.modeFree = true) (hw : s.dev.pwr.mode = .ready ∨ s.dev.pwr.mode = .run)
    (hm : m = .vault ∨ m = .doze) :
    s.dev.tickEnd.pwr = { s.dev.pwr with sleepTo := some m, sleepStart := s.dev.clk.now, latched := none } ∧
      s.dev.tickEnd.cuesOut ∧ s.dev.tickEnd.lightsOn = false ∧ s.dev.tickEnd.clk = s.dev.clk ∧ s.dev.tickEnd.chan = s.dev.chan ∧
      ∀ g ∈ s.dev.tickEnd.ring.flights, g.modeAsked = none := by
  obtain ⟨-, hsleep, -⟩ := (modeFree_iff _).1 hfree
  have hj : s.dev.modesTaken.modeJudge m = (.ok, s.dev.modesTaken.beginSleep m) :=
    (judge_free m hfree).trans (modeRequest_sleep (s := s.dev.modesTaken) hw hsleep hm)
  have hpwr := beginSleep_pwr s.dev.modesTaken m
  have ha : (s.dev.modesTaken.beginSleep m).pwr.asked = none := (congrArg Pwr.asked hpwr).trans h.asked
  have hq := h.quiet hj ha
  have hless := h.lessens hj ha
  have hleaves := leaves_beginSleep s.dev.modesTaken m
  have hend := leaves_modeEnd f (.ok, s.dev.modesTaken.beginSleep m)
  have hpwr' : s.dev.tickEnd.pwr = { s.dev.pwr with sleepTo := some m, sleepStart := s.dev.clk.now, latched := none } :=
    hq.pwr.trans ((modeEnd_pwr f _).trans hpwr)
  refine ⟨hpwr', hless.cuesOut (cuesOut_beginSleep _ m), ?_, ?_, ?_, fun g hg => ?_⟩
  · simp only [Dev.lightsOn, Dev.inHold, hpwr']
    obtain hw | hw := hw <;> simp [hw]
  · exact hq.clk.trans ((hend.clk (by decide)).trans (hleaves.clk (by decide)))
  · exact hq.chan.trans ((hend.chan (by decide)).trans (hleaves.chan (by decide)))
  · exact modeAsked_modesTaken s.dev g (flights_beginSleep _ m g (hless.flights g hg))

theorem holdWork_pwr (s : Dev) : s.holdWork.pwr = s.pwr := by rw [holdWork_eq, causeActs_pwr, heldEngines_event_pwr]

theorem enterHold_pwr {s : Dev} (hs : s.pwr.sleepTo = none) : s.enterHold.pwr = { s.pwr with mode := .hold, transAt := some s.clk.now } := by
  have habandon : s.abandonSleep = s := by rw [Dev.abandonSleep, hs]
  rw [enterHold_toHold, holdWork_pwr, Dev.toHold, habandon]
  rfl

/-- READY, RUN and SHADOW to HOLD. -/
theorem OneMode.hold (h : OneMode s.dev f .hold) (hfree : s.dev.modeFree = true) (hw : s.dev.pwr.mode.works) :
    s.dev.tickEnd.pwr = { s.dev.pwr with mode := .hold, cause := s.dev.pwr.cause ||| 1, transAt := some s.dev.clk.now } ∧
      s.dev.tickEnd.cuesOut ∧ (∀ n < 12, (s.dev.tickEnd.ripOf n).run = false) ∧
      (s.dev.hasCause causeLimp = false → s.dev.tickEnd.clk = s.dev.clk) ∧
      (∀ c < 1040, (s.dev.tickEnd.chanOf c).step = BitVec.ofNat 16 (s.dev.safeLevel c)) ∧
      ∀ g ∈ s.dev.tickEnd.ring.flights, g.modeAsked = none := by
  obtain ⟨hwake, hsleep, -⟩ := (modeFree_iff _).1 hfree
  let b := s.dev.modesTaken.withCause causeHost
  have hcause : s.dev.modesTaken.setCause causeHost = b.enterHold :=
    setCause_works (s := s.dev.modesTaken) causeHost (coreOn_works (s := s.dev.modesTaken) hwake hw) hw
  have hj : s.dev.modesTaken.modeJudge .hold = (.ok, b.enterHold) := by
    rw [judge_free .hold hfree, modeRequest_hold (s := s.dev.modesTaken) hw hsleep, hcause]
  have hpwr : b.enterHold.pwr = { b.pwr with mode := .hold, transAt := some b.clk.now } := enterHold_pwr (s := b) hsleep
  have ha : b.enterHold.pwr.asked = none := (congrArg Pwr.asked hpwr).trans h.asked
  have hq := h.quiet hj ha
  have hless := h.lessens hj ha
  have hend : Leaves [.ozh, .regs] radioReg b.enterHold s.dev.tickEnd := (leaves_modeEnd f (.ok, b.enterHold)).trans (.of_quiet hq)
  have hb : Leaves [.pwr, .ring] (fun _ => false) s.dev b :=
    ((leaves_modesTaken s.dev).mono (by decide) fun _ h => h).trans (leaves_modPwr (by decide) _ _)
  have hstill : Stilled s.dev s.dev.tickEnd := ((stilled_enterHold b).of_source (hb.rip (by decide)) fun c hc =>
    hb.safeLevel (fun _ _ _ => rfl) hc).goes (hend.rip (by decide)) (hend.chan (by decide))
  refine ⟨(hend.pwr (by decide)).trans hpwr, hless.cuesOut (cuesOut_enterHold b), fun n hn => ?_, fun hlimp => ?_, hstill.steps, fun g hg => ?_⟩
  · rw [hstill.rips n hn]
    rfl
  · have hnot : b.hasCause causeLimp = false := by
      rw [hasCause_withCause _ (by decide), hasCause_congr (modesTaken_pwr s.dev), hlimp]
      rfl
    exact (hend.clk (by decide)).trans (((leaves_enterHold_light hnot).clk (by decide)).trans (hb.clk (by decide)))
  · exact modeAsked_modesTaken s.dev g (flights_enterHold b g (hless.flights g hg))

end

/-! ### O27 -/

/-- Settles O27: MODE waits, and at the end of its tick it is judged by what each transition of Table MOD-2 leaves. -/
theorem modeRequestsTransitions : Obligations.ModeRequestsTransitions := by
  refine ⟨fun s o d m hruns hop hm => ⟨fun hrun => does_mode hruns hop hm hrun, fun hhalt => does_mode_halted hruns hop hhalt⟩, ?_⟩
  intro s f m htake hasked hone hawait t w on free rest only
  have h : OneMode s.dev f m := ⟨htake, hasked, hone, hawait⟩
  have ht : t = { s with dev := s.dev.tickEnd } := rfl
  have honly (areas : List Area) : only areas = JudgedOnly areas s t := rfl
  have hfree : free = s.dev.modeFree := rfl
  have hon (hb : on = true) : s.dev.pwr.mode = .ready ∨ s.dev.pwr.mode = .run := of_decide_eq_true hb
  clear_value only free rest t on
  subst ht hfree
  simp only [honly]
  refine ⟨h.same, fun hf hw hm => ?_, fun hf hw hm => ?_, fun hf hb hm => h.sleep hf (hon hb) hm, fun hf hw hm => ?_, fun hf hw hm hc => ?_,
    fun hf hne hbar => h.barred hf hne (hbar.imp_left (.imp_left hon)), fun hf => h.still (modeJudge_busy (s := s.dev.modesTaken) m hf)⟩
  · subst hm
    exact h.run hf hw
  · subst hm
    exact h.ready hf hw
  · subst hm
    obtain hb | hw := hw
    · exact h.hold hf ((hon hb).imp_right .inl)
    · exact h.hold hf (.inr (.inr hw))
  · subst hm
    exact h.leave hf hw hc

end Sys2Proof.Machine
end

section
/-! SUPPORT. Set-up of MSI-X (R123): an entry that is owed when the function mask is set, and O10. -/

namespace Sys2Proof.Machine

/-- The device of `wheyRunning` with a message for each entry of whey ring 0, and an EVENTS_LOST entry owed. -/
def lossOwed : Dev := (wheyRunning.setBoth 0x1218 0x109).modRing (fun r => { r with lostEvt := 1, owed := true })

/-- The machine with that device. -/
def lossOwedState : State := { State.reset with dev := lossOwed }

/-- Refutes O10: the function mask is set while an EVENTS_LOST entry is owed. What follows the command writes that entry to whey ring 0, and
its message, which the mask now withholds, sets the pending bit of vector 0 (R123, R125), so that the vector is not as it was. The statement
lacks the exception for the pending bits, which `sameRing` leaves to every command. -/
theorem not_ringWritesActAtOnce : ¬ Obligations.RingWritesActAtOnce := by
  intro h
  obtain ⟨-, -, -, hmask⟩ := h lossOwedState (by decide +kernel)
  have hclaim := hmask true
  rw [does_of_onDev (fun s => if s.coreOn then s.functionMask true else s) rfl] at hclaim
  obtain ⟨-, -, hvectors⟩ := hclaim
  obtain ⟨-, hsame, -⟩ := hvectors 0 (by decide)
  have hpend := congrArg Msix.pend (hsame rfl)
  revert hpend
  decide +kernel

end Sys2Proof.Machine
end

section
/-! SUPPORT. What entries, packets and messages leave: the reads of the whey rings, the packets that a port has queued, and the cue store while
no request may be issued. -/

namespace Sys2Proof.Machine

/-! ### What is kept -/

theorem Quiet.mayIssue {s t : Dev} (h : Quiet s t) : t.mayIssue = s.mayIssue := by
  obtain ⟨⟨_, _, _, _, _, _, _, _, hr⟩, -, -⟩ := h.ring
  simp only [Dev.mayIssue, Dev.rb, coreOn_congr h.pwr, h.force 0x1008 rfl, hr]

/-- A quiet change that keeps of each whey ring all but its moderation, adds packets only behind those that a port has queued, and keeps the
cue store while no request may be issued. -/
structure Housekept (s t : Dev) : Prop where
  quiet : Quiet s t
  whey : ∀ m, ∃ a b, t.wheyOf m = { s.wheyOf m with since := a, age := b }
  queued : ∀ k, (s.portOf k).txq <+: (t.portOf k).txq
  cues : s.mayIssue = false → t.ring.cues = s.ring.cues

theorem Housekept.refl (s : Dev) : Housekept s s := ⟨.refl s, fun _ => ⟨_, _, rfl⟩, fun _ => List.prefix_rfl, fun _ => rfl⟩

theorem Housekept.trans {s t u : Dev} (h : Housekept s t) (k : Housekept t u) : Housekept s u where
  quiet := h.quiet.trans k.quiet
  whey m := by
    obtain ⟨_, _, ht⟩ := h.whey m
    obtain ⟨a, b, hu⟩ := k.whey m
    exact ⟨a, b, by rw [hu, ht]⟩
  queued p := (h.queued p).trans (k.queued p)
  cues hs := (k.cues (h.quiet.mayIssue.trans hs)).trans (h.cues hs)

theorem Housekept.foldl {α : Type} {f : Dev → α → Dev} (hf : ∀ s a, Housekept s (f s a)) (xs : List α) (s : Dev) :
    Housekept s (xs.foldl f s) := foldl_of_step .refl .trans hf xs s

theorem Housekept.ite {s t u : Dev} {c : Prop} [Decidable c] (ht : Housekept s t) (hu : Housekept s u) : Housekept s (if c then t else u) := by
  split
  · exact ht
  · exact hu

/-- A quiet change of neither the whey rings nor the cue store nor the ports. -/
theorem Housekept.of_same {s t : Dev} (h : Quiet s t) (hw : t.ring.whey = s.ring.whey) (hc : t.ring.cues = s.ring.cues)
    (hp : t.hoop.ports = s.hoop.ports) : Housekept s t where
  quiet := h
  whey m := ⟨_, _, by rw [Dev.wheyOf, hw]; rfl⟩
  queued k := by rw [Dev.portOf, Dev.portOf, hp]
  cues _ := hc

/-! ### Entries -/

theorem housekept_emit (s : Dev) (o : Out) : Housekept s (s.emit o) := .of_same (quiet_emit s o) rfl rfl rfl

theorem housekept_setFlag (s : Dev) {o : Nat} (i : Nat) (h : noteReg o = true) : Housekept s (s.setFlag o i) :=
  .of_same (quiet_setFlag s o i h) rfl rfl rfl

theorem housekept_sendMsix (s : Dev) (v : Nat) : Housekept s (s.sendMsix v) :=
  .ite (.of_same (quiet_setPend s v true) rfl rfl rfl) (housekept_emit s _)

theorem housekept_moderate (s : Dev) (m a b : Nat) : Housekept s (s.setWhey m { s.wheyOf m with since := a, age := b }) where
  quiet := quiet_setWhey s m _
  whey k := by
    have hget : (s.setWhey m { s.wheyOf m with since := a, age := b }).wheyOf k =
        if k = m then { s.wheyOf m with since := a, age := b } else s.wheyOf k := tabGet_tabSet ..
    rw [hget]
    split
    · next hk => exact ⟨a, b, by rw [hk]⟩
    · exact ⟨_, _, rfl⟩
  queued _ := List.prefix_rfl
  cues _ := rfl

theorem housekept_putWhey (s : Dev) (m : Nat) (e : Entry) : Housekept s (s.putWhey m e) := by
  have htail (d : Dev) (w : Word) : Housekept d (d.setBoth (wheyOff m + 0x1C) w) := .of_same (quiet_setBoth d _ w (noteReg_tail m)) rfl rfl rfl
  have hput := ((housekept_emit s (.whey m (s.wheyTail m) (s.wheyAddr m) e)).trans (htail _ (s.wheyTail m + 1))).trans (housekept_emit _
    (.tail m ((((s.emit (.whey m (s.wheyTail m) (s.wheyAddr m) e)).setBoth (wheyOff m + 0x1C) (s.wheyTail m + 1)).addr64
      (wheyOff m + 0x10))) ((s.wheyTail m + 1).setWidth 64)))
  unfold Dev.putWhey
  simp only
  split
  · exact (hput.trans (housekept_moderate _ m 0 0)).trans (housekept_sendMsix _ _)
  · exact hput.trans (housekept_moderate _ m _ _)

/-- A change of one port that adds packets only behind those it has queued. -/
theorem housekept_modPort (s : Dev) (k : Nat) (f : HPort → HPort) (h : (s.portOf k).txq <+: (f (s.portOf k)).txq) : Housekept s (s.modPort k f) where
  quiet := quiet_setPort s k _
  whey _ := ⟨_, _, rfl⟩
  queued j := by
    have hget : (s.modPort k f).portOf j = if j = k then f (s.portOf k) else s.portOf j := tabGet_tabSet ..
    rw [hget]
    split
    · next hj => rwa [hj]
    · exact List.prefix_rfl
  cues _ := rfl

theorem housekept_dropPacket (s : Dev) (k : Nat) : Housekept s (s.dropPacket k) :=
  (housekept_modPort s k (fun q => { q with drop := satInc q.drop }) List.prefix_rfl).trans (housekept_setFlag _ 5 rfl)

theorem housekept_queuePacket (s : Dev) (k : Nat) (p : Packet) : Housekept s (s.queuePacket k p) :=
  .ite (housekept_modPort s k (fun q => { q with txq := q.txq ++ [(p, s.clk.now + 8)] }) (List.prefix_append _ _)) (housekept_dropPacket s k)

theorem housekept_sendPacket (s : Dev) (type : Nat) (dest : BitVec 12) (tag : BitVec 16) (p : List Byte) :
    Housekept s (s.sendPacket type dest tag p) := by
  unfold Dev.sendPacket
  refine .ite (.of_same { Quiet.refl s with hoop := ⟨_, _, rfl⟩ } rfl rfl rfl) ?_
  split
  · exact housekept_queuePacket s _ _
  · exact housekept_dropPacket s _

theorem housekept_loseEvent (s : Dev) (b : Bool) : Housekept s (s.loseEvent b) := .of_same (quiet_loseEvent s b) rfl rfl rfl

theorem housekept_waitEvent (s : Dev) (w : Waiting) : Housekept s (s.modRing (fun r => { r with wait := r.wait ++ [w] })) :=
  .of_same (quiet_waitCues s _ s.ring.cues) rfl rfl rfl

theorem housekept_postEvent (s : Dev) (e : Entry) : Housekept s (s.postEvent e) := by
  unfold Dev.postEvent
  refine .ite (.ite (housekept_sendPacket s _ _ _ _) (housekept_loseEvent s _)) (.ite (housekept_putWhey s _ e) (.ite ?_ (housekept_loseEvent s _)))
  have hwait := housekept_waitEvent s ⟨true, 0, none, e⟩
  exact .ite (hwait.trans (housekept_emit _ _)) hwait

theorem housekept_eventOk (s : Dev) (c d : Nat) : Housekept s (s.eventOk c d) := housekept_postEvent s _

/-! ### What follows every command -/

theorem mayIssue_of_wheyCan {s : Dev} {m : Nat} (h : s.wheyCan m = true) : s.mayIssue = true := by
  simp only [Dev.wheyCan, Bool.and_eq_true] at h
  obtain ⟨⟨⟨hmay, -⟩, -⟩, -⟩ := h
  exact hmay

/-- An entry of a cue written to its ring: the cue leaves the store, which a request issued shows. -/
theorem housekept_landCue {s : Dev} {m : Nat} (h : s.wheyCan m = true) (e : Entry) (i : Nat) : Housekept s ((s.putWhey m e).freeCue i) where
  quiet := (quiet_putWhey s m e).trans (quiet_freeCue _ i)
  whey := (housekept_putWhey s m e).whey
  queued := (housekept_putWhey s m e).queued
  cues hno := by simp [mayIssue_of_wheyCan h] at hno

theorem housekept_flushList (ws : List Waiting) : ∀ s : Dev, Housekept s (Dev.flushList ws s) := by
  induction ws with
  | nil => exact .refl
  | cons w ws ih =>
    intro s
    unfold Dev.flushList
    refine Housekept.trans ?_ (ih _)
    simp only
    split
    · next hcan =>
      cases w.cue with
      | some i => exact housekept_landCue hcan w.e i
      | none => exact housekept_putWhey s (s.waitRing w) w.e
    · exact housekept_waitEvent s w

/-- The count of lost events told. -/
theorem housekept_owedTold (s : Dev) : Housekept s (s.modRing (fun r => { r with owed := false, lostEvt := 0 })) :=
  .of_same (quiet_ring s _ ⟨⟨_, _, _, _, _, _, _, _, rfl⟩, fun _ => ⟨_, _, rfl⟩, fun _ => ⟨_, rfl⟩⟩) rfl rfl rfl

theorem housekept_writeOwed (s : Dev) : Housekept s s.writeOwed :=
  .ite ((housekept_owedTold s).trans (housekept_putWhey _ _ _)) (.refl s)

theorem housekept_flushWhey (s : Dev) : Housekept s s.flushWhey := by
  refine .trans ?_ (housekept_writeOwed _)
  refine .trans ?_ (housekept_flushList s.ring.wait _)
  exact .of_same (quiet_waitCues s [] s.ring.cues) rfl rfl rfl

theorem housekept_mailboxTold (s : Dev) : Housekept s s.mailboxTold := by
  have htold : Housekept s (s.modBr (fun x => { x with told := s.mbxOpen })) := .of_same (quiet_told s _) rfl rfl rfl
  unfold Dev.mailboxTold
  refine .ite (.refl s) (.ite ?_ (.ite (htold.trans (housekept_eventOk _ _ _)) htold))
  split
  · exact htold.trans (housekept_eventOk _ _ _)
  · exact htold

theorem housekept_scanFaults (s : Dev) : Housekept s s.scanFaults := by
  have hreport (d : Dev) (c : Nat) : Housekept d (d.reportFault c) :=
    Housekept.trans (t := d.modFlt (fun f => { f with last := BitVec.ofNat 8 c })) (.of_same (quiet_last d c) rfl rfl rfl) (housekept_eventOk _ _ _)
  exact Housekept.trans (t := s.modFlt (fun f => { f with local_ := s.localNow })) (.of_same (quiet_local s _) rfl rfl rfl)
    (.foldl (fun d _ => .ite (hreport d _) (.refl d)) _ _)

theorem housekept_writeShadow (s : Dev) (n : Fin 8) : Housekept s (s.writeShadow n) := by
  have hset (v : Option (BitVec 64)) (w : Bool) : Housekept s (s.setCurd n { s.curdOf n with shadow := v, shadowDue := w }) :=
    .of_same (quiet_setShadow s n v w) rfl rfl rfl
  exact .ite (hset _ _) (.ite (hset _ _) ((hset _ _).trans (housekept_emit _ _)))

theorem housekept_mirror (s : Dev) : Housekept s s.mirror := by
  refine .of_same (quiet_mirror s) (mirror_whey s) ?_ ?_ <;>
  · unfold Dev.mirror
    simp only
    split_ifs <;> rfl

theorem housekept_settle (s : Dev) : Housekept s s.settle := by
  refine .trans ?_ (housekept_mirror _)
  refine .trans ?_ (.foldl (fun d n => .ite (housekept_writeShadow d n) (.refl d)) _ _)
  refine .trans ?_ (housekept_scanFaults _)
  refine .trans ?_ (housekept_flushWhey _)
  exact Housekept.trans (t := s.watchClock) (.of_same (quiet_watchClock s) rfl rfl rfl) (housekept_mailboxTold _)

/-- What follows a command, by all that it leaves. -/
structure Served (s t : Dev) : Prop where
  kept : Housekept s t
  messaged : Messaged s t

theorem Served.trans {s t u : Dev} (h : Served s t) (k : Served t u) : Served s u := ⟨h.kept.trans k.kept, h.messaged.trans k.messaged⟩

theorem served_settle (s : Dev) : Served s s.settle := ⟨housekept_settle s, messaged_settle s⟩

/-- A command on the device does what every change that follows commands shows of its effect. -/
theorem does_of_served {c : Instr} {s : State} {P : State → Prop} (f : Dev → Dev) (hc : exec c s = onDev f s)
    (h : ∀ e, Served (f s.dev) e → P { s with dev := e }) : Does c s P :=
  (does_of_onDev f hc).2 (h _ (served_settle _))

/-- The same for a command of the powered core, with its effect named. -/
theorem does_core_of_served {c : Instr} {s : State} {P : State → Prop} {d : Dev} (f : Dev → Dev) (hc : exec c s = onCore f s)
    (hon : s.dev.coreOn = true) (hd : f s.dev = d) (h : ∀ e, Served d e → P { s with dev := e }) : Does c s P :=
  (does_of_onCore f hc hon).2 (h _ (hd ▸ served_settle _))

end Sys2Proof.Machine
end

section
/-! SUPPORT. Reads of host memory that return (R108, R110, R115, R121, R132, R135): what each leaves of its ring, and the fetch that follows. -/

namespace Sys2Proof.Machine

/-! ### The tables of the rings -/

theorem tabDel_tabDel {α : Type} (m : Tab α) (k : Nat) : tabDel (tabDel m k) k = tabDel m k := by
  induction m with
  | nil => rfl
  | cons e m ih =>
    simp only [tabDel]
    split
    · exact ih
    · next h => simp only [tabDel, h, if_false, ih]

theorem tabDel_tabIns {α : Type} (m : Tab α) (k : Nat) (v : α) : tabDel (tabIns m k v) k = tabDel m k := by
  induction m with
  | nil => simp [tabIns, tabDel]
  | cons e m ih =>
    simp only [tabIns]
    split
    · next h => simp only [tabDel, ih]
    · simp [tabDel]

/-- Of two writes at one key the later stays. -/
theorem tabSet_tabSet {α : Type} [DecidableEq α] (d : α) (m : Tab α) (k : Nat) (v w : α) : tabSet d (tabSet d m k v) k w = tabSet d m k w := by
  have hdel : tabDel (tabSet d m k v) k = tabDel m k := by
    unfold tabSet
    split
    · exact tabDel_tabDel m k
    · exact (tabDel_tabIns _ k v).trans (tabDel_tabDel m k)
  simp only [tabSet] at hdel ⊢
  rw [hdel]

@[simp] theorem setCurd_setCurd (s : Dev) (n : Nat) (c x : Curd) : (s.setCurd n c).setCurd n x = s.setCurd n x := by
  have h := tabSet_tabSet {} s.ring.curd n c x
  simp only [Dev.setCurd, h]

@[simp] theorem setWhey_setWhey (s : Dev) (m : Nat) (w x : Whey) : (s.setWhey m w).setWhey m x = s.setWhey m x := by
  have h := tabSet_tabSet {} s.ring.whey m w x
  simp only [Dev.setWhey, h]

theorem curdOf_setCurd (s : Dev) (n k : Nat) (c : Curd) : (s.setCurd n c).curdOf k = if k = n then c else s.curdOf k := tabGet_tabSet ..

@[simp] theorem curdOf_setCurd_self (s : Dev) (n : Nat) (c : Curd) : (s.setCurd n c).curdOf n = c := tabGet_tabSet_self ..

theorem curdOf_setCurd_ne (s : Dev) {n k : Nat} (c : Curd) (h : k ≠ n) : (s.setCurd n c).curdOf k = s.curdOf k := tabGet_tabSet_ne _ _ _ _ _ h

theorem wheyOf_setWhey (s : Dev) (m k : Nat) (w : Whey) : (s.setWhey m w).wheyOf k = if k = m then w else s.wheyOf k := tabGet_tabSet ..

@[simp] theorem wheyOf_setWhey_self (s : Dev) (m : Nat) (w : Whey) : (s.setWhey m w).wheyOf m = w := tabGet_tabSet_self ..

theorem Quiet.curd {s t : Dev} (h : Quiet s t) (n : Nat) : ∃ v w, t.curdOf n = { s.curdOf n with shadow := v, shadowDue := w } := h.ring.2.1 n

/-- The registers of a curd ring are none of those that every command may note in. -/
theorem noteReg_curd (n : Fin 8) {k : Nat} (hk : k < 0x20) : noteReg (curdOff n + k) = false := by
  have := curdOff_range n
  simp only [noteReg, List.contains_eq_mem, decide_eq_false_iff_not, List.mem_cons, List.not_mem_nil, or_false]
  omega

theorem leaves_setCurd (s : Dev) (n : Nat) (c : Curd) : Leaves [.ring] (fun _ => false) s (s.setCurd n c) := .over rfl

theorem leaves_setWhey (s : Dev) (m : Nat) (w : Whey) : Leaves [.ring] (fun _ => false) s (s.setWhey m w) := .over rfl

/-! ### The fetch of the next burst -/

/-- Two devices whose curd ring `n` would read the same burst. -/
theorem burstLen_congr {s t : Dev} (n : Fin 8) (hf : ∀ off, noteReg off = false → t.force off = s.force off)
    (hp : (t.curdOf n).pend = (s.curdOf n).pend) (hm : t.ring.maxRead = s.ring.maxRead) : t.burstLen n = s.burstLen n := by
  have h0 := hf _ (noteReg_curd n (k := 0) (by decide))
  have h4 := hf _ (noteReg_curd n (k := 4) (by decide))
  have h18 := hf _ (noteReg_curd n (k := 0x18) (by decide))
  have h1c := hf _ (noteReg_curd n (k := 0x1C) (by decide))
  rw [Nat.add_zero] at h0
  simp only [Dev.burstLen, Dev.rf, Dev.curdCi, Dev.addr64, h0, h4, h18, h1c, hp, hm]

theorem Quiet.burstLen {s t : Dev} (h : Quiet s t) (n : Fin 8) : t.burstLen n = s.burstLen n := by
  obtain ⟨_, _, hc⟩ := h.curd n
  obtain ⟨⟨_, _, _, _, _, _, _, _, hr⟩, -, -⟩ := h.ring
  exact burstLen_congr n h.force (by rw [hc]) (by rw [hr])

/-- The ring whose burst is read, if a request may be issued. -/
def Dev.fetcher (s : Dev) : Option Nat := if s.mayIssue then s.fetchNext else none

/-- The burst of ring `k` read. -/
def Dev.fetchBy (s : Dev) (k : Nat) : Dev :=
  ((s.modCurd k (fun c => { c with fetching := s.burstLen k })).modRing (fun r => { r with fetchTurn := k })).emit
    (.readReq (.fetch (Fin.ofNat 8 k)) (s.burstAddr k) (32 * s.burstLen k))

theorem startFetch_eq (s : Dev) : s.startFetch = match s.fetcher with
    | some k => s.fetchBy k
    | none => s := by
  unfold Dev.startFetch Dev.fetcher
  cases s.mayIssue
  · rfl
  · cases s.fetchNext <;> rfl

theorem curdOf_fetchBy (s : Dev) (n k : Nat) : (s.fetchBy k).curdOf n = if n = k then { s.curdOf k with fetching := s.burstLen k } else s.curdOf n :=
  curdOf_setCurd ..

theorem burstLen_fetchBy (s : Dev) (n : Fin 8) : (s.fetchBy n).burstLen n = s.burstLen n := by
  refine burstLen_congr n (fun _ _ => rfl) ?_ rfl
  rw [curdOf_fetchBy, if_pos rfl]

/-- The request that a fetch issues. -/
theorem readReq_mem_fetchBy (s : Dev) (n : Fin 8) : .readReq (.fetch n) (s.burstAddr n) (32 * s.burstLen n) ∈ (s.fetchBy n).out := by
  have hn : Fin.ofNat 8 n.val = n := by simp
  rw [Dev.fetchBy, Dev.emit_out, hn]
  exact List.mem_cons_self

/-- A fetch changes nothing of a curd ring but what it reads. -/
theorem startFetch_curdOf (s : Dev) (n : Nat) : ∃ k, s.startFetch.curdOf n = { s.curdOf n with fetching := k } := by
  rw [startFetch_eq]
  split
  · next k _ =>
    rw [curdOf_fetchBy]
    split
    · next hk => exact ⟨_, by rw [hk]⟩
    · exact ⟨_, rfl⟩
  · exact ⟨_, rfl⟩

theorem fetchWanted_of_fetcher {s : Dev} {k : Nat} (h : s.fetcher = some k) : s.fetchWanted k = true := by
  unfold Dev.fetcher Dev.fetchNext at h
  split_ifs at h
  exact List.find?_some h

theorem fetchWanted_congr {s t : Dev} {n : Nat} (h : t.curdOf n = s.curdOf n) : t.fetchWanted n = s.fetchWanted n := by
  rw [Dev.fetchWanted, Dev.fetchWanted, h]

/-- A ring with nothing to fetch stays as it is. -/
theorem startFetch_unwanted {s : Dev} {n : Nat} (h : s.fetchWanted n = false) : s.startFetch.curdOf n = s.curdOf n := by
  rw [startFetch_eq]
  split
  · next k hk =>
    rw [curdOf_fetchBy, if_neg]
    rintro rfl
    rw [fetchWanted_of_fetcher hk] at h
    cases h
  · rfl

/-- A fetch leaves the rings but for the curd rings and whose turn it was. -/
theorem startFetch_ring (s : Dev) : ∃ c k, s.startFetch.ring = { s.ring with curd := c, fetchTurn := k } := by
  rw [startFetch_eq]
  split
  · exact ⟨_, _, rfl⟩
  · exact ⟨_, _, rfl⟩

theorem leaves_startFetch (s : Dev) : Leaves [.ring] (fun _ => false) s s.startFetch := (fetched_startFetch s 0).leaves

theorem messaged_startFetch (s : Dev) : Messaged s s.startFetch := (fetched_startFetch s 0).messaged

/-- The only ring with descriptors to fetch is the next, where none is being read. -/
theorem fetchNext_only {s : Dev} (n : Fin 8) (hw : s.fetchWanted n = true)
    (ho : ∀ k : Fin 8, k ≠ n → (s.curdOf k).fetching = 0 ∧ s.fetchWanted k = false) : s.fetchNext = some n.val := by
  have hidle : (upTo 8).any (fun k => (s.curdOf k).fetching ≠ 0) = false := by
    refine List.any_eq_false.2 fun k hk => ?_
    by_cases hkn : k = n.val
    · have hn : (s.curdOf n).fetching = 0 := by
        simp only [Dev.fetchWanted, Bool.and_eq_true, decide_eq_true_eq] at hw
        obtain ⟨⟨⟨-, hfetch⟩, -⟩, -⟩ := hw
        exact hfetch
      simp [hkn, hn]
    · have hzero := (ho ⟨k, List.mem_range.1 hk⟩ (fun h => hkn (congrArg Fin.val h))).1
      simpa using hzero
  have hfind {xs : List Nat} (hn : n.val ∈ xs) (hxs : ∀ k ∈ xs, k < 8) : xs.find? s.fetchWanted = some n.val := by
    induction xs with
    | nil => cases hn
    | cons x xs ih =>
      by_cases hx : x = n.val
      · rw [hx, List.find?_cons_of_pos hw]
      · have hno := (ho ⟨x, hxs x List.mem_cons_self⟩ (fun h => hx (congrArg Fin.val h))).2
        rw [List.find?_cons_of_neg (by simp [hno])]
        exact ih ((List.mem_cons.1 hn).resolve_left (Ne.symm hx)) fun k hk => hxs k (List.mem_cons_of_mem _ hk)
  rw [Dev.fetchNext, hidle, if_neg (by decide)]
  refine hfind (List.mem_map.2 ⟨(n.val + 7 * s.ring.fetchTurn + 7) % 8, List.mem_range.2 (Nat.mod_lt _ (by decide)), by omega⟩) fun k hk => ?_
  obtain ⟨i, -, rfl⟩ := List.mem_map.1 hk
  exact Nat.mod_lt _ (by decide)

/-- What that ring's fetch reads. -/
theorem startFetch_only {s : Dev} (n : Fin 8) (hmay : s.mayIssue = true) (hw : s.fetchWanted n = true)
    (ho : ∀ k : Fin 8, k ≠ n → (s.curdOf k).fetching = 0 ∧ s.fetchWanted k = false) : s.startFetch = s.fetchBy n := by
  rw [startFetch_eq, Dev.fetcher, if_pos hmay, fetchNext_only n hw ho]

/-! ### Failed reads -/

/-- What a failed read does beside the halt is to latch the address, and what it reports. -/
theorem served_readAbort (s : Dev) (ring err : Nat) (a : BitVec 64) :
    Served (s.modRing (fun r => { r with errAddr := a })) (s.readAbort ring err a) where
  kept := ((housekept_setFlag _ 2 rfl).trans (housekept_emit _ _)).trans (housekept_eventOk _ _ _)
  messaged := ((messaged_setFlag _ 0x1010 2).trans (messaged_emit _ _)).trans (messaged_eventOk _ _ _)

theorem readAbort_flag (s : Dev) (ring err : Nat) (a : BitVec 64) : (s.readAbort ring err a).rb 0x1010 2 = true :=
  ((messaged_emit _ _).trans (messaged_eventOk _ _ _)).noted.flags 2 (rb_setFlag (s.modRing (fun r => { r with errAddr := a })) 0x1010 (by decide))

theorem sameEngine_errAddr (s : Dev) (a : BitVec 64) : SameEngine s (s.modRing (fun r => { r with errAddr := a })) :=
  ⟨rfl, rfl, rfl, rfl, ⟨rfl, rfl, rfl⟩, rfl, rfl, rfl, fun _ _ _ => rfl⟩

/-- The host is told of the halt by event RING_ERROR. -/
theorem tells_readAbort {s : State} {b e : Dev} {ring err : Nat} {a : BitVec 64} (hb : SameEngine s.dev b) (he : Served (b.readAbort ring err a) e) :
    Tells 0x0003 (ring + 256 * err) s { s with dev := e } := by
  have hflag := sameEngine_setFlag (b.modRing (fun r => { r with errAddr := a })) (o := 0x1010) 2 (by decide) (.inl (by decide))
  exact tells_of_eventOk (((hb.trans (sameEngine_errAddr b a)).trans hflag).trans (sameEngine_emit _ (.aer a))) he.kept.quiet.out

/-! ### Doorbells -/

/-- A curd ring with one read fewer outstanding. -/
def Dev.doorbellBack (s : Dev) (n : Nat) : Dev := s.setCurd n (s.curdOf n).readBack

/-- A doorbell word that passes its check: the descriptors pending. -/
def Dev.doorbellTaken (s : Dev) (n p : Nat) : Dev := s.setCurd n { (s.curdOf n).readBack with bad := 0, pend := p }

theorem doorbellTaken_curdOf (s : Dev) (n p : Nat) :
    (s.doorbellTaken n p).curdOf n = { (s.curdOf n).readBack with bad := 0, pend := p } :=
  curdOf_setCurd_self ..

theorem doorbellTaken_other (s : Dev) {n k : Nat} (p : Nat) (h : k ≠ n) : (s.doorbellTaken n p).curdOf k = s.curdOf k :=
  curdOf_setCurd_ne s _ h

theorem leaves_doorbellTaken (s : Dev) (n p : Nat) : Leaves [.ring] (fun _ => false) s (s.doorbellTaken n p) := leaves_setCurd s n _

theorem doorbellTaken_burstAddr (s : Dev) (n p : Nat) : (s.doorbellTaken n p).burstAddr n = s.burstAddr n := rfl

/-- A host word whose halves add up to all ones passes its check (R110). -/
theorem wordGood_of_sum {w : BitVec 64} (h : w.toNat / 2 ^ 32 + w.toNat % 2 ^ 32 = 2 ^ 32 - 1) : wordGood w = true := by
  refine decide_eq_true (BitVec.eq_of_toNat_eq ?_)
  simp only [BitVec.toNat_setWidth, BitVec.toNat_ushiftRight, BitVec.toNat_not, Nat.shiftRight_eq_div_pow]
  omega

/-- The outcome of a doorbell read whose data is used. -/
theorem doorbellDone_used {s : Dev} {n : Nat} (r : Rd) (hout : 0 < (s.curdOf n).rdOut) (hdrop : (s.curdOf n).rdDrop = 0)
    (hst : (s.curdOf n).st = .running) : s.doorbellDone n r = match r with
      | .err e => (s.doorbellBack n).abortCurd n (rdErrCode e) (s.addr64 (curdOff n + 8))
      | .ok w => if wordGood w then (s.doorbellBack n).takeDoorbell n (w.setWidth 32) else (s.doorbellBack n).badDoorbell n := by
  have hne : (s.curdOf n).rdOut ≠ 0 := by omega
  simp only [Dev.doorbellDone, hne, hdrop, hst, if_false]
  rfl

theorem doorbellDone_good {s : Dev} {n : Nat} {w : BitVec 64} (hout : 0 < (s.curdOf n).rdOut) (hdrop : (s.curdOf n).rdDrop = 0)
    (hst : (s.curdOf n).st = .running) (hw : wordGood w = true)
    (hp : (w.setWidth 32 - s.curdCi n).toNat ≤ 2 ^ s.rf (curdOff n + 0x18) 4 1) :
    s.doorbellDone n (.ok w) = (s.doorbellTaken n (w.setWidth 32 - s.curdCi n).toNat).startFetch := by
  rw [doorbellDone_used _ hout hdrop hst]
  simp only [hw, if_true, Dev.takeDoorbell, Dev.doorbellBack, Dev.modCurd_eq, curdOf_setCurd_self, setCurd_setCurd]
  exact if_pos hp

theorem doorbellDone_dropped {s : Dev} {n : Nat} (r : Rd) (hout : 0 < (s.curdOf n).rdOut) (hdrop : 0 < (s.curdOf n).rdDrop) :
    s.doorbellDone n r = s.doorbellBack n := by
  have hne : (s.curdOf n).rdOut ≠ 0 := by omega
  simp [Dev.doorbellDone, hne, hdrop, Dev.doorbellBack]

theorem readTimeout_doorbell {s : Dev} {n : Fin 8} (hout : 0 < (s.curdOf n).rdOut) (hdrop : (s.curdOf n).rdDrop = 0)
    (hst : (s.curdOf n).st = .running) : s.readTimeout (.doorbell n) [] = (s.doorbellBack n).abortCurd n 5 (s.addr64 (curdOff n + 8)) := by
  have hne : (s.curdOf n).rdOut ≠ 0 := by omega
  simp only [Dev.readTimeout, hne, hdrop, hst, if_false]
  rfl

/-- A curd ring halted with an ERR. -/
def Curd.halt (c : Curd) (err : Nat) : Curd :=
  { c with st := .halted, err := err, ready := [], haltAt := none, told := false, remWait := false }

/-- What a curd ring halted by a failed read shows, whatever follows. -/
theorem abortCurd_curdOf {b e : Dev} {n err : Nat} {a : BitVec 64} (he : Served (b.abortCurd n err a) e) :
    ∃ v w, e.curdOf n = { (b.curdOf n).halt err with shadow := v, shadowDue := w } := by
  have hhalt : ((b.haltCurd n err).modRing (fun r => { r with errAddr := a })).curdOf n = (b.curdOf n).halt err :=
    curdOf_setCurd_self b n ((b.curdOf n).halt err)
  obtain ⟨v, w, hc⟩ := ((served_readAbort (b.haltCurd n err) n err a).trans he).kept.quiet.curd n
  exact ⟨v, w, by rw [hc, hhalt]⟩

theorem Quiet.errAddr {s t : Dev} (h : Quiet s t) : t.ring.errAddr = s.ring.errAddr := by
  obtain ⟨⟨_, _, _, _, _, _, _, _, hr⟩, -, -⟩ := h.ring
  rw [hr]

theorem abortCurd_errAddr {b e : Dev} {n err : Nat} {a : BitVec 64} (he : Served (b.abortCurd n err a) e) : e.ring.errAddr = a :=
  ((served_readAbort (b.haltCurd n err) n err a).trans he).kept.quiet.errAddr

/-- A doorbell read that fails (R132). -/
theorem does_doorbellFails {c : Instr} {s : State} {n : Fin 8} {err : Nat} {f : Dev → Dev} (hc : exec c s = onCore f s) (hon : s.dev.coreOn = true)
    (hf : f s.dev = (s.dev.doorbellBack n).abortCurd n err (s.dev.addr64 (curdOff n + 8))) : Does c s (fun t =>
      KeepsBut [.ring] s t ∧ (t.dev.curdOf n).st = .halted ∧ (t.dev.curdOf n).rdOut = (s.dev.curdOf n).rdOut - 1 ∧
        (t.dev.curdOf n).err = err ∧ (t.dev.curdOf n).ready = [] ∧ t.dev.ring.errAddr = s.dev.addr64 (curdOff n + 8) ∧
        t.dev.rb 0x1010 2 = true ∧ Tells 0x0003 (n + 256 * err) s t) := by
  refine does_core_of_served f hc hon hf fun e he => ?_
  obtain ⟨v, w, hcurd⟩ := abortCurd_curdOf he
  have hleaves := ((leaves_setCurd s.dev n _).trans (fetched_abortCurd (s.dev.doorbellBack n) n err _).leaves).trans (.of_quiet he.kept.quiet)
  have hengine : SameEngine s.dev ((s.dev.doorbellBack n).haltCurd n err) := (sameEngine_setCurd s.dev n _).trans (sameEngine_setCurd _ n _)
  refine ⟨hleaves.keepsBut, ?_, ?_, ?_, ?_, abortCurd_errAddr he, he.messaged.noted.flags 2 (readAbort_flag _ _ _ _), tells_readAbort hengine he⟩
  all_goals
    rw [hcurd]
    simp [Dev.doorbellBack, Curd.readBack, Curd.halt]

end Sys2Proof.Machine
end

section
/-! SUPPORT. Head words, bursts and moderation (R110, R115, R121, R123, R132), a cue tried again (R120), and O36. -/

namespace Sys2Proof.Machine

/-! ### Head words -/

/-- A whey ring with one read fewer outstanding. -/
def Dev.headBack (s : Dev) (m : Nat) : Dev := s.setWhey m (s.wheyOf m).readBack

/-- A head word that passes its check: the entries consumed. -/
def Dev.headTaken (s : Dev) (m : Nat) (head : Word) : Dev := s.setWhey m { (s.wheyOf m).readBack with bad := 0, head := head }

/-- The outcome of a head read whose data is used. -/
theorem headDone_good {s : Dev} {m : Nat} {v : BitVec 64} (hout : 0 < (s.wheyOf m).rdOut) (hdrop : (s.wheyOf m).rdDrop = 0)
    (hst : (s.wheyOf m).st = .running) (hv : wordGood v = true)
    (hle : (v.setWidth 32 - (s.wheyOf m).head).toNat ≤ (s.wheyTail m - (s.wheyOf m).head).toNat) :
    s.headDone m (.ok v) = s.headTaken m (v.setWidth 32) := by
  have hne : (s.wheyOf m).rdOut ≠ 0 := by omega
  simp only [Dev.headDone, hne, hdrop, hst, hv, if_false, Dev.modWhey_eq, wheyOf_setWhey_self, setWhey_setWhey]
  exact if_pos hle

theorem headDone_err {s : Dev} {m : Nat} (e : RdErr) (hout : 0 < (s.wheyOf m).rdOut) (hdrop : (s.wheyOf m).rdDrop = 0)
    (hst : (s.wheyOf m).st = .running) : s.headDone m (.err e) = (s.headBack m).abortWhey m (rdErrCode e) (s.addr64 (wheyOff m + 8)) := by
  have hne : (s.wheyOf m).rdOut ≠ 0 := by omega
  simp only [Dev.headDone, hne, hdrop, hst, if_false]
  rfl

theorem readTimeout_head {s : Dev} {m : Fin 4} (hout : 0 < (s.wheyOf m).rdOut) (hdrop : (s.wheyOf m).rdDrop = 0)
    (hst : (s.wheyOf m).st = .running) : s.readTimeout (.head m) [] = (s.headBack m).abortWhey m 5 (s.addr64 (wheyOff m + 8)) := by
  have hne : (s.wheyOf m).rdOut ≠ 0 := by omega
  simp only [Dev.readTimeout, hne, hdrop, hst, if_false]
  rfl

theorem leaves_abortWhey (s : Dev) (m err : Nat) (a : BitVec 64) : Leaves [.ring] (fun _ => false) s (s.abortWhey m err a) :=
  ((leaves_setWhey s m { s.wheyOf m with st := .halted, err := err }).trans (leaves_modRing (by decide) _ _)).trans
    (.of_quiet (served_readAbort (s.haltWhey m err) (16 + m) err a).kept.quiet)

/-- What a whey ring halted by a failed read shows, whatever follows. -/
theorem abortWhey_wheyOf {b e : Dev} {m err : Nat} {a : BitVec 64} (he : Served (b.abortWhey m err a) e) :
    ∃ x y, e.wheyOf m = { b.wheyOf m with st := .halted, err := err, since := x, age := y } := by
  have hhalt : ((b.haltWhey m err).modRing (fun r => { r with errAddr := a })).wheyOf m = { b.wheyOf m with st := .halted, err := err } :=
    wheyOf_setWhey_self b m { b.wheyOf m with st := .halted, err := err }
  obtain ⟨x, y, hw⟩ := ((served_readAbort (b.haltWhey m err) (16 + m) err a).trans he).kept.whey m
  exact ⟨x, y, by rw [hw, hhalt]⟩

/-- A head word read that fails (R132). -/
theorem does_headFails {c : Instr} {s : State} {m : Fin 4} {err : Nat} {f : Dev → Dev} (hc : exec c s = onCore f s) (hon : s.dev.coreOn = true)
    (hf : f s.dev = (s.dev.headBack m).abortWhey m err (s.dev.addr64 (wheyOff m + 8))) : Does c s (fun t =>
      KeepsBut [.ring] s t ∧ (t.dev.wheyOf m).st = .halted ∧ (t.dev.wheyOf m).err = err ∧
        (t.dev.wheyOf m).rdOut = (s.dev.wheyOf m).rdOut - 1 ∧ t.dev.ring.errAddr = s.dev.addr64 (wheyOff m + 8)) := by
  refine does_core_of_served f hc hon hf fun e he => ?_
  obtain ⟨x, y, hwhey⟩ := abortWhey_wheyOf he
  have hleaves := ((leaves_setWhey s.dev m _).trans (leaves_abortWhey (s.dev.headBack m) m err _)).trans (.of_quiet he.kept.quiet)
  refine ⟨hleaves.keepsBut, ?_, ?_, ?_, ((served_readAbort _ _ _ _).trans he).kept.quiet.errAddr⟩
  all_goals simp [hwhey, Dev.headBack, Whey.readBack]

/-! ### Bursts -/

section
variable {s : Dev} {n : Nat} {ds : List Desc} (hfetch : (s.curdOf n).fetching ≠ 0) (hdrop : (s.curdOf n).fetchDrop = 0)
  (hst : (s.curdOf n).st = .running)
include hfetch hdrop hst

theorem burstBack_whole : s.burstBack n ds none =
    (s.setCurd n { s.curdOf n with fetching := 0, ready := ds.take (s.curdOf n).fetching }).startFetch := by
  simp [Dev.burstBack, hfetch, hdrop, hst]

theorem burstBack_part (err : Nat) (hds : ds ≠ []) : s.burstBack n ds (some err) = (s.setCurd n
    { s.curdOf n with fetching := 0, ready := ds.take (s.curdOf n).fetching, haltAt := some (err, s.burstAddr n) }).startFetch := by
  simp [Dev.burstBack, hfetch, hdrop, hst, hds]

theorem burstBack_nothing (err : Nat) : s.burstBack n [] (some err) =
    ((s.setCurd n { s.curdOf n with fetching := 0 }).abortCurd n err (s.burstAddr n)).startFetch := by
  simp [Dev.burstBack, hfetch, hdrop, hst]

end

/-- A ring with descriptors ready fetches no more. -/
theorem startFetch_ready {s e : Dev} {n : Fin 8} {c : Curd} (hready : c.ready ≠ []) (he : Quiet (s.setCurd n c).startFetch e) :
    ∃ v w, e.curdOf n = { c with shadow := v, shadowDue := w } := by
  have hcurd : (s.setCurd n c).curdOf n = c := curdOf_setCurd_self ..
  have hwant : (s.setCurd n c).fetchWanted n = false := by simp [Dev.fetchWanted, hcurd, hready]
  obtain ⟨v, w, h⟩ := he.curd n
  exact ⟨v, w, by rw [h, startFetch_unwanted hwant, hcurd]⟩

/-- A burst of which some descriptors arrived leaves its ring as `x`, whose descriptors are ready. -/
theorem does_burstArrives {c : Instr} {s : State} {n : Fin 8} {x : Curd} {f : Dev → Dev} (hc : exec c s = onCore f s) (hon : s.dev.coreOn = true)
    (hf : f s.dev = (s.dev.setCurd n x).startFetch) (hready : x.ready ≠ []) : Does c s (fun t => KeepsBut [.ring] s t ∧
      (t.dev.curdOf n).ready = x.ready ∧ (t.dev.curdOf n).fetching = x.fetching ∧ (t.dev.curdOf n).st = x.st ∧
      (t.dev.curdOf n).haltAt = x.haltAt) := by
  refine does_core_of_served f hc hon hf fun e he => ?_
  obtain ⟨v, w, hcurd⟩ := startFetch_ready hready he.kept.quiet
  have hleaves := ((leaves_setCurd s.dev n x).trans (leaves_startFetch _)).trans (.of_quiet he.kept.quiet)
  refine ⟨hleaves.keepsBut, ?_, ?_, ?_, ?_⟩
  all_goals rw [hcurd]

/-- What a change after a fetch shows of a ring that an earlier change has halted. -/
theorem startFetch_halted {b e : Dev} {n err : Nat} {a : BitVec 64} (he : Quiet (b.abortCurd n err a).startFetch e) :
    (e.curdOf n).st = .halted ∧ (e.curdOf n).err = err ∧ e.ring.errAddr = a := by
  have hrefl : Served (b.abortCurd n err a) (b.abortCurd n err a) := ⟨.refl _, .refl _⟩
  obtain ⟨_, _, habort⟩ := abortCurd_curdOf hrefl
  obtain ⟨_, hstart⟩ := startFetch_curdOf (b.abortCurd n err a) n
  obtain ⟨_, _, hring⟩ := startFetch_ring (b.abortCurd n err a)
  obtain ⟨_, _, hcurd⟩ := he.curd n
  rw [hcurd, hstart, habort, he.errAddr, hring]
  exact ⟨rfl, rfl, abortCurd_errAddr hrefl⟩

/-- A burst that fails before any descriptor arrives (R132). -/
theorem does_burstFails {c : Instr} {s : State} {n : Fin 8} {err : Nat} {f : Dev → Dev} (hc : exec c s = onCore f s) (hon : s.dev.coreOn = true)
    (hf : f s.dev = ((s.dev.setCurd n { s.dev.curdOf n with fetching := 0 }).abortCurd n err (s.dev.burstAddr n)).startFetch) :
    Does c s (fun t => KeepsBut [.ring] s t ∧ (t.dev.curdOf n).st = .halted ∧ (t.dev.curdOf n).err = err ∧
      t.dev.ring.errAddr = s.dev.burstAddr n) := by
  refine does_core_of_served f hc hon hf fun e he => ?_
  have habort := fetched_abortCurd (s.dev.setCurd n { s.dev.curdOf n with fetching := 0 }) n err (s.dev.burstAddr n)
  have hleaves := (((leaves_setCurd s.dev n _).trans habort.leaves).trans (leaves_startFetch _)).trans (.of_quiet he.kept.quiet)
  exact ⟨hleaves.keepsBut, startFetch_halted he.kept.quiet⟩

/-! ### Moderation -/

/-- A message that nothing withholds is sent. -/
theorem sendMsix_sent {s : Dev} {v : Nat} (hmask : (s.msixOf v).mask = false) (hfun : s.ring.fmask = false) (hmay : s.mayIssue = true) :
    s.sendMsix v = s.emit (.msix v (s.msixOf v).addr (s.msixOf v).data) := by
  simp [Dev.sendMsix, hmask, hfun, hmay]

/-- The moderation timer of a whey ring with entries since its last message, once its time is up (R123). -/
theorem moderation_due {s : Dev} {m : Nat} (hst : (s.wheyOf m).st = .running) (hsince : 0 < (s.wheyOf m).since)
    (hcnt : s.rf (wheyOff m + 0x18) 15 8 ≠ 0) (htim : s.rf (wheyOff m + 0x18) 21 16 ≠ 0)
    (hage : s.rf (wheyOff m + 0x18) 21 16 ≤ (s.wheyOf m).age) (hmay : s.mayIssue = true) :
    s.moderation m = (s.setWhey m { s.wheyOf m with since := 0, age := 0 }).sendMsix (s.rf (wheyOff m + 0x18) 7 5) := by
  simp [Dev.moderation, hst, hsince, hcnt, htim, hage, hmay]

/-! ### A cue tried again -/

/-- Two claims about one command. -/
theorem does_and {c : Instr} {s : State} {P Q : State → Prop} (hP : Does c s P) (hQ : Does c s Q) : Does c s (fun t => P t ∧ Q t) := by
  obtain ⟨t, ht, hPt⟩ := hP
  obtain ⟨u, hu, hQu⟩ := hQ
  rw [ht] at hu
  cases hu
  exact ⟨t, ht, hPt, hQu⟩

/-- A cue that its row may store is stored by any row that takes it. -/
theorem acceptRow_stores {o : Src} {d : Desc} {s : Dev} {i : Nat} {kind : Desc → Bool} (body : Dev → Job → Dev) (h : AtHead o d s)
    (hk : kind d = true) (hold : s.inHold = false) (hahead : s.atAhead d) (hi : s.freeIdx = some i) :
    s.acceptRow kind body o d = s.storeCue o d (resolve s.wheelN d.at48) i := by
  simp [Dev.acceptRow, Dev.acceptJob, h.head, hk, h.may, h.form, h.dest, Dev.acceptSelf, h.mode, h.at_, hold, acceptCue_free o hahead hi]

/-- RING_STALL_RETRY does for a cue what its row would (R120). -/
theorem ringStallRetry_row {o : Src} {d : Desc} {s : State} {i : Nat} (h : AtHead o d s.dev) (htold : s.dev.isTold o = true)
    (hold : s.dev.inHold = false) (hahead : s.dev.atAhead d) (hi : s.dev.freeIdx = some i) :
    exec (.ringStallRetry o) s = exec (descRow o d) s ∧
      exec (descRow o d) s = onDev (fun u => u.storeCue o d (resolve u.wheelN d.at48) i) s := by
  obtain ⟨kind, body, hk, hc⟩ := rowOf_descRow (o := o) s (op_of_formRefused h.form h.at_)
  obtain ⟨ds, hready⟩ : ∃ ds, s.dev.readyOf o = d :: ds := by
    have hhead := h.head
    cases hq : s.dev.readyOf o with
    | nil => simp [hq] at hhead
    | cons x xs =>
      obtain rfl : x = d := by simpa [hq] using hhead
      exact ⟨xs, rfl⟩
  have hrow : exec (descRow o d) s = onDev (fun u => u.storeCue o d (resolve u.wheelN d.at48) i) s := by
    rw [hc, onDev, acceptRow_stores body h hk hold hahead hi]
    rfl
  refine ⟨?_, hrow⟩
  rw [hrow]
  change execRingStallRetry o s = _
  have hgo : (s.dev.isTold o && s.dev.freeIdx.isSome) = true := by simp [htold, hi]
  have hstore := acceptRow_stores (kind := fun _ => true) Dev.runBody h rfl hold hahead hi
  simp only [execRingStallRetry, onDev, hready, hgo, if_true, hstore]

theorem served_writeShadow (s : Dev) (n : Fin 8) : Served s (s.writeShadow n) := ⟨housekept_writeShadow s n, messaged_writeShadow s n⟩

/-- The end of a burst tells nothing of its ring's stall. -/
theorem told_burstEnd {s : Dev} {n : Fin 8} (h : (s.curdOf n).told = false) : ((s.burstEnd n).curdOf n).told = false := by
  unfold Dev.burstEnd
  split
  · next e a _ =>
    obtain ⟨_, _, hcurd⟩ := abortCurd_curdOf (served_writeShadow (s.abortCurd n e a) n)
    rw [hcurd]
    rfl
  · obtain ⟨_, hstart⟩ := startFetch_curdOf (s.writeShadow n) n
    obtain ⟨_, _, hshadow⟩ := (quiet_writeShadow s n).curd n
    rw [hstart, hshadow]
    exact h

/-- A source whose head is taken is told of no stall (R120). -/
theorem isTold_takeHead (s : Dev) (o : Src) (d : Desc) : (s.takeHead o d).2.isTold o = false := by
  cases o with
  | ring n =>
    have htold : ((s.advanced n).curdOf n).told = false := by rw [advanced_curd]
    rw [takeHead_ring]
    split
    · exact told_burstEnd htold
    · exact htold
  | lh => rfl
  | lr => rfl

/-- A cue that stalled its ring enters the store once there is room (R120). -/
theorem does_ringStallRetry {o : Src} {d : Desc} {s : State} {i : Nat} (h : AtHead o d s.dev) (htold : s.dev.isTold o = true)
    (hold : s.dev.inHold = false) (hahead : s.dev.atAhead d) (hi : s.dev.freeIdx = some i) (hwait : s.dev.ring.wait = []) :
    Does (.ringStallRetry o) s (fun t => Took o s t ∧ RunsBut [] (fun _ => false) o s t ∧ SameWaits s t ∧ t.dev.isTold o = false ∧
      ∃ c, t.dev.ring.cues = s.dev.ring.cues ++ [c] ∧ c.idx = i ∧ c.job.d = d ∧ c.t = resolve s.dev.wheelN d.at48) := by
  obtain ⟨hretry, hrow⟩ := ringStallRetry_row h htold hold hahead hi
  have hfree : Does (descRow o d) s (fun t => t.dev.isTold o = false) :=
    does_of_served _ hrow fun e he => (he.kept.quiet.isTold o).trans
      ((show (s.dev.storeCue o d (resolve s.dev.wheelN d.at48) i).isTold o = (s.dev.takeHead o d).2.isTold o by cases o <;> rfl).trans
        (isTold_takeHead s.dev o d))
  obtain ⟨t, ht, ⟨htook, hruns, hwaits, c, hcues, hidx, hd, -, htime, -⟩, hnot⟩ := does_and (does_storeCue h hold hahead hi hwait) hfree
  exact ⟨t, hretry.trans ht, htook, hruns, hwaits, hnot, c, hcues, hidx, hd, htime⟩

/-- A retry with nothing stalled, or still without room, does nothing. -/
theorem ringStallRetry_idle {o : Src} {s : State} (h : s.dev.isTold o = false ∨ s.dev.freeIdx = none) :
    Does (.ringStallRetry o) s (KeepsBut [] s) := by
  have hno : (s.dev.isTold o && s.dev.freeIdx.isSome) = false := by
    obtain h | h := h <;> simp [h]
  refine does_nothing _ (.refl (execRingStallRetry o s)) ?_
  cases s.dev.readyOf o with
  | nil => rfl
  | cons d ds => exact if_neg (by simp [hno])

/-! ### O36 -/

/-- What a change after a doorbell word that passed its check shows of its ring. -/
theorem doorbellTaken_after {s e : Dev} {n : Nat} {p : Nat} (he : Quiet (s.doorbellTaken n p).startFetch e) :
    ∃ k v w, e.curdOf n = { (s.curdOf n).readBack with bad := 0, pend := p, fetching := k, shadow := v, shadowDue := w } := by
  obtain ⟨k, hstart⟩ := startFetch_curdOf (s.doorbellTaken n p) n
  obtain ⟨v, w, hend⟩ := he.curd n
  exact ⟨k, v, w, by rw [hend, hstart, doorbellTaken_curdOf]⟩

/-- The fetch that it starts where it is the ring's turn (R108, R115). -/
theorem doorbellTaken_fetches {s e : Dev} {n : Fin 8} {p : Nat} (he : Quiet (s.doorbellTaken n p).startFetch e) (hmay : s.mayIssue = true)
    (hst : (s.curdOf n).st = .running) (hready : (s.curdOf n).ready = []) (hfetch : (s.curdOf n).fetching = 0) (hhalt : (s.curdOf n).haltAt = none)
    (hstop : (s.curdOf n).stopping = false) (hp : 0 < p) (ho : ∀ k : Fin 8, k ≠ n → (s.curdOf k).fetching = 0 ∧ s.fetchWanted k = false) :
    (e.curdOf n).fetching = e.burstLen n ∧ .readReq (.fetch n) (s.burstAddr n) (32 * e.burstLen n) ∈ e.out := by
  have hcurd := doorbellTaken_curdOf s n p
  have hwant : (s.doorbellTaken n p).fetchWanted n = true := by
    simp [Dev.fetchWanted, hcurd, Curd.readBack, hst, hstop, hready, hfetch, hhalt, hp]
  have hother : ∀ k : Fin 8, k ≠ n → ((s.doorbellTaken n p).curdOf k).fetching = 0 ∧ (s.doorbellTaken n p).fetchWanted k = false := fun k hk => by
    have hsame := doorbellTaken_other s p fun h => hk (Fin.ext h)
    rw [fetchWanted_congr hsame, hsame]
    exact ho k hk
  rw [startFetch_only (s := s.doorbellTaken n p) n hmay hwant hother] at he
  have hlen := (he.burstLen n).trans (burstLen_fetchBy (s.doorbellTaken n p) n)
  obtain ⟨_, _, hend⟩ := he.curd n
  refine ⟨by rw [hend, curdOf_fetchBy, if_pos rfl, hlen], he.out.subset ?_⟩
  rw [hlen, ← doorbellTaken_burstAddr s n p]
  exact readReq_mem_fetchBy _ n

/-- A doorbell word that passes its check (R108, R110, R115). -/
theorem does_doorbellGood {s : State} (hon : s.dev.coreOn = true) {n : Fin 8} {w : BitVec 64} {p : Nat}
    (hp : (w.setWidth 32 - s.dev.curdCi n).toNat = p) (hout : 0 < (s.dev.curdOf n).rdOut) (hdrop : (s.dev.curdOf n).rdDrop = 0)
    (hst : (s.dev.curdOf n).st = .running) (hw : wordGood w = true) (hle : p ≤ 2 ^ s.dev.rf (curdOff n + 0x18) 4 1) :
    Does (.doorbellReadDone n (.ok w)) s (fun t => KeepsBut [.ring] s t ∧
      (t.dev.curdOf n).pend = p ∧ (t.dev.curdOf n).rdOut = (s.dev.curdOf n).rdOut - 1 ∧ (t.dev.curdOf n).bad = 0 ∧
        (t.dev.curdOf n).st = .running ∧
      (s.dev.mayIssue = true → (s.dev.curdOf n).ready = [] → (s.dev.curdOf n).fetching = 0 → (s.dev.curdOf n).haltAt = none →
        (s.dev.curdOf n).stopping = false → 0 < p → (∀ k : Fin 8, k ≠ n → (s.dev.curdOf k).fetching = 0 ∧ s.dev.fetchWanted k = false) →
          (t.dev.curdOf n).fetching = t.dev.burstLen n ∧ .readReq (.fetch n) (s.dev.burstAddr n) (32 * t.dev.burstLen n) ∈ t.dev.out)) := by
  have htaken := doorbellDone_good hout hdrop hst hw (hp ▸ hle)
  rw [hp] at htaken
  refine does_core_of_served _ (.refl (execDoorbellReadDone n (.ok w) s)) hon htaken fun e he => ?_
  have hleaves := ((leaves_doorbellTaken s.dev n p).trans (leaves_startFetch _)).trans (.of_quiet he.kept.quiet)
  obtain ⟨_, _, _, hcurd⟩ := doorbellTaken_after he.kept.quiet
  refine ⟨hleaves.keepsBut, ?_, ?_, ?_, ?_, fun hmay hready hfetch hhalt hstop hpos ho =>
    doorbellTaken_fetches he.kept.quiet hmay hst hready hfetch hhalt hstop hpos ho⟩
  all_goals simp [hcurd, Curd.readBack, hst]

/-- A burst that fails after some of its descriptors, or before any arrives (R115, R132). -/
theorem does_burstErr {c : Instr} {s : State} {n : Fin 8} {ds : List Desc} {err : Nat} {f : Dev → Dev} (hc : exec c s = onCore f s)
    (hon : s.dev.coreOn = true) (hf : f s.dev = s.dev.burstBack n ds (some err)) (hfetch : (s.dev.curdOf n).fetching ≠ 0)
    (hdrop : (s.dev.curdOf n).fetchDrop = 0) (hst : (s.dev.curdOf n).st = .running) :
    (ds ≠ [] → Does c s (fun t => KeepsBut [.ring] s t ∧ (t.dev.curdOf n).ready = ds.take (s.dev.curdOf n).fetching ∧
      (t.dev.curdOf n).st = .running ∧ (t.dev.curdOf n).haltAt = some (err, s.dev.burstAddr n))) ∧
    (ds = [] → Does c s (fun t => KeepsBut [.ring] s t ∧ (t.dev.curdOf n).st = .halted ∧ (t.dev.curdOf n).err = err ∧
      t.dev.ring.errAddr = s.dev.burstAddr n)) := by
  refine ⟨fun hds => ?_, fun hds => ?_⟩
  · obtain ⟨t, ht, hkeeps, hready, -, hrun, hhalt⟩ :=
      does_burstArrives hc hon (hf.trans (burstBack_part hfetch hdrop hst err hds)) (by simp [hds, hfetch])
    exact ⟨t, ht, hkeeps, hready, hrun.trans hst, hhalt⟩
  · subst hds
    exact does_burstFails hc hon (hf.trans (burstBack_nothing hfetch hdrop hst err))

/-- Settles O36: each read that returns by what it leaves of its ring, the fetch that follows, and the retry as the row of its cue. -/
theorem ringReadsAdvance : Obligations.RingReadsAdvance := by
  intro s hon
  refine ⟨fun n w hout hdrop hst hw hle => does_doorbellGood hon rfl hout hdrop hst (wordGood_of_sum hw) hle, ?_, ?_, ?_, ?_, ?_, ?_, ?_, ?_,
    fun o h => ringStallRetry_idle h⟩
  · intro n p hp hout hdrop hst
    simp only [List.mem_cons, List.not_mem_nil, or_false] at hp
    obtain rfl | rfl | rfl | rfl := hp
    · exact does_doorbellFails (.refl (execDoorbellReadDone n (.err .ur) s)) hon (doorbellDone_used _ hout hdrop hst)
    · exact does_doorbellFails (.refl (execDoorbellReadDone n (.err .ca) s)) hon (doorbellDone_used _ hout hdrop hst)
    · exact does_doorbellFails (.refl (execDoorbellReadDone n (.err .poison) s)) hon (doorbellDone_used _ hout hdrop hst)
    · exact does_doorbellFails (.refl (execRingReadTimeout ⟨.doorbell n, []⟩ s)) hon (readTimeout_doorbell hout hdrop hst)
  · intro n r hout hdrop
    refine does_core_of_served _ (.refl (execDoorbellReadDone n r s)) hon (doorbellDone_dropped r hout hdrop) fun e he => ?_
    obtain ⟨_, _, hend⟩ := he.kept.quiet.curd n
    refine ⟨((leaves_setCurd s.dev n _).trans (.of_quiet he.kept.quiet)).keepsBut, ?_⟩
    simp [hend, Dev.doorbellBack, Curd.readBack]
  · intro m w x hout hdrop hst hw hle
    refine does_core_of_served _ (.refl (execWheyHeadReadDone m (.ok w) s)) hon (headDone_good hout hdrop hst (wordGood_of_sum hw) hle) fun e he => ?_
    obtain ⟨_, _, hend⟩ := he.kept.whey m
    refine ⟨((leaves_setWhey s.dev m _).trans (.of_quiet he.kept.quiet)).keepsBut, ?_⟩
    simp [hend, Dev.headTaken, Whey.readBack, hst, x]
  · intro m p hp hout hdrop hst
    simp only [List.mem_cons, List.not_mem_nil, or_false] at hp
    obtain rfl | rfl | rfl | rfl := hp
    · exact does_headFails (.refl (execWheyHeadReadDone m (.err .ur) s)) hon (headDone_err _ hout hdrop hst)
    · exact does_headFails (.refl (execWheyHeadReadDone m (.err .ca) s)) hon (headDone_err _ hout hdrop hst)
    · exact does_headFails (.refl (execWheyHeadReadDone m (.err .poison) s)) hon (headDone_err _ hout hdrop hst)
    · exact does_headFails (.refl (execRingReadTimeout ⟨.head m, []⟩ s)) hon (readTimeout_head hout hdrop hst)
  · intro n ds hfetch hdrop hst
    refine ⟨fun hds => ?_, fun p hp => ?_⟩
    · obtain ⟨t, ht, hkeeps, hready, hidle, hrun, -⟩ := does_burstArrives (c := .descriptorFetchDone n ds none)
        (.refl (execDescriptorFetchDone n ds none s)) hon (burstBack_whole hfetch hdrop hst) (by simp [hds, hfetch])
      exact ⟨t, ht, hkeeps, hready, hidle, hrun.trans hst⟩
    · simp only [List.mem_cons, List.not_mem_nil, or_false] at hp
      obtain rfl | rfl | rfl | rfl := hp
      · exact does_burstErr (.refl (execDescriptorFetchDone n ds (some .ur) s)) hon rfl hfetch hdrop hst
      · exact does_burstErr (.refl (execDescriptorFetchDone n ds (some .ca) s)) hon rfl hfetch hdrop hst
      · exact does_burstErr (.refl (execDescriptorFetchDone n ds (some .poison) s)) hon rfl hfetch hdrop hst
      · exact does_burstErr (.refl (execRingReadTimeout ⟨.fetch n, ds⟩ s)) hon rfl hfetch hdrop hst
  · intro n ds err hdrop
    refine does_core_of_served _ (.refl (execDescriptorFetchDone n ds err s)) hon (if_pos hdrop) fun e he => ?_
    obtain ⟨_, _, hend⟩ := he.kept.quiet.curd n
    refine ⟨((leaves_setCurd s.dev n _).trans (.of_quiet he.kept.quiet)).keepsBut, ?_⟩
    simp [hend]
  · intro m o v hst hsince hcnt htim hage hmay hmask hfun
    have hsent := (moderation_due hst hsince hcnt htim hage hmay).trans (sendMsix_sent hmask hfun hmay)
    refine does_core_of_served _ (.refl (execMsixModerationTimer m s)) hon hsent fun e he => ?_
    have hleaves := (leaves_setWhey s.dev m { s.dev.wheyOf m with since := 0, age := 0 }).trans (.of_quiet ((quiet_emit _ _).trans he.kept.quiet))
    exact ⟨hleaves.keepsBut, he.kept.quiet.out.subset List.mem_cons_self⟩
  · intro o d i hhead htold hmay hform hdest hmode hold hat hwheel hahead hi hwait
    exact does_ringStallRetry ⟨hhead, hmay, hform, hdest, hmode, hat⟩ htold hold ⟨hwheel, hahead⟩ hi hwait

end Sys2Proof.Machine
end

section
/-! SUPPORT. A descriptor for another unit of the Hoop (R119, R143, R325), the end of its wait and of one for the Rind (R119, R162), and O35. -/

namespace Sys2Proof.Machine

/-! ### Rows that hand nothing back -/

/-- The row of an IMAGE_UPDATE other than VERIFY is one of those that act on the device alone. -/
theorem rowOf_image {o : Src} {d : Desc} (s : State) (h : d.op.toNat = 0x12) (hv : d.b 12 % 8 ≠ 2) : RowOf o d s := by
  have himg {k : Nat} (hk : d.b 12 % 8 = k ∨ (k = 0 ∧ 4 < d.b 12 % 8)) : isImg k d = true := by simp [isImg, isOp, h, hk]
  have hdesc (c : Instr) (hc : descRow o d = c) : (∃ kind body, kind d = true ∧ exec c s = onDev (fun u => u.acceptRow kind body o d) s) → RowOf o d s := by
    rw [← hc]
    exact id
  by_cases h1 : d.b 12 % 8 = 1
  · exact hdesc (.imageData o d) (by simp only [descRow, h, h1]) (row_of_exec (.refl (execImageData o d s)) (himg (.inl h1)))
  by_cases h3 : d.b 12 % 8 = 3
  · exact hdesc (.imageActivate o d) (by simp only [descRow, h, h3]) (row_of_exec (.refl (execImageActivate o d s)) (himg (.inl h3)))
  by_cases h4 : d.b 12 % 8 = 4
  · exact hdesc (.imageAbort o d) (by simp only [descRow, h, h4]) (row_of_exec (.refl (execImageAbort o d s)) (himg (.inl h4)))
  · exact hdesc (.imageBegin o d) (by simp only [descRow, h]) (row_of_exec (.refl (execImageBegin o d s)) (himg (by omega)))

/-- A descriptor that every row of its kind takes without executing it has that effect alone. -/
theorem exec_descRow_taken {o : Src} {d : Desc} {s : State} {b : Dev} (h : ∀ kind, kind d = true → s.dev.acceptJob kind o d = (b, none)) :
    exec (descRow o d) s = onDev (fun _ => b) s := by
  have hrow (hr : RowOf o d s) : exec (descRow o d) s = onDev (fun _ => b) s := by
    obtain ⟨kind, body, hk, hc⟩ := hr
    rw [hc, onDev, Dev.acceptRow, h kind hk]
    rfl
  by_cases hop : d.op.toNat = 0x12
  · by_cases hv : d.b 12 % 8 = 2
    · have hk : isImg 2 d = true := by simp [isImg, isOp, hop, hv]
      have hdesc : descRow o d = .imageVerify o d := by simp only [descRow, hop, hv]
      rw [hdesc]
      change execImageVerify o d s = _
      simp only [execImageVerify, onBoth, onDev, h _ hk]
    · exact hrow (rowOf_image s hop hv)
  · exact hrow (rowOf_descRow s hop)

/-! ### The head of a ring that does not halt -/

/-- What taking the head of a source leaves besides, where no failed part of a burst halts its ring. -/
structure TakenStill (s t : Dev) : Prop where
  hoop : t.hoop = s.hoop
  tag : t.ring.tag = s.ring.tag
  force : ∀ off, ciReg off = false → t.force off = s.force off

theorem TakenStill.refl (s : Dev) : TakenStill s s := ⟨rfl, rfl, fun _ _ => rfl⟩

theorem TakenStill.trans {s t u : Dev} (h : TakenStill s t) (k : TakenStill t u) : TakenStill s u :=
  ⟨k.hoop.trans h.hoop, k.tag.trans h.tag, fun off ho => (k.force off ho).trans (h.force off ho)⟩

theorem takenStill_writeShadow (s : Dev) (n : Fin 8) : TakenStill s (s.writeShadow n) := by
  unfold Dev.writeShadow
  simp only
  split
  · exact ⟨rfl, rfl, fun _ _ => rfl⟩
  · split
    · exact ⟨rfl, rfl, fun _ _ => rfl⟩
    · exact ⟨rfl, rfl, fun _ _ => rfl⟩

theorem takenStill_startFetch (s : Dev) : TakenStill s s.startFetch := by
  rw [startFetch_eq]
  split
  · exact ⟨rfl, rfl, fun _ _ => rfl⟩
  · exact .refl s

theorem takenStill_advanced (s : Dev) (n : Fin 8) : TakenStill s (s.advanced n) :=
  ⟨rfl, rfl, fun off ho => (advanced_force s n fun h => by simp [h, ciReg_curd] at ho).1⟩

theorem takenStill_burstEnd {s : Dev} {n : Fin 8} (h : (s.curdOf n).haltAt = none) : TakenStill s (s.burstEnd n) := by
  unfold Dev.burstEnd
  rw [h]
  exact (takenStill_writeShadow s n).trans (takenStill_startFetch _)

theorem takenStill_takeHead {s : Dev} {o : Src} (d : Desc) (h : ∀ n, o = .ring n → (s.curdOf n).haltAt = none) :
    TakenStill s (s.takeHead o d).2 := by
  cases o with
  | ring n =>
    have hhalt : ((s.advanced n).curdOf n).haltAt = none := by
      rw [advanced_curd]
      exact h n rfl
    rw [takeHead_ring]
    split
    · exact (takenStill_advanced s n).trans (takenStill_burstEnd hhalt)
    · exact takenStill_advanced s n
  | lh => exact ⟨rfl, rfl, fun _ _ => rfl⟩
  | lr => exact ⟨rfl, rfl, fun _ _ => rfl⟩

/-! ### The way to another unit -/

theorem ciReg_of_ge {off : Nat} (h : 0x1200 ≤ off) : ciReg off = false := by
  have hno : ¬off < 0x1200 := by omega
  simp [ciReg, hno]

section
variable {s t : Dev} (h : TakenStill s t)
include h

theorem TakenStill.isRoot : t.isRoot = s.isRoot := by
  rw [Dev.isRoot, Dev.isRoot, Dev.rb, Dev.rb, h.force _ (ciReg_of_ge (by decide))]

theorem TakenStill.hoopId : t.hoopId = s.hoopId := by
  rw [Dev.hoopId, Dev.hoopId, h.isRoot, Dev.rf, Dev.rf, h.force _ (ciReg_of_ge (by decide))]

theorem TakenStill.unaddressed : t.unaddressed = s.unaddressed := by
  rw [Dev.unaddressed, Dev.unaddressed, h.isRoot, h.hoopId]

theorem TakenStill.portOf (k : Nat) : t.portOf k = s.portOf k := by
  rw [Dev.portOf, Dev.portOf, h.hoop]

theorem TakenStill.portUp (k : Nat) : t.portUp k = s.portUp k := by
  simp only [Dev.portUp, Dev.isFabricPort, Dev.brMode, Dev.rb, Dev.rf, h.isRoot, h.portOf, h.force 0x7000 (ciReg_of_ge (by decide))]
  rfl

theorem TakenStill.routeEntry (id : BitVec 12) : t.routeEntry id = s.routeEntry id := by
  have hentry (i : Nat) : t.force (0x7400 + 4 * i) = s.force (0x7400 + 4 * i) := h.force _ (ciReg_of_ge (by omega))
  simp only [Dev.routeEntry, Dev.rb, Dev.rf, hentry]
  rfl

theorem TakenStill.deliverPort (id : BitVec 12) : t.deliverPort none id = s.deliverPort none id := by
  simp only [Dev.deliverPort, Dev.choosePort, h.isRoot, h.routeEntry, h.portUp]

end

/-- A unit that a descriptor is sent to is not this one (R143). -/
theorem ownId_of_destOf {s : Dev} {o : Src} {d : Desc} {id : BitVec 12} (h : s.destOf o d = .hoop id) :
    id = s.hoopId → s.unaddressed = true := by
  intro hid
  unfold Dev.destOf at h
  split at h
  · cases h
  · split at h
    · split_ifs at h with hall hself
      cases h
      have hlow : s.hoopId.toNat = tLow d := by
        rw [← hid, BitVec.toNat_ofNat, tLow]
        omega
      simpa [hlow] using hself
    · split_ifs at h
    · cases h

/-! ### The hand-off -/

/-- The DESC packet of a descriptor (R325). -/
def Dev.descPacket (s : Dev) (id : BitVec 12) (d : Desc) : Packet :=
  mkPacket 0x01 0 id (if s.unaddressed then 0xFFF else s.hoopId) (s.ring.tag + 1) d.bytes

/-- The rings with one more descriptor that awaits the completion of another unit, under a new tag (R119). -/
def Dev.flown (s : Dev) (j : Job) (r : Ring) : Ring :=
  { r with
    tag := s.ring.tag + 1
    flights := r.flights.filter (fun f => !decide (f.await = .remote (s.ring.tag + 1) 0)) ++
      [⟨j, s.short, .remote (s.ring.tag + 1) (s.remoteDue j.d)⟩] }

/-- A port with one more packet. -/
def HPort.push (q : HPort) (p : Packet) (at_ : Nat) : HPort := { q with txq := q.txq ++ [(p, at_)] }

/-- A packet for another unit goes into the queue of the port that its route gives. -/
theorem sendPacket_queued {s : Dev} {id : BitVec 12} {k : Nat} (type : Nat) (tag : BitVec 16) (p : List Byte) (hown : s.ownId id = false)
    (hport : s.deliverPort none id = some k) (hroom : (s.portOf k).txq.length < 64) :
    s.sendPacket type id tag p =
      s.modPort k (fun q => q.push (mkPacket type 0 id (if s.unaddressed then 0xFFF else s.hoopId) tag p) (s.clk.now + 8)) := by
  simp only [Dev.sendPacket, hown, hport, Dev.queuePacket, hroom, if_true]
  rfl

/-- The hand-off of a descriptor for another unit of the Hoop: its packet in the queue, and its wait. -/
theorem handOff_queued {s : Dev} {id : BitVec 12} {k : Nat} (j : Job) (hown : s.ownId id = false) (hport : s.deliverPort none id = some k)
    (hroom : (s.portOf k).txq.length < 64) : s.handOff j (.hoop id) =
      (s.modRing (s.flown j)).modPort k (fun q => q.push (s.descPacket id j.d) (s.clk.now + 8)) := by
  have hsend := sendPacket_queued (s := s.nextTag.2) 0x01 (s.ring.tag + 1) j.d.bytes hown hport hroom
  change (s.nextTag.2.sendPacket 0x01 id (s.ring.tag + 1) j.d.bytes).flyRemote j (s.ring.tag + 1) = _
  rw [hsend]
  rfl

theorem waits_flown (o : Src) (s : Dev) (j : Job) : Waits o s (s.flown j) := ⟨by cases o <;> rfl, rfl, rfl⟩

/-- Every row takes a descriptor for another unit as `acceptRemote` does. -/
theorem acceptJob_remote {s : Dev} {o : Src} {d : Desc} {id : BitVec 12} {kind : Desc → Bool} (hhead : (s.readyOf o).head? = some d)
    (hmay : s.mayAccept o d = true) (hform : s.formRefused o d = none) (hdest : s.destOf o d = .hoop id) (hk : kind d = true) :
    s.acceptJob kind o d = (s.acceptRemote o d (.hoop id), none) := by
  have hgo : ((s.readyOf o).head? = some d && kind d && s.mayAccept o d) = true := by simp [hhead, hk, hmay]
  simp only [Dev.acceptJob, hgo, hform, hdest]
  rfl

/-- A descriptor with a way to its unit, and room in the queue of the port. -/
theorem acceptRemote_queued {s : Dev} {o : Src} {d : Desc} {id : BitVec 12} {k : Nat} (hport : s.deliverPort none id = some k)
    (hroom : (s.portOf k).txq.length < 64) : s.acceptRemote o d (.hoop id) = (s.takeHead o d).2.handOff (s.takeHead o d).1 (.hoop id) := by
  have hfull : ¬64 ≤ (s.portOf k).txq.length := by omega
  simp only [Dev.acceptRemote, Dev.reaches, Dev.pathFull, hport, hfull]
  rfl

theorem acceptRemote_unreachable {s : Dev} {o : Src} {d : Desc} {id : BitVec 12} (hport : s.deliverPort none id = none) :
    s.acceptRemote o d (.hoop id) = s.acceptEnd o d .unreachable := by
  simp [Dev.acceptRemote, Dev.reaches, hport]

theorem runsBut_mono {o : Src} {s t : State} {p : Nat → Bool} (areas : List Area) (h : RunsBut [] p o s t) : RunsBut areas p o s t := by
  obtain ⟨⟨hpending, hout, hsame⟩, hregs⟩ := h
  rw [List.append_nil] at hsame
  exact ⟨⟨hpending, hout, fun a ha => hsame a fun hm => ha (List.mem_append_left areas hm)⟩, hregs⟩

/-- A descriptor for another unit of the Hoop leaves as a packet and awaits its completion (R119, R325). -/
theorem does_handOff {o : Src} {d : Desc} {s : State} {id : BitVec 12} {k : Nat} (hhead : (s.dev.readyOf o).head? = some d)
    (hmay : s.dev.mayAccept o d = true) (hform : s.dev.formRefused o d = none) (hdest : s.dev.destOf o d = .hoop id)
    (hport : s.dev.deliverPort none id = some k) (hroom : (s.dev.portOf k).txq.length < 64)
    (hhalt : ∀ n, o = .ring n → (s.dev.curdOf n).haltAt = none) : Does (descRow o d) s (fun t => Took o s t ∧ RunsBut [.hoop] (fun _ => false) o s t ∧
      (∃ f, f ∈ t.dev.ring.flights ∧ f.job.d = d ∧ f.job.src = o ∧ f.await = .remote (s.dev.ring.tag + 1) (s.dev.remoteDue d)) ∧
      ∃ p q, (t.dev.portOf k).txq = (s.dev.portOf k).txq ++ [(p, s.dev.clk.now + 8)] ++ q ∧
        p.type = 0x01 ∧ p.dest = id ∧ p.tag = s.dev.ring.tag + 1 ∧ p.payload = d.bytes) := by
  have hstill := takenStill_takeHead d hhalt
  have hjob := accepted_takeHead s.dev o d
  have hclk : (s.dev.takeHead o d).2.clk = s.dev.clk := (headTaken_takeHead s.dev o d).leaves.clk (by decide)
  have htaken := acceptRemote_queued (o := o) (d := d) hport hroom
  generalize hu : (s.dev.takeHead o d).2 = u at hstill hclk htaken
  have hown : u.ownId id = false := by
    by_cases hid : id = s.dev.hoopId
    · simp [Dev.ownId, hstill.unaddressed, ownId_of_destOf hdest hid]
    · simp [Dev.ownId, hstill.hoopId, hid]
  have hdue : u.remoteDue d = s.dev.remoteDue d := by
    simp only [Dev.remoteDue, hclk, Dev.rf, hstill.force 0x1020 (by decide)]
  rw [handOff_queued _ hown ((hstill.deliverPort id).trans hport) (by rw [hstill.portOf]; exact hroom)] at htaken
  refine does_of_served _ (exec_descRow_taken fun _ hk => (acceptJob_remote hhead hmay hform hdest hk).trans (congrArg (·, none) htaken)) fun e he => ?_
  have hquiet : Quiet (u.modRing (u.flown (s.dev.takeHead o d).1)) e := (quiet_setPort _ k _).trans he.kept.quiet
  obtain ⟨htook, hruns⟩ := took_waits (s := s) (d := d) (hu ▸ waits_flown o u (s.dev.takeHead o d).1) (hu ▸ hquiet)
  obtain ⟨q, hq⟩ := he.kept.queued k
  refine ⟨htook, runsBut_mono [.hoop] hruns, ⟨⟨(s.dev.takeHead o d).1, u.short, .remote (u.ring.tag + 1) (u.remoteDue (s.dev.takeHead o d).1.d)⟩,
    ?_, hjob.desc, hjob.src, ?_⟩, u.descPacket id (s.dev.takeHead o d).1.d, q, ?_, rfl, rfl, ?_, ?_⟩
  · change _ ∈ e.ring.flights
    rw [hquiet.queues.flights]
    exact List.mem_append_right _ List.mem_cons_self
  · rw [hjob.desc, hdue, hstill.tag]
  · change (e.portOf k).txq = _
    have hget := tabGet_tabSet_self (α := HPort) {} ((u.portOf k).push (u.descPacket id (s.dev.takeHead o d).1.d) (u.clk.now + 8)) k u.hoop.ports
    rw [← hq, ← hclk, ← hstill.portOf]
    exact congrArg (fun x : HPort => x.txq ++ q) hget
  · exact congrArg (· + 1) hstill.tag
  · exact congrArg Desc.bytes hjob.desc

/-! ### The end of the wait -/

theorem flights_landFlightsNow (s : Dev) (q : Flight → Bool) (st : Status) (detail : Nat) :
    (s.landFlightsNow q st detail).ring.flights = s.ring.flights.filter (fun f => !q f) := by
  have hfold (fs : List Flight) : ∀ u : Dev, (fs.foldl (fun v f => v.complete f.job st v.short detail) u).ring.flights = u.ring.flights := by
    induction fs with
    | nil => exact fun _ => rfl
    | cons f fs ih => exact fun u => (ih _).trans (queues_complete u f.job st u.short detail).1.flights
  exact hfold _ _

/-- The completion of the one flight that is taken off, on a device whose whey rings are those of `s`. -/
theorem lands_landFlightsNow {s : State} {b e : Dev} {q : Flight → Bool} {f : Flight} {st : Status} {detail : Nat} (hb : SameEngine s.dev b)
    (hregs : b.regs = s.dev.regs) (hone : b.ring.flights.filter q = [f]) (he : (b.landFlightsNow q st detail).out <:+ e.out) :
    Lands f.job st s.dev.short detail s { s with dev := e } := by
  intro n ho hdue m hcan hshut hwait
  have hdrop : SameEngine b (b.dropFlights q) := ⟨rfl, rfl, rfl, rfl, ⟨rfl, rfl, rfl⟩, rfl, rfl, rfl, fun _ _ _ => rfl⟩
  have hland : b.landFlightsNow q st detail = (b.dropFlights q).complete f.job st s.dev.short detail := by
    rw [Dev.landFlightsNow, hone, ← hb.short]
    rfl
  have hctl : (b.dropFlights q).force (curdOff n + 0x18) = s.dev.force (curdOff n + 0x18) := by
    rw [Dev.force, Dev.force, ← hregs]
    rfl
  exact he.subset (hland ▸ whey_mem_complete (hb.trans hdrop) hctl ho hdue hcan hshut hwait)

/-- A descriptor that waits too long for another unit completes TIMEOUT (R119). -/
theorem does_remoteTimeout {s : State} (hon : s.dev.coreOn = true) : Does .remoteTimeout s (fun t =>
    KeepsBut [.ring, .regs, .ozh, .hoop] s t ∧ RegsBut (· = 0x800C) s t ∧
    t.dev.ring.flights = s.dev.ring.flights.filter (fun f => !f.remoteLate s.dev.clk.now) ∧
    ∀ f, s.dev.ring.flights.filter (Flight.remoteLate s.dev.clk.now) = [f] → Lands f.job .timeout s.dev.short 0 s t) := by
  refine does_of_quiet (d := s.dev.landFlightsNow (Flight.remoteLate s.dev.clk.now) .timeout 0) _ (.refl (execRemoteTimeout s))
    (if_pos hon) fun e he => ?_
  have hleaves := (leaves_landFlightsNow s.dev (Flight.remoteLate s.dev.clk.now) .timeout 0).trans (.of_quiet he)
  have hall : Leaves [.ring, .regs, .ozh, .hoop] radioReg s.dev e := hleaves.mono (by decide) fun _ h => h
  exact ⟨hall.keepsBut, hall.regsBut, he.queues.flights.trans (flights_landFlightsNow _ _ _ _),
    fun f hf => lands_landFlightsNow (.refl s.dev) rfl hf he.out⟩

/-! ### The end of the wait for the Rind -/

/-- The state of one curd ring alone changes at the end of a stop. -/
theorem stopRings_only (s : Dev) : ∃ c, s.stopRings = s.modRing (fun r => { r with curd := c }) := by
  have hfold (ns : List (Fin 8)) : ∀ u : Dev, ∃ c, ns.foldl (fun v (n : Fin 8) => if (v.curdOf n).stopping && !v.inExec (.ring n) then
      v.modCurd n (fun c => { c with st := .stopped, stopping := false }) else v) u = u.modRing (fun r => { r with curd := c }) := by
    induction ns with
    | nil => exact fun u => ⟨u.ring.curd, rfl⟩
    | cons n ns ih =>
      intro u
      rw [List.foldl_cons]
      split
      · exact ih _
      · exact ih u
  exact hfold _ s

/-- The mailbox requests whose wait is over. -/
def Dev.rindRefs (s : Dev) : List Nat := (s.ring.flights.filter (Flight.rindLate s.clk.now)).filterMap Flight.rindRef

/-- The mailbox and the Steward without the requests whose wait is over (R162). -/
def Dev.rindGone (s : Dev) : Dev :=
  let serials := (s.ring.flights.filter (Flight.rindLate s.clk.now)).map (fun f => f.job.serial)
  (s.modBr (fun b => { b with queue := b.queue.filter (fun m => !s.rindRefs.contains m.ref) })).modRing (fun r => { r with
    steward := r.steward.filter (fun j => !(j.d.op = 0x0D && serials.contains j.serial)) })

theorem sameEngine_rindGone (s : Dev) : SameEngine s s.rindGone := ⟨rfl, rfl, rfl, rfl, ⟨rfl, rfl, rfl⟩, rfl, rfl, rfl, fun _ _ _ => rfl⟩

theorem leaves_rindGone (s : Dev) : Leaves [.ring, .regs, .ozh, .hoop, .br] radioReg s s.rindGone :=
  .over rfl

/-- The device once the requests whose wait is over have completed. -/
def Dev.rindLanded (s : Dev) : Dev := s.rindGone.landFlightsNow (Flight.rindLate s.clk.now) .timeout 0

/-- What the end of a wait for the Rind leaves. -/
structure RindLate (s t : Dev) : Prop where
  leaves : Leaves [.ring, .regs, .ozh, .hoop, .br] radioReg s t
  flights : t.ring.flights = s.ring.flights.filter (fun f => !f.rindLate s.clk.now)
  queue : t.br.queue = s.br.queue.filter (fun m => !s.rindRefs.contains m.ref)
  out : s.rindLanded.out <:+ t.out

theorem rindLate_stopRings {s e : Dev} (he : Quiet s.rindLanded.stopRings e) : RindLate s e := by
  obtain ⟨c, hstop⟩ := stopRings_only s.rindLanded
  rw [hstop] at he
  have hland := leaves_landFlightsNow s.rindGone (Flight.rindLate s.clk.now) .timeout 0
  obtain ⟨_, _, _, hbr⟩ : sameBr s.rindGone s.rindLanded := hland.same .br (by decide) ⟨[], s, {}⟩
  obtain ⟨_, _, _, hbr'⟩ := he.br
  refine ⟨?_, he.queues.flights.trans (flights_landFlightsNow s.rindGone (Flight.rindLate s.clk.now) .timeout 0), ?_, he.out⟩
  · exact (leaves_rindGone s).trans ((hland.mono (by decide) fun _ h => h).trans ((leaves_modRing (by decide) _ _).trans (.of_quiet he)))
  · rw [hbr']
    exact congrArg Bridge.queue hbr

/-- A request that waits too long for the Rind completes TIMEOUT and leaves the mailbox (R162). -/
theorem does_rindRequestTimeout {s : State} (hon : s.dev.coreOn = true) : Does .rindRequestTimeout s (fun t =>
    KeepsBut [.ring, .regs, .ozh, .hoop, .br] s t ∧ RegsBut (· = 0x800C) s t ∧
    t.dev.ring.flights = s.dev.ring.flights.filter (fun f => !f.rindLate s.dev.clk.now) ∧
    (∀ m ∈ t.dev.br.queue, m ∈ s.dev.br.queue) ∧
    ∀ f, s.dev.ring.flights.filter (Flight.rindLate s.dev.clk.now) = [f] → Lands f.job .timeout s.dev.short 0 s t ∧
      ∀ m ∈ t.dev.br.queue, f.rindRef ≠ some m.ref) := by
  refine does_of_quiet (d := s.dev.rindLanded.stopRings) _ (.refl (execRindRequestTimeout s)) (if_pos hon) fun e he => ?_
  obtain ⟨hleaves, hflights, hqueue, hout⟩ := rindLate_stopRings he
  refine ⟨hleaves.keepsBut, hleaves.regsBut, hflights, fun m hm => ?_, fun f hf => ⟨?_, fun m hm hreq => ?_⟩⟩
  · exact List.mem_of_mem_filter (hqueue ▸ hm)
  · exact lands_landFlightsNow (sameEngine_rindGone s.dev) rfl hf hout
  · have hgone := List.of_mem_filter (hqueue ▸ hm)
    simp [Dev.rindRefs, hf, hreq] at hgone

/-! ### The statement -/

/-- A descriptor for a unit that no route gives completes UNREACHABLE at acceptance (R143). -/
theorem does_unreachable {o : Src} {d : Desc} {s : State} {id : BitVec 12} (hhead : (s.dev.readyOf o).head? = some d)
    (hmay : s.dev.mayAccept o d = true) (hform : s.dev.formRefused o d = none) (hdest : s.dev.destOf o d = .hoop id)
    (hport : s.dev.deliverPort none id = none) : Does (descRow o d) s (fun t =>
      Took o s t ∧ RunsBut [] (fun _ => false) o s t ∧ SameWaits s t ∧ Answers o d .unreachable 0 s t) :=
  does_of_quiet (d := s.dev.acceptEnd o d .unreachable) _ (exec_descRow_taken fun _ hk => (acceptJob_remote hhead hmay hform hdest hk).trans
    (congrArg (·, none) (acceptRemote_unreachable hport))) rfl fun _ he => ends_acceptEnd (.refl s.dev) he

/-- Settles O35: the hand-off and the UNREACHABLE completion hold of every row, as all rows take a remote descriptor alike; each time-out takes
its flights off and completes them. -/
theorem remoteDescriptorTravels : Obligations.RemoteDescriptorTravels := by
  intro s
  refine ⟨fun o d id hhead hmay hform hdest => ⟨?_, ?_⟩, does_remoteTimeout, does_rindRequestTimeout, fun hoff => ⟨?_, ?_⟩⟩
  · intro k hport _ hroom hhalt
    exact does_handOff hhead hmay hform hdest hport hroom hhalt
  · exact does_unreachable hhead hmay hform hdest
  · exact does_nothing _ (.refl (execRemoteTimeout s)) (if_neg (by simp [hoff]))
  · exact does_nothing _ (.refl (execRindRequestTimeout s)) (if_neg (by simp [hoff]))

end Sys2Proof.Machine
end
